-- ==== Sys2Proof/Word.lean ====
section
/-!
DEFINITION. The plain number types of the model: bytes, device time, exact physical quantities.
-/
namespace Sys2Proof

/-- One byte of a descriptor, a record, a frame or a buffer (R7). -/
abbrev Byte := BitVec 8

/-- A physical quantity in SI units (R6), held exactly: the spec states its loops as arithmetic over real quantities
and gives no rounding of intermediate results (log entry 1). -/
abbrev Q := Rat

/-- Device time: a 64-bit count with a 1 ns LSB (R9). -/
abbrev Time := Nat

end Sys2Proof
end

