-- ==== Sys2Proof/Machine/Records.lean ====
section
/-!
DEFINITION. Records that cross the boundary of the chip or are mirrored to a standby: the controller and reference-source state
of a partition (R118, R143), and what round records, link-state records and mirror records carry (R184, R394, R402).
-/
namespace Sys2Proof.Machine
open Sys2Proof

/-- A limit that falls at once and rises over 50 ms (R113). -/
structure Ramp where
  cur : Q := 0
  goal : Q := 0
  /-- rise per second -/
  rate : Q := 0
deriving DecidableEq, Repr

/-- Machine control of one partition (R97 to R119). -/
structure Ctl where
  /-- commands: 0 speed, 1 torque; value; device time of the last SETPOINT -/
  mode : Nat := 0
  sp : Q := 0
  spNew : Option (Nat × Q) := none
  spAt : Option Time := none
  spTimedOut : Bool := false
  vdcRef : Option Q := none
  qRef : Q := 0
  /-- speed loop -/
  ramp : Q := 0
  tRamp : Q := 0
  spdInt : Q := 0
  tSpd : Q := 0
  /-- the speed step's torque reference waiting for its first current-loop step -/
  tNext : Option (Time × Q) := none
  spdFrom : Time := 0
  wSum : Q := 0
  wNum : Nat := 0
  wMean : Q := 0
  /-- torque and its limits -/
  tRef : Q := 0
  te : Q := 0
  limits : Nat := 0
  tMot : Ramp := {}
  tGen : Ramp := {}
  pMot : Ramp := {}
  pGen : Ramp := {}
  gMot : Ramp := {}
  gGen : Ramp := {}
  floorRank5 : Option Q := none
  pMach : Q := 0
  /-- machine currents, references and controller -/
  iz : Nat := 0
  id : Q := 0
  iq : Q := 0
  idRef : Q := 0
  iqRef : Q := 0
  xd : Q := 0
  xq : Q := 0
  ud : Q := 0
  uq : Q := 0
  uUse : Q := 0
  clip : Bool := false
  predD : Q := 0
  predQ : Q := 0
  errD : Q := 0
  errQ : Q := 0
  thetaE : Q := 0
  we : Q := 0
  fw : Q := 0
  /-- observers -/
  psiR : Q := 0
  thetaR : Q := 0
  psiA : Q := 0
  psiB : Q := 0
  thObs : Q := 0
  wObs : Q := 0
  wHat : Q := 0
  tl : Q := 0
  tlHist : List (Time × Q) := []
  ffOff : Option Time := none
  spdValid : Bool := false
  /-- since when a condition of Table 6 of R117 has stood -/
  satSince : Option Time := none
  satAlarm : Bool := false
  divSince : Option Time := none
  excSince : Option Time := none
  pllBad : Option Time := none
  pllGood : Option Time := none
  /-- supply side -/
  pllTh : Q := 0
  pllW : Q := 0
  pllInt : Q := 0
  /-- the PLL's frequency and lock before the last step, and since when the grid has been below `calve_v` (R187) -/
  pllBefore : Q := 0
  lockBefore : Bool := false
  gridLowAt : Option Time := none
  ugd : Q := 0
  ugq : Q := 0
  locked : Bool := false
  sxd : Q := 0
  sxq : Q := 0
  sid : Q := 0
  siq : Q := 0
  vdcRamp : Q := 0
  vdcInt : Q := 0
  pSup : Q := 0
  sud : Q := 0
  suq : Q := 0
  sBlocked : Bool := false
  /-- exciter -/
  iF : Q := 0
  ifRef : Q := 0
  xF : Q := 0
  uF : Q := 0
  /-- an ENABLE that waits: its descriptor and since when (R108) -/
  enWait : Option (Nat × Nat × Nat × Time) := none
  /-- partner (R116) -/
  parD : Q := 0
  parQ : Q := 0
  parT : Q := 0
  parAge : Nat := 0
  parLost : Bool := true
  /-- the state a fabric-paired partner last reported, and the one last reported to it -/
  parSt : Nat := 0
  parSent : Nat := 0
  /-- values of the step before, which a partner on this chip takes once this set has stepped, and the number of the last step plus 1 -/
  idPrev : Q := 0
  iqPrev : Q := 0
  tePrev : Q := 0
  stepNo : Nat := 0
  /-- the speed has been above `overspeed_trip` since the step before (R117) -/
  overAt : Bool := false
  /-- the speed ramp has limited the reference of the last speed step (rank 10) -/
  rampCut : Bool := false
  /-- speed of the rotor-flux vector (R101) -/
  wR : Q := 0
  /-- induction catch: until when the flux is built with i_q = 0 (R165) -/
  fluxUntil : Option Time := none
  stepAt : Time := 0
  /-- torque that ranks 2 to 7 leave this partition, and the bits of those that cut (R176) -/
  cap : Q := 0
  /-- the voltage reference's magnitude before its limit (R107) -/
  uRaw : Q := 0
  /-- the unlimited observer states: current-model and voltage-model flux (R104), active flux (R104) -/
  cmA : Q := 0
  cmB : Q := 0
  vmA : Q := 0
  vmB : Q := 0
  psiAct : Q := 0
deriving DecidableEq, Repr

/-- Reference sources, shock handling and winch motion of one partition (R125 to R143). -/
structure Mot where
  source : Nat := 0
  srcNew : Option Nat := none
  curveOn : Bool := false
  u : Q := 0
  uAt : Option Time := none
  lost : Bool := false
  lostAt : Option Time := none
  /-- 0 normal, 1 yielding, 2 recovering -/
  yst : Nat := 0
  tY : Q := 0
  yStart : Time := 0
  hold : Time := 0
  lastW : Q := 0
  /-- the generator has reached its planned speed since recovery began (R132) -/
  planned : Bool := false
  shocks : Nat := 0
  ceil : Bool := false
  calibrated : Bool := false
  phi : Q := 0
  thLast : Q := 0
  pRef : Q := 0
  vRef : Q := 0
  aRef : Q := 0
  moving : Bool := false
  /-- instants of the last `PROFILE_MOVE` that started and the last `PROFILE_STOP` (R138) -/
  movedAt : Option Time := none
  stopAt : Option Time := none
  target : Q := 0
  follow : Option Q := none
  fSet : Q := 0
  fRate : Q := 10000
  vRec : Q := 3/10
  vRend : Q := 3/10
  sdT : Nat := 255
  ctKi : Q := 1/2
  fRamp : Q := 0
  fInt : Q := 0
  hv : Option (Time × Q × Q) := none
  hOff : Q := 0
  hV : Q := 0
  hvValid : Bool := false
  hvStale : Bool := false
  vlimHit : Bool := false
deriving DecidableEq, Repr

/-- What a round record says of one consumer (R184). -/
structure ConsRec where
  id : Nat
  cls : Nat
  sec : Nat
  floor : Q
  demand : Q
  offer : Q
  absorb : Nat
deriving DecidableEq, Repr

/-- A supply record of one bus section (R183). -/
structure SupplyRec where
  sec : Nat
  cap : Q
  load : Q
  reserve : Q
  absorb : Q
  ties : Nat
  stamp : Time
deriving DecidableEq, Repr

/-- A carrier that an interleave group shares: section, count, slot and carrier period in ns (R190). -/
structure IlRec where
  sec : Nat
  count : Nat
  slot : Nat
  period : Q
deriving DecidableEq, Repr

/-- A SHARE round record (R184, R190). -/
structure RoundRec where
  node : Nat
  epoch : Nat
  round : Nat
  cons : List ConsRec
  sups : List SupplyRec
  ils : List IlRec
  digest : Nat
deriving DecidableEq, Repr

/-- A link-state record (R394): the neighbours by port; the partner is 0xFFFF where there is none. -/
structure LinkRec where
  node : Nat
  epoch : Nat
  nbrs : List (Nat × Nat)
  partner : Nat
  role : Nat
  prio : Nat
  pps : Bool
deriving DecidableEq, Repr

/-- A mirror record of one partition (R402): the cells by lane, state code and reason; identities by lane, kind, serial and
boot counter; the holder is 0xFFFF where no tenant holds the lease. -/
structure Mirror where
  part : Nat
  st : Nat
  /-- partition epoch -/
  pEpoch : Nat
  cells : List (Nat × Nat × Nat)
  ctl : Ctl
  mot : Mot
  refs : List (Nat × List Q)
  holder : Nat
  epoch : Nat
  cons : Option ConsRec
  idents : List (Nat × Nat × Nat × Nat)
  digest : List Byte
  /-- integrators and resonant states of the circulating-current loop, by side and phase (R118) -/
  circInt : List (Nat × Q) := []
  circRes : List (Nat × Q) := []
  circRes2 : List (Nat × Q) := []
deriving DecidableEq, Repr

/-- What a boot finds on the board and in the chip (R461 to R468, R364, R382, R395). -/
structure Boot where
  /-- the crystal runs and the interpolator locks within 10 ms -/
  crystal : Bool
  /-- monitors of Table 1 that report their rails in range -/
  rails : Nat
  /-- width and speed of the link as trained, with the fields that configuration space controls, as `PCIE_LINK` holds them -/
  link : Nat
  /-- `STOR_GEOM` by the parameter pages; 0 where the medium is absent (R364) -/
  geom : Nat
  /-- the images in slots A and B carry the signatures that R353 asks for -/
  okA : Bool
  okB : Bool
  /-- host cores that pass their self-test, regions that fail theirs, and the trip network's self-check -/
  hosts : Nat
  regions : Nat
  tripnet : Bool
  /-- Firn sequences that are valid in neither copy -/
  bad : List Nat
  /-- the staged image carries a valid owner signature -/
  signed : Bool
  /-- capture flush in KiB and pending Firn limit in bytes that the measured program times allow (R382) -/
  flushKib : Nat
  pendLimit : Nat
  /-- node epoch and lease epochs as the enclave draws them -/
  epoch : Nat
  leases : List Nat
  /-- blocks of the areas BOOT, FIRN, AUDIT, USER and MORAINE, bytes of a block, and the endurance, by the parameter pages (R366, R367) -/
  blocks : List Nat := []
  blockBytes : Nat := 0
  endurance : Nat := 0
  /-- the step at which `PFAIL_N` was recognised low; 0 where it was not -/
  pfailAt : Nat
deriving DecidableEq, Repr

/-- What a tandem message says of the whole shaft (R176, R214): the total that the shares divide, the places of the members that the
division counts, and the master's `rt_delay`. -/
structure TandemShaft where
  total : Q := 0
  active : List Nat := []
  delay : Q := 0
deriving DecidableEq, Repr

end Sys2Proof.Machine
end

