-- ==== Sys2Proof/Syntax.lean ====
section
/-!
DEFINITION. The commands of the CRY1024 block, one constructor for each row of the opcode table: the descriptors of the
rings (R320), the register, doorbell and pin accesses, and the events of the drive, the links and the medium.
-/
namespace Sys2Proof

/-- One 64-byte descriptor as a host core takes it (Table 5 of R320), its opcode fixed by the command: the series it came
by (0 to 3 ring, 4 urgent), its fields, the bytes 16 to 63, and what its host-buffer read returns. The field t is the
device time at which it is served; dmaOk is false when the host-buffer access fails (R338, `DMA_ERROR`). -/
structure Desc where
  page : Nat
  series : Nat
  seq : Nat
  flags : Nat
  target : Nat
  tenant : Nat
  epoch : Nat
  buffer : Nat
  payload : List Byte
  host : List Byte
  dmaOk : Bool
  t : Time
deriving DecidableEq, Repr


/-- A command of the block: one constructor for each row of the opcode table. -/
inductive Instr where
  /-- `NOP` (R333). -/
  | nop (d : Desc)
  /-- `CANCEL` (R332). -/
  | cancel (d : Desc)
  /-- `FENCE` (R333). -/
  | fence (d : Desc)
  /-- `LEASE_ACQUIRE` (R345). -/
  | leaseAcquire (d : Desc)
  /-- `LEASE_RELEASE` (R345). -/
  | leaseRelease (d : Desc)
  /-- `LEASE_TRANSFER` (R345). -/
  | leaseTransfer (d : Desc)
  /-- `LEASE_REVOKE` (R345). -/
  | leaseRevoke (d : Desc)
  /-- `LEASE_QUERY` (R347). -/
  | leaseQuery (d : Desc)
  /-- `LEASE_TIMEOUT` (R346). The waiting acquire of a series and sequence -/
  | leaseTimeout (t : Time) (page : Nat) (series : Nat) (seq : Nat)
  /-- `PART_CONFIG` (R68). -/
  | partConfig (d : Desc)
  /-- `ARM_CONFIG` (R68). -/
  | armConfig (d : Desc)
  /-- `LANE_ASSIGN` (R68). -/
  | laneAssign (d : Desc)
  /-- `PART_COMMIT` (R61). -/
  | partCommit (d : Desc)
  /-- `PART_RELEASE` (R57). -/
  | partRelease (d : Desc)
  /-- `PRECHARGE_CONFIG` (R69). -/
  | prechargeConfig (d : Desc)
  /-- `CELL_POLICY` (R69). -/
  | cellPolicy (d : Desc)
  /-- `PRECHARGE` (R60). Whether the payload of a tandem member on another chip differs -/
  | precharge (d : Desc) (differs : Bool)
  /-- `ENABLE` (R57). -/
  | enable (d : Desc)
  /-- `DISABLE` (R57). -/
  | disable (d : Desc)
  /-- `BLOCK` (R57). -/
  | block (d : Desc)
  /-- `TRIP_RESET` (R57). -/
  | tripReset (d : Desc)
  /-- `CELL_BYPASS` (R62). -/
  | cellBypass (d : Desc)
  /-- `CELL_ADMIT` (R64). -/
  | cellAdmit (d : Desc)
  /-- `PART_STATUS` (R70). -/
  | partStatus (d : Desc)
  /-- `CELL_STATUS` (R70). -/
  | cellStatus (d : Desc)
  /-- `MOD_CONFIG` (R80). -/
  | modConfig (d : Desc)
  /-- `EDGE_CONFIG` (R87). -/
  | edgeConfig (d : Desc)
  /-- `BALANCE_CONFIG` (R94). -/
  | balanceConfig (d : Desc)
  /-- `CIRC_CONFIG` (R94). -/
  | circConfig (d : Desc)
  /-- `ARM_SENSE` (R94). -/
  | armSense (d : Desc)
  /-- `SHARE_CONFIG` (R90). -/
  | shareConfig (d : Desc)
  /-- `MOD_LIMIT` (R79). -/
  | modLimit (d : Desc)
  /-- `MOD_STATUS` (R95). -/
  | modStatus (d : Desc)
  /-- `MACH_CONFIG` (R121). -/
  | machConfig (d : Desc)
  /-- `MACH_PARAMS` (R122). -/
  | machParams (d : Desc)
  /-- `CURRENT_CONFIG` (R121). -/
  | currentConfig (d : Desc)
  /-- `OBSERVER_CONFIG` (R121). -/
  | observerConfig (d : Desc)
  /-- `SPEED_CONFIG` (R109). -/
  | speedConfig (d : Desc)
  /-- `LIMITS` (R113). -/
  | limits (d : Desc)
  /-- `FIELD_CONFIG` (R107). -/
  | fieldConfig (d : Desc)
  /-- `SUPPLY_CONFIG` (R114). -/
  | supplyConfig (d : Desc)
  /-- `SETPOINT` (R110). -/
  | setpoint (d : Desc)
  /-- `SUPPLY_SETPOINT` (R114). -/
  | supplySetpoint (d : Desc)
  /-- `EXCITER_CONFIG` (R108). -/
  | exciterConfig (d : Desc)
  /-- `CORE_MIGRATE` (R119). -/
  | coreMigrate (d : Desc)
  /-- `MACH_STATUS` (R123). -/
  | machStatus (d : Desc)
  /-- `REF_SOURCE` (R126). -/
  | refSource (d : Desc)
  /-- `CURVE_LOAD` (R128). -/
  | curveLoad (d : Desc)
  /-- `CURVE_INPUT` (R130). -/
  | curveInput (d : Desc)
  /-- `SHOCK_CONFIG` (R145). -/
  | shockConfig (d : Desc)
  /-- `DRUM_CONFIG` (R134). -/
  | drumConfig (d : Desc)
  /-- `DRUM_SET` (R135). -/
  | drumSet (d : Desc)
  /-- `PROFILE_LIMITS` (R138). -/
  | profileLimits (d : Desc)
  /-- `PROFILE_MOVE` (R138). -/
  | profileMove (d : Desc)
  /-- `PROFILE_STOP` (R138). -/
  | profileStop (d : Desc)
  /-- `VLIMIT_CONFIG` (R139). -/
  | vlimitConfig (d : Desc)
  /-- `TENSION` (R141). -/
  | tension (d : Desc)
  /-- `HEAVE_CONFIG` (R142). -/
  | heaveConfig (d : Desc)
  /-- `HEAVE_REF` (R142). -/
  | heaveRef (d : Desc)
  /-- `MOTION_STATUS` (R146). -/
  | motionStatus (d : Desc)
  /-- `FB_CONFIG` (R171). -/
  | fbConfig (d : Desc)
  /-- `ENC_CONFIG` (R152). -/
  | encConfig (d : Desc)
  /-- `RES_CONFIG` (R156). -/
  | resConfig (d : Desc)
  /-- `BISS_CONFIG` (R159). -/
  | bissConfig (d : Desc)
  /-- `SENSORLESS_CONFIG` (R172). -/
  | sensorlessConfig (d : Desc)
  /-- `RESTART_CONFIG` (R172). -/
  | restartConfig (d : Desc)
  /-- `LIMIT_CONFIG` (R169). -/
  | limitConfig (d : Desc)
  /-- `FB_STATUS` (R173). -/
  | fbStatus (d : Desc)
  /-- `THERM_CONFIG` (R304). -/
  | thermConfig (d : Desc)
  /-- `COOLANT_CONFIG` (R304). -/
  | coolantConfig (d : Desc)
  /-- `THERM_GROUPS` (R302). -/
  | thermGroups (d : Desc)
  /-- `THERM_SENSOR_RESET` (R303). -/
  | thermSensorReset (d : Desc)
  /-- `THERM_STATUS` (R311). -/
  | thermStatus (d : Desc)
  /-- `TANDEM_CONFIG` (R175). -/
  | tandemConfig (d : Desc)
  /-- `TANDEM_RATIO` (R180). -/
  | tandemRatio (d : Desc)
  /-- `TANDEM_MASTER` (R180). -/
  | tandemMaster (d : Desc)
  /-- `CONSUMER_CONFIG` (R181). -/
  | consumerConfig (d : Desc)
  /-- `DEMAND_LIMIT` (R182). -/
  | demandLimit (d : Desc)
  /-- `SUPPLY_RECORD` (R183). -/
  | supplyRecord (d : Desc)
  /-- `CALVE_CONFIG` (R187). -/
  | calveConfig (d : Desc)
  /-- `CALVE` (R187). -/
  | calve (d : Desc)
  /-- `CALVE_CLEAR` (R189). -/
  | calveClear (d : Desc)
  /-- `INTERLEAVE_CONFIG` (R190). -/
  | interleaveConfig (d : Desc)
  /-- `PLANT_RESERVE` (R191). -/
  | plantReserve (d : Desc)
  /-- `PLANT_RELEASE` (R192). -/
  | plantRelease (d : Desc)
  /-- `PLANT_STATUS` (R195). -/
  | plantStatus (d : Desc)
  /-- `BRAKE_CONFIG` (R200). -/
  | brakeConfig (d : Desc)
  /-- `EMERG_CONFIG` (R222). -/
  | emergConfig (d : Desc)
  /-- `RIDE_CONFIG` (R213). -/
  | rideConfig (d : Desc)
  /-- `LIMP` (R216). -/
  | limp (d : Desc)
  /-- `CRASH_STOP_START` (R212). -/
  | crashStopStart (d : Desc)
  /-- `CRASH_STOP_END` (R212). -/
  | crashStopEnd (d : Desc)
  /-- `ESTOP_CONTROLLED` (R209). -/
  | estopControlled (d : Desc)
  /-- `ESTOP_SHORT_CIRCUIT` (R205). -/
  | estopShortCircuit (d : Desc)
  /-- `WINCH_EMERG_END_RENDER` (R211). -/
  | winchEmergEndRender (d : Desc)
  /-- `WINCH_EMERG_RENDER` (R211). -/
  | winchEmergRender (d : Desc)
  /-- `WINCH_EMERG_QUICK_RELEASE` (R210). -/
  | winchEmergQuickRelease (d : Desc)
  /-- `BRAKE_STATUS` (R224). -/
  | brakeStatus (d : Desc)
  /-- `PROT_CONFIG` (R237). -/
  | protConfig (d : Desc)
  /-- `TRIP_LINK` (R240). -/
  | tripLink (d : Desc)
  /-- `PROT_SELFTEST` (R243). -/
  | protSelftest (d : Desc)
  /-- `PROT_SELFTEST_DONE` (R244). partition; numbers of the comparators that failed -/
  | protSelftestDone (t : Time) (p : Nat) (failed : List Nat)
  /-- `PROT_TRIP` (R229). -/
  | protTrip (d : Desc)
  /-- `PROT_RECORD` (R246). -/
  | protRecord (d : Desc)
  /-- `REGION_RESTART` (R249). failing block: 0 none, else 1 + 16 × block + index (block 0 machine core, 1 arm engine, 2 supervisor) -/
  | regionRestart (d : Desc) (fails : Nat)
  /-- `PROT_STATUS` (R248). -/
  | protStatus (d : Desc)
  /-- `LINK_CONFIG` (R272). -/
  | linkConfig (d : Desc)
  /-- `LINK_RETRAIN` (R271). -/
  | linkRetrain (d : Desc)
  /-- `LINK_STATUS` (R271). -/
  | linkStatus (d : Desc)
  /-- `AUX_MODE` (R275). -/
  | auxMode (d : Desc)
  /-- `BLDC_CONFIG` (R297). -/
  | bldcConfig (d : Desc)
  /-- `BLDC_CURVE` (R285). -/
  | bldcCurve (d : Desc)
  /-- `STEP_CONFIG` (R297). -/
  | stepConfig (d : Desc)
  /-- `STEP_SOURCE` (R288). -/
  | stepSource (d : Desc)
  /-- `SWITCH_CONFIG` (R292). -/
  | switchConfig (d : Desc)
  /-- `SAG_CONFIG` (R293). -/
  | sagConfig (d : Desc)
  /-- `AUX_DIAG` (R294). -/
  | auxDiag (d : Desc)
  /-- `AUX_RUN_START` (R279). -/
  | auxRunStart (d : Desc)
  /-- `AUX_RUN_STOP` (R279). -/
  | auxRunStop (d : Desc)
  /-- `AUX_INPUT` (R285). -/
  | auxInput (d : Desc)
  /-- `AUX_RESET` (R296). -/
  | auxReset (d : Desc)
  /-- `AUX_STATUS` (R298). -/
  | auxStatus (d : Desc)
  /-- `TELEM_SUB` (R443). -/
  | telemSub (d : Desc)
  /-- `TELEM_UNSUB` (R444). -/
  | telemUnsub (d : Desc)
  /-- `EVENT_CONFIG` (R442). -/
  | eventConfig (d : Desc)
  /-- `TRACKER_STATUS` (R449). -/
  | trackerStatus (d : Desc)
  /-- `EVENT_LOG` (R448). -/
  | eventLog (d : Desc)
  /-- `FREEZE` (R450). -/
  | freeze (d : Desc)
  /-- `EVENT_STATUS` (R458). -/
  | eventStatus (d : Desc)
  /-- `FIRN_SYNC` (R371). -/
  | firnSync (d : Desc)
  /-- `FIRN_LOAD` (R375). Whether the image carries a valid owner signature. -/
  | firnLoad (d : Desc) (signed : Bool)
  /-- `FIRN_ERASE` (R375). Whether the buffer holds a valid signature. -/
  | firnErase (d : Desc) (signed : Bool)
  /-- `FIRN_EXPORT` (R386). -/
  | firnExport (d : Desc)
  /-- `MORAINE_CONFIG` (R376). -/
  | moraineConfig (d : Desc)
  /-- `MORAINE_TRIGGER` (R377). -/
  | moraineTrigger (d : Desc)
  /-- `MORAINE_LIST` (R386). -/
  | moraineList (d : Desc)
  /-- `MORAINE_READ` (R386). -/
  | moraineRead (d : Desc)
  /-- `MORAINE_PROTECT` (R378). -/
  | moraineProtect (d : Desc)
  /-- `AUDIT_READ` (R386). -/
  | auditRead (d : Desc)
  /-- `USER_WRITE` (R380). -/
  | userWrite (d : Desc)
  /-- `USER_READ` (R380). -/
  | userRead (d : Desc)
  /-- `USER_DELETE` (R386). -/
  | userDelete (d : Desc)
  /-- `STOR_FORMAT` (R386). Whether the buffer holds a valid signature. -/
  | storFormat (d : Desc) (signed : Bool)
  /-- `STOR_STATUS` (R386). -/
  | storStatus (d : Desc)
  /-- `STANDBY_CONFIG` (R402). -/
  | standbyConfig (d : Desc)
  /-- `FAB_CAL_CONFIG` (R399). -/
  | fabCalConfig (d : Desc)
  /-- `TAKEOVER` (R405). At the active node, what the partner says of its readiness. -/
  | takeover (d : Desc) (ready : Bool)
  /-- `SHARE_SUB_CONFIG` (R410). -/
  | shareSubConfig (d : Desc)
  /-- `SHARE_PUBLISH` (R409). -/
  | sharePublish (d : Desc)
  /-- `FAB_SEND` (R409). -/
  | fabSend (d : Desc)
  /-- `FAB_RECV` (R409). -/
  | fabRecv (d : Desc)
  /-- `FAB_TRACE` (R409). The round trip measured, in ns. -/
  | fabTrace (d : Desc) (rtt : Nat)
  /-- `FAB_TOPOLOGY` (R409). -/
  | fabTopology (d : Desc)
  /-- `FAB_STATUS` (R409). -/
  | fabStatus (d : Desc)
  /-- `CAN_CONFIG` (R413). -/
  | canConfig (d : Desc)
  /-- `CAN_RATE_CONFIG` (R422). -/
  | canRateConfig (d : Desc)
  /-- `CAN_DETECT` (R421). -/
  | canDetect (d : Desc)
  /-- `CAN_RX_POST` (R414). -/
  | canRxPost (d : Desc)
  /-- `CAN_TX` (R416). The start of frame of the attempt that runs, 0 for none. -/
  | canTx (d : Desc) (sof : Nat)
  /-- `CAN_TX_ABORT` (R419). The start of frame of the attempt that runs, 0 for none. -/
  | canTxAbort (d : Desc) (sof : Nat)
  /-- `CAN_STATUS` (R422). -/
  | canStatus (d : Desc)
  /-- `TENANT_CREATE` (R339). -/
  | tenantCreate (d : Desc)
  /-- `TENANT_BIND` (R342). -/
  | tenantBind (d : Desc)
  /-- `TENANT_RETIRE` (R341). -/
  | tenantRetire (d : Desc)
  /-- `SLOT_SCHEDULE` (R350). -/
  | slotSchedule (d : Desc)
  /-- `SEC_CTRL_ENTER` (R348). Whether it is signed under an owner key. -/
  | secCtrlEnter (d : Desc) (signed : Bool)
  /-- `SEC_CTRL_LEAVE` (R348). Whether it is signed under an owner key. -/
  | secCtrlLeave (d : Desc) (signed : Bool)
  /-- `SEC_CTRL_CONSENT` (R359). -/
  | secCtrlConsent (d : Desc)
  /-- `SEC_CTRL_ENROL_KEY` (R355). Whether it is signed under an enrolled key. -/
  | secCtrlEnrolKey (d : Desc) (signed : Bool)
  /-- `SEC_CTRL_REVOKE_KEY` (R355). Whether it is signed under another enrolled key. -/
  | secCtrlRevokeKey (d : Desc) (signed : Bool)
  /-- `FW_UPDATE` (R354). Whether the image's signatures hold, its security version and its raise flag. -/
  | fwUpdate (d : Desc) (valid : Bool) (svn : Nat) (raises : Bool)
  /-- `ATTEST` (R356). -/
  | attest (d : Desc)
  /-- `TENANT_STATUS` (R360). -/
  | tenantStatus (d : Desc)
  /-- `TEST_ECC_INJECT` (R491). -/
  | testEccInject (d : Desc)
  /-- `TEST_WDOG_STOP` (R491). -/
  | testWdogStop (d : Desc)
  /-- `TEST_LINK_SILENCE` (R491). -/
  | testLinkSilence (d : Desc)
  /-- `TEST_LINK_SILENCE_END` (R491). The lane. -/
  | testLinkSilenceEnd (t : Time) (lane : Nat)
  /-- `SQ_TAIL` (R319). The value written, and whether it is one aligned 32-bit write -/
  | sqTail (t : Time) (page : Nat) (ring : Nat) (v : Nat) (whole : Bool)
  /-- `DESCRIPTOR_FETCH` (R324). The 64 bytes the DMA engine reads -/
  | descriptorFetch (t : Time) (page : Nat) (ring : Nat) (bytes : List Byte)
  /-- `CQ_HEAD` (R319). As `SQ_TAIL` -/
  | cqHead (t : Time) (page : Nat) (v : Nat) (whole : Bool)
  /-- `EQ_HEAD` (R319). As `SQ_TAIL` -/
  | eqHead (t : Time) (page : Nat) (v : Nat) (whole : Bool)
  /-- `URGENT_STAGE` (R327). Bytes written at an offset of the staging area -/
  | urgentStage (t : Time) (page : Nat) (off : Nat) (bytes : List Byte)
  /-- `URGENT_COMMIT` (R327). The sequence written -/
  | urgentCommit (t : Time) (page : Nat) (v : Nat) (whole : Bool)
  /-- `RING_ENABLE` (R318). The value written to `RING_CTRL` -/
  | ringEnable (t : Time) (v : Nat)
  /-- `RING_DISABLE` (R318). The value written to `RING_CTRL` -/
  | ringDisable (t : Time) (v : Nat)
  /-- `IRQ_HOLDOFF_EXPIRY` (R337). -/
  | irqHoldoffExpiry (t : Time) (page : Nat) (ring : Nat)
  /-- `PCIE_LINK_LOSS` (R315). -/
  | pcieLinkLoss (t : Time)
  /-- `COALESCE_WINDOW_END` (R445). The source and code coalesced -/
  | coalesceWindowEnd (t : Time) (page : Nat) (src : Nat) (code : Nat)
  /-- `SHED_COUNT` (R447). The class, the path, and whether its shedding has ended -/
  | shedCount (t : Time) (page : Nat) (cls : Nat) (path : Nat) (ended : Bool)
  /-- `TELEM_SAMPLE` (R443). The stream, and the PCIe outbound load over the last 100 µs in 1/256. -/
  | telemSample (t : Time) (page : Nat) (sub : Nat) (load : Nat)
  /-- `CERTIFIED_SLOT_START` (R30). -/
  | certifiedSlotStart (t : Time)
  /-- `BULK_WAIT` (R29). The region. -/
  | bulkWait (t : Time) (r : Nat)
  /-- `CELL_CYCLE_START` (R74). Densities of the inputs of the partition's regions, their means over the cycle before, and the encoder's latched count with its latest edges, ages in ns and counts -/
  | cellCycleStart (t : Time) (p : Nat) (now : List Q) (mean : List Q) (count : Int) (ages : List Nat) (counts : List Int)
  /-- `UP_FRAME_RECEIVED` (R264). The 32 payload bytes, whether every character was valid, and the measured round trip in ns -/
  | upFrameReceived (t : Time) (lane : Nat) (bytes : List Byte) (chars : Bool) (rtt : Nat)
  /-- `ALARM_S_RECEIVED` (R234). Whether the symbol stands outside a frame with a code error -/
  | alarmSReceived (t : Time) (lane : Nat) (clean : Bool)
  /-- `ALARM_U_RECEIVED` (R234). As `ALARM_S_RECEIVED` -/
  | alarmUReceived (t : Time) (lane : Nat) (clean : Bool)
  /-- `UP_FRAME_WINDOW_END` (R74). -/
  | upFrameWindowEnd (t : Time) (p : Nat)
  /-- `COMPUTE_WINDOW_START` (R74). -/
  | computeWindowStart (t : Time) (p : Nat)
  /-- `ARM_PLACEMENT` (R82). -/
  | armPlacement (t : Time) (p : Nat) (arm : Nat)
  /-- `CURRENT_LOOP_STEP` (R98). Partner data of the other winding set, fresh or not -/
  | currentLoopStep (t : Time) (p : Nat) (fresh : Bool) (pd : Q) (pq : Q) (pt : Q)
  /-- `DOWN_FRAME_WINDOW_START` (R261). -/
  | downFrameWindowStart (t : Time) (p : Nat)
  /-- `SPEED_STEP` (R99). The replies of remote tandem members -/
  | speedStep (t : Time) (p : Nat) (who : List Nat) (caps : List Q) (torques : List Q) (speeds : List Q) (states : List Nat) (limits : List Nat)
  /-- `MIGRATION` (R21). -/
  | migration (t : Time) (p : Nat)
  /-- `MACHINE_CORE_SELFTEST` (R21). -/
  | machineCoreSelftest (t : Time) (p : Nat) (core : Nat) (ok : Bool)
  /-- `PRECHARGE_PASSIVE_DONE` (R60). -/
  | prechargePassiveDone (t : Time) (p : Nat)
  /-- `PRECHARGE_COMPLETE` (R60). The partition -/
  | prechargeComplete (t : Time) (p : Nat)
  /-- `PRECHARGE_TIMEOUT` (R60). -/
  | prechargeTimeout (t : Time) (p : Nat)
  /-- `DISABLE_COMPLETE` (R57). The partition -/
  | disableComplete (t : Time) (p : Nat)
  /-- `READY_FLOOR_EXPIRY` (R57). -/
  | readyFloorExpiry (t : Time) (p : Nat)
  /-- `READMIT_TIMEOUT` (R64). -/
  | readmitTimeout (t : Time) (lane : Nat)
  /-- `SELFTEST_TIMEOUT` (R269). -/
  | selftestTimeout (t : Time) (lane : Nat)
  /-- `LANE_LOCK_ACQUIRED` (R269). -/
  | laneLockAcquired (t : Time) (lane : Nat)
  /-- `LINK_DOWN` (R270). -/
  | linkDown (t : Time) (lane : Nat)
  /-- `LINK_RETRY_EXPIRY` (R270). -/
  | linkRetryExpiry (t : Time) (lane : Nat)
  /-- `LINK_SEARCH_INTERVAL` (R270). -/
  | linkSearchInterval (t : Time) (lane : Nat)
  /-- `TRAINING_TIMEOUT` (R269). -/
  | trainingTimeout (t : Time) (lane : Nat)
  /-- `TRIPIN_ASSERT` (R231). pin 0 to 3 -/
  | tripinAssert (t : Time) (i : Nat)
  /-- `FAST_WINDOW_CROSS` (R236). sigma-delta input; fast filter output in the input's unit -/
  | fastWindowCross (t : Time) (d : Nat) (v : Q)
  /-- `REMOTE_TRIP_RECEIVED` (R240). A remote trip message. -/
  | remoteTripReceived (t : Time) (node : Nat) (mask : Nat) (epoch : Nat)
  /-- `TRIP_NET_DISAGREE` (R226). index of the disagreeing signal -/
  | tripNetDisagree (t : Time) (signal : Nat)
  /-- `STO_ASSERT` (R218). STO group 0 or 1; channel B (else A) -/
  | stoAssert (t : Time) (group : Nat) (chanB : Bool)
  /-- `STO_RELEASE` (R57). STO group 0 or 1 -/
  | stoRelease (t : Time) (group : Nat)
  /-- `SS1_REQUEST` (R219). STO group 0 or 1; channel B (else A) -/
  | ss1Request (t : Time) (group : Nat) (chanB : Bool)
  /-- `SS1_TIMEOUT` (R219). `t` device time; `p` partition -/
  | ss1Timeout (t : Time) (p : Nat)
  /-- `STO_DISCREPANCY` (R220). STO group; channel levels (true: asserted); µs of disagreement -/
  | stoDiscrepancy (t : Time) (group : Nat) (lowA : Bool) (lowB : Bool) (us : Nat)
  /-- `SUPERVISOR_WATCHDOG_EXPIRY` (R33). region -/
  | supervisorWatchdogExpiry (t : Time) (r : Nat)
  /-- `HOST_CORE_WATCHDOG_EXPIRY` (R31). -/
  | hostCoreWatchdogExpiry (t : Time)
  /-- `SCRUB_WORD` (R22). area 0 region code SRAM, 1 cluster slice, 2 shared SRAM; its region, cluster or 0; byte offset; bits in error -/
  | scrubWord (t : Time) (area : Nat) (index : Nat) (off : Nat) (bits : Nat)
  /-- `TIME_BASE_FAILURE` (R429). -/
  | timeBaseFailure (t : Time)
  /-- `FAIL_RESTART` (R466). The time has come. -/
  | failRestart (t : Time)
  /-- `SETPOINT_TIMEOUT` (R110). -/
  | setpointTimeout (t : Time) (p : Nat)
  /-- `EXCITER_READY` (R108). -/
  | exciterReady (t : Time) (p : Nat)
  /-- `EXCITER_ENABLE_TIMEOUT` (R108). -/
  | exciterEnableTimeout (t : Time) (p : Nat)
  /-- `EXCITER_FAULT` (R117). -/
  | exciterFault (t : Time) (p : Nat)
  /-- `EARTH_CURRENT` (R100). -/
  | earthCurrent (t : Time) (p : Nat)
  /-- `POSITION_LOST` (R117). -/
  | positionLost (t : Time) (p : Nat)
  /-- `PLL_LOCKED` (R115). -/
  | pllLocked (t : Time) (p : Nat)
  /-- `PLL_LOST` (R115). -/
  | pllLost (t : Time) (p : Nat)
  /-- `CURRENT_SATURATION_ALARM` (R117). -/
  | currentSaturationAlarm (t : Time) (p : Nat)
  /-- `OBSERVER_DIVERGENCE` (R117). -/
  | observerDivergence (t : Time) (p : Nat)
  /-- `PARTNER_LOST` (R116). -/
  | partnerLost (t : Time) (p : Nat)
  /-- `TANDEM_MESSAGE_RECEIVED` (R176). Tandem message of a member, from the master's share -/
  | tandemMessageReceived (t : Time) (p : Nat) (src : Nat) (epoch : Nat) (step : Time) (share ty nc ramp target : Q) (shaft : Machine.TandemShaft)
  /-- `TANDEM_MASTER_LOST` (R178). Members still active, and whether the master announced its own loss -/
  | tandemMasterLost (t : Time) (p : Nat) (active : List Nat) (announced : Bool)
  /-- `YIELD_HOLD_REACHED` (R132). -/
  | yieldHoldReached (t : Time) (p : Nat)
  /-- `YIELD_TIMEOUT` (R132). -/
  | yieldTimeout (t : Time) (p : Nat)
  /-- `CURVE_INPUT_LOST` (R130). -/
  | curveInputLost (t : Time) (p : Nat)
  /-- `HEAVE_SAMPLE_RECEIVED` (R142). Sending node, its stamp, heave and rate -/
  | heaveSampleReceived (t : Time) (p : Nat) (node : Nat) (ts : Nat) (z : Q) (vz : Q)
  /-- `HARD_LIMIT_ACTIVE` (R170). Direction 0 payout, 1 haul-in -/
  | hardLimitActive (t : Time) (p : Nat) (dir : Nat)
  /-- `HARD_LIMIT_INACTIVE` (R170). As `HARD_LIMIT_ACTIVE` -/
  | hardLimitInactive (t : Time) (p : Nat) (dir : Nat)
  /-- `INDEX_PULSE` (R153). The quadrature count at the index -/
  | indexPulse (t : Time) (e : Nat) (count : Int)
  /-- `INDEX_MISSING` (R153). The quadrature count now -/
  | indexMissing (t : Time) (e : Nat) (count : Int)
  /-- `RESOLVER_SAMPLE` (R156). The samples of the sin and cos windings over the half-period, each with its age in ns -/
  | resolverSample (t : Time) (e : Nat) (sins : List (Nat × Q)) (coss : List (Nat × Q))
  /-- `BISS_REQUEST` (R151). -/
  | bissRequest (t : Time) (e : Nat)
  /-- `BISS_FRAME_END` (R160). How many bits followed the CDS bit, 0 without an answer, and the bits as four 16-bit words, the last bit lowest -/
  | bissFrameEnd (t : Time) (e : Nat) (n w0 w1 w2 w3 : Nat)
  /-- `ZERO_VOLTAGE_PULSE_END` (R167). Measured phase currents at the end of a pulse -/
  | zeroVoltagePulseEnd (t : Time) (p : Nat) (iu : Q) (iv : Q) (iw : Q)
  /-- `STANDSTILL_HOLD_END` (R166). -/
  | standstillHoldEnd (t : Time) (p : Nat)
  /-- `OPEN_LOOP_BLEND_END` (R163). -/
  | openLoopBlendEnd (t : Time) (p : Nat)
  /-- `ALLOC_ROUND_PUBLISH` (R184). The local consumers, their rated limits and the mean motoring and regenerating powers measured. -/
  | allocRoundPublish (t : Time) (round : Nat) (who : List Nat) (pmax : List Q) (mot : List Q) (gen : List Q)
  /-- `ROUND_RECORD_RECEIVED` (R184). A round record from another chip. -/
  | roundRecordReceived (t : Time) (r : Machine.RoundRec)
  /-- `ALLOC_ROUND_COMPUTE` (R185). The computation of a round. -/
  | allocRoundCompute (t : Time) (round : Nat)
  /-- `GRANT_APPLY` (R186). The grants of a round take effect. -/
  | grantApply (t : Time) (round : Nat)
  /-- `SUPPLY_STALE` (R183). A section's supply record has grown stale. -/
  | supplyStale (t : Time) (sec : Nat)
  /-- `BREAKER_INPUT_ACTIVE` (R187). Input k of the breaker inputs. -/
  | breakerInputActive (t : Time) (k : Nat)
  /-- `BUS_COLLAPSE_DETECTED` (R187). The bus of partition p collapses. -/
  | busCollapseDetected (t : Time) (p : Nat) (why : Nat)
  /-- `CALVING_EVENT_RECEIVED` (R188). A Calving message from another chip. -/
  | calvingEventReceived (t : Time) (node : Nat) (seq : Nat) (sections : Nat) (level : Nat)
  /-- `RESERVE_REQUEST_RECEIVED` (R191). A plant reservation request. -/
  | reserveRequestReceived (t : Time) (node : Nat) (tenant : Nat) (part : Nat) (stamp : Time)
  /-- `RESERVE_RETRY` (R191). A reservation is tried again. -/
  | reserveRetry (t : Time) (handle : Nat)
  /-- `RESERVE_TIMEOUT` (R191). A reservation's deadline passes. -/
  | reserveTimeout (t : Time) (handle : Nat)
  /-- `SC_BRAKING_ORDER` (R205). `t` device time; `p` partition -/
  | scBrakingOrder (t : Time) (p : Nat)
  /-- `SC_BRAKING_END` (R207). `t` device time; `p` partition -/
  | scBrakingEnd (t : Time) (p : Nat)
  /-- `SC_ARMS_ALTERNATE` (R206). `t` device time; `p` partition -/
  | scArmsAlternate (t : Time) (p : Nat)
  /-- `ESTOP_STANDSTILL` (R209). `t` device time; `p` partition -/
  | estopStandstill (t : Time) (p : Nat)
  /-- `BRAKE_SET_HOLD_END` (R209). `t` device time; `p` partition -/
  | brakeSetHoldEnd (t : Time) (p : Nat)
  /-- `BRAKE_RELEASE` (R208). `t` device time; `p` partition -/
  | brakeRelease (t : Time) (p : Nat)
  /-- `BRAKE_RELEASE_HOLD_END` (R208). `t` device time; `p` partition -/
  | brakeReleaseHoldEnd (t : Time) (p : Nat)
  /-- `QUICK_RELEASE_END` (R210). `t` device time; `p` partition -/
  | quickReleaseEnd (t : Time) (p : Nat)
  /-- `RIDE_THROUGH_RESYNC_DONE` (R214). `t` device time; `p` partition -/
  | rideThroughResyncDone (t : Time) (p : Nat)
  /-- `RIDE_THROUGH_DELAY_END` (R214). `t` device time; `p` partition -/
  | rideThroughDelayEnd (t : Time) (p : Nat)
  /-- `RIDE_THROUGH_EXPIRY` (R215). `t` device time; `p` partition -/
  | rideThroughExpiry (t : Time) (p : Nat)
  /-- `THERMAL_EVALUATION` (R300). The readings of the region's eight die sensors in °C, and the mean densities of the partition's coolant inputs -/
  | thermalEvaluation (t : Time) (r : Nat) (die : List Q) (cool : List Q)
  /-- `SENSOR_FAILED` (R303). Class 0 die, 1 cell (2 × lane + sensor), 2 coolant (4 × partition + sensor) -/
  | sensorFailed (t : Time) (cls : Nat) (idx : Nat)
  /-- `THERMAL_LEVEL_RISE` (R304). As `SENSOR_FAILED` -/
  | thermalLevelRise (t : Time) (cls : Nat) (idx : Nat)
  /-- `BLDC_CHECK_END` (R280). motor channel; signed electrical frequency in Hz, forward positive; sector observed -/
  | bldcCheckEnd (t : Time) (m : Nat) (f : Q) (sector : Nat)
  /-- `BLDC_CHECK_WAIT_TIMEOUT` (R280). motor channel -/
  | bldcCheckWaitTimeout (t : Time) (m : Nat)
  /-- `BLDC_ALIGN_END` (R279). motor channel -/
  | bldcAlignEnd (t : Time) (m : Nat)
  /-- `BLDC_ZERO_CROSSING` (R283). motor channel; whether the crossing has the expected order -/
  | bldcZeroCrossing (t : Time) (m : Nat) (order : Bool)
  /-- `BLDC_COMMUTATION` (R283). motor channel -/
  | bldcCommutation (t : Time) (m : Nat)
  /-- `BLDC_RAMP_END` (R281). motor channel -/
  | bldcRampEnd (t : Time) (m : Nat)
  /-- `BLDC_START_RETRY` (R281). motor channel -/
  | bldcStartRetry (t : Time) (m : Nat)
  /-- `BLDC_PEAK_COMPARATOR` (R284). motor channel; asserted at the end of blanking -/
  | bldcPeakComparator (t : Time) (m : Nat) (atBlankEnd : Bool)
  /-- `AUX_OUTER_LOOP` (R285). motor channel -/
  | auxOuterLoop (t : Time) (m : Nat)
  /-- `SC_HOLD_END` (R286). motor channel -/
  | scHoldEnd (t : Time) (m : Nat)
  /-- `STEP_TIMER` (R288). motor channel; coil voltage found at a commanded current zero -/
  | stepTimer (t : Time) (m : Nat) (e : Q)
  /-- `STEP_INPUT_EDGE` (R288). switch channel of the STEP input; level of the DIR input -/
  | stepInputEdge (t : Time) (sw : Nat) (dirHigh : Bool)
  /-- `STEPPER_STANDSTILL` (R290). motor channel -/
  | stepperStandstill (t : Time) (m : Nat)
  /-- `SWITCH_COMPARATOR_ASSERT` (R292). switch channel; ns asserted within the last 1 ms -/
  | switchComparatorAssert (t : Time) (n : Nat) (acc : Nat)
  /-- `SWITCH_INRUSH_END` (R292). switch channel -/
  | switchInrushEnd (t : Time) (n : Nat)
  /-- `SWITCH_PULL_END` (R292). switch channel -/
  | switchPullEnd (t : Time) (n : Nat)
  /-- `SAG_GROUP_ACTIVE` (R293). region and group -/
  | sagGroupActive (t : Time) (region : Nat) (group : Nat)
  /-- `SAG_GROUP_INACTIVE` (R293). region and group -/
  | sagGroupInactive (t : Time) (region : Nat) (group : Nat)
  /-- `AUX_DIAG_STEP` (R294). The channel code and the voltages at its pins -/
  | auxDiagStep (t : Time) (chan : Nat) (volts : List Q)
  /-- `FAB_PORT_UP` (R389). The port and the peer's hello. -/
  | fabPortUp (t : Time) (port : Nat) (node : Nat) (peerPort : Nat) (epoch : Nat)
  /-- `FAB_PORT_DOWN` (R389). The port that goes down. -/
  | fabPortDown (t : Time) (port : Nat)
  /-- `FAB_FRAME_RECEIVED` (R390). The frame on the wire, and how many of the port's frames the peer has acknowledged. -/
  | fabFrameReceived (t : Time) (port : Nat) (bytes : List Byte) (acked : Nat)
  /-- `FAB_RETRANSMIT` (R390). A port, and how many of its frames the peer has acknowledged. -/
  | fabRetransmit (t : Time) (port : Nat) (acked : Nat)
  /-- `CONTROL_RESEND` (R393). The message by destination and sequence. -/
  | controlResend (t : Time) (dst : Nat) (seq : Nat)
  /-- `LINK_STATE_FLOOD` (R394). -/
  | linkStateFlood (t : Time)
  /-- `LINK_STATE_RECEIVED` (R394). A link-state record. -/
  | linkStateReceived (t : Time) (r : Machine.LinkRec)
  /-- `NODE_FAILED` (R396). The node, and whether it announced its failure. -/
  | nodeFailed (t : Time) (node : Nat) (announced : Bool)
  /-- `TIME_EXCHANGE` (R399). Own send, peer's receipt, peer's send and own receipt. -/
  | timeExchange (t : Time) (port : Nat) (t1 : Time) (t2 : Time) (t3 : Time) (t4 : Time)
  /-- `HOLDOVER_TIMEOUT` (R400). -/
  | holdoverTimeout (t : Time)
  /-- `PPS_IN_EDGE` (R401). -/
  | ppsInEdge (t : Time)
  /-- `MIRROR_RECORD_RECEIVED` (R402). A mirror record. -/
  | mirrorRecordReceived (t : Time) (m : Machine.Mirror)
  /-- `MIRROR_TIMEOUT` (R403). -/
  | mirrorTimeout (t : Time)
  /-- `STANDBY_TAKEOVER` (R404). Whether the partner announced its failure, and the state codes it named. -/
  | standbyTakeover (t : Time) (announced : Bool) (states : List Nat)
  /-- `DEPOSED` (R406). A partition of the pair. -/
  | deposed (t : Time) (p : Nat)
  /-- `CAN_FRAME_RECEIVED` (R415). The frame as its record, without the sequence. -/
  | canFrameReceived (t : Time) (c : Nat) (frame : List Byte)
  /-- `CAN_RX_FLUSH` (R415). The controller. -/
  | canRxFlush (t : Time) (c : Nat)
  /-- `CAN_TX_ATTEMPT_END` (R416). The attempt by its start of frame; 0 success, else its cause. -/
  | canTxAttemptEnd (t : Time) (c : Nat) (sof : Nat) (cause : Nat)
  /-- `CAN_BUS_ON` (R420). The controller. -/
  | canBusOn (t : Time) (c : Nat)
  /-- `CAN_TX_HOLDOFF_END` (R420). The controller. -/
  | canTxHoldoffEnd (t : Time) (c : Nat)
  /-- `CAN_DETECT_DWELL_END` (R421). The controller. -/
  | canDetectDwellEnd (t : Time) (c : Nat)
  /-- `FIRN_COMMIT_DONE` (R371). The last sequence committed, and the spare blocks of FIRN left, in parts per ten thousand. -/
  | firnCommitDone (t : Time) (upTo : Nat) (spare : Nat)
  /-- `AUDIT_COMMIT` (R379). -/
  | auditCommit (t : Time)
  /-- `AUDIT_CHECKPOINT` (R357). -/
  | auditCheckpoint (t : Time)
  /-- `RETENTION_SCRUB_PASS` (R368). Mean of the highest die temperature, most corrections in a codeword, spare blocks of the areas; per area, blocks relocated and blocks uncorrectable. -/
  | retentionScrubPass (t : Time) (tAvg : Q) (most : Nat) (spares : List Nat) (moved : List (Nat × Nat))
  /-- `MORAINE_POST_WINDOW_END` (R377). The partition. -/
  | morainePostWindowEnd (t : Time) (p : Nat)
  /-- `MORAINE_FLUSH` (R378). The capture's record number. -/
  | moraineFlush (t : Time) (record : Nat)
  /-- `PFAIL_N_FALL` (R381). The pin has been low for 2 µs. -/
  | pfailNFall (t : Time)
  /-- `PFAIL_SEQUENCE_END` (R381). The writing steps done, and the level of `FREEZE_N`. -/
  | pfailSequenceEnd (t : Time) (steps : Nat) (frzLow : Bool)
  /-- `PFAIL_N_RESTORED` (R381). The pin has been high for 10 ms. -/
  | pfailNRestored (t : Time)
  /-- `RAIL_FAULT` (R472). A rail leaves its range; whether the I/O rail of a NAND channel is in range. -/
  | railFault (t : Time) (rail : Nat) (nand : Bool)
  /-- `PORST_N_LOW` (R463). The pin has been taken low. -/
  | porstNLow (t : Time)
  /-- `BOOT` (R467). `PORST_N` has risen; what the boot finds, and the device time at its end. -/
  | boot (t : Time) (b : Machine.Boot)
  /-- `WARM_RESET` (R464). The boot of a warm reset; what it finds, and the device time at its end. -/
  | warmReset (t : Time) (b : Machine.Boot)
  /-- `RST_CTRL_WARM` (R465). The word written. -/
  | rstCtrlWarm (t : Time) (v : Nat)
  /-- `RST_CTRL_SHUTDOWN` (R470). The word written. -/
  | rstCtrlShutdown (t : Time) (v : Nat)
  /-- `FREEZE_N_LOW` (R450). The pin has been low for 1 µs. -/
  | freezeNLow (t : Time)
  /-- `FREEZE_STEP2_END` (R451). Every trained lane has confirmed, or the time is over. -/
  | freezeStep2End (t : Time)
  /-- `FREEZE_READOUT` (R454). A read of BAR4. -/
  | freezeReadout (t : Time) (off : Nat) (len : Nat)
  /-- `TAP_FRZ_DATA` (R455). `FRZ_DATA` through the test access port, after `FRZ_ADDR` where sel is set. -/
  | tapFrzData (t : Time) (sel : Bool) (addr : Nat)
  /-- `FRZ_THAW` (R456). A write to `FRZ_THAW`, and the level of `FREEZE_N`. -/
  | frzThaw (t : Time) (key : Nat) (pinHigh : Bool)
  /-- `AVS_GOAL_UPDATE` (R431). Every 100 µs. -/
  | avsGoalUpdate (t : Time)
  /-- `AVS_VOLTAGE_WRITE` (R431). Every 10 µs; the transactions of the write that failed. -/
  | avsVoltageWrite (t : Time) (fails : Nat)
  /-- `MCLK_DIV_WRITE` (R434). The output and the word written. -/
  | mclkDivWrite (t : Time) (k : Nat) (v : Nat)
  /-- `MCLK_RELOCK_END` (R435). The output. -/
  | mclkRelockEnd (t : Time) (k : Nat)
  /-- `SD_CFG_WRITE` (R487). The word written for the input that `SD_SEL` shows. -/
  | sdCfgWrite (t : Time) (v : Nat)
  /-- `SD_STUCK` (R487). The input. -/
  | sdStuck (t : Time) (k : Nat)
  /-- `REG_HOLD_CLEAR` (R481). The word written to `REG_FLAGS`. -/
  | regHoldClear (t : Time) (v : Nat)
  /-- `TRIP_LOCK` (R233). The word written. -/
  | tripLock (t : Time) (v : Nat)
  /-- `BLOCK_LOCK` (R480). The lock word's offset and the word written. -/
  | blockLock (t : Time) (off : Nat) (v : Nat)
  /-- `PCIE_ERR_CLEAR` (R484). The word written. -/
  | pcieErrClear (t : Time) (v : Nat)
  /-- `DBG_TAP_FULL` (R490). The word written. -/
  | dbgTapFull (t : Time) (v : Nat)
  /-- `MB_READ_CERTIFICATE` (R489). `go` with command 0x01. -/
  | mbReadCertificate (t : Time)
  /-- `MB_WRITE_RECOVERY_CHUNK` (R489). `go` with command 0x02. -/
  | mbWriteRecoveryChunk (t : Time)
  /-- `MB_FINISH_RECOVERY_IMAGE` (R489). `go` with command 0x03; what the enclave finds in the image. -/
  | mbFinishRecoveryImage (t : Time) (ok : Bool) (svn : Nat) (raises : Bool)
  /-- `DEV_TIME_LO_READ` (R438). A read. -/
  | devTimeLoRead (t : Time)
  /-- `REGISTER_WRITE` (R477). The offset and the bytes written. -/
  | registerWrite (t : Time) (off : Nat) (bs : List Byte)
  /-- `HOST_DMA_COMPLETION` (R317). Kind 0 ring fetch, 1 completion record, 2 event record, 3 descriptor buffer, 4 telemetry, 5 interrupt -/
  | hostDmaCompletion (t : Time) (kind : Nat) (page : Nat) (ring : Nat) (ok : Bool)
  /-- `STORAGE_OPERATION_DONE` (R380). The descriptor of the operation, and whether it succeeded. -/
  | storageOperationDone (t : Time) (page : Nat) (series : Nat) (seq : Nat) (ok : Bool)
  /-- `PCIE_LINK_UP` (R484). Width, speed and settings of the link as trained, as `PCIE_LINK` holds them. -/
  | pcieLinkUp (t : Time) (word : Nat)
  /-- `CAN_BUS_ERROR` (R415). The controller, and what the receive error counter rises by. -/
  | canBusError (t : Time) (c : Nat) (add : Nat)
  /-- `STEPPER_CHOP_COMPARATOR` (R287). motor channel; coil B (else A) -/
  | stepperChopComparator (t : Time) (m : Nat) (coilB : Bool)
  /-- `ENC_ILLEGAL_TRANSITION` (R152). Interface E0 to E7 -/
  | encIllegalTransition (t : Time) (e : Nat)
  /-- `RETRAIN_SILENCE_END` (R271). -/
  | retrainSilenceEnd (t : Time) (lane : Nat)
  /-- `TRIPIN_RELEASE` (R232). pin 0 to 3 -/
  | tripinRelease (t : Time) (i : Nat)
  /-- `FAB_SEND_TIMEOUT` (R409). The send that waits. -/
  | fabSendTimeout (t : Time) (page : Nat) (series : Nat) (seq : Nat)
deriving DecidableEq, Repr

end Sys2Proof
end

