-- ==== Sys2Proof/Decode.lean ====
section
/-!
DEFINITION. Words of the opcode table. The table gives its rows no bits: commands reach the block as register writes, descriptors,
frames and events, each with operands of its own.
-/
namespace Sys2Proof

/-- No word of the table's bits spells a command. -/
def decodeTableWord (_nbits _w : Nat) : Option Instr := none

end Sys2Proof
end

