-- ==== Sys2Proof/Config.lean ====
section
/-!
DEFINITION. What the spec leaves to the implementation or gives only by name: constants without a body, so that no
proof can see a value of them. A constant applied to a Nat that is a counter of State gives a fresh value each time.
-/
namespace Sys2Proof.Config
open Sys2Proof

/-- The binary32 code of a quantity that the format does not hold exactly: R6 names the format, no rounding. -/
opaque roundF32 : Q → BitVec 32
/-- The sine of an angle in radians. -/
opaque sin : Q → Q
/-- The cosine of an angle in radians. -/
opaque cos : Q → Q
/-- The square root. -/
opaque sqrt : Q → Q
/-- The cube root. -/
opaque cbrt : Q → Q
/-- The angle of a vector (y, x) in radians, as arctan2. -/
opaque atan2 : Q → Q → Q
/-- The natural exponential. -/
opaque exp : Q → Q
/-- What π exceeds 3.141 by, in parts of 10⁻³³. -/
opaque piTail : Fin 1000000000000000000000000000000
/-- The ratio of a circle's circumference to its diameter: a quantity between 3.141 and 3.142, and nothing more is known of it. -/
@[irreducible] def pi : Q := 3141 / 1000 + (piTail.val : Q) / 1000000000000000000000000000000000

/-- The SHA-384 digest of a byte string, in output order (R7, R357). -/
opaque sha384 : List Byte → List Byte

/-- The event code of the AUDIT event of an action: R357 gives the event and its class, no code. -/
opaque auditCode : Nat → Nat

/-- The data bytes of an event whose rule names what they carry and gives no layout (R506): a function of the event code and
of the values named. -/
opaque evData : Nat → List Q → List Byte

/-- The quotient of a quantity by 0, where a rule divides by a quantity that can be 0 and states no result. -/
opaque divZero : Q → Q

/-- The event code of an event that a rule raises without giving it a code, by a number of the model's own. -/
opaque eventCode : Nat → Nat

/-- The rotor flux (α, β) by the current model (R104 names its inputs and gives no equations). -/
opaque fluxCurrent : List Q → Q × Q
/-- The rotor flux (α, β) by the voltage model (R104). -/
opaque fluxVoltage : List Q → Q × Q
/-- Angle, electrical speed and magnitude of the observer that sensorless operation uses (R104). -/
opaque estimator : List Q → Q × Q × Q
/-- The fraction of its torque reference that a saturated step keeps with `fw_enable` = 0 (R107). -/
opaque satTorque : List Q → Q
/-- PLL gains that follow from `pll_bw` (R114). -/
opaque pllKp : Q → Q
opaque pllKi : Q → Q
/-- DC-link loop gains that follow from `vdc_bw` (R114). -/
opaque vdcKp : Q → Q
opaque vdcKi : Q → Q
/-- The integral gain of the supply-side current loop, from `supply_bw` (R101). -/
opaque supplyKi : Q → Q
/-- Gains of the field current controller, from `if_bw` (R108). -/
opaque fieldKp : Q → Q
opaque fieldKi : Q → Q
/-- The phase of the resonant term's discrete form over one step (R91). -/
opaque resonant : List Q → Q × Q

/-- The digest of an allocator input set (R184): a CRC-32 whose byte layout the spec does not give. -/
opaque digest : List Q → Nat
/-- The 32-bit handle of a plant reservation (R191). -/
opaque handle : Nat → BitVec 32

/-- What a field of a status record holds where its rule gives it no value in the present state (no route, no neighbour, no time
master), by a number of the model's own. -/
opaque noValue : Nat → Nat

/-- 2 to the power of a quantity. -/
opaque pow2 : Q → Q
/-- The opcode that an audit entry of an action without a descriptor carries (R357 gives none), by a number of the model's own. -/
opaque auditOp : Nat → Nat
/-- The detail of an audit entry (R357: `0 where the action leaves them unused`), of the values that the action's rule names. -/
opaque auditDetail : Nat → List Nat → List Byte → List Byte

/-- The ECDSA P-384 signature of a byte string under the device identity key, r then s (R356). -/
opaque sign : List Byte → List Byte

/-- A byte of frozen memory whose contents the spec does not lay out, by the number of the freeze and the window offset (R454). -/
opaque frozen : Nat → Nat → Byte
/-- Which of the operations that own buffers a word of the buffer area belongs to (R35, R507: the area's layout is not given). -/
opaque bufferOwner : Nat → Nat
/-- 48 bytes of the enclave's random source, by a number of the model's own (R359). -/
opaque random : Nat → List Byte
/-- The PCI vendor identifier (R483). -/
opaque vendor : BitVec 16
/-- The serial number of the chip (R483). -/
opaque serial : BitVec 64
/-- The device certificate in DER (R355, R489). -/
opaque certificate : List Byte

end Sys2Proof.Config
end

