-- ==== Sys2Proof/Machine/Bits.lean ====
section
/-!
DEFINITION. Byte order (R7), bit fields, binary32 numbers (R6) and signed codes: the helpers every layout uses.
-/
namespace Sys2Proof.Machine
open Sys2Proof

/-- Byte k of a byte string, 0 past its end. -/
def byteAt (bs : List Byte) (k : Nat) : Nat := (bs.getD k 0).toNat

/-- The little-endian number in n bytes from offset off (R7). -/
def leNat (bs : List Byte) (off : Nat) : Nat → Nat
  | 0 => 0
  | n + 1 => byteAt bs off + 256 * leNat bs (off + 1) n

/-- A number as n little-endian bytes (R7). -/
def leBytes : Nat → Nat → List Byte
  | 0, _ => []
  | n + 1, v => BitVec.ofNat 8 v :: leBytes n (v / 256)

/-- A signed number as n little-endian bytes, two's complement. -/
def leBytesInt (n : Nat) (v : Int) : List Byte := leBytes n ((v % (256 ^ n : Nat)).toNat)

/-- Bits [hi:lo] of a number. -/
def bits (v hi lo : Nat) : Nat := (v >>> lo) % 2 ^ (hi + 1 - lo)

/-- The two's-complement value of the w-bit code v. -/
def signed (w v : Nat) : Int := if v % 2 ^ w < 2 ^ (w - 1) then (v % 2 ^ w : Nat) else (v % 2 ^ w : Nat) - (2 ^ w : Nat)

/-- Bit k of a mask set to b. -/
def setBit (m k : Nat) (b : Bool) : Nat :=
  if m.testBit k = b then m else if b then m + 2 ^ k else m - 2 ^ k

/-- The numbers below n whose bit is set in the mask, rising. -/
def maskList (n m : Nat) : List Nat := (List.range n).filter fun k => m.testBit k

/-- The mask whose set bits are the numbers listed. -/
def maskOf (l : List Nat) : Nat := l.foldl (fun m k => m ||| 2 ^ k) 0

/-- How many of the low n bits of a mask are set. -/
def popcount (n m : Nat) : Nat := (maskList n m).length

/-- The value of a binary32 code; none for a NaN or an infinity (R6). -/
def f32 (c : Nat) : Option Q :=
  let e := bits c 30 23
  let m := bits c 22 0
  let sgn : Q := if c.testBit 31 then -1 else 1
  if e = 255 then none
  else if e = 0 then some (sgn * ((m : Q) / (2 ^ 149 : Nat)))
  else if e < 150 then some (sgn * ((m + 2 ^ 23 : Nat) : Q) / (2 ^ (150 - e) : Nat))
  else some (sgn * ((m + 2 ^ 23 : Nat) : Q) * (2 ^ (e - 150) : Nat))

/-- The binary32 number nearest to a magnitude, as a normal number (log entry 12). -/
def f32Near (q : Q) : Q :=
  let a := if q < 0 then -q else q
  if a = 0 then 0
  else
    let scale := fun (k : Int) => if 0 ≤ k then ((2 ^ k.toNat : Nat) : Q) else 1 / ((2 ^ (-k).toNat : Nat) : Q)
    let k : Int := 24 + (Nat.log2 a.den : Int) - (Nat.log2 a.num.natAbs : Int)
    let k := if (2 ^ 24 : Nat) ≤ a * scale k then k - 1 else k
    let k := if (2 ^ 24 : Nat) ≤ a * scale k then k - 1 else k
    let v : Q := ((a * scale k + 1 / 2).floor : Q) / scale k
    if q < 0 then -v else v

/-- The binary32 code of the magnitude m × 2⁻¹⁴⁹ where one exists. -/
def f32Mag (m : Nat) : Option Nat :=
  if m < 2 ^ 23 then some m
  else
    let sh := Nat.log2 m - 23
    if m % 2 ^ sh = 0 ∧ sh + 1 ≤ 254 then some ((sh + 1) * 2 ^ 23 + (m / 2 ^ sh - 2 ^ 23)) else none

/-- The binary32 code of a quantity: exact where the format holds it, else the open rounding of Config (log entry 2). -/
def f32Code (q : Q) : Nat :=
  let n := q.num.natAbs * 2 ^ 149
  if n % q.den = 0 then
    match f32Mag (n / q.den) with
    | some c => if q < 0 then c + 2 ^ 31 else c
    | none => (Config.roundF32 q).toNat
  else (Config.roundF32 q).toNat

/-- A quantity as the 4 bytes of a binary32 field. -/
def f32Bytes (q : Q) : List Byte := leBytes 4 (f32Code q)

/-- n reserved bytes. -/
def zeros (n : Nat) : List Byte := List.replicate n 0

/-- A byte string brought to n bytes: cut, or filled with 0. -/
def fitTo (n : Nat) (bs : List Byte) : List Byte := bs.take n ++ zeros (n - bs.length)

/-- A count that holds at its greatest value. -/
def holdAt (top v : Nat) : Nat := if v ≤ top then v else top

/-- x kept within lo to hi. -/
def clampQ (lo hi x : Q) : Q := if x < lo then lo else if hi < x then hi else x

/-- The magnitude of a quantity. -/
def absQ (x : Q) : Q := if x < 0 then -x else x

/-- The lesser of two quantities. -/
def minQ (a b : Q) : Q := if a ≤ b then a else b

/-- The greater of two quantities. -/
def maxQ (a b : Q) : Q := if a ≤ b then b else a

/-- The sign of a quantity. -/
def signQ (x : Q) : Q := if x < 0 then -1 else if x = 0 then 0 else 1

/-- x moved towards its target by at most step. -/
def slewQ (x target step : Q) : Q :=
  if x < target then minQ target (x + step) else maxQ target (x - step)

/-- The binary64 number nearest to a quantity, ties to even, in the range of normal numbers (R184). -/
def f64Near (q : Q) : Q :=
  let a := if q < 0 then -q else q
  if a = 0 then 0
  else
    let scale := fun (k : Int) => if 0 ≤ k then ((2 ^ k.toNat : Nat) : Q) else 1 / ((2 ^ (-k).toNat : Nat) : Q)
    let k : Int := 53 + (Nat.log2 a.den : Int) - (Nat.log2 a.num.natAbs : Int)
    let k := if (2 ^ 53 : Nat) ≤ a * scale k then k - 1 else k
    let k := if (2 ^ 53 : Nat) ≤ a * scale k then k - 1 else k
    let x := a * scale k
    let low := x.floor
    let rest := x - (low : Q)
    let m := if 1 / 2 < rest ∨ (rest = 1 / 2 ∧ low % 2 = 1) then low + 1 else low
    let v : Q := (m : Q) / scale k
    if q < 0 then -v else v

/-- A sum in binary64, from the left. -/
def sumF (l : List Q) : Q := l.foldl (fun a x => f64Near (a + x)) 0

/-- The sum of a list of quantities. -/
def sumQ (l : List Q) : Q := l.foldl (· + ·) 0

/-- An element put into its place in a list that rises by a key, after the elements of the same key. -/
def insertBy {α : Type} (key : α → Nat) (x : α) : List α → List α
  | [] => [x]
  | y :: r => if key x < key y then x :: y :: r else y :: insertBy key x r

/-- A list ordered by a key; elements of the same key keep their order. -/
def sortBy {α : Type} (key : α → Nat) (l : List α) : List α := l.foldl (fun acc x => insertBy key x acc) []

/-- As insertBy, by a rational key. -/
def insertByQ {α : Type} (key : α → Q) (x : α) : List α → List α
  | [] => [x]
  | y :: r => if key x < key y then x :: y :: r else y :: insertByQ key x r

/-- A list ordered by a rational key; elements of the same key keep their order. -/
def sortByQ {α : Type} (key : α → Q) (l : List α) : List α := l.foldl (fun acc x => insertByQ key x acc) []

/-- Seconds as nanoseconds of device time, rounded down. -/
def nsOf (q : Q) : Nat := (q * 1000000000).floor.toNat

/-- Nanoseconds as seconds. -/
def secOf (t : Nat) : Q := (t : Q) / 1000000000

/-- A quantity rounded to the nearest integer, halves upwards. -/
def nearest (q : Q) : Int := (q + 1 / 2).floor

/-- A quantity as the saturated w-bit two's-complement code of a field with the given LSB. -/
def codeOf (w : Nat) (lsb q : Q) : Int :=
  let n := nearest (q / lsb)
  let top : Int := (2 ^ (w - 1) : Nat) - 1
  if top < n then top else if n < -(top + 1) then -(top + 1) else n

/-- A quantity as the saturated w-bit unsigned code of a field with the given LSB. -/
def ucodeOf (w : Nat) (lsb q : Q) : Nat := holdAt (2 ^ w - 1) (nearest (q / lsb)).toNat

end Sys2Proof.Machine
end

