-- ==== Sys2Proof/Machine/Tab.lean ====
section
/-!
DEFINITION. A table of things addressed by number (partitions, lanes, cells, tenants, registers, bytes of a memory), held
as a list of key and value in one canonical form: keys strictly rising, and no entry equal to what an unlisted key reads as.
-/
namespace Sys2Proof

/-- A sparse table: rising keys, no entry equal to the default. -/
abbrev Tab (α : Type) := List (Nat × α)

/-- What the table reads at key k, where dflt is what an unlisted key reads as. -/
def Tab.get {α : Type} (m : Tab α) (dflt : α) (k : Nat) : α :=
  match m with
  | [] => dflt
  | (j, v) :: r => if j = k then v else Tab.get r dflt k

/-- The table without an entry at key k. -/
def Tab.drop {α : Type} (m : Tab α) (k : Nat) : Tab α :=
  match m with
  | [] => []
  | (j, v) :: r => if j = k then Tab.drop r k else (j, v) :: Tab.drop r k

/-- The table with an entry for key k put in its place by key. -/
def Tab.insert {α : Type} (m : Tab α) (k : Nat) (v : α) : Tab α :=
  match m with
  | [] => [(k, v)]
  | (j, w) :: r => if k < j then (k, v) :: (j, w) :: r else (j, w) :: Tab.insert r k v

/-- The table after v is stored at key k; storing the default removes the entry. -/
def Tab.set {α : Type} [DecidableEq α] (m : Tab α) (dflt : α) (k : Nat) (v : α) : Tab α :=
  if v = dflt then Tab.drop m k else Tab.insert (Tab.drop m k) k v

/-- The keys listed. -/
def Tab.keys {α : Type} (m : Tab α) : List Nat := m.map Prod.fst

/-- The values listed. -/
def Tab.vals {α : Type} (m : Tab α) : List α := m.map Prod.snd

/-- Every key of the table is at least n. -/
def Tab.above {α : Type} (n : Nat) (m : Tab α) : Bool := m.all fun e => decide (n ≤ e.1)

/-- Strictly rising keys. -/
def Tab.rising {α : Type} (m : Tab α) : Bool :=
  match m with
  | [] => true
  | (j, _) :: r => Tab.above (j + 1) r && Tab.rising r

/-- The canonical form of a table. -/
def Tab.wf {α : Type} [DecidableEq α] (m : Tab α) (dflt : α) : Bool :=
  Tab.rising m && m.all fun e => decide (e.2 ≠ dflt)

end Sys2Proof
end

