-- ==== Sys2Proof/Machine/State.lean ====
section
/-!
DEFINITION. The state of the CRY1024 block as plain data: every register, ring, buffer, counter, mode and pin the spec
gives it, and the queue of waiting commands. Tables hold what is numbered (partitions, lanes, tenants, channels, ports).
-/
namespace Sys2Proof.Machine
open Sys2Proof

/-- The eight partition states, by their codes 0 to 7 (Table 5 of R57). -/
inductive PState where
  | unconfigured | blocked | precharge | ready | running | braking | tripped | safeOff
deriving DecidableEq, Repr

/-- What the chip as a whole is doing (R452, R463, R466, R467, R469, R470). -/
inductive Power where
  /-- `PORST_N` low, or high with the boot not done: nothing is served. -/
  | held
  /-- A warm reset has begun and its boot has not ended (R464). -/
  | warm
  /-- Boot done, everything served. -/
  | running
  /-- ROM recovery (R469). -/
  | recovery
  /-- The power-fail sequence runs (R381), for the reason of `RST_CTRL` or `PFAIL_N`. -/
  | pfail
  /-- The sequence has ended: idle until `PFAIL_N` has been high for 10 ms (R381). -/
  | idle
  /-- An orderly shut-down has ended (R470): only `PORST_N` brings the chip back. -/
  | off
  /-- The chip has failed (R36). -/
  | failed
  /-- Freeze steps 1 and 2 run (R450). -/
  | entering
  /-- Frozen (R452). -/
  | frozen
deriving DecidableEq, Repr

/-- One ring of a tenant (Table 3 of R317), with the device's own place in it. -/
structure Ring where
  enable : Bool := false
  error : Bool := false
  cause : Nat := 0
  base : Nat := 0
  logSize : Nat := 0
  vector : Nat := 0
  irqCount : Nat := 0
  holdoff : Nat := 0
  /-- submission: the slot fetched next (R319) -/
  head : Nat := 0
  /-- the doorbell register's slot -/
  tail : Nat := 0
  /-- completion and event rings: records written since the ring was enabled -/
  wr : Nat := 0
  /-- records acknowledged since the ring was enabled -/
  ack : Nat := 0
  /-- records not yet signalled (R337) -/
  irqPend : Nat := 0
  /-- device time of the ring's last interrupt -/
  irqLast : Option Time := none
deriving DecidableEq, Repr

/-- A completion record (Table 7 of R324), without its phase bit. -/
structure CRec where
  seq : Nat
  status : Nat
  op : Nat
  flags : Nat
  series : Nat
  result : List Byte
deriving DecidableEq, Repr

/-- An event record (Table 8 of R325), without its phase bit. -/
structure ERec where
  seq : Nat
  time : Time
  cls : Nat
  sev : Nat
  src : Nat
  code : Nat
  rep : Nat
  data : List Byte
deriving DecidableEq, Repr

/-- What a started descriptor waits for before its completion is made. -/
inductive Await where
  /-- its own later command -/
  | own
  /-- the Firn record with this sequence to be committed (R371) -/
  | firn (seq : Nat)
  /-- its write to the host buffer to be completed (R317) -/
  | dma
  /-- every descriptor accepted before it (the `FENCE` opcode, R333) -/
  | earlier
  /-- a storage operation to finish (R380) -/
  | nand
deriving DecidableEq, Repr

/-- An accepted descriptor that has not completed (R322, R334). -/
structure Acc where
  series : Nat
  seq : Nat
  op : Nat
  flags : Nat
  target : Nat
  started : Bool := false
  /-- a waiting acquire at the lease core (R346): not started, and later descriptors of its ring are not held back -/
  queued : Bool := false
  /-- its completion record has been written on acceptance (`COMPLETE_ON_ACCEPT`) -/
  early : Bool := false
  await : Await := .own
  status : Nat := 0
  result : List Byte := []
  /-- descriptor bytes in the slot are unreadable (R35) -/
  applied : Bool := false
  /-- a host-buffer write that follows the Firn commit: address and bytes (R344, R347) -/
  after : Option (Nat × List Byte) := none
deriving DecidableEq, Repr

/-- An open coalescing window of a tenant's delivery queue (R445). -/
structure Coal where
  src : Nat
  code : Nat
  cls : Nat
  ends : Time
  count : Nat
  data : List Byte
  time : Time
deriving DecidableEq, Repr

/-- What has been shed of one class on one path for one tenant (R447). -/
structure Shed where
  cls : Nat
  path : Nat
  count : Nat
  first : Time
  last : Time
  /-- the class is being shed now -/
  open_ : Bool
deriving DecidableEq, Repr

/-- A telemetry stream (R443). -/
structure Stream where
  part : Nat
  cls : Nat
  rate : Nat
  cellArm : Nat
  mask : Nat
  count : Nat
  buffer : Nat
  seq : Nat := 0
  skipped : Nat := 0
deriving DecidableEq, Repr

/-- A tenant's doorbell page, rings, window and delivery (R316 to R337, R442 to R447). -/
structure Page where
  rings : Tab Ring := []
  /-- expected sequence of series 0 to 4 (R322) -/
  expect : Tab Nat := []
  acc : List Acc := []
  /-- completion records written and not acknowledged -/
  retained : List CRec := []
  /-- completions with `LOST`, to be written when the ring is enabled (R335) -/
  lost : List CRec := []
  /-- completion records held while the completion ring is disabled (R318) -/
  held : List CRec := []
  /-- urgent commits that found the window full, to be refused when a slot frees (R327) -/
  refused : List Nat := []
  /-- next descriptor of these series completes with `CANCELLED` (R320) -/
  chainDead : List Nat := []
  pendCancel : List (Nat × Nat) := []
  /-- descriptors that a `CANCEL` of their own round has met, before it is processed itself (R331) -/
  crossed : List (Nat × Nat) := []
  stage : List Byte := []
  ignored : Nat := 0
  evSeq : Nat := 0
  evAcked : Nat := 0xFFFFFFFF
  /-- sequences of the records in the event ring that are not acknowledged -/
  evWritten : List Nat := []
  staging : List ERec := []
  lostEv : Option (Nat × Nat) := none
  coal : List Coal := []
  shed : List Shed := []
  /-- total records shed of DEBUG, INFO, STATE since read (R458) -/
  shedTotal : Tab Nat := []
  minClass : Nat := 4
  coalWindow : Time := 100000000
  streams : Tab (Option Stream) := []
deriving DecidableEq, Repr

/-- A tenant's place in the tenant table (R339, R342, R359). -/
structure Tenant where
  active : Bool := false
  role : Nat := 0
  gen : Nat := 0
  cmdParts : Nat := 0
  readParts : Nat := 0
  telem : Nat := 0
  can : Nat := 0
  fabric : Nat := 0
  aux : Nat := 0
  winBase : Nat := 0
  winLen : Nat := 0
  consentOwn : Bool := false
  consentT0 : Bool := false
deriving DecidableEq, Repr

/-- The lease of one partition (R344). -/
structure Lease where
  holder : Option Nat := none
  epoch : Nat := 1
deriving DecidableEq, Repr

/-- A waiting acquire of the lease queue (R346). -/
structure LeaseReq where
  tenant : Nat
  series : Nat
  seq : Nat
  parts : Nat
  buffer : Nat
  began : Time
  timeout : Time
deriving DecidableEq, Repr

/-- What the PCIe DMA engine has issued to host memory and the host has not yet settled (R317, R324). -/
inductive PostKind where
  | completion | event | buffer | telem | msi
deriving DecidableEq, Repr

/-- One write issued to host memory, or one interrupt message. -/
structure Post where
  kind : PostKind
  page : Nat
  ring : Nat
  addr : Nat
  bytes : List Byte
  series : Nat := 0
  seq : Nat := 0
deriving DecidableEq, Repr

/-- An MSI-X table entry (R313, R314) with its pending bit. -/
structure Msix where
  addr : Nat := 0
  data : Nat := 0
  masked : Bool := true
  pend : Bool := false
deriving DecidableEq, Repr

/-- An audit entry (R357). -/
structure Audit where
  num : Nat
  time : Time
  tenant : Nat
  op : Nat
  target : Nat
  status : Nat
  detail : List Byte
  chain : List Byte
deriving DecidableEq, Repr

/-- An open window of identical refusals (R357). -/
structure Denial where
  tenant : Nat
  op : Nat
  target : Nat
  began : Time
  count : Nat
deriving DecidableEq, Repr

/-- A BOOT slot (R353, R354). -/
structure BootSlot where
  /-- marked invalid (R384) -/
  bad : Bool := false
  /-- its trial has been run (R354) -/
  tried : Bool := false
  svn : Nat := 0
  raises : Bool := false
  image : List Byte := []
deriving DecidableEq, Repr

/-- The enclave, one-time memory and certified mode (R348 to R359). -/
structure Sec where
  certified : Bool := false
  /-- the mode requested for the next chip reset: enter or leave (R348) -/
  modeNext : Option Bool := none
  schedule : List Nat := []
  nextSchedule : Option (List Nat) := none
  slot : Nat := 0
  fetchesLeft : Nat := 0
  bytesLeft : Nat := 0
  /-- OTP: SHA-384 hashes of the owner keys by slot -/
  ownerKeys : Tab (List Byte) := []
  /-- fuse: the debug lock is set (R348) -/
  debugLock : Bool := false
  arbCounter : Nat := 0
  running : Nat := 0
  trialRun : Bool := false
  trialUntil : Time := 0
  auditNum : Nat := 0
  auditHead : List Byte := []
  staged : List Audit := []
  oldestStaged : Time := 0
  sinceCheck : Nat := 0
  lastCheck : Time := 0
  refusals : List Denial := []
  freezeNonce : List Byte := []
deriving DecidableEq, Repr

/-- A Firn record (Table 4 of R372). -/
structure FirnRec where
  seq : Nat
  kind : Nat
  stepping : Nat
  keyA : Nat
  keyB : Nat
  keyC : Nat
  tenant : Nat
  body : List Byte
deriving DecidableEq, Repr
/-- An entry of the Moraine index (R386) with its samples. -/
structure Capture where
  record : Nat
  part : Nat
  priority : Nat
  flushed : Bool := false
  prot : Bool := false
  poisoned : Bool := false
  inMemory : Bool := true
  partial_ : Bool := false
  cause : Nat
  t : Time
  length : Nat
  code : Nat
  rate : Nat
  rep : Nat
  mask : Nat
  pages : Nat
  samples : List (Time × List Byte)
  /-- 1 KiB ranges marked damaged (R365) -/
  damaged : List Nat := []
deriving DecidableEq, Repr

/-- The active buffer of a partition with `MORAINE_CONFIG` (R376, R377). -/
structure MorBuf where
  trig : Nat
  priority : Nat
  rate : Nat
  cellArm : Nat
  mask : Nat
  pre : Q
  post : Q
  /-- pages the buffer occupies; 0 while no pages are free -/
  pages : Nat
  samples : List (Time × List Byte) := []
  /-- trigger taken: cause, code, device time, triggers counted -/
  trigged : Option (Nat × Nat × Time) := none
  rep : Nat := 0
  poisoned : Bool := false
deriving DecidableEq, Repr

/-- A USER blob (R380): its plain bytes, the tenant generation whose key encrypts it and its write counter. -/
structure Blob where
  bytes : List Byte
  gen : Nat
  counter : Nat
deriving DecidableEq, Repr

/-- One block of an area (R366, R367): its erase count, the number of the take that gave it its data, none while it is free, and
whether it is retired as a defect. -/
structure Blk where
  erases : Nat := 0
  seq : Option Nat := none
  bad : Bool := false
deriving DecidableEq, Repr

/-- The blocks of an area, the number of takes so far and the bytes written so far (R367). -/
structure Pool where
  blocks : List Blk := []
  takes : Nat := 0
  written : Nat := 0
deriving DecidableEq, Repr

/-- What is written on the NAND medium (R363 to R383). -/
structure Medium where
  /-- a medium within Table 1 of R363 answers -/
  present : Bool := false
  formatted : Bool := false
  formatNext : Bool := false
  /-- `STOR_GEOM` as the header holds it -/
  geom : Nat := 0
  /-- the image that a record of kind 7 stands for (R375) -/
  image : List Byte := []
  boot : Tab BootSlot := []
  bootActive : Nat := 0
  bootTrial : Option Nat := none
  /-- live and superseded Firn records above the newest snapshot, in sequence order -/
  firn : List FirnRec := []
  firnUsed : Nat := 0
  audit : List Audit := []
  moraine : List Capture := []
  blobs : Tab (Option Blob) := []
  /-- versions of blobs written since the medium was made: the write counter that never repeats (R380) -/
  blobWrites : Nat := 0
  nodeEpoch : Nat := 0
  /-- what `PF_RESULT` reports at the next boot; 3 while the chip runs and no sequence has begun -/
  pfOutcome : Nat := 0
  pfFlushed : Nat := 0
  pfDuration : Nat := 0
  /-- rails of the device-state record of R473 -/
  railRec : Nat := 0
  /-- generations of the tenants (R339) -/
  gens : Tab Nat := []
  /-- the last run was in certified mode (R348) -/
  certRun : Bool := false
  /-- spare blocks left of each area, in parts per ten thousand of its blocks (areas 0 BOOT, 1 FIRN, 2 AUDIT, 3 USER, 4 MORAINE) -/
  spares : Tab Nat := []
  /-- the blocks of each area, the bytes of a block and the endurance by the parameter page (R366, R367) -/
  pools : Tab Pool := []
  blockBytes : Nat := 0
  endurance : Nat := 0
  /-- grown defects retired -/
  grown : Nat := 0
  lastScrub : Time := 0
  scrubInterval : Time := 0
  /-- areas with no spare left, as a mask (R366) -/
  full : Nat := 0
deriving DecidableEq, Repr

/-- A storage operation issued to NAND for a descriptor and not finished (R380). -/
structure StorOp where
  page : Nat
  series : Nat
  seq : Nat
  op : Nat
  target : Nat
  data : List Byte
  key : Nat
  aux : Nat
  buffer : Nat
deriving DecidableEq, Repr

/-- The storage controller (R363 to R386). -/
structure Stor where
  medium : Medium := {}
  /-- `STOR_STATE` (R385): 0 absent, 1 formatting, 2 ready, 3 degraded, 4 read-only -/
  state : Nat := 0
  geom : Nat := 0
  /-- staged, not committed -/
  pend : List FirnRec := []
  pendLimit : Nat := 65536
  flushKib : Nat := 1024
  nextSeq : Nat := 0
  committed : Nat := 0
  defaults : Bool := false
  firnRo : Bool := false
  /-- SHA-384 of the restored record set (R356) -/
  restored : List Byte := []
  ops : List StorOp := []
  captures : List Capture := []
  nextRecord : Nat := 0
  bufs : Tab (Option MorBuf) := []
  droppedAt : Tab (Option Time) := []
  /-- `NFn_WP_N` are driven high (R364) -/
  wp : Bool := false
  /-- the word of `PF_RESULT` (R385) -/
  pfResult : Nat := 0
deriving DecidableEq, Repr

/-- The freeze engine and the test access port (R450 to R457). -/
structure Freeze where
  state : Nat := 0
  causePin : Bool := false
  redacted : Bool := false
  unconfirmed : Nat := 0
  tFreeze : Time := 0
  freezes : Nat := 0
  confirmed : List Nat := []
  trained : List Nat := []
  chipFailed : Bool := false
  tapAddr : Nat := 0
  tapData : List Byte := []
  /-- bytes of the last BAR4 read -/
  readOut : List Byte := []
  poison : List Nat := []
  /-- STO groups asserted when freeze began (R232) -/
  stoHeld : Nat := 0
  /-- causes that asserted while frozen: partition mask, cause, source (R452) -/
  latched : List (Nat × Nat × Nat) := []
  /-- the words of BAR0 as they stood at step 3 that are not 0 (R454) -/
  regs : Tab Nat := []
deriving DecidableEq, Repr

/-- Boot, reset and supply supervision (R461 to R475). -/
structure Sys where
  /-- `PORST_N` has risen and the boot has begun -/
  porst : Bool := false
  pfailLow : Bool := false
  stage : Nat := 0
  selftest : Nat := 0
  bootDone : Bool := false
  failCause : Nat := 0
  bootMs : Nat := 0
  rstKind : Nat := 0
  rstCause : Nat := 0
  railFault : Nat := 0
  railsIn : Nat := 0
  excursion : Nat := 0
  offReady : Bool := false
  /-- the running sequence was started by `shutdown`, `warm` or `PFAIL_N` -/
  pfReason : Nat := 0
  pfSince : Time := 0
  lastFailRestart : Option Time := none
  failRecordAt : Option Time := none
  dieShutdown : Bool := false
  resets : Nat := 0
  hostFailed : Nat := 0
  nodeEpoch : Nat := 0
  linkUp : Bool := false
  linkWord : Nat := 0
  errCorr : Nat := 0
  errUncorr : Nat := 0
  errDma : Nat := 0
  /-- why and when a warm reset has begun -/
  warmCause : Nat := 0
  warmAt : Time := 0
  regSeq : Nat := 0
  hold : Bool := false
  regFull : Bool := false
  regLost : Bool := false
  ignored : Nat := 0
  /-- base offsets of the blocks changed while hold was set -/
  changed : List Nat := []
  tapOpen : Bool := false
  tripLock : Bool := false
  /-- the signal on which the halves of the trip network have disagreed for 10 µs (R226) -/
  netDisagree : Option Nat := none
  /-- the chip has failed since the last reset (R36) -/
  chipDown : Bool := false
  /-- base offsets of the other blocks that are locked (R480) -/
  locks : List Nat := []
  devTimeHi : Nat := 0
  urgentBusy : List (Nat × Nat) := []
deriving DecidableEq, Repr

/-- The enclave mailbox (R489). -/
structure Mailbox where
  cmd : Nat := 0
  result : Nat := 0
  outLen : Nat := 0
  offset : Nat := 0
  length : Nat := 0
  data : Tab Byte := []
  image : List Byte := []
deriving DecidableEq, Repr

/-- The incident log (R448) and the trackers' marks (R40, R449). -/
structure Tel where
  log : List ERec := []
  logSeq : Nat := 0
  /-- greatest occupancy of tracker k since read -/
  high : Tab Nat := []
  highAt : Tab (Option Time) := []
deriving DecidableEq, Repr
/-- The cell states by their codes 0 to 6 (Table 3 of R51). -/
inductive CState where
  | absent | identified | qualifying | available | charging | bypassed | isolated
deriving DecidableEq, Repr

/-- The plan of one cell for one cycle (R84): the level at its start and up to two transitions, each with its time in ns
and the new level. -/
structure Plan where
  start : Int := 0
  e0 : Option (Nat × Int) := none
  e1 : Option (Nat × Int) := none
deriving DecidableEq, Repr

/-- One configured cell, kept under the number of its lane (R48, R51, R70). -/
structure Cell where
  part : Nat := 0
  arm : Nat := 0
  pos : Nat := 0
  /-- the lane is in a committed lane map -/
  used : Bool := false
  st : CState := .absent
  reason : Nat := 0
  /-- identity as the cell reported it (Table 6 of R260) -/
  known : Bool := false
  kind : Nat := 0
  serial : Nat := 0
  boots : Nat := 0
  tMin : Nat := 0
  vcap : Q := 0
  tempA : Q := 0
  tempB : Q := 0
  /-- consecutive cycles without a valid up-frame (R53) -/
  missed : Nat := 0
  /-- self-test result reported: 0 none, 1 running, 2 pass, 3 fail -/
  test : Nat := 0
  testFrom : Time := 0
  admitAt : Time := 0
  /-- CELL_ADMIT given, the cell's self-test not yet passed (R64) -/
  admitting : Bool := false
  /-- the level in force at the end of the last planned cycle and the device time of its last transition (R82) -/
  level : Int := 0
  lastTr : Int := -1000000000
  vpred : Q := 0
  /-- plans applied since the cell's last report, newest first, with the cycle and the arm's charging current (R81) -/
  plans : List (Nat × Plan × Q) := []
  carry : Q := 0
  /-- PSC: its carrier's half period in hand and the carry due in it (R88) -/
  halfNo : Int := 0
  due : Q := 0
  /-- its identity has changed and has not been mirrored since (R402) -/
  renamed : Bool := false
deriving DecidableEq, Repr

/-- The state machine of one partition (R56, R57), held by its region supervisor. -/
structure Part where
  st : PState := .unconfigured
  phase : Nat := 0
  epoch : Nat := 0
  /-- device time at which the epoch last advanced (R264) -/
  epochAt : Time := 0
  core1 : Bool := false
  core0Failed : Bool := false
  core1Failed : Bool := false
  /-- `CORE_MIGRATE` descriptors whose migration has not taken effect, and those that wait for the first step under the new epoch (R119) -/
  migDesc : List (Nat × Nat × Nat) := []
  migWait : List (Nat × Nat × Nat) := []
  bonded : Bool := false
  /-- the arm engine of each arm, as 8 × region + cluster (R47) -/
  engines : List (Nat × Nat) := []
  /-- STO asserted for the partition (R217, R218) -/
  sto : Bool := false
  stamp : Time := 0
  /-- DISABLEs under way: their descriptors -/
  disabling : List (Nat × Nat × Nat) := []
  /-- a CORE_MIGRATE or the supervisor has decided a migration (R21) -/
  migrating : Bool := false
  /-- consecutive current-loop steps with the margin below its minimum (R21) -/
  lowMargin : Nat := 0
  /-- overruns in the last 16 current-loop steps, newest first (R33) -/
  overruns : List Bool := []
  /-- references published for the cycle in hand -/
  published : Bool := false
deriving DecidableEq, Repr

/-- One region (R31 to R34). -/
structure Region where
  fenced : Bool := false
  wdogStopped : Bool := false
  wdogFrom : Time := 0
  /-- single-bit errors of each cluster: device times within the last second (R32) -/
  singles : List (Nat × Time) := []
  bulkAt : Option Time := none
  /-- `THERMAL_BLIND` has been raised for its die sensors (R303) -/
  blind : Bool := false
deriving DecidableEq, Repr

/-- A down-frame as the lane sends it (Table 2 of R257). -/
structure Down where
  seq : Nat
  epoch : Nat
  cmd : Nat
  mask0 : Nat
  mask1 : Nat
  mask2 : Nat
  e0 : Nat
  e1 : Nat
  tSync : Int
  uOff : Int
  cycle : Nat
  hold : Nat
  flags : Nat
deriving DecidableEq, Repr

/-- One lane and its link (R263 to R271). -/
structure Lane where
  /-- 0 off, 1 ACQUIRE, 2 searching, 3 identifying, 4 up, 5 isolated (R271) -/
  lstate : Nat := 0
  locked : Bool := false
  down : Bool := false
  proto : Nat := 0
  fw : Nat := 0
  dual : Bool := false
  obeys : Bool := false
  standby : Bool := false
  /-- identity frame last received and how many in a row were the same (R269) -/
  idFrame : List Byte := []
  idCount : Nat := 0
  /-- the last 16 one-way delay samples in ns, newest first (R263) -/
  delays : List Q := []
  tooLong : Bool := false
  rxErr : Nat := 0
  late : Nat := 0
  alarms : Nat := 0
  downs : Nat := 0
  epochDisc : Nat := 0
  alarmDisc : Nat := 0
  delayJumps : Nat := 0
  downAt : Time := 0
  trainFrom : Time := 0
  silentUntil : Option Time := none
  /-- timed cell commands waiting: cycle, epoch, plan (R37) -/
  queue : List (Nat × Nat × Plan) := []
  /-- a valid up-frame was accepted in the cycle in hand -/
  gotFrame : Bool := false
  /-- the last down-frame sent -/
  sent : Option Down := none
  /-- the block sequence was started and no frame has been sent since (R259) -/
  blockSeq : Bool := false
  lastFrame : List Byte := []
  /-- transmits nothing: unconfirmed at freeze (R451), or by a test until testUntil (R491) -/
  silenced : Bool := false
  testUntil : Time := 0
deriving DecidableEq, Repr

/-- Modulation and circulating current of one partition (R72 to R95). -/
structure Mod where
  /-- published arm reference sets: cycle and one reference per arm -/
  refs : List (Nat × List Q) := []
  satCycles : Nat := 0
  /-- the last cycle counted in it, plus 1 -/
  satAt : Nat := 0
  deferred : Nat := 0
  lateRefs : Nat := 0
  maxCarry : Nat := 0
  /-- by arm: carry in V·s, current at the start of the last two cycles -/
  carry : Tab Q := []
  iNow : Tab Q := []
  iPrev : Tab Q := []
  /-- a reference was clipped since the last current-loop step (R79) -/
  clipped : Bool := false
  /-- by phase and side: integrator of the circulating-current loop and its resonant states (R91) -/
  circInt : Tab Q := []
  circRes : Tab Q := []
  circRes2 : Tab Q := []
  /-- low-frequency mode, by phase: the energy ripple summed over the period of f_cm in hand, the amplitude in force, and the period's number
  plus 1 (R92) -/
  lfSum : Tab Q := []
  lfAmp : Tab Q := []
  lfNo : Nat := 0
  /-- SVM: by leg, the carrier half-period in hand plus 1 and its duty (R89), and the leg's carry in V·s -/
  svmDuty : Tab (Nat × Q) := []
  svmCarry : Tab Q := []
deriving DecidableEq, Repr

/-- A trip record (Table 5 of R245). -/
structure TripRec where
  t : Time
  cause : Nat
  source : Nat
  before : Nat
  order : Nat
  more : Nat
  value : Q
  cycle : Nat
  tenant : Nat
deriving DecidableEq, Repr

/-- Protection of one partition (R229, R230, R243, R244). -/
structure Prot where
  /-- active sources in the two halves of the trip network: cause and source (R226) -/
  halfA : List (Nat × Nat) := []
  halfB : List (Nat × Nat) := []
  /-- stamp of the first cause of the newest trip -/
  firstAt : Option Time := none
  firstCause : Nat := 0xFFFF
  firstSource : Nat := 0xFFFF
  /-- causes recorded since the first -/
  later : Nat := 0
  /-- the last 64 records, oldest first -/
  recs : List TripRec := []
  /-- self-test under way: descriptor and scope -/
  testing : Option (Nat × Nat × Nat × Nat) := none
  /-- comparators that failed the last self-test -/
  failed : Nat := 0
  /-- last passing self-test of scope bit 0 -/
  passedAt : Option Time := none
  /-- trip messages of no accept entry, discarded -/
  discarded : Nat := 0
  /-- lanes whose cell has sent `ALARM_U` (R234) -/
  alarms : List Nat := []
deriving DecidableEq, Repr

/-- What the lane remembers of the alarm symbols of one kind (R235). -/
structure AlarmLog where
  last : Option Time := none
  held : Nat := 0
  discarded : Nat := 0
deriving DecidableEq, Repr
/-- Position and speed feedback of one partition (R148 to R170). -/
structure Fb where
  /-- Table 3 of R161 -/
  st : Nat := 0
  errors : Nat := 0
  valid : Bool := false
  invalidAt : Option Time := none
  /-- latched sensor angle and speed, motor angle and speed -/
  thS : Q := 0
  wS : Q := 0
  thM : Q := 0
  wM : Q := 0
  raw : Nat := 0
  mt : Int := 0
  /-- incremental: latched count, count at the last index, absolute since a good index -/
  count : Int := 0
  zero : Int := 0
  idxAt : Option Int := none
  absolute : Bool := false
  consec : Nat := 0
  illegal : Nat := 0
  illegalAt : List Time := []
  idxErr : Nat := 0
  /-- missing indexes counted since the last index (R153) -/
  idxMiss : Nat := 0
  crcErr : Nat := 0
  /-- resolver tracking loop -/
  thT : Q := 0
  wT : Q := 0
  ampBad : Nat := 0
  errSince : Option Time := none
  goodSince : Option Time := none
  lastAt : Time := 0
  /-- BiSS-C: request instant, bad and good frames in a row -/
  reqAt : Option Time := none
  bad : Nat := 0
  good : Nat := 0
  nwAt : Option Time := none
  /-- end of the last frame (R158) -/
  frameAt : Option Time := none
  /-- debounced limits: bit 0 payout, bit 1 haul-in -/
  limits : Nat := 0
  /-- restart phase and its parts (R164 to R168) -/
  restart : Nat := 0
  zvFirst : Option (Time × Q) := none
  /-- start of the zero-voltage pulse in hand -/
  zvAt : Option Time := none
  searchW : Q := 0
  searchDir : Q := 0
  searchLeft : Nat := 0
  searchP : Q := 0
  stopFirst : Bool := false
  stillAt : Option Time := none
  /-- open loop: angle, blend under way since -/
  olTh : Q := 0
  olI : Q := 0
  olAt : Option Time := none
  /-- since when no position or speed is in use (state 0) -/
  noneAt : Option Time := none
  blendAt : Option Time := none
  xSince : Option Time := none
  /-- the disagreement in hand has been reported (R162) -/
  xRaised : Bool := false
deriving DecidableEq, Repr

/-- Braking and emergency modes of one partition (R197 to R224). -/
structure Brk where
  high : Bool := false
  string : Bool := false
  /-- chopper on since, and the on intervals of the last 60 s -/
  onAt : Option Time := none
  ons : List (Time × Time) := []
  overload : Bool := false
  ceilCut : Bool := false
  /-- SS1: request time and speed (R219) -/
  ss1 : Option (Time × Q) := none
  /-- short-circuit braking: start; group bypassed; standstill since -/
  sc : Option Time := none
  scGroup : Nat := 0
  scSwapAt : Time := 0
  still : Option Time := none
  vScAt : Option Time := none
  clipAt : Option Time := none
  scDenied : Bool := false
  /-- emergency stop: 0 none, 1 decelerating, 2 brakes setting, 3 current to 0 -/
  estop : Nat := 0
  setAt : Time := 0
  /-- quick release, and rope slow since -/
  qr : Bool := false
  qrSlow : Option Time := none
  /-- brakes energised; hold of `brake_t_rel` since -/
  released : Bool := false
  relAt : Option Time := none
  relWait : Bool := false
  /-- ride-through phase, its start, start of phase 2, start of phase 4 -/
  rt : Nat := 0
  rtAt : Option Time := none
  rtWait : Time := 0
  retSince : Option Time := none
  /-- crash stop: target, rate, torque and power limits -/
  crash : Option (Q × Q × Q × Q) := none
  render : Bool := false
  /-- machine current ramps to 0 on the way to READY (DISABLE, R209, R215) -/
  rampDown : Bool := false
  /-- since when it has been below 2 % of rated -/
  lowSince : Option Time := none
deriving DecidableEq, Repr

/-- One STO group (R217 to R220). -/
structure Sto where
  lowA : Bool := false
  lowB : Bool := false
  active : Bool := false
  /-- both channels must have been asserted together before the group is left (R220) -/
  needBoth : Bool := false
  bothSeen : Bool := false
  /-- SS1 request time (R219) -/
  ss1 : Option Time := none
deriving DecidableEq, Repr

/-- One auxiliary motor or switch channel (R274 to R298). -/
structure Aux where
  /-- the tenant the channel belongs to (R275) -/
  owner : Option Nat := none
  /-- Table 9 of R298 -/
  st : Nat := 0
  /-- latched code, 0 none -/
  fault : Nat := 0
  /-- a check has passed since the last fault -/
  passed : Bool := false
  /-- `AUX_RUN` with `run` = 1 stands -/
  run : Bool := false
  /-- a start waits for the comparator self-test (R277) -/
  startWaits : Bool := false
  /-- device time at which the state was entered -/
  stAt : Time := 0
  /-- check step and what follows a pass: 0 off, 1 start -/
  dStep : Nat := 0
  dThen : Nat := 0
  diag : Nat := 0
  restarts : Nat := 0
  missed : Nat := 0
  trips : Nat := 0
  sags : Nat := 0
  /-- BLDC -/
  sector : Nat := 0
  duty : Q := 0
  wRef : Q := 0
  integ : Q := 0
  wm : Q := 0
  /-- last sector intervals in ns, newest first -/
  ivals : List Nat := []
  lastComm : Time := 0
  nextComm : Option Time := none
  missRow : Nat := 0
  crossRow : Nat := 0
  lossAt : List Time := []
  tries : Nat := 0
  retryAt : Option Time := none
  waitSince : Option Time := none
  /-- speed and duty of the last run -/
  lastRun : Option (Q × Q) := none
  /-- duty last used by speed reference -/
  ff : List (Q × Q) := []
  curveOn : Bool := false
  uIn : Q := 0
  inAt : Option Time := none
  inLost : Bool := false
  /-- the short-circuit hold is followed by `CHECK` (R280) -/
  scCheck : Bool := false
  wStop : Q := 0
  highSince : Option Time := none
  peakAt : Option Time := none
  /-- last end of an on-time by the peak comparator -/
  cutAt : Option Time := none
  extrap : Bool := false
  capped : Bool := false
  /-- stepper: position in 1/256 full steps -/
  pos : Int := 0
  /-- coarse steps being spread: direction, output steps left, interval in ns -/
  coarse : List (Int × Nat × Nat) := []
  coarseAt : Option Time := none
  stepAt : Time := 0
  /-- gearing: interval of output steps in ns (none: no step), direction and last target -/
  gearIv : Option Nat := none
  gearDir : Int := 1
  gearLast : Option (Time × Q) := none
  /-- interval loaded into the step timer -/
  timer : Option Nat := none
  f : Q := 1
  delta : Q := 0
  stallRow : Nat := 0
  shorted : Bool := false
  /-- re-energising at the end of standstill: since when, and the coil comparators seen -/
  wakeAt : Option Time := none
  seenA : Bool := false
  seenB : Bool := false
  /-- begin of the last off-time of each coil (R287) -/
  chopA : Option Time := none
  chopB : Option Time := none
  /-- device time of the last stop, a cause of its round (R295) -/
  stopAt : Option Time := none
  /-- switch: turn-on, inrush time paused, pause since -/
  onAt : Time := 0
  paused : Time := 0
  pauseAt : Option Time := none
  pulled : Bool := false
  /-- a switch input's comparator is asserted -/
  sense : Bool := false
deriving DecidableEq, Repr


/-- A frame loaded in a transmit buffer (R416): its descriptor, its frame record, and what its attempts have been. -/
structure CanTx where
  page : Nat
  series : Nat
  seq : Nat
  frame : List Byte
  loadedAt : Time
  tries : Nat := 0
  cause : Nat := 0
  /-- emptied by `CAN_TX_ABORT` while in transmission (R419) -/
  dead : Bool := false
deriving DecidableEq, Repr

/-- A posted receive buffer (R414). -/
structure CanRx where
  page : Nat
  series : Nat
  seq : Nat
  buffer : Nat
  count : Nat
  written : Nat := 0
  firstSeq : Nat := 0
  firstAt : Time := 0
deriving DecidableEq, Repr

/-- A rate search under way (R421). -/
structure CanSearch where
  page : Nat
  series : Nat
  seq : Nat
  dwell : Time
  rounds : Nat
  round : Nat := 0
  cand : Nat := 0
  candAt : Time := 0
  frames : Nat := 0
deriving DecidableEq, Repr

/-- One CAN FD controller (R412 to R423). -/
structure Can where
  owner : Option Nat := none
  mode : Nat := 0
  /-- the accepted candidate's eight bytes, none while the timing is that of `CAN_CONFIG` (R421) -/
  timing : Option (List Byte) := none
  /-- transmit buffers, and the frame that replaces TX2's once its attempt has ended (R418) -/
  tx : Tab (Option CanTx) := []
  next : Option CanTx := none
  /-- posted receive buffers, the active one first; frames staged on chip -/
  rx : List CanRx := []
  stage : List (List Byte) := []
  rxSeq : Nat := 0
  overruns : Nat := 0
  errors : Nat := 0
  overAt : Option Time := none
  tec : Nat := 0
  rec_ : Nat := 0
  /-- 0 active, 1 passive, 2 bus-off -/
  err : Nat := 0
  busOffs : List Time := []
  holdUntil : Option Time := none
  search : Option CanSearch := none
deriving DecidableEq, Repr

/-- What a tandem knows of one member by its last reply (R176). -/
structure TMem where
  /-- partition state code -/
  st : Nat := 0
  cap : Q := 0
  torque : Q := 0
  w : Q := 0
  /-- limits that stand tightest at the member, as bits of `MACH_STATUS` -/
  bits : Nat := 0
  at_ : Option Time := none
deriving DecidableEq, Repr

/-- One partition's place in its tandem (R175 to R180). -/
structure Tan where
  epoch : Nat := 0
  /-- the master's place in the member list -/
  master : Option Nat := none
  /-- mastership is taken at the next speed step (R178, R180) -/
  taking : Bool := false
  /-- an earlier claimant of the same epoch is obeyed from the next speed step (R179) -/
  yieldTo : Option Nat := none
  /-- last tandem message: total and own share, yield torque, ceiling speed, ramp output and target -/
  total : Q := 0
  share : Q := 0
  tY : Q := 0
  nC : Q := 0
  ramp : Q := 0
  target : Q := 0
  /-- the places that the division of that message counts, and the master's `rt_delay` -/
  active : Option (List Nat) := none
  delay : Q := 0
  msgAt : Option Time := none
  /-- the master is lost and this member is not the successor: its torque ramps to 0 (R179) -/
  lost : Bool := false
  /-- replies by place in the member list -/
  mem : Tab TMem := []
deriving DecidableEq, Repr

/-- One allocator consumer: a partition with `CONSUMER_CONFIG` (R181 to R189). -/
structure Cons where
  /-- grants in force at rank 5 -/
  mot : Q := 0
  regen : Q := 0
  /-- its demand and offer of the last round -/
  demand : Q := 0
  offer : Q := 0
  /-- sums of motoring and regenerated power over the steps of the running round, and their number -/
  motSum : Q := 0
  regSum : Q := 0
  steps : Nat := 0
  /-- grants of the last round in which all digests agreed -/
  okMot : Q := 0
  okRegen : Q := 0
deriving DecidableEq, Repr

/-- Calving on one bus section (R187 to R189): the level, 0 none, and the last event. -/
structure Calve where
  level : Nat := 0
  at_ : Time := 0
deriving DecidableEq, Repr

/-- A grant as every node computes it (R185). -/
structure Grant where
  id : Nat
  node : Nat
  mot : Q
  regen : Q
deriving DecidableEq, Repr

/-- A plant reservation asked for here (R191): the descriptor, its partitions with what has been granted, its timestamp. -/
structure Req where
  page : Nat
  series : Nat
  seq : Nat
  handle : Nat
  stamp : Time
  deadline : Time
  parts : List (Nat × Nat × Bool)
  /-- completed with `OK` -/
  done : Bool := false
  /-- wounded at -/
  retryAt : Option Time := none
deriving DecidableEq, Repr

/-- A reservation of a partition of this chip for another node's tenant, held or waiting (R191). -/
structure Hold where
  part : Nat
  node : Nat
  tenant : Nat
  stamp : Time
deriving DecidableEq, Repr

/-- The allocator, Calving and reservations of a node (R181 to R195). -/
structure Plant where
  /-- supply record, its arrival, and the staleness (0 none, 1 alarm raised, 2 floors) of each section -/
  supplies : Tab (Option SupplyRec) := []
  arrived : Tab Time := []
  stale : Tab Nat := []
  /-- round record of each publisher -/
  rounds : Tab (Option RoundRec) := []
  /-- grants last computed, the round they belong to, and whether they have been applied -/
  grants : List Grant := []
  round : Nat := 0
  applied : Bool := true
  /-- the round whose grants are in force -/
  inForce : Nat := 0
  /-- digest of the input set of that round -/
  digest : Nat := 0
  diverged : Bool := false
  /-- a differing digest has been seen in the running round -/
  differs : Bool := false
  divergeAt : Option Time := none
  diverge : Nat := 0
  /-- island power before floors, by section -/
  avail : Tab Q := []
  calves : Tab Calve := []
  calveSeq : Nat := 0
  seen : List (Nat × Nat) := []
  reqs : List Req := []
  handles : Nat := 0
  holds : List Hold := []
  waits : List Hold := []
deriving DecidableEq, Repr

/-- One fabric port (R388 to R399). -/
structure FabPort where
  up : Bool := false
  peer : Nat := 0
  epoch : Nat := 0
  /-- link delay in ns by the last exchange -/
  delay : Q := 0
  /-- good frames acknowledged to the peer (R390) -/
  acks : Nat := 0
  /-- bytes that MIRROR may send before BULK must, where both wait (R392) -/
  owed : Int := 0
deriving DecidableEq, Repr

/-- A frame sent on a port and not acknowledged (R390). -/
structure TxFrame where
  port : Nat
  bytes : List Byte
  at_ : Time
  tries : Nat := 0
deriving DecidableEq, Repr

/-- A unicast CONTROL message not acknowledged end to end (R393). -/
structure CtlMsg where
  dst : Nat
  seq : Nat
  kind : Nat
  body : List Byte
  at_ : Time
  tries : Nat := 0
  /-- its transaction number (R37) -/
  txn : Nat := 0
  /-- the partition whose region originated it (R39) -/
  origin : Option Nat := none
deriving DecidableEq, Repr

/-- A receive buffer posted by `FAB_RECV` (R409). -/
structure FabRecv where
  page : Nat
  series : Nat
  seq : Nat
  buffer : Nat
  node : Nat
  tenant : Nat
  maxLen : Nat
deriving DecidableEq, Repr

/-- A `FAB_SEND` without its confirmation (R409). -/
structure FabSendOp where
  page : Nat
  series : Nat
  seq : Nat
  msg : Nat
  dst : Nat
  began : Time
deriving DecidableEq, Repr

/-- A BULK message on its way to a receiver's buffer (R409): the receiver's descriptor, the sender and its message number. -/
structure BulkWrite where
  page : Nat
  series : Nat
  seq : Nat
  src : Nat
  msg : Nat
deriving DecidableEq, Repr

/-- A BULK message being put together (R409): source, message number, its length and the bytes received. -/
structure Assembly where
  src : Nat
  msg : Nat
  total : Nat
  got : List Byte
deriving DecidableEq, Repr

/-- The mirror of one partition at a standby (R402, R403). -/
structure Mir where
  rec_ : Option Mirror := none
  /-- a record has arrived since the last current-loop step -/
  got : Bool := false
  /-- consecutive steps with a record, and steps since the last -/
  row : Nat := 0
  age : Nat := 0
  differs : Bool := false
  at_ : Option Time := none
deriving DecidableEq, Repr

/-- The Fibaora interface and host core 3 (R388 to R407). -/
structure Fab where
  ports : Tab FabPort := []
  /-- newest link-state record of each node -/
  recs : Tab (Option LinkRec) := []
  failed : List Nat := []
  /-- since when a node has been unreachable -/
  unreach : Tab (Option Time) := []
  /-- next frame sequence of each class -/
  seqs : Tab Nat := []
  /-- frames accepted: source, class, sequence -/
  seen : List (Nat × Nat × Nat) := []
  tx : List TxFrame := []
  /-- frames that wait for a buffer of their port (R392), and BULK frames that die throttle holds (R306) -/
  held : List TxFrame := []
  /-- the next transaction number (R37) -/
  txn : Nat := 0
  ctl : List CtlMsg := []
  recvs : List FabRecv := []
  sends : List FabSendOp := []
  /-- BULK messages being written to a receiver's buffer (R409) -/
  writes : List BulkWrite := []
  /-- nodes whose partner holds their partitions by a takeover (R397) -/
  taken : List Nat := []
  parts : List Assembly := []
  msgs : Nat := 0
  /-- domain time -/
  master : Option Nat := none
  off : Int := 0
  good : Nat := 0
  joined : Bool := false
  hold : Option Time := none
  unlocked : Bool := false
  pps : List Time := []
  ppsValid : Bool := false
  /-- standby: the role in use (0 none, 1 active, 2 standby), mirrors, a `TAKEOVER` that waits for the next step -/
  role : Nat := 0
  mirrors : Tab Mir := []
  order : Bool := false
  orderDesc : Option (Nat × Nat × Nat) := none
  mirrorLost : Bool := false
  /-- the partner has been heard since the pair was joined, so the roles stand (R403) -/
  paired : Bool := false
  /-- consecutive cycles in which most cells of a partition obeyed another chip -/
  deposeRow : Tab Nat := []
  identTurn : Tab Nat := []
deriving DecidableEq, Repr

/-- One temperature sensor of the die, a cell or the coolant (R300 to R305); temperatures in °C. -/
structure Sense where
  /-- it has given a reading -/
  seen : Bool := false
  t : Q := 0
  eff : Q := 0
  /-- 0 normal, 1 warning, 2 throttle, 3 shut-down -/
  level : Nat := 0
  suspect : Bool := false
  /-- evaluations for which it has been suspect, in ms -/
  susp : Nat := 0
  failed : Bool := false
  /-- consecutive evaluations at or above the three thresholds, up to 4 -/
  n1 : Nat := 0
  n2 : Nat := 0
  n3 : Nat := 0
deriving DecidableEq, Repr

/-- Thermal management of one partition (R300 to R312). -/
structure Therm where
  /-- rank 2's factor (R301) -/
  kth : Q := 1
  /-- `THERMAL_BLIND` has been raised for a sensor that still has no median (R303) -/
  blind : Bool := false
deriving DecidableEq, Repr

/-- Adaptive core supply and the deadline monitor (R427, R430 to R432, R438). Voltages in units of 0.1 mV. -/
structure Avs where
  vCmd : Nat := 0
  vGoal : Nat := 0
  fault : Bool := false
  fails : Nat := 0
  /-- writes wait for a status read that succeeds (R432) -/
  probe : Bool := false
  /-- least margin in ns since the last goal was set -/
  least : Option Nat := none
  /-- the running 1 ms period, its least margin and region -/
  msNow : Nat := 0
  leastMs : Option (Nat × Nat) := none
  /-- the least margin of the last complete period and its region -/
  lastMs : Nat × Nat := (0, 0)
deriving DecidableEq, Repr
/-- The whole block. -/
structure State where
  now : Time
  power : Power
  pending : List Instr
  /-- the model's own counter of draws: each free value is an uninterpreted constant applied to it (log entry 3) -/
  draws : Nat
  sys : Sys
  pages : Tab Page
  tenants : Tab Tenant
  leases : Tab Lease
  leaseQ : List LeaseReq
  /-- partitions held under a plant reservation (R192) -/
  reserved : Nat
  sec : Sec
  outbox : List Post
  /-- writes that wait for an entry of the PCIe engine or for their tenant's slot (R30, R37, R350) -/
  waitbox : List Post
  msix : Tab Msix
  /-- register words of BAR0 that hold no state of their own elsewhere: key = offset × 1024 + index (R477, R479) -/
  regs : Tab Nat
  mailbox : Mailbox
  /-- stored configuration: descriptor bytes 16 to 63 and buffer data by opcode, target and key_c (R372) -/
  cfg : Tab (List Byte)
  /-- bytes still in force of a descriptor whose new ones act from the next cycle or speed step on, by the same key; none where none
  were given before (R67, R120, R171) -/
  lagged : List (Nat × List Byte)
  stor : Stor
  tel : Tel
  frz : Freeze
  parts : Tab Part
  cells : Tab Cell
  regions : Tab Region
  /-- Firn bypass list: serial + 1 of the bypassed cell by position (R52) -/
  bypass : Tab Nat
  lanes : Tab Lane
  mods : Tab Mod
  /-- scaled values of the sigma-delta control filters (R487) -/
  sd : Tab Q
  /-- inputs that stand stuck, invalid by relock, or with a refused setting: bits of `SD_STATUS` (R487) -/
  sdFlags : Tab Nat
  prot : Tab Prot
  alarmLog : Tab AlarmLog
  plant : Plant
  fab : Fab
  /-- the cell-cycle number -/
  cycle : Nat
  ctl : Tab Ctl
  fb : Tab Fb
  mot : Tab Mot
  brk : Tab Brk
  sto : Tab Sto
  /-- mean of each sigma-delta input over the cycle before (R78, R81) -/
  sdMean : Tab Q
  /-- auxiliary channels by channel code (R274) -/
  aux : Tab Aux
  /-- sag groups that are active, by 4 × region + group (R293) -/
  sag : Nat
  /-- a partition's `PRECHARGE` waits for the checks of its brake channels (R294): its descriptor -/
  precWait : Tab (Option (Nat × Nat × Nat))
  /-- words of memory with flipped bits: area, index, offset, bits (R22, R491) -/
  ecc : List (Nat × Nat × Nat × Nat)
  /-- `TRIPIN[i]` pins that are low (R231) -/
  tripin : Nat
  tan : Tab Tan
  therm : Tab Therm
  /-- temperature sensors: die sensor k at k, sensor x of the cell of lane l at 1000 + 2 l + x, coolant sensor i of partition p
  at 4000 + 4 p + i -/
  sense : Tab Sense
  cons : Tab Cons
  /-- CAN controllers C0 to C3 -/
  cans : Tab Can
  avs : Avs
  /-- the period in ns before the relock that runs, by MCLK output (R434) -/
  mclkOld : Tab Nat
deriving DecidableEq, Repr
/-- Why the machine stops. -/
inductive Fault where
  /-- An event names a partition, lane, channel, port, controller or ring that the chip does not have (R5). Raised by the
  guard of every event command on its element number; safe: the spec gives no such element. -/
  | noSuchElement
deriving DecidableEq, Repr

/-- Why a command is turned away. -/
inductive Refusal where
  /-- The command has no meaning in the model yet. Raised by an arm of exec only; safe. -/
  | notModelled (mnemonic : String)
deriving DecidableEq, Repr

/-- The owner as it is from the first boot on: active, role OWNER, every capability, a window over the whole host
address space (R339, R375). -/
def Tenant.owner : Tenant := { active := true, winLen := 2 ^ 64 }

/-- The machine right after a power-on reset: `PORST_N` has been low, nothing has booted, every table lists nothing but the
owner's entry, which R339 makes active from the first boot onwards. The medium is what the board carries: none is presumed
(log entry 5). -/
def State.reset : State :=
  { now := 0, power := .held, pending := [], draws := 0, sys := {}, pages := [], tenants := [(0, Tenant.owner)],
    leases := [], leaseQ := [], reserved := 0, sec := {}, outbox := [], waitbox := [], msix := [], regs := [], mailbox := {}, cfg := [], lagged := [], stor := {},
    tel := {}, frz := {}, parts := [], cells := [], regions := [], bypass := [], lanes := [], mods := [],
    sd := [], sdFlags := [],
    prot := [], alarmLog := [], plant := {}, fab := {}, cycle := 0, tripin := 0,
    ctl := [], fb := [], mot := [], brk := [], sto := [], sdMean := [], aux := [], sag := 0, precWait := [], ecc := [], tan := [],
    therm := [], sense := [], cons := [], cans := [], avs := {}, mclkOld := [] }

end Sys2Proof.Machine
end

