-- ==== Sys2Proof/Machine/Ops.lean ====
section
/-!
DEFINITION. The operations every family shares: device time, the tables' accessors, event delivery (R323 to R326, R441 to
R448), interrupts (R337), completion records (R324), Firn records (R371, R372) and audit entries (R357).
-/
namespace Sys2Proof.Machine
open Sys2Proof

/-- The outcome of every meaning. -/
abbrev Res := Host.Outcome State Fault Refusal

/-- Device time, a 64-bit count (R9), moved on to t, never back; it stands still while the chip is frozen or not started (R429). -/
def State.at (s : State) (t : Time) : State :=
  if s.power = .frozen ∨ s.power = .held then s else { s with now := max s.now (t % 2 ^ 64) }

/-- An event of an element the chip has: its effect, or a fault where there is no such element (R5). -/
def within (n top : Nat) (s : State) (f : State → State) : Res :=
  if n < top then .next (f s) else .fault .noSuchElement

/-- An event that only a running chip takes; in any other power state nothing comes of it (log entry 6). -/
def State.live (s : State) (t : Time) (f : State → State) : State :=
  if s.power = .running then f (s.at t) else s

/-- Blocks that keep working while freeze is entered or the power-fail sequence runs: lanes and pins (R381, R451). -/
def State.awake (s : State) (t : Time) (f : State → State) : State :=
  if s.power = .running ∨ s.power = .pfail ∨ s.power = .entering then f (s.at t) else s

def State.page (s : State) (n : Nat) : Page := Tab.get s.pages {} n
def State.setPage (s : State) (n : Nat) (p : Page) : State := { s with pages := Tab.set s.pages {} n p }
def State.tenant (s : State) (n : Nat) : Tenant := Tab.get s.tenants {} n
def State.setTenant (s : State) (n : Nat) (t : Tenant) : State := { s with tenants := Tab.set s.tenants {} n t }
def State.lease (s : State) (p : Nat) : Lease := Tab.get s.leases {} p
def State.setLease (s : State) (p : Nat) (l : Lease) : State := { s with leases := Tab.set s.leases {} p l }
def State.part (s : State) (p : Nat) : Part := Tab.get s.parts {} p
def State.setPart (s : State) (p : Nat) (x : Part) : State := { s with parts := Tab.set s.parts {} p x }
def State.cell (s : State) (l : Nat) : Cell := Tab.get s.cells {} l
def State.setCell (s : State) (l : Nat) (c : Cell) : State := { s with cells := Tab.set s.cells {} l c }
def State.region (s : State) (r : Nat) : Region := Tab.get s.regions {} r
def State.setRegion (s : State) (r : Nat) (x : Region) : State := { s with regions := Tab.set s.regions {} r x }

def State.sensor (s : State) (k : Nat) : Sense := Tab.get s.sense {} k
def State.setSensor (s : State) (k : Nat) (x : Sense) : State := { s with sense := Tab.set s.sense {} k x }
/-- Die throttle holds chip-wide (R306). -/
def State.dieThrottle (s : State) : Bool := (List.range 64).any fun k => 2 ≤ (s.sensor k).level
/-- The number of sensor x (0 `temp_a`, 1 `temp_b`) of a lane's cell. -/
def cellSensor (l x : Nat) : Nat := 1000 + 2 * l + x
/-- The number of coolant sensor i of a partition. -/
def coolSensor (p i : Nat) : Nat := 4000 + 4 * p + i

/-- A register word of BAR0 by offset and window index. -/
def State.regWord (s : State) (off idx : Nat) : Nat := Tab.get s.regs 0 (off * 1024 + idx)
def State.setRegWord (s : State) (off idx v : Nat) : State := { s with regs := Tab.set s.regs 0 (off * 1024 + idx) (v % 2 ^ 32) }
/-- A field [hi:lo] of a register word. -/
def State.regField (s : State) (off idx hi lo : Nat) : Nat := bits (s.regWord off idx) hi lo

def Page.ring (p : Page) (r : Nat) : Ring := Tab.get p.rings {} r
def Page.setRing (p : Page) (r : Nat) (x : Ring) : Page := { p with rings := Tab.set p.rings {} r x }
/-- Slots of a ring (R316). -/
def Ring.size (r : Ring) : Nat := 2 ^ r.logSize
/-- Slots of an event or completion ring the host has freed (R326). -/
def Ring.free (r : Ring) : Nat := r.size - (r.wr - r.ack)
/-- The reserved eighth of an event ring, at least 8 slots (R326). -/
def Ring.reserve (r : Ring) : Nat := max 8 (r.size / 8)
/-- The phase bit of record k since the ring was enabled (R323). -/
def Ring.phase (r : Ring) (k : Nat) : Nat := if (k / r.size) % 2 = 0 then 1 else 0

/-- A fresh draw of the free-value counter. -/
def State.drawn (s : State) : State := { s with draws := s.draws + 1 }

/-! ### Sources of events (Table 9 of R325) -/

def srcChip : Nat := 0
def srcRegion (r : Nat) : Nat := 0x1000 + r
def srcPart (p : Nat) : Nat := 0x2000 + p
def srcLane (l : Nat) : Nat := 0x3000 + l
def srcAux (c : Nat) : Nat := 0x4000 + c
def srcNode (n : Nat) : Nat := 0x5000 + n
def srcCan (c : Nat) : Nat := 0x6000 + c
def srcTenant (t : Nat) : Nat := 0x7000 + t

/-- The highest occupancy of a tracker since it was last read (R40). -/
def State.noteHigh (s : State) (k used : Nat) : State :=
  { s with tel := { s.tel with high := Tab.set s.tel.high 0 k (max (Tab.get s.tel.high 0 k) used) } }

/-- Writes on the separate channel of urgent work, and interrupt messages, which no slot holds back (R343, R350). -/
def Post.free (p : Post) : Bool := decide (p.kind = .msi) || decide (p.series = 4)

/-- The tenant of the running slot (R30). -/
def State.slotTenant (s : State) : Nat := s.sec.schedule.getD s.sec.slot 0xFFFF

/-- The DMA engine takes a write now: one of its 1,024 entries is free (R37), and in certified mode its tenant's slot runs with budget
left and nothing of that tenant waits (R30, R350). -/
def State.goes (s : State) (p : Post) : Bool :=
  decide (s.outbox.length < 1024) && (p.free || (!(s.waitbox.any fun q => q.page = p.page && !q.free) &&
    (!s.sec.certified || (decide (s.slotTenant = p.page) && decide (0 < s.sec.bytesLeft)))))

/-- A write or message handed to the DMA engine: issued, in certified mode out of the slot's budget, or waiting (R30, R37, R350). -/
def State.post (s : State) (p : Post) : State :=
  if s.goes p then
    { s with outbox := s.outbox ++ [p]
             sec := if s.sec.certified ∧ ¬ p.free then { s.sec with bytesLeft := s.sec.bytesLeft - p.bytes.length } else s.sec }.noteHigh 4
      (s.outbox.length + 1)
  else { s with waitbox := s.waitbox ++ [p] }

/-! ### Interrupts -/

/-- The interrupt message of an MSI-X vector; a masked vector sets its pending bit (R337). -/
def State.fireVector (s : State) (v : Nat) : State :=
  let e := Tab.get s.msix {} v
  if e.masked then { s with msix := Tab.set s.msix {} v { e with pend := true } }
  else s.post { kind := .msi, page := 0, ring := 0, addr := e.addr, bytes := leBytes 4 e.data }

/-- A record written to ring r of a tenant signals its vector at once, by count, or once the holdoff is over (R337). -/
def State.signal (s : State) (n r : Nat) (atOnce : Bool) : State :=
  let p := s.page n
  let g := p.ring r
  let pend := g.irqPend + 1
  let lapsed := match g.irqLast with
    | none => true
    | some t => decide (t + g.holdoff * 1000 ≤ s.now)
  if atOnce || lapsed || decide (max 1 g.irqCount ≤ pend) then
    (s.setPage n (p.setRing r { g with irqPend := 0, irqLast := some s.now })).fireVector g.vector
  else s.setPage n (p.setRing r { g with irqPend := pend })

/-- A write that has waited is handed to the engine again; a record that goes out signals its ring (R337). -/
def State.repost (s : State) (p : Post) : State :=
  let t := s.post p
  if ¬ s.goes p then t
  else match p.kind with
    | .completion => t.signal p.page 4 (p.series = 4)
    | .event => t.signal p.page 5 ([7, 6, 9].contains (byteAt p.bytes 12))
    | _ => t

/-- The waiting writes are issued, in their order, as far as entries, slot and budget allow (R37, R350). -/
def State.release (s : State) : State := if s.waitbox = [] then s else s.waitbox.foldl State.repost { s with waitbox := [] }

/-! ### Event records -/

/-- The severity of a class (Table 8 of R325): its own number, 6 for CREVASSE. -/
def severityOf (cls : Nat) : Nat := if cls = 9 then 6 else cls

/-- Reserved classes (R440): TRIP, ALARM, AUDIT, COUNT and CREVASSE. -/
def reservedClass (cls : Nat) : Bool := cls = 7 || cls = 6 || cls = 3 || cls = 8 || cls = 9

/-- The 32 bytes of an event record (Table 8 of R325). -/
def ERec.bytes (e : ERec) (phase : Nat) : List Byte :=
  leBytes 4 e.seq ++ leBytes 8 e.time ++ leBytes 1 e.cls ++ leBytes 1 (e.sev + 128 * phase) ++ leBytes 2 e.src ++
    leBytes 2 e.code ++ leBytes 2 (holdAt 0xFFFF e.rep) ++ fitTo 12 e.data

/-- An event record written into the next slot of a tenant's enabled event ring. -/
def State.postEvent (s : State) (n : Nat) (e : ERec) : State :=
  let p := s.page n
  let g := p.ring 5
  let w : Post := { kind := .event, page := n, ring := 5, addr := g.base + 32 * (g.wr % g.size), bytes := e.bytes (g.phase g.wr), seq := e.seq }
  let t := (s.post w).setPage n ({ p with evWritten := p.evWritten ++ [e.seq] }.setRing 5 { g with wr := g.wr + 1 })
  if s.goes w then t.signal n 5 (e.cls = 7 || e.cls = 6 || e.cls = 9) else t

/-- Shedding of a class on a path counted for a tenant (R446, R447). -/
def Page.shedOne (p : Page) (now : Time) (cls path : Nat) : Page :=
  let found := p.shed.any fun x => x.cls = cls ∧ x.path = path
  let list := if found then p.shed.map fun x =>
      if x.cls = cls ∧ x.path = path then
        { x with count := x.count + 1, last := now, first := if x.count = 0 then now else x.first, open_ := true }
      else x
    else p.shed ++ [{ cls := cls, path := path, count := 1, first := now, last := now, open_ := true }]
  { p with shed := list, shedTotal := Tab.set p.shedTotal 0 cls (Tab.get p.shedTotal 0 cls + 1) }

/-- Staged records written into free slots of the event ring, oldest first (R326); then the Crevasse of lost records
(R323). -/
def State.drainStaging (s : State) (n : Nat) : List ERec → State
  | [] =>
    let p := s.page n
    let g := p.ring 5
    match p.lostEv with
    | some (a, b) =>
      if g.enable ∧ 0 < g.free then
        let q := { p with lostEv := none, evSeq := (p.evSeq + 1) % 2 ^ 32 }
        (s.setPage n q).postEvent n
          { seq := p.evSeq, time := s.now, cls := 9, sev := 6, src := srcTenant n, code := 0x0011, rep := 1,
            data := leBytes 4 5 ++ leBytes 4 a ++ leBytes 4 b }
      else s
    | none => s
  | e :: rest =>
    let p := s.page n
    let g := p.ring 5
    if g.enable ∧ 0 < g.free then
      ((s.setPage n { p with staging := rest }).postEvent n e).drainStaging n rest
    else s

/-- A record of an event for one tenant: written, staged, lost or shed (R318, R323, R326, R446). -/
def State.recordEvent (s : State) (n cls sev src code rep : Nat) (time : Time) (data : List Byte) : State :=
  let p := s.page n
  let g := p.ring 5
  let rec_ : ERec := { seq := p.evSeq, time := time, cls := cls, sev := sev, src := src, code := code, rep := rep, data := data }
  let next := (p.evSeq + 1) % 2 ^ 32
  let room :=
    if ¬ g.enable then false
    else if cls = 1 ∨ cls = 2 then decide (2 * g.reserve < g.free)
    else if cls = 4 then decide (g.reserve < g.free)
    else decide (0 < g.free)
  if (cls = 1 ∨ cls = 2 ∨ cls = 4) ∧ s.sys.urgentBusy ≠ [] then s.setPage n (p.shedOne s.now cls 3)
  else if room && p.staging.isEmpty then (s.setPage n { p with evSeq := next }).postEvent n rec_
  else if reservedClass cls then
    if p.staging.length < 8 then s.setPage n { p with evSeq := next, staging := p.staging ++ [rec_] }
    else
      let bounds := match p.lostEv with
        | none => (rec_.seq, rec_.seq)
        | some (a, _) => (a, rec_.seq)
      s.setPage n { p with evSeq := next, lostEv := some bounds }
  else s.setPage n (p.shedOne s.now cls 2)

/-- A tenant's delivery queue: coalescing by source and code (R445), shedding by class (R446), then the record. -/
def State.deliver (s : State) (n cls src code : Nat) (data : List Byte) : State :=
  let p := s.page n
  let used := p.coal.length
  if cls = 7 ∨ cls = 3 ∨ cls = 8 ∨ cls = 9 then s.recordEvent n cls (severityOf cls) src code 1 s.now data
  else if p.coal.any fun c => c.src = src ∧ c.code = code then
    s.setPage n { p with coal := p.coal.map fun c =>
      if c.src = src ∧ c.code = code then { c with count := c.count + 1, data := data, time := s.now } else c }
  else
    let shedHere := ((cls = 1 ∨ cls = 2) ∧ 32 ≤ used) ∨ (cls = 4 ∧ 48 ≤ used) ∨ (cls = 5 ∧ 48 ≤ used)
    if shedHere then s.setPage n (p.shedOne s.now cls 1)
    else if 64 ≤ used then s.recordEvent n cls (severityOf cls) src code 1 s.now data
    else
      let win := if cls = 6 then 1000000 else p.coalWindow
      let c : Coal := { src := src, code := code, cls := cls, ends := s.now + win, count := 0, data := data, time := s.now }
      (s.setPage n { p with coal := p.coal ++ [c] }).recordEvent n cls (severityOf cls) src code 1 s.now data

/-- Regions of a partition: its own, and the next when bonded (R45). -/
def State.partRegions (s : State) (p : Nat) : List Nat := if (s.part p).bonded then [p, p + 1] else [p]

/-- The partitions a region owns or is bonded into (R34, R45). -/
def State.regionParts (s : State) (r : Nat) : List Nat :=
  (List.range 8).filter fun p => p = r ∨ (p + 1 = r ∧ (s.part p).bonded)

/-- Tenant n is routed an event of this source and class (Table 1 of R441); chanOwner names the owner of an auxiliary
channel or CAN controller. -/
def State.routed (s : State) (chanOwner : Option Nat) (n cls src : Nat) : Bool :=
  let t := s.tenant n
  let k := src / 0x1000
  let e := src % 0x1000
  if n = 0 then true
  else if cls = 3 then t.role = 4
  else if k = 2 ∨ k = 3 then
    let p := if k = 2 then e else (s.cell e).part
    (k = 2 ∨ (s.cell e).used) && (t.readParts.testBit p || decide ((s.lease p).holder = some n))
  else if k = 1 then (s.regionParts e).any fun p => t.readParts.testBit p
  else if k = 0 then decide (t.readParts ≠ 0)
  else if k = 4 ∨ k = 6 then decide (chanOwner = some n)
  else if k = 5 then decide (t.fabric ≠ 0)
  else decide (n = e)

/-- Tenant n takes events of this class (R441, R442): the bit of the class, and min_class for STATE, INFO and DEBUG. -/
def State.wants (s : State) (n cls : Nat) : Bool :=
  (n = 0 || (s.tenant n).telem.testBit (cls - 1)) &&
    (if cls = 1 ∨ cls = 2 ∨ cls = 4 then decide ((s.page n).minClass ≤ cls) else true)

/-- An event of class WARNING, ALARM or TRIP in the incident log (R448). -/
def State.logEvent (s : State) (cls src code : Nat) (data : List Byte) : State :=
  let e : ERec := { seq := s.tel.logSeq, time := s.now, cls := cls, sev := cls, src := src, code := code, rep := 1,
                    data := fitTo 12 data }
  let log := (s.tel.log ++ [e]).drop (s.tel.log.length + 1 - 1024)
  if 5 ≤ cls ∧ cls ≤ 7 then { s with tel := { s.tel with log := log, logSeq := (s.tel.logSeq + 1) % 2 ^ 32 } } else s

/-- A Moraine trigger of a partition (R377): cause 0 trip, 1 alarm, 2 Calving, 3 commanded. -/
def State.moraine (s : State) (p cause code : Nat) : State :=
  match Tab.get s.stor.bufs none p with
  | none => s
  | some b =>
    if b.pages = 0 ∨ ¬ b.trig.testBit cause then s
    else
      let b := match b.trigged with
        | none => { b with trigged := some (cause, code, s.now), rep := 1 }
        | some _ => { b with rep := holdAt 255 (b.rep + 1) }
      { s with stor := { s.stor with bufs := Tab.set s.stor.bufs none p (some b) } }

/-- An ALARM of a partition or of one of its lanes triggers the partition's capture (R376, R377). -/
def State.alarmTrigger (s : State) (cls src code : Nat) : State :=
  let e := src % 0x1000
  if cls ≠ 6 then s
  else if src / 0x1000 = 2 then s.moraine e 1 code
  else if src / 0x1000 = 3 ∧ (s.cell e).used then s.moraine (s.cell e).part 1 code
  else s

/-- An event raised: into the incident log from WARNING up (R448), then to every tenant routed it. -/
def State.emitTo (s : State) (chanOwner : Option Nat) (cls src code : Nat) (data : List Byte) : State :=
  let s := (s.logEvent cls src code data).alarmTrigger cls src code
  let who := ((Tab.keys s.tenants).filter fun n => (s.tenant n).active && s.routed chanOwner n cls src && s.wants n cls)
  who.foldl (fun s n => s.deliver n cls src code (fitTo 12 data)) s

/-- An event of a source whose owner is not a channel's. -/
def State.emit (s : State) (cls src code : Nat) (data : List Byte) : State := s.emitTo none cls src code data

def State.alarm (s : State) (src code : Nat) (data : List Byte) : State := s.emit 6 src code data
def State.warn (s : State) (src code : Nat) (data : List Byte) : State := s.emit 5 src code data
def State.inform (s : State) (src code : Nat) (data : List Byte) : State := s.emit 4 src code data

/-! ### Completion records -/

/-- The 16 bytes of a completion record (Table 7 of R324). -/
def CRec.bytes (c : CRec) (phase : Nat) : List Byte :=
  leBytes 4 c.seq ++ leBytes 2 c.status ++ leBytes 1 c.op ++ leBytes 1 (c.flags % 16 + 16 * c.series + 128 * phase) ++
    fitTo 8 c.result

/-- A completion record written to the completion ring, or held while it is disabled (R318, R324). -/
def State.postCompletion (s : State) (n : Nat) (c : CRec) : State :=
  let p := s.page n
  let g := p.ring 4
  if g.enable then
    let w : Post := { kind := .completion, page := n, ring := 4, addr := g.base + 16 * (g.wr % g.size),
                      bytes := c.bytes (g.phase g.wr), series := c.series, seq := c.seq }
    let t := (s.post w).setPage n ({ p with retained := p.retained ++ [c] }.setRing 4 { g with wr := g.wr + 1 })
    if s.goes w then t.signal n 4 (c.series = 4) else t
  else s.setPage n { p with held := p.held ++ [c] }

/-- The completion window's count (R324). -/
def Page.window (p : Page) : Nat := p.acc.length + p.retained.length + p.held.length + p.lost.length

/-- The entry of an accepted descriptor. -/
def Page.find (p : Page) (series seq : Nat) : Option Acc := p.acc.find? fun a => a.series = series ∧ a.seq = seq

/-- The accepted descriptors without one entry. -/
def Page.remove (p : Page) (series seq : Nat) : Page :=
  { p with acc := p.acc.filter fun a => ¬ (a.series = series ∧ a.seq = seq) }

/-- The rest of a broken chain of a series (R320): the entries that follow, up to the first with `CHAIN` clear, leave the
list; the flag tells whether the chain goes on past the last accepted entry. -/
def chainRest (series : Nat) : Bool → List Acc → List Acc × List Acc × Bool
  | dead, [] => ([], [], dead)
  | dead, a :: r =>
    if dead ∧ a.series = series ∧ ¬ a.started then
      let x := chainRest series (a.flags.testBit 3) r
      (x.1, a :: x.2.1, x.2.2)
    else
      let x := chainRest series dead r
      (a :: x.1, x.2.1, x.2.2)

/-- The entries after a descriptor of a series, in order of acceptance. -/
def afterEntry (series seq : Nat) : List Acc → List Acc × List Acc
  | [] => ([], [])
  | a :: r =>
    if a.series = series ∧ a.seq = seq then ([a], r)
    else let x := afterEntry series seq r; (a :: x.1, x.2)

/-- A record with no result for an entry. -/
def Acc.record (a : Acc) (status : Nat) (result : List Byte) : CRec :=
  { seq := a.seq, status := status, op := a.op, flags := a.flags % 16, series := a.series, result := result }

/-- The urgent commit of a descriptor is no longer in service (R329). -/
def State.urgentDone (s : State) (n series seq : Nat) : State :=
  if series = 4 then { s with sys := { s.sys with urgentBusy := s.sys.urgentBusy.filter fun x => x ≠ (n, seq) } } else s

/-- Of a tenant whose descriptors are gone no urgent commit is in service (R329) and no write waits. -/
def State.urgentDrop (s : State) (n : Nat) : State :=
  { s with waitbox := s.waitbox.filter (fun p => p.page ≠ n ∨ p.kind = .msi), sys := { s.sys with urgentBusy := s.sys.urgentBusy.filter fun x => x.1 ≠ n } }

/-- `FENCE` opcodes at the head of the list have every earlier descriptor completed, and complete (R333), those without a record from
their acceptance with one (R320). -/
def State.fencesDone (s : State) (n : Nat) : List Acc → State
  | [] => s
  | a :: r =>
    if a.op = 0x02 ∧ a.started then
      let t := s.setPage n ((s.page n).remove a.series a.seq)
      (if a.early then t else t.postCompletion n (a.record 0 [])).fencesDone n r
    else s

/-- An accepted descriptor's work ends with a status (R320, R324): its record, or `DEFERRED_FAIL` where it was completed on
acceptance; a chain it belongs to ends where it did not complete with `OK`. -/
def State.finish (s : State) (n series seq status : Nat) (result : List Byte) : State :=
  let p := s.page n
  match p.find series seq with
  | none => s
  | some a =>
    let parts := afterEntry series seq p.acc
    let ends := decide (status ≠ 0) && a.flags.testBit 3
    let rest := chainRest series ends parts.2
    let p := { p with acc := (parts.1.filter fun x => ¬ (x.series = series ∧ x.seq = seq)) ++ rest.1
                      chainDead := if rest.2.2 then series :: p.chainDead else p.chainDead }
    let s := s.setPage n p
    let s :=
      if a.early then
        if status = 0 then s
        else s.alarm (srcTenant n) 0x0012 (leBytes 4 seq ++ leBytes 1 series ++ leBytes 2 status)
      else s.postCompletion n (a.record status result)
    let s := rest.2.1.foldl (fun s x => s.postCompletion n (x.record 1 [])) s
    let s := s.urgentDone n series seq
    s.fencesDone n (s.page n).acc

/-- An entry of the accepted list changed. -/
def Page.change (p : Page) (series seq : Nat) (f : Acc → Acc) : Page :=
  { p with acc := p.acc.map fun a => if a.series = series ∧ a.seq = seq then f a else a }

/-! ### Firn records -/

/-- Bytes of a Firn record (R372). -/
def FirnRec.size (r : FirnRec) : Nat := 24 + r.body.length

/-- Bytes staged and not committed (R371). -/
def Stor.pendBytes (x : Stor) : Nat := (x.pend.map FirnRec.size).foldl (· + ·) 0

/-- A record can be staged: the medium is there and FIRN is not read-only. -/
def Stor.keeps (x : Stor) : Bool := 2 ≤ x.state && !x.firnRo

/-- Records are created: not once a power failure or freeze has been recognised (R381, R450). -/
def State.staging (s : State) : Bool := s.power ≠ .pfail && s.power ≠ .entering && s.power ≠ .frozen

/-- One record staged (R371, R372); without a medium, or with FIRN read-only, nothing is staged. -/
def State.stageRec (s : State) (kind keyA keyB keyC tenant : Nat) (body : List Byte) : State :=
  if s.stor.keeps ∧ s.staging then
    let q := s.stor.nextSeq + 1
    { s with stor := { s.stor with
        nextSeq := q
        pend := s.stor.pend ++ [{ seq := q, kind := kind, stepping := 0xB1, keyA := keyA, keyB := keyB, keyC := keyC,
                                  tenant := tenant, body := body }] } }
  else s

/-- A device-state record (kind 3, R372). -/
def State.stageDevice (s : State) (kind key : Nat) (body : List Byte) : State := s.stageRec 3 kind 0xFFFF key 0xFFFF body

/-- A sensor's failed mark set or cleared, with its device-state record (R303, R370). -/
def State.markSensor (s : State) (k : Nat) (failed : Bool) : State :=
  let x := s.sensor k
  let s := s.setSensor k { x with failed := failed, suspect := false, susp := 0 }
  if x.failed = failed ∨ k < 1000 then s else s.stageDevice 2 k (leBytes 1 (if failed then 1 else 0))

/-! ### Audit entries -/

/-- Bytes 0 to 63 of an audit entry (R357). -/
def auditHead (num t tenant op target status : Nat) (detail : List Byte) : List Byte :=
  leBytes 8 num ++ leBytes 8 t ++ leBytes 2 tenant ++ leBytes 2 op ++ leBytes 2 target ++ leBytes 2 status ++ fitTo 40 detail

/-- One audit entry appended to the chain and staged (R357, R379), with its AUDIT event to T0 and the AUDITORs. -/
def State.audit (s : State) (tenant op target status : Nat) (detail : List Byte) : State :=
  let num := s.sec.auditNum
  let body := auditHead num s.now tenant op target status detail
  let h := Config.sha384 (s.sec.auditHead ++ body)
  let e : Audit := { num := num, time := s.now, tenant := tenant, op := op, target := target, status := status,
                     detail := fitTo 40 detail, chain := h }
  let s := { s with sec := { s.sec with
      auditNum := num + 1, auditHead := h, staged := s.sec.staged ++ [e], sinceCheck := s.sec.sinceCheck + 1
      oldestStaged := if s.sec.staged.isEmpty then s.now else s.sec.oldestStaged } }
  s.emit 3 (if tenant < 1024 then srcTenant tenant else srcChip) (Config.auditCode op) []

/-- A completion with `REJECTED_RIGHTS` audited: identical refusals of one tenant within 1 s are combined (R357). -/
def State.auditRefusal (s : State) (tenant op target : Nat) : State :=
  let same := fun (r : Denial) => decide (r.tenant = tenant ∧ r.op = op ∧ r.target = target)
  match s.sec.refusals.find? same with
  | some r =>
    let young := decide (s.now < r.began + 1000000000)
    let next := s.sec.refusals.map fun x =>
      if same x then (if young then { x with count := x.count + 1 } else { x with began := s.now, count := 0 }) else x
    let s := { s with sec := { s.sec with refusals := next } }
    if young then s else s.audit tenant op target 0x0005 (leBytes 4 (r.count + 1))
  | none =>
    let r : Denial := { tenant := tenant, op := op, target := target, began := s.now, count := 0 }
    let s := { s with sec := { s.sec with refusals := s.sec.refusals ++ [r] } }
    s.audit tenant op target 0x0005 (leBytes 4 1)

end Sys2Proof.Machine
end

