-- ==== Sys2Proof/Machine/Fields.lean ====
section
/-!
DEFINITION. Payload layouts as data (the parameter tables of the chapters): where a field stands, its type, its range and
its default, with the generic checks of R6 and R13 and the reading of stored parameters (R505: a field not given is taken
at its default).
-/
namespace Sys2Proof.Machine
open Sys2Proof

/-- Types of payload fields. -/
inductive FTy where
  | u8 | u16 | u32 | u64 | f32 | s8 | s16 | s32
deriving DecidableEq, Repr

/-- Ranges of payload fields. -/
inductive Rng where
  /-- every value -/
  | any
  /-- lo to hi -/
  | nat (lo hi : Nat)
  /-- the codes listed; another code is reserved (R13) -/
  | oneOf (l : List Nat)
  /-- bits outside the mask are reserved bits (R13) -/
  | mask (m : Nat)
  /-- lo or more, and bits outside the mask are reserved bits (R13) -/
  | bits (lo m : Nat)
  /-- a binary32 from lo to hi -/
  | q (lo hi : Q)
  /-- 0, or a binary32 from lo to hi -/
  | zq (lo hi : Q)
  /-- a binary32 greater than lo -/
  | over (lo : Q)
  /-- a binary32 of lo or more -/
  | atLeast (lo : Q)
  /-- lo to hi, two's complement -/
  | int (lo hi : Int)
deriving DecidableEq, Repr

/-- One field of a payload layout. -/
structure Fld where
  off : Nat
  ty : FTy
  rng : Rng := .any
  dflt : Q := 0
deriving DecidableEq, Repr

/-- Bytes of a field. -/
def FTy.size : FTy → Nat
  | .u8 => 1 | .s8 => 1 | .u16 => 2 | .s16 => 2 | .u32 => 4 | .s32 => 4 | .f32 => 4 | .u64 => 8

/-- The raw number of a field in a descriptor's bytes 16 to 63. -/
def Fld.raw (f : Fld) (payload : List Byte) : Nat := leNat payload (f.off - 16) f.ty.size

/-- The value of a field; 0 for a code that is no number (such a descriptor is refused, R6). -/
def Fld.value (f : Fld) (payload : List Byte) : Q :=
  let r := f.raw payload
  match f.ty with
  | .f32 => (f32 r).getD 0
  | .s8 => (signed 8 r : Q)
  | .s16 => (signed 16 r : Q)
  | .s32 => (signed 32 r : Q)
  | _ => (r : Q)

/-- The field lies within its range (R6, R13); a bound stands for the binary32 nearest to it (log entry 12). -/
def Fld.inRange (f : Fld) (payload : List Byte) : Bool :=
  let r := f.raw payload
  match f.rng with
  | .any => f.ty ≠ .f32 || (f32 r).isSome
  | .nat lo hi => decide (lo ≤ r ∧ r ≤ hi)
  | .oneOf l => l.contains r
  | .mask _ => true
  | .bits lo _ => decide (lo ≤ r)
  | .q lo hi => match f32 r with | some v => decide (f32Near lo ≤ v ∧ v ≤ f32Near hi) | none => false
  | .zq lo hi => match f32 r with | some v => decide (v = 0 ∨ (f32Near lo ≤ v ∧ v ≤ f32Near hi)) | none => false
  | .over lo => match f32 r with | some v => decide (lo < v) | none => false
  | .atLeast lo => match f32 r with | some v => decide (lo ≤ v) | none => false
  | .int lo hi => decide ((lo : Q) ≤ f.value payload ∧ f.value payload ≤ (hi : Q))

/-- No reserved bit of the field is set (R13). -/
def Fld.bitsClear (f : Fld) (payload : List Byte) : Bool :=
  match f.rng with
  | .mask m => f.raw payload &&& (2 ^ (8 * f.ty.size) - 1 - m) = 0
  | .bits _ m => f.raw payload &&& (2 ^ (8 * f.ty.size) - 1 - m) = 0
  | _ => true

/-- A byte of the payload that a field covers. -/
def Fld.covers (f : Fld) (k : Nat) : Bool := f.off ≤ k + 16 && k + 16 < f.off + f.ty.size

/-- Bytes 16 to 63 that no field of the layout covers are 0, and so are reserved bits (R13). -/
def reservedClear (lay : List Fld) (payload : List Byte) : Bool :=
  ((List.range 48).all fun k => (lay.any fun f => f.covers k) || byteAt payload k = 0) &&
    lay.all fun f => f.bitsClear payload

/-- Every field of the layout lies in its range. -/
def rangesOk (lay : List Fld) (payload : List Byte) : Bool := lay.all fun f => f.inRange payload

end Sys2Proof.Machine
namespace Sys2Proof

/-- Fields of a descriptor's payload, at the offsets the layout tables give. -/
def Desc.u8 (d : Desc) (off : Nat) : Nat := Machine.leNat d.payload (off - 16) 1
def Desc.u16 (d : Desc) (off : Nat) : Nat := Machine.leNat d.payload (off - 16) 2
def Desc.u32 (d : Desc) (off : Nat) : Nat := Machine.leNat d.payload (off - 16) 4
def Desc.u64 (d : Desc) (off : Nat) : Nat := Machine.leNat d.payload (off - 16) 8
/-- A binary32 field; 0 for a code that is no number. -/
def Desc.f32 (d : Desc) (off : Nat) : Q := (Machine.f32 (d.u32 off)).getD 0

end Sys2Proof
namespace Sys2Proof.Machine
open Sys2Proof

/-- The key of a stored descriptor: opcode, target and key_c (R372). -/
def cfgKey (op target kc : Nat) : Nat := (op * 65536 + target) * 65536 + kc

/-- The stored bytes of a descriptor, none where none was given. -/
def State.stored (s : State) (op target kc : Nat) : Option (List Byte) :=
  let b := Tab.get s.cfg [] (cfgKey op target kc)
  if b = [] then none else some b

/-- Opcodes whose descriptors take effect at the next cycle (R67) or the next speed step (R120, R171), not at once. -/
def lagOps : List Nat := [0x16, 0x34, 0x56]

/-- The bytes in force of a descriptor: those before a change that has not taken effect yet, else the stored ones. -/
def State.inForce (s : State) (op target : Nat) : Option (List Byte) :=
  match s.lagged.find? fun e => e.1 = cfgKey op target 0 with
  | some e => if e.2 = [] then none else some e.2
  | none => s.stored op target 0

/-- The bytes in force are kept while a descriptor of `lagOps` is stored. -/
def State.lag (s : State) (op target : Nat) : State :=
  let key := cfgKey op target 0
  if !lagOps.contains op || s.lagged.any (fun e => e.1 = key) then s
  else { s with lagged := s.lagged ++ [(key, Tab.get s.cfg [] key)] }

/-- The stored bytes of these opcodes come into force for a target. -/
def State.settle (s : State) (ops : List Nat) (target : Nat) : State :=
  { s with lagged := s.lagged.filter fun e => !(ops.map fun op => cfgKey op target 0).contains e.1 }

/-- A descriptor has been given for this target. -/
def State.given (s : State) (op target kc : Nat) : Bool := (s.stored op target kc).isSome

/-- A layout's field at an offset. -/
def fieldAt (lay : List Fld) (off : Nat) : Fld := (lay.find? fun f => f.off = off).getD { off := off, ty := .u8 }

/-- A parameter of a layout from the stored bytes, at its default where not given. -/
def paramOf (lay : List Fld) (body : Option (List Byte)) (off : Nat) : Q :=
  let f := fieldAt lay off
  match body with
  | some b => f.value b
  | none => f.dflt

/-! Shorthands for the layout tables. -/

def fu8 (off lo hi : Nat) (dflt : Q := 0) : Fld := { off := off, ty := .u8, rng := .nat lo hi, dflt := dflt }
def fu16 (off lo hi : Nat) (dflt : Q := 0) : Fld := { off := off, ty := .u16, rng := .nat lo hi, dflt := dflt }
def fu32 (off lo hi : Nat) (dflt : Q := 0) : Fld := { off := off, ty := .u32, rng := .nat lo hi, dflt := dflt }
def fq (off : Nat) (lo hi : Q) (dflt : Q := 0) : Fld := { off := off, ty := .f32, rng := .q lo hi, dflt := dflt }
def fz (off : Nat) (lo hi : Q) (dflt : Q := 0) : Fld := { off := off, ty := .f32, rng := .zq lo hi, dflt := dflt }
def fover (off : Nat) (lo : Q) : Fld := { off := off, ty := .f32, rng := .over lo }
def fleast (off : Nat) (lo : Q) (dflt : Q := 0) : Fld := { off := off, ty := .f32, rng := .atLeast lo, dflt := dflt }
def fqs (off : Nat) (dflt : Q := 0) : Fld := { off := off, ty := .f32, rng := .any, dflt := dflt }
def fmask (off : Nat) (ty : FTy) (m : Nat) (dflt : Q := 0) : Fld := { off := off, ty := ty, rng := .mask m, dflt := dflt }
def fbits (off : Nat) (ty : FTy) (lo m : Nat) (dflt : Q := 0) : Fld := { off := off, ty := ty, rng := .bits lo m, dflt := dflt }
def fenum (off : Nat) (l : List Nat) (dflt : Q := 0) : Fld := { off := off, ty := .u8, rng := .oneOf l, dflt := dflt }

end Sys2Proof.Machine
end

