-- ==== Sys2Proof/Machine/Serve.lean ====
section
/-!
DEFINITION. How a host core takes a descriptor: its sequence (R322), cancels, fences and chains (R320, R330 to R333), the
order of checks of Table 6 (R321), roles and capabilities (R340, R342, R508), leases (R344), the start, the completion on
acceptance, the Firn record of a retained descriptor (R371) and the completion.
-/
namespace Sys2Proof.Machine
open Sys2Proof

/-- What the `target` field of an opcode may hold. -/
inductive Tgt where
  | none | part | partOrNone | region | lane | tenant | motor | switch | channel | can | section_ | port | node | group | sag | any | tenantOrNone
  | upTo (n : Nat)
deriving DecidableEq, Repr

def Tgt.ok : Tgt → Nat → Bool
  | .none, n => n = 0xFFFF
  | .part, n => n < 8
  | .partOrNone, n => n < 8 || n = 0xFFFF
  | .region, n => n < 8
  | .lane, n => n < 1024
  | .tenant, n => n < 1024
  | .motor, n => n < 16
  | .switch, n => 0x20 ≤ n && n < 0x40
  | .channel, n => n < 16 || (0x20 ≤ n && n < 0x40)
  | .can, n => n < 4
  | .section_, n => n < 8
  | .port, n => n < 8
  | .node, n => n < 1024
  | .group, n => n < 8
  | .sag, n => 0x40 ≤ n && n < 0x60
  | .any, _ => true
  | .tenantOrNone, n => n < 1024 || n = 0xFFFF
  | .upTo m, n => n < m

/-- Who may send an opcode (Table 1 of R340, R508). -/
inductive Need where
  /-- every role -/
  | all
  /-- T0 -/
  | owner
  /-- OWNER, OPERATOR, MAINTAINER -/
  | users
  /-- command capability of the target partition -/
  | part
  /-- read capability of the target partition -/
  | read
  /-- the auxiliary channel named by the target -/
  | aux
  /-- the CAN controller named by the target -/
  | can
  /-- the fabric class bit k -/
  | fabric (k : Nat)
  /-- any fabric class bit -/
  | anyFabric
  /-- an acquire of a lease -/
  | leaseTake
  /-- a release or transfer -/
  | leaseHold
  /-- a query -/
  | leaseAsk
  /-- T0 or an AUDITOR -/
  | auditor
  /-- itself, or any for an AUDITOR -/
  | ownStatus
  /-- read capability of the target partition and telemetry of the class in byte 17 -/
  | telem
  /-- any read capability -/
  | anyRead
  /-- the named tenant itself (SEC_CTRL consent) -/
  | self
deriving DecidableEq, Repr

/-- What the chapters fix about an opcode. -/
structure OpInfo where
  op : Nat
  tgt : Tgt
  need : Need
  lease : Bool := false
  urgent : Bool := false
  /-- retained (Table 3 of R370) -/
  kept : Bool := false
  /-- it returns a result, so `COMPLETE_ON_ACCEPT` has no effect on it (R320) -/
  gives : Bool := false
  /-- a configuration descriptor, refused for the partner of a bonded partition (R45) -/
  conf : Bool := false
  /-- an audit entry is appended (R357) -/
  audit : Bool := false
  states : Option (List PState) := .none
  lay : List Fld := []
deriving DecidableEq, Repr

/-- What a descriptor's own work answers. -/
structure Reply where
  st : State
  status : Nat := 0
  result : List Byte := []
  await : Option Await := .none
  /-- bytes written to the host buffer -/
  write : Option (List Byte) := .none
  /-- key_c of the Firn record (Table 4 of R372) -/
  keyC : Nat := 0
  /-- it waits at the lease core, not started -/
  queued : Bool := false
  /-- it has staged its own Firn record -/
  ownRec : Bool := false
  /-- its completion is already made or arranged -/
  handled : Bool := false
  /-- its tracker is full: it waits, accepted and not started (R37) -/
  waits : Bool := false

/-- A refusal: no side effect. -/
def Reply.no (s : State) (status : Nat) : Reply := { st := s, status := status }

/-- Opcodes that a MAINTAINER may not send (Table 1 of R340). -/
def maintainerBarred : List Nat := [0x17, 0x18, 0x38, 0x40, 0x47, 0x4A, 0x67, 0x74, 0x76]

/-- Commands of a partition, channel, controller or class are open to the role (Table 1 of R340). -/
def commands (role op : Nat) : Bool := role = 1 || (role = 3 && !maintainerBarred.contains op)

/-- The bit of a channel code in the auxiliary capability: M0 to M15 bits 0 to 15, S0 to S31 bits 16 to 47 (R342). -/
def auxBit (chan : Nat) : Nat := if chan < 16 then chan else chan - 0x20 + 16

/-- Step 5 of Table 6: role and capability. -/
def State.rightOk (s : State) (i : OpInfo) (d : Desc) : Bool :=
  let n := d.page
  let t := s.tenant n
  let reads := t.role = 1 || t.role = 2 || t.role = 3
  if n = 0 then true
  else match i.need with
    | .all => true
    | .owner => false
    | .users => t.role = 1 || t.role = 3
    | .part => commands t.role i.op && t.cmdParts.testBit d.target
    | .read => reads && t.readParts.testBit d.target
    | .aux => commands t.role i.op && t.aux.testBit (auxBit d.target)
    | .can => commands t.role i.op && t.can.testBit d.target
    | .fabric k => commands t.role i.op && t.fabric.testBit k
    | .anyFabric => commands t.role i.op && t.fabric ≠ 0
    | .leaseTake => t.role = 1 || t.role = 3
    | .leaseHold => t.role = 1 || t.role = 3
    | .leaseAsk => t.role ≠ 4
    | .auditor => t.role = 4
    | .ownStatus => t.role = 4 || d.target = n
    | .telem => reads && t.readParts.testBit d.target && t.telem.testBit (d.u8 17 - 1)
    | .anyRead => reads && t.readParts ≠ 0
    | .self => d.target = 0xFFFF || d.target = n

/-- A partition lives in a fenced region (R34). -/
def State.fencedPart (s : State) (p : Nat) : Bool := (s.partRegions p).any fun r => (s.region r).fenced

/-- A partition is the partner of a bonded one (R45). -/
def State.bondPartner (s : State) (p : Nat) : Bool := 0 < p && (s.part (p - 1)).bonded

/-- The target's region is fenced (R34). -/
def State.targetFenced (s : State) (i : OpInfo) (n : Nat) : Bool :=
  match i.tgt with
  | .part => s.fencedPart n
  | .partOrNone => n < 8 && s.fencedPart n
  | .lane => (s.region (n / 128)).fenced
  | .motor => (s.region (n / 2)).fenced
  | .switch => (s.region ((n - 0x20) / 4)).fenced
  | .channel => if n < 16 then (s.region (n / 2)).fenced else (s.region ((n - 0x20) / 4)).fenced
  | .sag => (s.region ((n - 0x40) / 4)).fenced
  | .region => (s.region n).fenced
  | _ => false

/-- A host buffer of the given length that does not lie wholly within the tenant's window (R343). -/
def outside (t : Tenant) (buffer : Nat) : Option Nat → Bool
  | some n => decide (t.winLen < buffer + n)
  | none => false

/-- The opcode is not allowed in the target partition's state. -/
def stateBarred (i : OpInfo) (st : PState) : Bool :=
  match i.states with
  | some l => !l.contains st
  | none => false

/-- Steps 2 to 9 of Table 6 up to the ranges, in order: the status of the first check that fails, 0 when all pass. The
length of the host buffer that the opcode names is given, if it names one. -/
def State.checks (s : State) (i : OpInfo) (d : Desc) (buf : Option Nat) : Nat :=
  let l := s.lease d.target
  if d.tenant ≠ d.page then 0x0005
  else if i.op ≥ 0xF0 ∧ (s.sec.certified ∨ d.page ≠ 0 ∨ ¬ s.sys.tapOpen) then 0x0009
  else if d.flags ≥ 16 ∨ ¬ reservedClear i.lay d.payload then 0x0009
  else if d.flags.testBit 1 ≠ decide (d.series = 4) then 0x0003
  else if d.series = 4 ∧ ¬ i.urgent then 0x000B
  else if (d.series = 4 ∧ (d.flags.testBit 0 ∨ d.flags.testBit 3)) ∨ ¬ i.tgt.ok d.target then 0x0003
  else if ¬ s.rightOk i d then 0x0005
  else if i.lease ∧ l.holder ≠ some d.page then 0x0002
  else if i.lease ∧ d.epoch ≠ l.epoch then 0x0007
  else if outside (s.tenant d.page) d.buffer buf then 0x0006
  else if s.targetFenced i d.target then 0x0004
  else if stateBarred i (s.part d.target).st then 0x0004
  else if ¬ rangesOk i.lay d.payload then 0x0003
  else if i.conf ∧ s.bondPartner d.target then 0x0100
  else 0

/-- S is newer than E in the series (R322). -/
def newer (sq e : Nat) : Bool :=
  let k := (sq + 2 ^ 32 - e % 2 ^ 32) % 2 ^ 32
  1 ≤ k && k < 2 ^ 31

/-- A Crevasse record for the sender and T0 (R322, R323, R441). -/
def State.crevasse (s : State) (n series first last : Nat) : State :=
  let data := leBytes 4 series ++ leBytes 4 first ++ leBytes 4 last
  let s := s.recordEvent n 9 6 (srcTenant n) 0x0011 1 s.now data
  if n = 0 then s else s.recordEvent 0 9 6 (srcTenant n) 0x0011 1 s.now data

/-- The greatest occupancy a tracker has had (R40): above 90 % of its entries a WARNING once a second. -/
def State.mark (s : State) (k entries used : Nat) : State :=
  let s := s.noteHigh k used
  let h := Tab.get s.tel.high 0 k
  let due := match Tab.get s.tel.highAt none k with
    | none => true
    | some t => decide (t + 1000000000 ≤ s.now)
  if due && decide (entries * 9 < h * 10) then
    ({ s with tel := { s.tel with highAt := Tab.set s.tel.highAt none k (some s.now) } }).warn srcChip 0x0B04 []
  else s

/-- Descriptors the chip has accepted and not completed (R37). -/
def State.descriptors (s : State) : Nat := (s.pages.map fun e => e.2.acc.length).foldl (· + ·) 0

/-- The record of a descriptor that is not accepted or ends at once. -/
def recordOf (d : Desc) (op status : Nat) : CRec :=
  { seq := d.seq, status := status, op := op, flags := d.flags % 16, series := d.series, result := [] }

/-- An instant is that of the round in hand (R331). -/
def State.thisRound (s : State) (t : Time) : Bool := decide (t % 2 ^ 64 = s.now)

def infoCancel : OpInfo :=
  { op := 0x01, tgt := .any, need := .all, urgent := true, gives := true, lay := [fu8 16 0 4, { off := 20, ty := .u32 }] }
def infoFence : OpInfo := { op := 0x02, tgt := .none, need := .all }
def layLease : List Fld := [fu8 16 0 4, { off := 17, ty := .u8 }, fu8 18 0 1, fu16 20 0 1023, fq 24 (1/1000) 60 1]
def infoLease (need : Need) (audit : Bool) : OpInfo :=
  { op := 0x03, tgt := .none, need := need, gives := true, audit := audit, lay := layLease }

/-- A `CANCEL` of the same round names the descriptor and will be taken: it is processed first (R331). -/
def State.cancelInRound (s : State) (d : Desc) : Bool :=
  s.pending.any fun i =>
    match i with
    | .cancel c => s.thisRound c.t && decide (c.page = d.page ∧ c.u8 16 = d.series ∧ c.u32 20 = d.seq) && decide (s.checks infoCancel c none = 0)
    | _ => false

/-- Step 1 of Table 6 and acceptance (R322, R324): the flag tells that the descriptor stands accepted and not started. -/
def State.accept (s : State) (op : Nat) (d : Desc) : State × Bool :=
  let p := s.page d.page
  match p.find d.series d.seq with
  | some a => (s, !a.started && !a.queued && a.op = op)
  | none =>
    let e := Tab.get p.expect 0 d.series
    if d.series < 4 ∧ (¬ (p.ring d.series).enable ∨ 12 ≤ p.window) then (s, false)
    else if 4 ≤ d.series ∧ 16 ≤ p.window then (s.setPage d.page { p with refused := p.refused ++ [d.seq] }, false)
    else if d.seq ≠ e ∧ ¬ newer d.seq e then (s.postCompletion d.page (recordOf d op 0x000A), false)
    else
      let s := if d.seq = e then s else s.crevasse d.page d.series e (d.seq - 1)
      let p := s.page d.page
      let crossing := s.cancelInRound d
      let named := crossing || p.pendCancel.contains (d.series, d.seq)
      let dead := p.chainDead.contains d.series
      let p := { p with
        expect := Tab.set p.expect 0 d.series ((d.seq + 1) % 2 ^ 32),
        crossed := if crossing then (d.series, d.seq) :: p.crossed else p.crossed,
        pendCancel := p.pendCancel.filter fun c => ¬ (c.1 = d.series ∧ ¬ newer c.2 d.seq),
        chainDead := if (named ∨ dead) ∧ ¬ d.flags.testBit 3 then p.chainDead.filter fun x => x ≠ d.series
                     else if named ∧ d.flags.testBit 3 then d.series :: p.chainDead else p.chainDead }
      if named ∨ dead then ((s.setPage d.page p).postCompletion d.page (recordOf d op 1), false)
      else
        let a : Acc := { series := d.series, seq := d.seq, op := op, flags := d.flags, target := d.target }
        let s := s.setPage d.page { p with acc := p.acc ++ [a] }
        (s.mark 1 16384 s.descriptors, true)

/-- The descriptors of its ring accepted before this one that have not completed. -/
def Page.earlier (p : Page) (series seq : Nat) : List Acc :=
  (afterEntry series seq p.acc).1.filter fun a => a.series = series ∧ a.seq ≠ seq

/-- The start of a descriptor is held back by its ring's order, a fence or a chain (R320, R330, R333). -/
def Page.heldBack (p : Page) (d : Desc) : Bool :=
  let e := p.earlier d.series d.seq
  d.series < 4 && (e.any (fun a => (!a.started && !a.queued) || a.flags.testBit 0 || a.flags.testBit 3 || a.op = 0x02) ||
    (d.flags.testBit 0 && !e.isEmpty))

/-- Entries of the accepted list change in place. -/
def State.changeAcc (s : State) (n series seq : Nat) (f : Acc → Acc) : State := s.setPage n ((s.page n).change series seq f)

/-- A buffer write issued for a descriptor (R317, R343). -/
def State.bufWrite (s : State) (d : Desc) (bs : List Byte) : State :=
  s.post { kind := .buffer, page := d.page, ring := d.series, addr := (s.tenant d.page).winBase + d.buffer, bytes := bs,
           series := d.series, seq := d.seq }

/-- A descriptor that has passed its checks is started and does its work. A retained one is in force from here on, before its
completion, which waits for the Firn commit (R371 against R120, log entry 145). -/
def State.perform (s : State) (i : OpInfo) (d : Desc) (eff : State → Reply) : State :=
  let r := eff s
  if r.status ≠ 0 then
    let s := if r.status = 0x0005 then r.st.auditRefusal d.page i.op d.target
      else if i.audit then r.st.audit d.page i.op d.target r.status [] else r.st
    s.finish d.page d.series d.seq r.status r.result
  else if r.waits then r.st
  else if r.queued then r.st.changeAcc d.page d.series d.seq fun a => { a with queued := true }
  else if r.handled then (if i.audit then r.st.audit d.page i.op d.target 0 [] else r.st)
  else
    let s := r.st.changeAcc d.page d.series d.seq fun a =>
      { a with started := true, applied := true, await := r.await.getD .own, result := r.result }
    let s := if i.audit then s.audit d.page i.op d.target 0 [] else s
    let s := if d.flags.testBit 2 ∧ ¬ i.gives then
        ((s.changeAcc d.page d.series d.seq fun a => { a with early := true }).postCompletion d.page (recordOf d i.op 0)).urgentDone
          d.page d.series d.seq
      else s
    let body := d.payload ++ d.host
    let s := if i.kept then s.lag i.op d.target else s
    let s := if i.kept ∧ ¬ r.ownRec then { s with cfg := Tab.set s.cfg [] (cfgKey i.op d.target r.keyC) body } else s
    let s := if i.kept ∧ ¬ r.ownRec then s.stageRec 1 i.op d.target r.keyC d.page body else s
    match r.write with
    | some bs => (s.bufWrite d bs).changeAcc d.page d.series d.seq fun a => { a with await := .dma }
    | none =>
      if r.await.isSome then s
      else if i.kept ∧ s.stor.keeps then
        s.changeAcc d.page d.series d.seq fun a => { a with await := .firn s.stor.nextSeq }
      else s.finish d.page d.series d.seq 0 r.result

/-- A host core serves a descriptor: the chip runs, the page's tenant is active (R319, R450, R478), and in certified mode its slot runs,
unless the descriptor is urgent (R30, R350). -/
def State.serving (s : State) (d : Desc) : Bool :=
  s.power = .running && (s.tenant d.page).active && (!s.sec.certified || decide (4 ≤ d.series) || decide (s.slotTenant = d.page))

/-- A host core takes a descriptor: it is accepted if it has not been, waits where its ring's order or a full staging area
holds it, is checked in the order of Table 6, and then does its work. -/
def serve (i : OpInfo) (d : Desc) (buf : Option Nat) (eff : State → Reply) (s : State) : State :=
  if ¬ s.serving d then s
  else
    let x := (s.at d.t).accept i.op d
    if ¬ x.2 then x.1
    else
      let s := x.1
      if (s.page d.page).heldBack d then s
      else
        let c := s.checks i d buf
        if c ≠ 0 then
          let s := if c = 0x0005 then s.auditRefusal d.page i.op d.target else s
          s.finish d.page d.series d.seq c []
        else if i.audit ∧ 256 ≤ s.sec.staged.length then s
        else if i.kept ∧ s.stor.firnRo then s.finish d.page d.series d.seq 0x0C01 []
        else if i.kept ∧ s.stor.keeps ∧ s.stor.pendLimit < s.stor.pendBytes + 24 + d.payload.length + d.host.length then s
        else if buf.isSome ∧ ¬ d.dmaOk then
          { s with sys := { s.sys with errDma := holdAt 255 (s.sys.errDma + 1) } }.finish d.page d.series d.seq 0x000D []
        else s.perform i d eff

/-- The meaning of a descriptor command. -/
def serveRes (i : OpInfo) (d : Desc) (buf : Option Nat) (eff : State → Reply) (s : State) : Res :=
  .next (serve i d buf eff s)

end Sys2Proof.Machine
end

