-- ==== Sys2Proof/Machine/LeaseOps.lean ====
section
/-!
DEFINITION. Leases (R344 to R347): grants and releases with their epochs, the waiting acquires and the lease core's scan of
them, and the completion of a lease operation.
-/
namespace Sys2Proof.Machine
open Sys2Proof

/-- The code of a partition state (Table 5 of R57). -/
def PState.code : PState → Nat
  | .unconfigured => 0 | .blocked => 1 | .precharge => 2 | .ready => 3 | .running => 4 | .braking => 5 | .tripped => 6
  | .safeOff => 7

/-- PRECHARGE to BRAKING (states 2 to 5). -/
def PState.energised : PState → Bool
  | .precharge => true | .ready => true | .running => true | .braking => true | _ => false

/-- The next lease epoch: 1 to 0xFFFF, then 1 again (R344). -/
def nextEpoch (e : Nat) : Nat := if e ≥ 0xFFFF then 1 else e + 1

/-- The holder of a lease changes: the epoch advances and its record is staged (R344). -/
def State.leaseTo (s : State) (p : Nat) (h : Option Nat) : State :=
  let l : Lease := { holder := h, epoch := nextEpoch (s.lease p).epoch }
  (s.setLease p l).stageDevice 5 p (leBytes 2 l.epoch)

/-- The mask of the partitions a tenant holds. -/
def State.heldMask (s : State) (n : Nat) : Nat :=
  maskOf ((List.range 8).filter fun p => decide ((s.lease p).holder = some n))

/-- The lease epochs of P0 to P7 and their holders: 32 bytes (R347). -/
def State.leaseBytes (s : State) : List Byte :=
  ((List.range 8).map fun p => leBytes 2 (s.lease p).epoch).flatten ++
    ((List.range 8).map fun p => leBytes 2 ((s.lease p).holder.getD 0xFFFF)).flatten

/-- States in which a MAINTAINER may acquire (Table 1 of R340). -/
def maintainerState : PState → Bool
  | .unconfigured => true | .blocked => true | .tripped => true | .safeOff => true | _ => false

/-- Every partition of a set is free for the tenant (R345, R346). -/
def State.leaseFree (s : State) (n set : Nat) : Bool :=
  (maskList 8 set).all fun p => (decide ((s.lease p).holder = none) || decide ((s.lease p).holder = some n)) && !s.reserved.testBit p

/-- A MAINTAINER's set lies in the permitted states; other roles are not bound (R345). -/
def State.leaseStates (s : State) (n set : Nat) : Bool :=
  (s.tenant n).role ≠ 3 || (maskList 8 set).all fun p => maintainerState (s.part p).st

/-- The set granted: partitions already held keep their epoch (R345). The mask that changed hands is the second part. -/
def State.grant (s : State) (n set : Nat) : State × Nat :=
  let newOnes := (maskList 8 set).filter fun p => !decide ((s.lease p).holder = some n)
  (newOnes.foldl (fun s p => s.leaseTo p (some n)) s, maskOf newOnes)

/-- The result of a lease operation: the mask held afterwards and the mask that changed hands (R347). -/
def State.leaseResult (s : State) (n changed : Nat) : List Byte := leBytes 1 (s.heldMask n) ++ leBytes 1 changed ++ zeros 6

/-- A lease operation of an accepted descriptor is decided: its completion follows the commit of the epochs it reports
(R344), and the buffer write where one is named (R347). -/
def State.leaseDone (s : State) (n series seq buffer changed : Nat) : State :=
  let result := s.leaseResult n changed
  let wr := if buffer = 0xFFFFFFFF then none else some ((s.tenant n).winBase + buffer, s.leaseBytes)
  if s.stor.keeps ∧ s.stor.pend ≠ [] then
    s.changeAcc n series seq fun a =>
      { a with started := true, applied := true, await := .firn s.stor.nextSeq, result := result, after := wr }
  else match wr with
    | some (addr, bs) =>
      (s.post { kind := .buffer, page := n, ring := series, addr := addr, bytes := bs, series := series, seq := seq }).changeAcc
        n series seq fun a => { a with started := true, applied := true, await := .dma, result := result }
    | none => s.finish n series seq 0 result

/-- The lease core scans its queue in order and grants each request whose whole set is free (R346). -/
def State.leaseScan (s : State) : List LeaseReq → State
  | [] => s
  | r :: rest =>
    if s.leaseFree r.tenant r.parts && s.leaseStates r.tenant r.parts then
      let s := { s with leaseQ := s.leaseQ.filter fun x => x ≠ r }
      let g := s.grant r.tenant r.parts
      ((g.1.leaseDone r.tenant r.series r.seq r.buffer g.2).audit r.tenant 0x03 0xFFFF 0 []).leaseScan rest
    else s.leaseScan rest

/-- The scan after a release, transfer, revoke, end of a reservation or change of a partition's state. -/
def State.scanLeases (s : State) : State := s.leaseScan s.leaseQ

/-- The leases of a set given up by their holder; the queue is scanned by the caller. -/
def State.leaseDrop (s : State) (set : List Nat) : State := set.foldl (fun s p => s.leaseTo p none) s

/-- A lease revoked, with the ALARM for T0 and the former holder (R345). -/
def State.leaseRevoke (s : State) (n : Nat) (set : List Nat) : State :=
  if set = [] then s
  else (s.leaseDrop set).alarm (srcTenant n) 0x0F09 (leBytes 1 (maskOf set) ++ leBytes 1 0 ++ leBytes 2 n)

def State.modOf (s : State) (p : Nat) : Mod := Tab.get s.mods {} p
def State.setMod (s : State) (p : Nat) (x : Mod) : State := { s with mods := Tab.set s.mods {} p x }

/-- Every carry of a partition returns to 0 (R83). -/
def State.clearCarry (s : State) (p : Nat) : State :=
  let s := s.setMod p { s.modOf p with carry := [], svmDuty := [], svmCarry := [] }
  { s with cells := s.cells.map fun e => if e.2.used && e.2.part = p then (e.1, { e.2 with carry := 0, due := 0 }) else e }

/-- A partition's state changes: a waiting request of a MAINTAINER is looked at again (R346), the operating curve starts in OFF where READY
is entered (R129), and every carry returns to 0 where RUNNING or READY is left (R83). -/
def State.setPState (s : State) (p : Nat) (x : PState) : State :=
  let was := (s.part p).st
  let s := if (was = .running ∨ was = .ready) ∧ x ≠ was then s.clearCarry p else s
  let s := s.setPart p { s.part p with st := x, phase := 0, stamp := s.now }
  let s := if x = .ready then { s with mot := Tab.set s.mot {} p { Tab.get s.mot {} p with curveOn := false } } else s
  if s.leaseQ.any fun r => (s.tenant r.tenant).role = 3 ∧ r.parts.testBit p then s.scanLeases else s

end Sys2Proof.Machine
end

