-- ==== Sys2Proof/Machine/PartParams.lean ====
section
/-!
DEFINITION. Parameters of partitions, cells, modulation, links and protection (R68, R69, R94, R247, R272): their layouts, and
what they read as where they have not been given.
-/
namespace Sys2Proof.Machine
open Sys2Proof

/-! ### Partitions (R68, R69) -/

def layPartConfig : List Fld :=
  [fenum 16 [1, 2, 3, 4, 5, 6], fu8 17 0 2, fu8 18 0 1, fu8 19 0 1, fq 20 50 60000, fq 24 1 10000, fu16 28 0 127]
def layArmConfig : List Fld :=
  [fenum 16 [0, 1, 2, 3, 4, 5, 6, 7, 8, 9, 10, 11, 15], fenum 17 [1, 2, 3, 4, 5, 6], fu16 18 1 256,
   { off := 20, ty := .u16 }, fq 24 10 6000, { off := 28, ty := .f32, rng := .over 0 },
   { off := 32, ty := .f32, rng := .atLeast 0 }]
def layLaneAssign : List Fld := [fu16 16 1 256]
def layPrecharge : List Fld :=
  [fq 16 (3/10) (95/100) (6/10), fq 20 (1/100) 1 (1/10), fq 24 (2/100) (25/100) (1/10), fq 28 1 600 30,
   fq 32 (3/10) (95/100) (8/10)]
def layPolicy : List Fld := [fu8 16 1 8 3, fu8 17 0 1 0, fq 20 (1/10) 60 10]
def layCellName : List Fld := [fenum 16 [0, 1, 2, 3, 4, 5, 6, 7, 8, 9, 10, 11, 15], { off := 17, ty := .u8 }]

def State.partByte (s : State) (p off : Nat) : Nat := ((s.stored 0x10 p 0).map fun b => byteAt b (off - 16)).getD 0
/-- Shape code of R41; 0 before `PART_CONFIG`. -/
def State.shape (s : State) (p : Nat) : Nat := s.partByte p 16
/-- The cell cycle in ns (R68, R72). -/
def State.cycleNs (s : State) (p : Nat) : Nat := if s.partByte p 17 = 1 then 5000 else if s.partByte p 17 = 2 then 20000 else 10000
def State.bondSet (s : State) (p : Nat) : Bool := s.partByte p 18 = 1
/-- +1 where U-V-W is forward rotation, −1 where U-W-V is (R68). -/
def State.forward (s : State) (p : Nat) : Q := if s.partByte p 19 = 0 then 1 else -1
def State.vdcNom (s : State) (p : Nat) : Q := paramOf layPartConfig (s.stored 0x10 p 0) 20
def State.iRated (s : State) (p : Nat) : Q := paramOf layPartConfig (s.stored 0x10 p 0) 24
def State.sdVdc (s : State) (p : Nat) : Nat := ((s.stored 0x10 p 0).map fun b => leNat b 12 2).getD 0

def State.armGiven (s : State) (p a : Nat) : Bool := s.given 0x11 p a
def State.armN (s : State) (p a off len : Nat) : Nat := ((s.stored 0x11 p a).map fun b => leNat b (off - 16) len).getD 0
/-- Cell type of an arm (R44). -/
def State.armType (s : State) (p a : Nat) : Nat := s.armN p a 17 1
/-- Configured cells N and redundancy r of an arm (R49). -/
def State.armCells (s : State) (p a : Nat) : Nat := s.armN p a 18 2
def State.armSpare (s : State) (p a : Nat) : Nat := s.armN p a 20 2
/-- The required count N − r (R49). -/
def State.required (s : State) (p a : Nat) : Nat := s.armCells p a - s.armSpare p a
def State.vCellNom (s : State) (p a : Nat) : Q := paramOf layArmConfig (s.stored 0x11 p a) 24
def State.cCell (s : State) (p a : Nat) : Q := paramOf layArmConfig (s.stored 0x11 p a) 28
def State.lArm (s : State) (p a : Nat) : Q := paramOf layArmConfig (s.stored 0x11 p a) 32

/-- Arm codes that have been configured. -/
def State.armsOf (s : State) (p : Nat) : List Nat := (List.range 16).filter fun a => s.armGiven p a
/-- The arms a shape lists (Table 1 of R41). -/
def shapeArms (shape : Nat) : List Nat :=
  if shape = 1 then [0, 1, 2, 3, 4, 5] else if shape = 2 then [0, 1, 2, 3, 4, 5, 6, 7, 8, 9, 10, 11]
  else if shape = 3 ∨ shape = 4 ∨ shape = 5 then [0, 2, 4] else []
/-- The cell types a shape accepts in its arms (Table 1 of R41). -/
def shapeTypes (shape : Nat) : List Nat :=
  if shape = 1 ∨ shape = 2 then [1, 2] else if shape = 3 then [3] else if shape = 4 then [4] else if shape = 5 then [6] else [5]
/-- Least and greatest cells per arm (Table 1 of R41). -/
def shapeRange (shape : Nat) : Nat × Nat :=
  if shape = 1 ∨ shape = 2 then (2, 256) else if shape = 5 then (1, 8) else (1, 256)
def isMmc (shape : Nat) : Bool := shape = 1 || shape = 2

/-- An entry of a lane map: lane, arm, position (Table 9 of R68). -/
structure MapEntry where
  lane : Nat
  arm : Nat
  pos : Nat
deriving DecidableEq, Repr

/-- The entries of `LANE_ASSIGN`'s buffer data. -/
def mapEntries (b : List Byte) (n : Nat) : List MapEntry :=
  (List.range n).map fun k => { lane := leNat b (4 * k) 2, arm := byteAt b (4 * k + 2), pos := byteAt b (4 * k + 3) }

/-- The stored lane map of a partition. -/
def State.laneMap (s : State) (p : Nat) : List MapEntry :=
  match s.stored 0x12 p 0 with
  | none => []
  | some b => mapEntries (b.drop 48) (leNat b 0 2)

def State.passiveLevel (s : State) (p : Nat) : Q := paramOf layPrecharge (s.stored 0x15 p 0) 16
def State.chargeRate (s : State) (p : Nat) : Q := paramOf layPrecharge (s.stored 0x15 p 0) 20
def State.qualBand (s : State) (p : Nat) : Q := paramOf layPrecharge (s.stored 0x15 p 0) 24
def State.prechargeTimeout (s : State) (p : Nat) : Q := paramOf layPrecharge (s.stored 0x15 p 0) 28
def State.readyFloor (s : State) (p : Nat) : Q := paramOf layPrecharge (s.stored 0x15 p 0) 32
def State.lossFrames (s : State) (p : Nat) : Nat := ((s.inForce 0x16 p).map fun b => byteAt b 0).getD 3
def State.autoAdmit (s : State) (p : Nat) : Bool := ((s.inForce 0x16 p).map fun b => byteAt b 1).getD 0 = 1
def State.readmitTimeout (s : State) (p : Nat) : Q := paramOf layPolicy (s.inForce 0x16 p) 20

/-! ### Modulation (R94) -/

def layMod : List Fld :=
  [fu8 16 0 3, fu8 17 0 1, fu16 18 2 400 40, fq 20 50 5000 600, fu16 24 0 10000 100, fq 28 0 (1/100000) 0,
   fq 32 (5/1000) (1/10) (2/100)]
def layEdge : List Fld := [fu16 16 50 2000 200, fu16 18 500 10000 1500]
def layBalance : List Fld := [fq 16 0 (1/10) (1/100), fu8 20 0 16 4, fu8 21 0 1 1]
def layCirc : List Fld :=
  [fq 16 0 100 1, fq 20 0 100000 200, fq 24 0 100000 500, fq 28 0 (1/2) (2/10), fq 32 0 20 0, fq 36 20 120 50,
   fq 40 0 (4/10) (25/100), fq 44 0 10 (1/10)]
/-- A field that names a sigma-delta input, 0 to 127 or 0xFF for none. -/
def fsd (off : Nat) : Fld := { off := off, ty := .u8, rng := .oneOf ((List.range 128) ++ [0xFF]), dflt := 0xFF }
def laySense : List Fld := ((List.range 13).map fun k => fsd (16 + k)) ++ [fmask 30 .u16 0x8FFF]
def layShare : List Fld := ((List.range 24).map fun k => fsd (16 + k)) ++ [fq 40 0 (1/100000000) (1/1000000000), fu16 44 0 1000 200]
def layModLimit : List Fld := [fq 16 (1/10) 1 1]

def State.modP (s : State) (p off : Nat) : Q := paramOf layMod (s.stored 0x20 p 0) off
def State.edgeP (s : State) (p off : Nat) : Q := paramOf layEdge (s.stored 0x21 p 0) off
def State.balP (s : State) (p off : Nat) : Q := paramOf layBalance (s.stored 0x22 p 0) off
def State.circP (s : State) (p off : Nat) : Q := paramOf layCirc (s.stored 0x23 p 0) off
def State.modLimit (s : State) (p : Nat) : Q := paramOf layModLimit (s.stored 0x26 p 0) 16
def State.senseByte (s : State) (p k : Nat) : Nat := ((s.stored 0x24 p 0).map fun b => byteAt b k).getD 0xFF
/-- The sigma-delta input of an arm (code 0xF: the chopper string); 0xFF where none is named. -/
def State.sdArm (s : State) (p a : Nat) : Nat := s.senseByte p (if a = 15 then 12 else a)
def State.polarity (s : State) (p a : Nat) : Q :=
  if ((s.stored 0x24 p 0).map fun b => leNat b 14 2).getD 0 |>.testBit a then -1 else 1
/-- The sigma-delta input of module m of leg 0 to 2 (TL, R90). -/
def State.sdModule (s : State) (p leg m : Nat) : Nat := ((s.stored 0x25 p 0).map fun b => byteAt b (8 * leg + m)).getD 0xFF
def State.shareP (s : State) (p off : Nat) : Q := paramOf layShare (s.stored 0x25 p 0) off

/-- t_stagger and t_min_pulse in ns (R87). -/
def State.tStagger (s : State) (p : Nat) : Nat := ((s.stored 0x21 p 0).map fun b => leNat b 0 2).getD 200
def State.tMinPulse (s : State) (p : Nat) : Nat := ((s.stored 0x21 p 0).map fun b => leNat b 2 2).getD 1500
def State.maxSwaps (s : State) (p : Nat) : Nat := ((s.stored 0x22 p 0).map fun b => byteAt b 4).getD 4
def State.predicts (s : State) (p : Nat) : Bool := ((s.stored 0x22 p 0).map fun b => byteAt b 5).getD 1 = 1

/-- The fraction of its carrier period by which a partition's carrier origin is shifted (R190). -/
def State.interleave (s : State) (p : Nat) : Q :=
  match s.stored 0x69 p 0 with
  | some b => (byteAt b 1 : Q) / (byteAt b 0 : Q)
  | none => 0

/-! ### Links (R272) -/

def layLink : List Fld := [fu8 16 1 4 2, fu16 18 10 1000 50, fu16 20 100 10000 1000, fq 24 (1/100) 1 (1/10)]
def State.linkHold (s : State) (p : Nat) : Nat := ((s.stored 0xD0 p 0).map fun b => byteAt b 0).getD 2
def State.retryMs (s : State) (p : Nat) : Nat := ((s.stored 0xD0 p 0).map fun b => leNat b 2 2).getD 50
def State.searchMs (s : State) (p : Nat) : Nat := ((s.stored 0xD0 p 0).map fun b => leNat b 4 2).getD 1000
def State.stTimeout (s : State) (p : Nat) : Q := paramOf layLink (s.stored 0xD0 p 0) 24

/-! ### Protection (R247) -/

def layProt : List Fld :=
  [fenum 16 [4, 8, 16, 32] 8, fu8 17 1 4 1, fq 20 (11/10) 4 2, fq 24 (114/100) (16/10) (13/10),
   fz 28 (1/10) (9/10) (1/2), fz 32 60 3000000]
def layTripLink : List Fld :=
  fu8 16 0 4 :: ((List.range 4).map fun k =>
    [({ off := 20 + 4 * k, ty := .u16, rng := .nat 0 0x3FF } : Fld), { off := 22 + 4 * k, ty := .u8 }, fmask (23 + 4 * k) .u8 3]).flatten
def laySelftest : List Fld := [fbits 16 .u8 1 3]
def layRecord : List Fld := [fu8 16 1 64]

def State.protP (s : State) (p off : Nat) : Q := paramOf layProt (s.stored 0x78 p 0) off
/-- A peer entry of `TRIP_LINK`: node, partition mask there, send, accept (R240). -/
structure Peer where
  node : Nat
  mask : Nat
  send : Bool
  accept : Bool
deriving DecidableEq, Repr
def State.peers (s : State) (p : Nat) : List Peer :=
  match s.stored 0x79 p 0 with
  | none => []
  | some b => (List.range (byteAt b 0)).map fun k =>
      { node := leNat b (4 + 4 * k) 2, mask := byteAt b (6 + 4 * k), send := (byteAt b (7 + 4 * k)).testBit 0,
        accept := (byteAt b (7 + 4 * k)).testBit 1 }

/-! ### Cells of an arm -/

/-- The lanes of a partition's cells, with the cells, in arm and position order. -/
def State.partCells (s : State) (p : Nat) : List (Nat × Cell) :=
  sortBy (fun e => e.2.arm * 256 + e.2.pos) (s.cells.filter fun e => e.2.used && e.2.part = p)
/-- The cells of one arm. -/
def State.cellsOf (s : State) (p a : Nat) : List (Nat × Cell) := (s.partCells p).filter fun e => e.2.arm = a
/-- Available cells of an arm (R49); in PRECHARGE those in QUALIFYING count as available. -/
def State.availCount (s : State) (p a : Nat) : Nat :=
  ((s.cellsOf p a).filter fun e =>
    e.2.st = .available || (e.2.st = .qualifying && (s.part p).st = .precharge)).length
/-- `limp_required` in force for a partition; 0 where none is set (R216). -/
def State.limp (s : State) (p : Nat) : Nat := ((s.stored 0x73 p 0).map fun b => leNat b 0 2).getD 0
/-- Arms that `LIMP` speaks of: A0 to A5 of an MMC shape, the strings of CHB and CHB-A. -/
def State.limpArm (s : State) (p a : Nat) : Bool := ((s.shape p = 1 || s.shape p = 2) && a < 6) || ((s.shape p = 3 || s.shape p = 4) && a < 6)
/-- The count below which an arm is exhausted: the required count, or `limp_required` (R49, R216). -/
def State.needed (s : State) (p a : Nat) : Nat := if s.limp p ≠ 0 ∧ s.limpArm p a then s.limp p else s.required p a
/-- An arm is exhausted (R49). -/
def State.exhausted (s : State) (p a : Nat) : Bool :=
  (s.part p).st.energised && s.availCount p a < s.needed p a
/-- Mean capacitor voltage of the cells in QUALIFYING and AVAILABLE (R60). -/
def State.armAverage (s : State) (p a : Nat) : Q :=
  let l := (s.cellsOf p a).filter fun e => e.2.st = .available || e.2.st = .qualifying
  if l = [] then 0 else sumQ (l.map fun e => e.2.vcap) / (l.length : Q)

/-- Lanes of a partition. -/
def State.lanesOf (s : State) (p : Nat) : List Nat := (s.partCells p).map Prod.fst

/-! ### Cell temperatures (R308, R311) -/

def layTherm : List Fld :=
  [fq 16 20 180 80, fq 20 20 180 90, fq 24 20 190 100, fq 28 1 20 3, fq 32 (1/10) 1 (1/2), fq 36 3 50 15, fq 40 (1/10) 60 5]
def State.thermP (s : State) (p off : Nat) : Q := paramOf layTherm (s.stored 0x58 p 0) off

/-- The status that keeps a cell from re-admission, 0 for none. -/
def State.cellHot (s : State) (l : Nat) : Nat :=
  let p := (s.cell l).part
  if [0, 1].any fun x => (s.sensor (cellSensor l x)).seen && decide (s.thermP p 16 - s.thermP p 28 < (s.sensor (cellSensor l x)).eff)
  then 0x0601 else 0

end Sys2Proof.Machine
end

