-- ==== Sys2Proof/Machine/AuxOps.lean ====
section
/-!
DEFINITION. Auxiliary channels: layouts of R297, what they read as, and the operations other chapters use: turning a switch
channel on and off (R208, R292), the off level of a region's channels (R276) and faults (R292).
-/
namespace Sys2Proof.Machine
open Sys2Proof

def layAuxMode : List Fld :=
  [fu8 16 0 2, fenum 17 [0, 1, 2, 3, 0xFF] 0xFF, fsd 18, fu8 19 0 1 1, fq 20 8000 100000 20000, fq 24 (1/1000) 10, fq 28 (1/10) 100,
   fq 32 5 400, fu16 36 0 2000 500]
def layBldc : List Fld :=
  [fu8 16 1 32, fu8 17 0 1, fu8 18 0 1, fu8 19 1 8 3, fq 20 (2/100) (1/2) (1/10), fq 24 (1/100) 5 (2/10), fq 28 1 500 20, fq 32 (1/10) 20 2,
   fq 36 (5/100) (8/10) (25/100), fq 40 (2/10000000) (2/100000) (2/1000000), fq 44 (2/10000000) (2/100000) (1/1000000),
   fq 48 0 (2/10) (5/100), fq 52 (2/10) (15/10) 1, fq 56 (102/100) (13/10) (11/10), fq 60 (1/10) 30 2]
def layBldcCurve : List Fld :=
  [fu8 16 0 1, fu8 17 0 127, fqs 20, fqs 24 1, fqs 28 (5/100), fqs 32 (3/100), fq 36 0 1000, fq 40 (1/10) 10000 50, fq 44 (1/10) 10000 50,
   fq 48 0 1 (1/100), fq 52 0 10 (5/100), fq 56 (1/100) 10 1]
def layStep : List Fld :=
  [fu8 16 0 8 5, fu8 17 0 1 1, fu8 18 0 1, fu8 19 0 16 4, fq 20 (2/1000000) (6/100000) (2/100000), fq 24 (2/10000000) (5/1000000) (1/1000000),
   fleast 28 (5/100), fq 32 (3/10) 1 (3/10), fq 36 10 2000 50, fq 40 (1/10000) 1, fq 44 (1/2) (15/10) (12/10), fq 48 (1/100) 10 (2/10),
   fq 52 1 5000 1000]
def layStepSource : List Fld :=
  [fu8 16 1 2, fu8 17 0x20 0x3F, fu8 18 0x20 0x3F, fu8 19 0 8, fu8 20 0 7, fq 24 (1/1000) (1/2), fq 28 10 1000000, fq 32 (-10) 10]
def laySwitch : List Fld :=
  [fq 16 0 2 (2/100), fleast 20 0, fleast 24 0, fq 28 (5/10000000) (2/100000) (2/1000000), fq 32 (1/100000) (1/1000) (1/10000),
   fq 36 0 5 (2/10), fq 40 (1/10) 1 1]
def laySag : List Fld := [fsd 16, fq 20 5 400, fq 24 (1/2) (95/100) (8/10), fq 28 (1/10000) (1/10) (1/1000)]
def layDiag : List Fld :=
  [fu8 16 0 3 1, fu8 17 0 1, fq 20 (5/1000) (127/100) (1/10), fq 24 (5/1000) (1275/1000) 1, fq 28 (1/10000) (1/100) (1/1000)]
def layRun : List Fld := [fu8 16 0 1]
def layAuxInput : List Fld := [fqs 16]

def State.auxP (s : State) (c off : Nat) : Q := paramOf layAuxMode (s.stored 0x80 c 0) off
def State.auxByte (s : State) (c off dflt : Nat) : Nat := ((s.stored 0x80 c 0).map fun b => byteAt b (off - 16)).getD dflt
/-- The mode of a channel; 0 off (R275). -/
def State.auxMode (s : State) (c : Nat) : Nat := s.auxByte c 16 0
def State.bldcP (s : State) (c off : Nat) : Q := paramOf layBldc (s.stored 0x81 c 0) off
def State.bldcByte (s : State) (c off dflt : Nat) : Nat := ((s.stored 0x81 c 0).map fun b => byteAt b (off - 16)).getD dflt
def State.bcurP (s : State) (c off : Nat) : Q := paramOf layBldcCurve (s.stored 0x82 c 0) off
def State.stepP (s : State) (c off : Nat) : Q := paramOf layStep (s.stored 0x83 c 0) off
def State.stepByte (s : State) (c off dflt : Nat) : Nat := ((s.stored 0x83 c 0).map fun b => byteAt b (off - 16)).getD dflt
def State.srcP (s : State) (c off : Nat) : Q := paramOf layStepSource (s.stored 0x84 c 0) off
def State.srcByte (s : State) (c off : Nat) : Nat := ((s.stored 0x84 c 0).map fun b => byteAt b (off - 16)).getD 0
def State.swP (s : State) (c off : Nat) : Q := paramOf laySwitch (s.stored 0x85 c 0) off
def State.diagP (s : State) (c off : Nat) : Q := paramOf layDiag (s.stored 0x87 c 0) off

def State.auxOf (s : State) (c : Nat) : Aux := Tab.get s.aux {} c
def State.setAux (s : State) (c : Nat) (x : Aux) : State := { s with aux := Tab.set s.aux {} c x }
def isMotor (c : Nat) : Bool := c < 16
/-- The region of a channel code (Table 1 of R274). -/
def auxRegion (c : Nat) : Nat := if c < 16 then c / 2 else (c - 0x20) / 4
/-- Every channel code. -/
def auxCodes : List Nat := List.range 16 ++ (List.range 32).map (· + 0x20)

/-- The index of a switch channel's sag group among all groups: 4 × region + group; none without one (R293). -/
def State.sagOf (s : State) (c : Nat) : Option Nat :=
  let g := s.auxByte c 17 0xFF
  if isMotor c ∨ g = 0xFF then none else some (4 * auxRegion c + g)
def State.sagActive (s : State) (c : Nat) : Bool := match s.sagOf c with
  | some k => s.sag.testBit k
  | none => false

/-- An event of an auxiliary channel, to its owner and T0 (R441). -/
def State.auxEmit (s : State) (c cls code : Nat) (data : List Byte) : State := s.emitTo (s.auxOf c).owner cls (srcAux c) code data

/-- A channel enters a state. -/
def State.auxGo (s : State) (c st : Nat) : State := s.setAux c { s.auxOf c with st := st, stAt := s.now }

/-- A channel's gates go off: any state but FAULT and a switch input becomes OFF. -/
def State.auxHalt (s : State) (c : Nat) : State :=
  let x := s.auxOf c
  let st := if x.st = 9 then 9 else if x.st = 4 ∧ ¬ isMotor c then 4 else 0
  s.setAux c { x with st := st, run := false, startWaits := false, duty := 0, nextComm := none, retryAt := none, waitSince := none,
                      coarse := [], timer := none, wakeAt := none, pauseAt := none, pulled := false, shorted := false, dThen := 0,
                      chopA := none, chopB := none }

/-- Every channel of a region at its off level (R276). -/
def State.auxRegionOff (s : State) (r : Nat) : State :=
  (auxCodes.filter fun c => auxRegion c = r).foldl (fun s c => s.auxHalt c) s

/-- Every channel of the chip at its off level (R36, R276, R451). -/
def State.auxAllOff (s : State) : State := auxCodes.foldl (fun s c => s.auxHalt c) s

/-- A fault latches on a channel: its gates go off, with the ALARM (R292, R295). -/
def State.auxFault (s : State) (c code : Nat) (data : List Byte) : State :=
  let s := s.auxHalt c
  let x := s.auxOf c
  (s.setAux c { x with st := 9, stAt := s.now, fault := code, passed := false }).auxEmit c 6 code data

/-- A comparator self-test of auxiliary channels covers this channel (R277). -/
def State.auxTested (s : State) (c : Nat) : Bool :=
  (List.range 8).any fun p => (s.partRegions p).contains (auxRegion c) &&
    (match (Tab.get s.prot {} p).testing with | some (_, _, _, scope) => scope.testBit 1 | none => false)

/-- A switch channel turns on: INRUSH with the gate at duty 1, after a self-test that covers it (R277, R292). -/
def State.switchOn (s : State) (c : Nat) : State :=
  let x := s.auxOf c
  if x.st = 9 ∨ x.st = 4 then s
  else if s.auxTested c then s.setAux c { x with startWaits := true }
  else s.setAux c { x with st := 2, stAt := s.now, onAt := s.now, paused := 0, pulled := false,
                           pauseAt := if s.sagActive c then some s.now else none }

/-- A switch channel turns off at once from any state, abandoning a check (R292). -/
def State.switchOff (s : State) (c : Nat) : State :=
  let x := s.auxOf c
  if x.st = 9 ∨ x.st = 4 then s else s.auxHalt c

/-- The brake channels S0 to S31 named by a partition's `EMERG_CONFIG` (R208). -/
def State.brakeCodes (s : State) (p : Nat) : List Nat :=
  match s.stored 0x71 p 0 with
  | none => []
  | some b => ((b.take 2).map fun x => x.toNat).filter (fun c => c ≠ 0xFF) |>.map (· + 0x20)

/-- A fault stands latched on a holding-brake channel of a partition (R275). -/
def State.brakeFaulted (s : State) (p : Nat) : Bool := (s.brakeCodes p).any fun c => (s.auxOf c).st = 9

end Sys2Proof.Machine
end

