-- ==== Sys2Proof/Machine/CanOps.lean ====
section
/-!
DEFINITION. CAN FD controllers (R412 to R424): parameters, reception into posted buffers, the transmit buffers and the error states.
-/
namespace Sys2Proof.Machine
open Sys2Proof

def layCan : List Fld :=
  [fu8 16 0 2, fu8 17 0 1, fu8 18 0 1, fu8 19 0 15, fu16 20 2 256 63, fu8 22 1 32 2, fu8 23 2 128 16, fu8 24 1 128 16, fu8 25 1 32 1, fu8 26 1 32 29,
   fu8 27 1 16 10, fu8 28 1 16 10, fu8 29 0 127 30, fu16 30 0 0x7FF 0x00F, fq 32 (1/10000) (1/10) (1/1000)]

def State.can (s : State) (c : Nat) : Can := Tab.get s.cans {} c
def State.setCan (s : State) (c : Nat) (x : Can) : State := { s with cans := Tab.set s.cans {} c x }
/-- A parameter of `CAN_CONFIG`. -/
def State.canP (s : State) (c off : Nat) : Q := paramOf layCan (s.stored 0xC0 c 0) off
def State.canN (s : State) (c off : Nat) : Nat := (s.canP c off).num.toNat
/-- An event of a controller goes to T0 and its owner (Table 1 of R441). -/
def State.canEmit (s : State) (c cls code : Nat) (data : List Byte) : State := s.emitTo (s.can c).owner cls (srcCan c) code data

/-- Identifiers from 0 to `stop_id_max` are stop identifiers; `stop_id_max` is a base identifier (R418). -/
def State.canStop (s : State) (c ident : Nat) : Bool := !ident.testBit 29 && decide (ident % 2 ^ 29 ≤ s.canN c 30)

/-! ### Reception (R414, R415) -/

/-- The active buffer completes with the frames written and the first of them; the shadow becomes active (R415). -/
def State.canRxDone (s : State) (c : Nat) : State :=
  match (s.can c).rx with
  | [] => s
  | b :: rest => (s.setCan c { s.can c with rx := rest }).finish b.page b.series b.seq 0 (leBytes 2 b.written ++ leBytes 2 b.firstSeq ++ zeros 4)

/-- A frame in order of reception: to the active buffer, else staged, else lost (R415). Its record carries `rx_seq` already. -/
def State.canDeliver (s : State) (c : Nat) (rec_ : List Byte) : State :=
  let x := s.can c
  match x.rx with
  | b :: rest =>
    let b' := { b with written := b.written + 1, firstSeq := if b.written = 0 then leNat rec_ 14 2 else b.firstSeq,
                       firstAt := if b.written = 0 then s.now else b.firstAt }
    let s := (s.setCan c { x with rx := b' :: rest }).post
      { kind := .buffer, page := b.page, ring := b.series, addr := (s.tenant b.page).winBase + b.buffer + 80 * b.written, bytes := fitTo 80 rec_,
        series := b.series, seq := b.seq }
    if b'.written = b.count ∨ s.canStop c (leNat rec_ 8 4) then s.canRxDone c else s
  | [] =>
    if x.stage.length < 64 then s.setCan c { x with stage := x.stage ++ [rec_] }
    else
      let due : Bool := match x.overAt with
        | some u => decide (u + 1000000000 ≤ s.now)
        | none => true
      let s := s.setCan c { x with overruns := holdAt 0xFFFF (x.overruns + 1), overAt := if due then some s.now else x.overAt }
      if due then s.canEmit c 6 0x0E06 [] else s

/-- The staged frames are written, in order, to the buffers posted. -/
def State.canDrain (s : State) (c : Nat) : State :=
  let l := (s.can c).stage
  l.foldl (fun (s : State) f => s.canDeliver c f) (s.setCan c { s.can c with stage := [] })

/-! ### Transmission (R416 to R419) -/

/-- The rank of a frame under `tx_order` 0: base part, base frame before extended, the rest of the identifier, buffer (R416). -/
def canRank (k : Nat) (frame : List Byte) : Nat :=
  let id := leNat frame 8 4
  let r := if id.testBit 29 then (id % 2 ^ 29 / 2 ^ 18) * 2 ^ 19 + 2 ^ 18 + id % 2 ^ 18 else (id % 2 ^ 11) * 2 ^ 19
  r * 4 + k

/-- The buffer sent at a start of frame, of those loaded by then (R416). -/
def State.canChoice (s : State) (c sof : Nat) : Option Nat :=
  let loaded := (List.range 3).filterMap fun k => match Tab.get (s.can c).tx none k with
    | some x => if x.loadedAt ≤ sof then some (k, x) else none
    | none => none
  if loaded.any fun e => e.1 = 2 then some 2
  else if s.canN c 18 = 1 then (loaded.head?).map fun e => e.1
  else ((sortBy (fun e : Nat × CanTx => canRank e.1 e.2.frame) loaded).head?).map fun e => e.1

/-- The buffer in transmission, given the start of frame of the attempt that runs, 0 for none. -/
def State.canFlying (s : State) (c sof : Nat) : Option Nat := if sof = 0 then none else s.canChoice c sof

/-- A buffer's frame ends with a status; a frame that waits to replace it is loaded (R418). -/
def State.canTxDone (s : State) (c k status : Nat) (result : List Byte) : State :=
  let x := s.can c
  match Tab.get x.tx none k with
  | none => s
  | some f =>
    let next := if k = 2 then x.next else none
    (s.setCan c { x with tx := Tab.set x.tx none k next, next := if k = 2 then none else x.next }).finish f.page f.series f.seq status result

/-- Every frame loaded or waiting ends with a status. -/
def State.canTxAll (s : State) (c status : Nat) : State :=
  [0, 1, 2, 2].foldl (fun (s : State) k => s.canTxDone c k status []) s

/-! ### Error states (R420) and mode 0 (R413) -/

/-- The error state that the counters give, with its events; bus-off ends the frame in transmission. -/
def State.canJudge (s : State) (c : Nat) (flying : Option Nat) : State :=
  let x := s.can c
  if 255 < x.tec ∧ x.err ≠ 2 then
    let s := s.setCan c { x with err := 2, busOffs := s.now :: x.busOffs.filter fun u => decide (s.now < u + 10000000000) }
    let s := match flying with
      | some k => s.canTxDone c k 0x0E03 []
      | none => s
    s.canEmit c 6 0x0E03 []
  else if x.err = 0 ∧ (127 < x.tec ∨ 127 < x.rec_) then (s.setCan c { x with err := 1 }).canEmit c 5 0x0E05 []
  else if x.err = 1 ∧ x.tec ≤ 127 ∧ x.rec_ ≤ 127 then s.setCan c { x with err := 0 }
  else s

/-- Mode 0: posted buffers complete, loaded frames and a rate search end, the controller has no owner (R413, R415). -/
def State.canOff (s : State) (c : Nat) : State :=
  let s := ((s.canRxDone c).canRxDone c).canTxAll c 0x0E08
  let s := match (s.can c).search with
    | some q => (s.setCan c { s.can c with search := none }).finish q.page q.series q.seq 0x0E08 []
    | none => s
  s.setCan c { s.can c with owner := none, mode := 0, tec := 0, rec_ := 0, err := 0, busOffs := [], holdUntil := none, stage := [] }

/-- Every controller goes to mode 0; its owner stays the owner of its configuration (R413). -/
def State.canAllOff (s : State) : State :=
  (List.range 4).foldl (fun (s : State) c =>
    let o := (s.can c).owner
    let s := s.canOff c
    s.setCan c { s.can c with owner := o }) s

/-- A tenant no longer owns its controllers (R413). -/
def State.canDropOwner (s : State) (n keep : Nat) : State :=
  (List.range 4).foldl (fun (s : State) c =>
    if (s.can c).owner = some n ∧ ¬ keep.testBit c then s.canOff c else s) s

end Sys2Proof.Machine
end

