-- ==== Sys2Proof/Machine/Routes.lean ====
section
/-!
DEFINITION. How a message leaves over the Fibaora fabric (R388 to R397): link state, routes in hops, frames with their header
and CRC-32, and what is kept until it is acknowledged. The codes of message types within a class and the layouts of their data are
the model's own: the spec gives none (log entry 31).
-/
namespace Sys2Proof.Machine
open Sys2Proof

/-- This chip's node number. -/
def State.node (s : State) : Nat := s.regField 0x9000 0 25 16

def State.port (s : State) (k : Nat) : FabPort := Tab.get s.fab.ports {} k
def State.setPort (s : State) (k : Nat) (x : FabPort) : State := { s with fab := { s.fab with ports := Tab.set s.fab.ports {} k x } }
/-- Ports that are up, rising. -/
def State.upPorts (s : State) : List Nat := (List.range 8).filter fun k => (s.port k).up
def State.linkRec (s : State) (n : Nat) : Option LinkRec := Tab.get s.fab.recs none n

/-- The neighbours of a node by its own ports or its newest link-state record. -/
def State.nbrsOf (s : State) (n : Nat) : List Nat :=
  if n = s.node then s.upPorts.map fun k => (s.port k).peer
  else match s.linkRec n with
    | some r => r.nbrs.map fun e => e.2
    | none => []

/-- A list without repeats, in order of first occurrence. -/
def nubNat : List Nat → List Nat → List Nat
  | _, [] => []
  | seen, x :: r => if seen.contains x then nubNat seen r else x :: nubNat (x :: seen) r

/-- Hops from a set of nodes to a target, at most the fuel less 1 (R394). -/
def State.hopsFrom (s : State) (target : Nat) : Nat → List Nat → List Nat → Option Nat
  | 0, _, _ => none
  | k + 1, front, seen =>
    if front.contains target then some 0
    else
      let seen := seen ++ front
      let next := nubNat seen (front.map fun n => s.nbrsOf n).flatten
      if next = [] then none else (s.hopsFrom target k next seen).map (· + 1)

/-- Hops to a node; none where it is unreachable: more than 32 hops away or on no path (R394). -/
def State.hops (s : State) (n : Nat) : Option Nat := s.hopsFrom n 33 [s.node] []

/-- The port of the shortest route to a node, ties to the lower number (R394). -/
def State.routePort (s : State) (n : Nat) : Option Nat :=
  match s.hops n with
  | none => none
  | some h => s.upPorts.find? fun k => s.hopsFrom n 32 [(s.port k).peer] [s.node] = some (h - 1)

/-- The partner of a node: its own configured one, or the one its last link-state record names. -/
def State.partnerOf (s : State) (n : Nat) : Nat :=
  if n = s.node then ((s.stored 0xB0 0xFFFF 0).map fun b => leNat b 2 2).getD 0xFFFF
  else ((s.linkRec n).map fun r => r.partner).getD 0xFFFF

/-- A message for a failed node goes to its partner (R397). -/
def State.standIn (s : State) (n : Nat) : Nat := if s.fab.failed.contains n ∧ s.partnerOf n ≠ 0xFFFF then s.partnerOf n else n

/-- The messages that R397 names: trip (2), tandem (3, 4), partner state (5) and heave. -/
def follows (cls kind : Nat) : Bool := (cls = 1 && 2 ≤ kind && kind ≤ 5) || (cls = 2 && kind = 2)

/-- Where a unicast message for a node goes: a failed node's to its partner, and those of R397 to the partner of a node that has been taken
over. -/
def State.deliverTo (s : State) (cls kind n : Nat) : Nat :=
  if follows cls kind ∧ s.fab.taken.contains n ∧ s.partnerOf n ≠ 0xFFFF then s.partnerOf n else s.standIn n

/-- A node's partitions are held by its partner from now on (R397). -/
def State.takenOver (s : State) (node by_ : Nat) : State :=
  { s with fab := { s.fab with taken := node :: s.fab.taken.filter fun n => n ≠ node && n ≠ by_ } }

/-- One step of the CRC-32 of IEEE 802.3, bit-reflected. -/
def crc32Bit (c : Nat) : Nat := if c.testBit 0 then (c / 2) ^^^ 0xEDB88320 else c / 2
def crc32Byte (c : Nat) (b : Byte) : Nat := (List.range 8).foldl (fun c _ => crc32Bit c) (c ^^^ b.toNat)
/-- The CRC-32 of R390 over a frame; the initial value, the bit order and the final complement are those of IEEE 802.3. -/
def crc32 (bs : List Byte) : Nat := (bs.foldl crc32Byte 0xFFFFFFFF) ^^^ 0xFFFFFFFF

/-- A frame (Table 1 of R391) with its CRC. -/
def frameBytes (dst src cls type hops epoch seq txn : Nat) (t : Time) (data : List Byte) : List Byte :=
  let b := leBytes 2 dst ++ leBytes 2 src ++ leBytes 1 cls ++ leBytes 1 type ++ leBytes 1 hops ++ leBytes 1 epoch ++ leBytes 4 seq ++
    leBytes 2 (txn % 8192) ++ leBytes 2 data.length ++ leBytes 8 t ++ data
  b ++ leBytes 4 (crc32 b)

/-- The class of a frame (Table 2 of R392). -/
def TxFrame.cls (f : TxFrame) : Nat := byteAt f.bytes 4

/-- A port has a buffer for a frame of a class (R392): of its 80, 8 are kept for TIME and 16 for CONTROL, and the rest are shared. -/
def State.hasRoom (s : State) (port cls : Nat) : Bool :=
  let l := s.fab.tx.filter fun f => f.port = port
  let control := (l.filter fun f => f.cls = 1).length
  let shared := (l.length - control) + (control - 16)
  decide (cls = 1 ∧ control < 16) || decide (shared < 56)

/-- A frame waits for its port: a mirror record takes the place of an older one of its partition, told by its time of origin (R392). -/
def State.holdFrame (s : State) (f : TxFrame) : State :=
  let stale := fun (g : TxFrame) => f.cls = 3 && g.cls = 3 && g.port = f.port && byteAt g.bytes 24 = byteAt f.bytes 24 &&
    decide (leNat g.bytes 16 8 ≠ leNat f.bytes 16 8)
  { s with fab := { s.fab with held := s.fab.held.filter (fun g => !stale g) ++ [f] } }

/-- A frame goes out on a port and is kept until it is acknowledged (R390). It waits behind its class, for a buffer (R392), and, in the
BULK class, while die throttle holds (R306). -/
def State.transmit (s : State) (port : Nat) (bytes : List Byte) : State :=
  let f : TxFrame := { port := port, bytes := bytes, at_ := s.now }
  let behind := s.fab.held.any fun g => g.port = port && g.cls = f.cls
  if (f.cls = 4 ∧ s.dieThrottle) ∨ behind ∨ ¬ s.hasRoom port f.cls then s.holdFrame f
  else { s with fab := { s.fab with tx := s.fab.tx ++ [f] } }

/-- Of the frames that wait for a port, the one it sends next, and what that leaves of the balance of MIRROR and BULK (R392): CONTROL, then
SHARE; where MIRROR and BULK both wait they share 3 to 1 by bytes. -/
def State.nextFrame (s : State) (port : Nat) : Option (TxFrame × Int) :=
  let l := s.fab.held.filter fun g => g.port = port
  let first := fun (c : Nat) => l.find? fun g => g.cls = c
  let bulk := if s.dieThrottle then none else first 4
  let owed := (s.port port).owed
  match first 1, first 2, first 3, bulk with
  | some f, _, _, _ => some (f, owed)
  | none, some f, _, _ => some (f, owed)
  | none, none, some m, some b => if owed < 0 then some (b, owed + 3 * b.bytes.length) else some (m, owed - m.bytes.length)
  | none, none, some m, none => some (m, 0)
  | none, none, none, some b => some (b, 0)
  | none, none, none, none => none

/-- Frames that wait for a port go out while it has a buffer for them. The fuel bounds their number. -/
def State.drainPort (s : State) (port : Nat) : Nat → State
  | 0 => s
  | n + 1 => match s.nextFrame port with
    | none => s
    | some (f, owed) =>
      if ¬ s.hasRoom port f.cls then s
      else
        let s := s.setPort port { s.port port with owed := owed }
        ({ s with fab := { s.fab with held := s.fab.held.erase f, tx := s.fab.tx ++ [{ f with at_ := s.now }] } }).drainPort port n

/-- Frames that wait go out where they may: die throttle has ended (R306). -/
def State.releaseBulk (s : State) : State := (List.range 8).foldl (fun (s : State) k => s.drainPort k s.fab.held.length) s

/-- Message types of the CONTROL class that need no end-to-end answer: the acknowledgement itself (R393). -/
def answered (cls dst kind : Nat) : Bool := cls = 1 && dst ≠ 0xFFFF && kind ≠ 12

/-- A message under a given sequence on its way: on the route's port, or on every up port (R393). -/
def State.launch (s : State) (cls dst kind seq txn : Nat) (body : List Byte) : State :=
  let f := frameBytes dst s.node cls kind 0 s.sys.nodeEpoch seq txn s.now body
  if dst = 0xFFFF then s.upPorts.foldl (fun s k => s.transmit k f) s
  else match s.routePort dst with
    | some k => s.transmit k f
    | none => s

/-- Fabric transactions that are tracked (R37): messages without their acknowledgement, and `FAB_SEND` messages. -/
def State.fabOpen (s : State) : Nat := s.fab.ctl.length + s.fab.sends.length

/-- A message handed to the fabric for a partition's region, or for the chip: a class of Table 2, a node or 0xFFFF, a type and its data,
under the next sequence and transaction number (R37, R391). -/
def State.fabSendFrom (s : State) (origin : Option Nat) (cls dst kind : Nat) (body : List Byte) : State :=
  let dst := s.deliverTo cls kind dst
  let q := Tab.get s.fab.seqs 0 cls
  let n := s.fab.txn
  let s := { s with fab := { s.fab with seqs := Tab.set s.fab.seqs 0 cls ((q + 1) % 2 ^ 32), txn := (n + 1) % 8192 } }
  let s := if answered cls dst kind then
      let s := { s with fab := { s.fab with
        ctl := s.fab.ctl ++ [({ dst := dst, seq := q, kind := kind, body := body, at_ := s.now, txn := n, origin := origin } : CtlMsg)] } }
      s.mark 2 8192 s.fabOpen
    else s
  s.launch cls dst kind q n body

/-- A message of the chip itself. -/
def State.fabSend (s : State) (cls dst kind : Nat) (body : List Byte) : State := s.fabSendFrom none cls dst kind body

/-- A message that a partition's region injects: none while a region of the partition is fenced (R34). -/
def State.partSend (s : State) (p cls dst kind : Nat) (body : List Byte) : State :=
  if s.fencedPart p then s else s.fabSendFrom (some p) cls dst kind body

/-- The node epochs that count as older than the current one of a node (R38, R395). -/
def State.epochOf (s : State) (n : Nat) : Option Nat := (s.linkRec n).map fun r => r.epoch

end Sys2Proof.Machine
end

