-- ==== Sys2Proof/Machine/Trip.lean ====
section
/-!
DEFINITION. The trip network (R226 to R232, R240, R245): a source asserts, the partition trips, records and events are made;
the cell-loss policy (R53 to R55); what a partition leaves behind when it stops being energised.
-/
namespace Sys2Proof.Machine
open Sys2Proof

def State.protOf (s : State) (p : Nat) : Prot := Tab.get s.prot {} p
def State.setProt (s : State) (p : Nat) (x : Prot) : State := { s with prot := Tab.set s.prot {} p x }
def State.lane (s : State) (l : Nat) : Lane := Tab.get s.lanes {} l
def State.setLane (s : State) (l : Nat) (x : Lane) : State := { s with lanes := Tab.set s.lanes {} l x }

def State.ctlOf (s : State) (p : Nat) : Ctl := Tab.get s.ctl {} p
def State.setCtl (s : State) (p : Nat) (x : Ctl) : State := { s with ctl := Tab.set s.ctl {} p x }
def State.fbOf (s : State) (p : Nat) : Fb := Tab.get s.fb {} p
def State.setFb (s : State) (p : Nat) (x : Fb) : State := { s with fb := Tab.set s.fb {} p x }
def State.motOf (s : State) (p : Nat) : Mot := Tab.get s.mot {} p
def State.setMot (s : State) (p : Nat) (x : Mot) : State := { s with mot := Tab.set s.mot {} p x }
def State.brkOf (s : State) (p : Nat) : Brk := Tab.get s.brk {} p
def State.setBrk (s : State) (p : Nat) (x : Brk) : State := { s with brk := Tab.set s.brk {} p x }

/-- The number of the cell cycle of a partition at the present device time (R72). -/
def State.cycleNo (s : State) (p : Nat) : Nat := s.now / s.cycleNs p

/-- The trip network starts the block sequence on a lane and its queued timed commands are discarded (R227, R39). -/
def Lane.blocked (l : Lane) : Lane := { l with blockSeq := true, queue := [] }

/-- The block sequence on every lane of a partition (R227). -/
def State.blockLanes (s : State) (p : Nat) : State :=
  (s.lanesOf p).foldl (fun s n => s.setLane n (s.lane n).blocked) s

/-- A trip record appended; the last 64 stay (R245). -/
def Prot.record (x : Prot) (r : TripRec) : Prot := { x with recs := (x.recs ++ [r]).drop (x.recs.length + 1 - 64) }

/-- The data of a TRIP event (R506). -/
def tripData (source p before order more tenant : Nat) (value : Q) : List Byte :=
  leBytes 2 source ++ leBytes 1 p ++ leBytes 1 before ++ leBytes 1 order ++ leBytes 1 more ++ leBytes 2 tenant ++ f32Bytes value

/-- The trip message sent to each send entry when the first cause is not itself remote (R240). -/
def State.remoteTrips (s : State) (p cause : Nat) : State :=
  if cause = 0x0905 then s
  else ((s.peers p).filter fun e => e.send).foldl
    (fun s e => s.fabSend 1 e.node 2 (leBytes 1 e.mask ++ leBytes 1 s.sys.nodeEpoch)) s

/-- Leaving RUNNING ends the profile, the yield and the modes of ranks 8 to 10 (R132, R138, R221). -/
def State.leaveRunning (s : State) (p : Nat) : State :=
  if (s.part p).st = .running then
    let m := s.motOf p
    let had := m.moving || m.follow.isSome
    let s := s.setMot p { m with moving := false, follow := none, yst := 0, tY := 0, vRef := 0, aRef := 0 }
    let b := s.brkOf p
    let s := s.setBrk p { b with crash := none, render := false, rt := 0, rtAt := none, retSince := none }
    if had then s.inform (srcPart p) 0x040F [] else s
  else s

/-- Descriptors that wait on a partition, a DISABLE or an ENABLE, complete with `REJECTED_STATE` when another cause takes
the partition elsewhere (log entry 14). -/
def State.dropWaits (s : State) (p : Nat) : State :=
  let ds := (s.part p).disabling
  let s := ds.foldl (fun s (d : Nat × Nat × Nat) => s.finish d.1 d.2.1 d.2.2 0x0004 []) (s.setPart p { s.part p with disabling := [] })
  match (s.ctlOf p).enWait with
  | some (n, series, seq, _) => (s.setCtl p { s.ctlOf p with enWait := none }).finish n series seq 0x0004 []
  | none => s

/-- The holding-brake channels of a partition are energised or de-energised (R208). -/
def State.driveBrakes (s : State) (p : Nat) (on : Bool) : State :=
  let s := s.setBrk p { s.brkOf p with released := on }
  if on then (s.brakeCodes p).foldl (fun s c => s.switchOn c) s
  else (s.brakeCodes p).foldl (fun s c => s.switchOff c) s

/-- The stopping actions of a partition end, its brakes are de-energised, and its control and restart start anew (R164, R166, R208, R221). -/
def State.endControl (s : State) (p : Nat) : State :=
  let s := s.driveBrakes p false
  let b := s.brkOf p
  let s := s.setBrk p { b with ss1 := none, sc := none, still := none, estop := 0, qr := false, qrSlow := none,
                               relAt := none, relWait := false, rampDown := false, lowSince := none, ceilCut := false }
  let s := s.setFb p { s.fbOf p with restart := 0, stopFirst := false, zvFirst := none, zvAt := none }
  let c := s.ctlOf p
  s.setCtl p { c with ramp := 0, tRamp := 0, spdInt := 0, tSpd := 0, tNext := none, tRef := 0, te := 0, limits := 0, idRef := 0,
                      iqRef := 0, xd := 0, xq := 0, ud := 0, uq := 0, uUse := 0, clip := false, fw := 0, satSince := none, pMach := 0,
                      fluxUntil := none }

/-- What the trip network and the supervisor do at once when a partition stops being energised: its lanes send the block
sequence, its queued commands are discarded, carries return to 0 (R83, R227). A cell in CHARGING or under re-admission keeps its state, as
it does when READY turns to BRAKING (log entry 134). -/
def State.quiet (s : State) (p : Nat) : State :=
  let s := ((((s.blockLanes p).leaveRunning p).dropWaits p).endControl p).clearCarry p
  let s := s.setBrk p { s.brkOf p with string := false }
  s.setMod p { s.modOf p with refs := [] }

/-- The partition enters TRIPPED by the trip-network path (R227). -/
def State.toTripped (s : State) (p : Nat) : State := (s.quiet p).setPState p .tripped

/-- Causes that stay active while their condition holds (the third column of Table 1 of R229). -/
def lastingCause (cause : Nat) : Bool :=
  cause = 0x0900 || cause = 0x0901 || cause = 0x0902 || cause = 0x0903 || cause = 0x0904 || cause = 0x0907 ||
    cause = 0x0908 || cause = 0x0105

/-- The active sources: those asserted in either half (R226). -/
def Prot.active (x : Prot) : List (Nat × Nat) := x.halfA ++ x.halfB.filter fun e => !x.halfA.contains e

/-- A source drives both halves (R226). -/
def Prot.drive (x : Prot) (e : Nat × Nat) : Prot :=
  { x with halfA := if x.halfA.contains e then x.halfA else x.halfA ++ [e], halfB := if x.halfB.contains e then x.halfB else x.halfB ++ [e] }

/-- Sources that are no longer active, in both halves. -/
def Prot.undrive (x : Prot) (off : Nat × Nat → Bool) : Prot :=
  { x with halfA := x.halfA.filter fun e => !off e, halfB := x.halfB.filter fun e => !off e }

/-- The place of a cause in the order of Table 1, STO before all rows (R230). -/
def causeRank (cause : Nat) : Nat :=
  if cause = 0x0909 then 0
  else 1 + [0x0900, 0x0901, 0x0902, 0x0903, 0x0904, 0x0905, 0x0906, 0x0907, 0x0908, 0x0105, 0x0104].idxOf cause

/-- A recorded cause goes before a new one: by stamp, at equal stamps in the order of Table 1 (R230). -/
def TripRec.precedes (y r : TripRec) : Bool := decide (y.t < r.t) || (y.t = r.t && decide (causeRank y.cause ≤ causeRank r.cause))

/-- A cause joins the causes of the newest trip (R230): it takes its place in the order, those behind it move on by one, and of more than
8 causes within 100 µs of the first the last is only counted. Its number, none where it is the one counted. A later cause is recorded
with the number 7 at most (log entry 107). -/
def Prot.join (x : Prot) (r : TripRec) : Prot × Option Nat :=
  let n := if x.firstAt.isSome then min (x.later + 1) x.recs.length else 0
  let old := x.recs.take (x.recs.length - n)
  let trip := x.recs.drop (x.recs.length - n)
  let pre := trip.takeWhile fun y => y.precedes r
  let post := trip.dropWhile fun y => y.precedes r
  let window : Bool := match x.firstAt with
    | some u => decide (r.t ≤ u + 100000)
    | none => true
  let full := decide (8 ≤ n) && window
  let all := pre ++ { r with before := ((post.head?).map TripRec.before).getD r.before } :: post
  let all := if full then all.dropLast else all
  let more := ((trip.head?).map TripRec.more).getD 0 + (if full then 1 else 0)
  let all := all.mapIdx fun k y => { y with order := min 7 k, more := if k = 0 then holdAt 255 more else 0 }
  let recs := old ++ all
  let head := all.head?
  ({ x with recs := recs.drop (recs.length - 64), later := all.length - 1, firstAt := head.map TripRec.t,
            firstCause := (head.map TripRec.cause).getD x.firstCause, firstSource := (head.map TripRec.source).getD x.firstSource },
   if pre.length < all.length then some (min 7 pre.length) else none)

/-- A subsequent cause is recorded, with its TRIP event, or counted (R228, R230). -/
def State.nextCause (s : State) (p : Nat) (r : TripRec) : State :=
  let j := (s.protOf p).join r
  let s := s.setProt p j.1
  match j.2 with
  | some k => s.emit 7 (srcPart p) r.cause (tripData r.source p r.before k 0 r.tenant r.value)
  | none => s

/-- A trip source of a partition asserts (R227, R228, R230): a trip, a record in UNCONFIGURED or BLOCKED, or a subsequent
cause in TRIPPED or SAFE_OFF. A source that stays asserted counts once. -/
def State.assertSource (s : State) (p cause source : Nat) (value : Q) (tenant : Nat) : State :=
  let x := s.protOf p
  if lastingCause cause ∧ x.active.contains (cause, source) then s
  else
    let x := if lastingCause cause then x.drive (cause, source) else x
    let st := (s.part p).st
    let r : TripRec := { t := s.now, cause := cause, source := source, before := st.code, order := 0, more := 0, value := value,
                         cycle := s.cycleNo p % 2 ^ 32, tenant := tenant }
    if st.energised then
      let s := s.setProt p { x.record r with firstAt := some s.now, firstCause := cause, firstSource := source, later := 0 }
      let s := s.toTripped p
      let s := s.emit 7 (srcPart p) cause (tripData source p st.code 0 0 tenant value)
      (s.remoteTrips p cause).moraine p 0 cause
    else if st = .unconfigured ∨ st = .blocked then
      (s.setProt p (x.record r)).alarm (srcPart p) 0x090F
        (leBytes 2 cause ++ leBytes 2 source ++ leBytes 1 p ++ leBytes 1 st.code ++ zeros 2 ++ f32Bytes value)
    else (s.setProt p x).nextCause p r

/-- A lasting source is no longer active (R229). -/
def State.releaseSource (s : State) (p cause source : Nat) : State :=
  s.setProt p ((s.protOf p).undrive fun a => decide (a = (cause, source)))

/-- An arm is exhausted: the partition trips (R54), and in PRECHARGE the precharge has failed as well (R60). -/
def State.tripExhausted (s : State) (p a : Nat) : State :=
  let pre := decide ((s.part p).st = .precharge)
  let s := s.assertSource p 0x0105 a 0 0xFFFF
  if pre then s.assertSource p 0x0104 0xFFFF 0 0xFFFF else s

/-- An exhausted arm stops being a trip source once its partition has left the energised states (R49). -/
def State.dropExhaustion (s : State) (p : Nat) : State :=
  if (s.part p).st.energised then s
  else s.setProt p ((s.protOf p).undrive fun a => decide (a.1 = 0x0105))

/-- The supervisor judges the arms of an energised partition (R49, R54). -/
def State.judgeArms (s : State) (p : Nat) : State :=
  match (s.armsOf p).find? fun a => s.exhausted p a with
  | some a => (s.tripExhausted p a).dropExhaustion p
  | none => s

/-- The key of a cell position: partition, arm, position. -/
def posKey (p a k : Nat) : Nat := p * 65536 + a * 256 + k

/-- The Firn entry of a bypassed position, with the serial of its cell (R52); serial + 1, 0 for none. -/
def State.setBypassEntry (s : State) (c : Cell) (v : Nat) : State :=
  let k := posKey c.part c.arm c.pos
  let s := { s with bypass := Tab.set s.bypass 0 k v }
  s.stageRec 3 1 c.part (c.arm * 256 + c.pos) 0xFFFF (leBytes 8 v)

/-- The data of `CELL_BYPASSED` (R506). -/
def State.bypassedData (s : State) (l : Nat) : List Byte :=
  let c := s.cell l
  leBytes 1 c.arm ++ leBytes 1 c.pos ++ leBytes 1 (if c.st = .isolated then 6 else 5) ++ leBytes 1 c.reason ++ leBytes 1 c.part ++
    zeros 3 ++ leBytes 4 c.serial

/-- The ALARM `CELL_BYPASSED` of a cell that has entered BYPASSED or ISOLATED (R55). -/
def State.alarmBypassed (s : State) (l : Nat) : State := s.alarm (srcLane l) 0x0108 (s.bypassedData l)

/-- The cell-loss policy of R54 for the cell of a lane, with the reason of Table 4. -/
def State.loseCell (s : State) (l reason : Nat) : State :=
  let c := s.cell l
  if ¬ c.used ∨ c.st = .bypassed ∨ c.st = .isolated then s
  else
    let p := c.part
    let counted := c.st = .available || (c.st = .qualifying && (s.part p).st = .precharge)
    let st : CState := if reason = 6 then .isolated else .bypassed
    let s := s.setCell l { c with st := st, reason := reason, admitting := false }
    let s := if reason = 6 then s.setLane l { (s.lane l) with lstate := 5, queue := [] } else s.setBypassEntry c (c.serial + 1)
    let s := s.alarmBypassed l
    let s := if counted ∧ s.availCount p c.arm = s.needed p c.arm then
        s.alarm (srcPart p) 0x0109 (leBytes 1 c.arm ++ zeros 1 ++ leBytes 2 (s.availCount p c.arm) ++ leBytes 2 (s.needed p c.arm))
      else s
    if s.exhausted p c.arm then (s.tripExhausted p c.arm).dropExhaustion p else s

/-- A partition has a source active (R229). -/
def State.sourceActive (s : State) (p : Nat) : Bool := !(s.protOf p).active.isEmpty

/-- An STO group is asserted for `TRIPOUT` (R232): a channel of it, or the STO that its SS1 has reached; during freeze as at its first step. -/
def State.stoShown (s : State) (g : Nat) : Bool :=
  (if s.power = .frozen then s.frz.stoHeld.testBit g else (Tab.get s.sto {} g).active) ||
    (maskList 8 (bits (s.regWord 0x1028 0) (8 * g + 7) (8 * g))).any fun p => (s.part p).sto

/-- `TRIPOUT[k]` is low (R232): its selected conditions, or the time until the block has been restored. -/
def State.tripoutLow (s : State) (k : Nat) : Bool :=
  let w := s.regWord (0x1008 + 4 * k) 0
  let off := fun p => decide ((s.part p).st = .tripped) || decide ((s.part p).st = .safeOff)
  !s.sys.bootDone || ((List.range 4).any fun i => w.testBit i && s.tripin.testBit i) ||
    ((List.range 8).any fun p => w.testBit (4 + p) && off p) || (w.testBit 12 && s.sys.chipDown) ||
    ((List.range 2).any fun g => w.testBit (13 + g) && s.stoShown g) ||
    (w.testBit 15 && (List.range 8).any fun r => (s.region r).fenced)

end Sys2Proof.Machine
end

