-- ==== Sys2Proof/Machine/Cross.lean ====
section
/-!
DEFINITION. The checks that compare a descriptor's fields with values another descriptor sets (R505), each with the opcodes
it involves, in the order in which the manual states them, and the commit checks of R61 and R94.
-/
namespace Sys2Proof.Machine
open Sys2Proof

/-- One check of R505: the opcodes whose arrival makes it, and the status it gives for a partition, 0 when it passes. -/
structure CrossCheck where
  ops : List Nat
  run : State → Nat → Nat

/-- Regions a partition uses, from its configuration: region n, and n + 1 with `bond` set (R45). -/
def State.confRegions (s : State) (p : Nat) : List Nat := if s.bondSet p then [p, p + 1] else [p]

/-- The region of a sigma-delta input (R5). -/
def sdRegion (k : Nat) : Nat := k / 16

/-- No number of a list stands twice. -/
def noTwice : List Nat → Bool
  | [] => true
  | x :: r => !r.contains x && noTwice r

/-- A method allowed for the partition's shape and arm sizes (Table 2 of R80). -/
def State.methodOk (s : State) (p m : Nat) : Bool :=
  let sh := s.shape p
  let small := ((s.armsOf p).filter fun a => a ≠ 15).any fun a => s.armCells p a < 8
  if m = 0 then true
  else if m = 1 then isMmc sh && !small
  else if m = 2 then isMmc sh || sh = 3 || sh = 4
  else sh = 5

def State.confMethod (s : State) (p : Nat) : Nat := ((s.stored 0x20 p 0).map fun b => byteAt b 0).getD 0

/-- The method in use: code 0 selects by shape and arm sizes (Table 2 of R80). -/
def State.method (s : State) (p : Nat) : Nat :=
  let m := s.confMethod p
  if m ≠ 0 then m
  else if s.shape p = 5 then 3
  else if isMmc (s.shape p) ∧ s.methodOk p 1 then 1
  else 2

/-- `METHOD_SHAPE` (R80). -/
def crossMethod : CrossCheck :=
  { ops := [0x10, 0x11, 0x20], run := fun s p => if s.given 0x10 p 0 ∧ ¬ s.methodOk p (s.confMethod p) then 0x0200 else 0 }

/-- `EDGE_INFEASIBLE` (R87). -/
def crossEdge : CrossCheck :=
  { ops := [0x10, 0x21, 0x22]
    run := fun s p =>
      let T := s.cycleNs p
      if T < 2 * s.tMinPulse p ∨ T / s.tStagger p < 2 * s.maxSwaps p + 6 then 0x0201 else 0 }

/-- `CARRIER_INFEASIBLE` (R88, R89): the carrier period in use is at least 4 × t_min_pulse. -/
def crossCarrier : CrossCheck :=
  { ops := [0x10, 0x11, 0x20, 0x21]
    run := fun s p =>
      let tmin : Q := 4 * s.tMinPulse p
      let fc := s.modP p 20
      let m := if s.given 0x10 p 0 then s.method p else s.confMethod p
      let psc := m = 2 ∧ 1000000000 < tmin * fc
      let svm := m = 3 ∧ s.modP p 18 * s.cycleNs p < tmin
      if psc ∨ svm then 0x0203 else 0 }

/-- The current and voltage inputs of a partition, as R94 counts them: `ARM_SENSE`, `SHARE_CONFIG`, `sd_vdc`, `sd_grid`. -/
def State.measuredInputs (s : State) (p : Nat) : List Nat :=
  let sense := ((List.range 13).map fun k => s.senseByte p k).filter fun k => k ≠ 0xFF
  let share := ((List.range 24).map fun k => s.sdModule p (k / 8) (k % 8)).filter fun k => k ≠ 0xFF
  let vdc := if s.given 0x10 p 0 then [s.sdVdc p] else []
  let grid := match s.stored 0x37 p 0 with
    | none => []
    | some b => ((List.range 3).map fun k => byteAt b k).filter fun k => k ≠ 0xFF
  sense ++ share ++ vdc ++ grid

/-- `SENSE_MAP_INVALID` (R94). -/
def crossSense : CrossCheck :=
  { ops := [0x10, 0x24, 0x25, 0x37]
    run := fun s p =>
      let l := s.measuredInputs p
      if ¬ noTwice l ∨ (s.given 0x10 p 0 ∧ l.any fun k => !(s.confRegions p).contains (sdRegion k)) then 0x0202 else 0 }

/-- `MCLK_PLAN` period in ns of the output that clocks an input: `mclk_div` in ns, 0 held low (R434, R487). -/
def State.mclkNs (s : State) (k : Nat) : Nat := s.regField (0x0C10 + 4 * (k / 8)) 0 7 0

/-- The longer of the periods of an input's MCLK while a relock runs, else its period (R237). -/
def State.mclkDet (s : State) (k : Nat) : Nat := if s.mclkNs k = 0 then 0 else max (s.mclkNs k) (Tab.get s.mclkOld 0 (k / 8))

/-- t_det of R237 in ns for a partition and an MCLK period. -/
def State.tDet (s : State) (p mclk : Nat) : Q :=
  (2 + (s.protP p 17 - 1)) * s.protP p 16 * (mclk : Q) + 40

/-- Inputs with a fast filter path (R236). -/
def State.fastInputs (s : State) (p : Nat) : List Nat :=
  ((List.range 13).map fun k => s.senseByte p k).filter (fun k => k ≠ 0xFF) ++
    ((List.range 24).map fun k => s.sdModule p (k / 8) (k % 8)).filter (fun k => k ≠ 0xFF) ++
    (if s.given 0x10 p 0 then [s.sdVdc p] else [])

/-- `OC_INFEASIBLE` (R237): the detection time and 10 ns exceed 1 µs for an input whose MCLK runs. -/
def crossOc : CrossCheck :=
  { ops := [0x10, 0x24, 0x25, 0x78]
    run := fun s p =>
      if (s.fastInputs p).any fun k => s.mclkNs k ≠ 0 && decide (1000 < s.tDet p (s.mclkDet k) + 10) then 0x090A else 0 }

/-- `ARM_SENSE` is complete: every configured arm and the chopper string have an input (R94). -/
def State.senseComplete (s : State) (p : Nat) : Bool :=
  (!isMmc (s.shape p) && !s.armGiven p 15) || (s.armsOf p).all fun a => s.sdArm p a ≠ 0xFF

/-! ### R61 -/

/-- Arm engines available to a partition (R20). -/
def State.engines (s : State) (p : Nat) : Nat := if s.bondSet p then 16 else 8

/-- Arms that share an arm engine (R47): each its own where there are enough engines, else pairs A(2k), A(2k+1), and the
chopper string by itself. -/
def State.engineGroups (s : State) (p : Nat) : List (List Nat) :=
  let arms := s.armsOf p
  if arms.length ≤ s.engines p then arms.map fun a => [a]
  else ((List.range 6).map fun k => arms.filter fun a => a = 2 * k ∨ a = 2 * k + 1) ++ [arms.filter fun a => a = 15]

/-- The arm engine that each arm is assigned, as 8 × region + cluster: in increasing cluster number, the owning region first (R47). -/
def State.engineMap (s : State) (p : Nat) : List (Nat × Nat) :=
  let groups := (s.engineGroups p).filter fun g => g ≠ []
  let engines := (s.confRegions p).flatMap fun r => (List.range 8).map fun k => 8 * r + k
  (groups.zip engines).flatMap fun g => g.1.map fun a => (a, g.2)

/-- Step 1 of R61: the shape and arm rules of R41 to R43. -/
def State.shapeOk (s : State) (p : Nat) : Bool :=
  let sh := s.shape p
  let want := shapeArms sh
  let r := shapeRange sh
  let arms := s.armsOf p
  let main := arms.filter fun a => a ≠ 15
  s.given 0x10 p 0 && want.all (fun a => arms.contains a) && main.all (fun a => want.contains a) &&
    (sh ≠ 6 || arms.contains 15) &&
    main.all (fun a => (shapeTypes sh).contains (s.armType p a) && r.1 ≤ s.armCells p a && s.armCells p a ≤ r.2) &&
    (!arms.contains 15 || (s.armType p 15 = 5 && 1 ≤ s.armCells p 15 && s.armCells p 15 ≤ (if sh = 6 then 256 else 64))) &&
    (if isMmc sh then
      ([0, 1, 2, 3, 4, 5].all fun a => s.armCells p a = s.armCells p 0) &&
        (sh = 1 || [6, 7, 8, 9, 10, 11].all fun a => s.armCells p a = s.armCells p 6)
     else main.all fun a => s.armCells p a = s.armCells p 0)

/-- Step 2 of R61: the arm-engine limit of R20. -/
def State.engineOk (s : State) (p : Nat) : Bool :=
  let g := s.engineGroups p
  g.length ≤ s.engines p &&
    g.all fun l => (l.map fun a => s.armCells p a).foldl (· + ·) 0 ≤ (if s.cycleNs p = 5000 then 128 else 256)

/-- A lane is assigned to a committed partition other than p. -/
def State.laneTaken (s : State) (p l : Nat) : Bool := (s.cell l).used && (s.cell l).part ≠ p

/-- Step 3 of R61: lanes within the partition's regions and not another partition's (`LANE_IN_USE`), positions complete and
unique, lanes unique (`MAP_INCOMPLETE`, R48). -/
def State.mapStatus (s : State) (p : Nat) : Nat :=
  let m := s.laneMap p
  if m.any fun e => 1024 ≤ e.lane || !(s.confRegions p).contains (e.lane / 128) || s.laneTaken p e.lane then 0x0101
  else if ¬ noTwice (m.map fun e => e.lane) ∨ m.any (fun e => !s.armGiven p e.arm) ∨
      (s.armsOf p).any (fun a =>
        let ps := (m.filter fun e => e.arm = a).map fun e => e.pos
        ps.length ≠ s.armCells p a || !noTwice ps || ps.any fun k => s.armCells p a ≤ k) then 0x0102
  else 0

/-- Step 4 of R61: the bond (R45). -/
def State.bondStatus (s : State) (p : Nat) : Nat :=
  if s.bondSet p ∧ (p = 7 ∨ (s.part (p + 1)).st ≠ .unconfigured) then 0x0100
  else if s.bondPartner p then 0x0100
  else 0

/-- The checks of R61 in order, then the completeness of `ARM_SENSE` (R94). -/
def State.commitR61 (s : State) (p : Nat) : Nat :=
  if ¬ s.shapeOk p then 0x0103
  else if ¬ s.engineOk p then 0x0003
  else if s.mapStatus p ≠ 0 then s.mapStatus p
  else if s.bondStatus p ≠ 0 then s.bondStatus p
  else if ¬ s.given 0x10 p 0 then 0x0102
  else if ¬ s.senseComplete p then 0x0102
  else 0

/-- The first status of a list of checks that is not 0. -/
def firstStatus : List Nat → Nat
  | [] => 0
  | x :: r => if x = 0 then firstStatus r else x

end Sys2Proof.Machine
end

