-- ==== Sys2Proof/Machine/MachParams.lean ====
section
/-!
DEFINITION. Parameters of machine control (R120 to R122): layouts, what they read as, and their consistency.
-/
namespace Sys2Proof.Machine
open Sys2Proof

def million : Q := 1000000

/-- The binary32 nearest to π/3. -/
def piThird : Q := 8784530 / 8388608
def fnat (off : Nat) (ty : FTy) (l : List Nat) (dflt : Q := 0) : Fld := { off := off, ty := ty, rng := .oneOf l, dflt := dflt }

/-- A fabric node number or 0xFFFF. -/
def fnode (off : Nat) : Fld := { off := off, ty := .u16, rng := .oneOf (List.range 1024 ++ [0xFFFF]), dflt := 0xFFFF }

def layMach : List Fld :=
  [fenum 16 [1, 2, 3, 4], fu8 17 1 64, fu8 18 0 2, fenum 19 [0, 1, 2, 3, 4, 5, 6, 7, 0xFF] 0xFF, fnode 20,
   fq 24 1000 40000000, fq 28 1 1000, fq 32 1 20000, fq 36 (8/10) 1 (95/100), fq 40 0 piThird]
def layMachParams : List Fld :=
  [fq 16 0 100, fq 20 (1/1000000) 10, fq 24 (1/1000000) 10, fq 28 0 100, fq 32 0 10, fq 36 0 10, fq 40 0 100, fq 44 0 10,
   fq 48 (1/1000) 10000000, fq 52 0 10000000]
def layCurrent : List Fld := [fu8 16 0 1, fq 20 500 8000 5000, fq 24 (3/10) 1 (8/10), fq 28 500 8000 5000]
def layObserver : List Fld := [fq 16 60 12566 3142, fq 20 0 1 1, fq 24 (1/2) 10 2]
def laySpeed : List Fld :=
  [fq 16 1 300 20, fq 20 (1/1000) 1000 1, fq 24 (1/1000) 1000 1, fq 28 1 1000000000 10000000,
   fz 32 (1/10) 10]
def layLimits : List Fld :=
  [fq 16 0 100000000, fq 20 0 100000000, fq 24 0 40000000, fq 28 0 40000000, fleast 32 0,
   fleast 36 0, fleast 40 0]
def layField : List Fld := [fu8 16 0 1 1, fu8 17 0 1 1, fq 20 (8/10) 1 (95/100), fq 24 0 1000000 100, fq 28 (-20000) 0, fq 32 0 100]
def laySupply : List Fld :=
  [fu8 16 0 127, fu8 17 0 127, fu8 18 0 127, fq 20 45 65 60, fq 24 10 500 100, fq 28 20 1000 300, fq 32 10 100000 2000, fq 36 1 20000,
   fq 40 (1/1000000) 10, fq 44 0 100]
def laySetpoint : List Fld := [fu8 16 0 1, fqs 20]
def laySupplySetpoint : List Fld := [fqs 16, fq 20 (-40000000) 40000000]
def layExciter : List Fld := [fenum 16 [1, 2], fu8 17 0 15, fu8 18 0 127, fq 20 0 5000, fq 24 1 2000 50]
def layMigrate : List Fld := [fu8 16 0 1]

def State.machP (s : State) (p off : Nat) : Q := paramOf layMach (s.stored 0x30 p 0) off
def State.machByte (s : State) (p off : Nat) (dflt : Nat) : Nat := ((s.stored 0x30 p 0).map fun b => byteAt b (off - 16)).getD dflt
/-- 1 induction, 2 SPMSM, 3 IPMSM, 4 wound-field; 0 before `MACH_CONFIG`. -/
def State.machine (s : State) (p : Nat) : Nat := s.machByte p 16 0
def State.polePairs (s : State) (p : Nat) : Q := s.machByte p 17 1
def State.winding (s : State) (p : Nat) : Nat := s.machByte p 18 0
def State.partner (s : State) (p : Nat) : Nat := s.machByte p 19 0xFF
def State.partnerNode (s : State) (p : Nat) : Nat := ((s.stored 0x30 p 0).map fun b => leNat b 4 2).getD 0xFFFF
def State.pRated (s : State) (p : Nat) : Q := s.machP p 24
def State.nMax (s : State) (p : Nat) : Q := s.machP p 28
def State.iMachMax (s : State) (p : Nat) : Q := s.machP p 32
def State.uMargin (s : State) (p : Nat) : Q := s.machP p 36
def State.windAngle (s : State) (p : Nat) : Q := s.machP p 40

def State.mpP (s : State) (p off : Nat) : Q := paramOf layMachParams (s.stored 0x31 p 0) off
def State.rs (s : State) (p : Nat) : Q := s.mpP p 16
def State.ld (s : State) (p : Nat) : Q := s.mpP p 20
def State.lq (s : State) (p : Nat) : Q := s.mpP p 24
def State.psiPm (s : State) (p : Nat) : Q := s.mpP p 28
def State.lm (s : State) (p : Nat) : Q := s.mpP p 32
def State.lr (s : State) (p : Nat) : Q := s.mpP p 36
def State.rr (s : State) (p : Nat) : Q := s.mpP p 40
def State.mDq (s : State) (p : Nat) : Q := s.mpP p 44
def State.jTotal (s : State) (p : Nat) : Q := s.mpP p 48
def State.bVisc (s : State) (p : Nat) : Q := s.mpP p 52

def State.curP (s : State) (p off : Nat) : Q := paramOf layCurrent (s.stored 0x32 p 0) off
def State.deadbeat (s : State) (p : Nat) : Bool := decide (s.curP p 16 = 1)
def State.obsP (s : State) (p off : Nat) : Q := paramOf layObserver (s.stored 0x33 p 0) off
def State.spdP (s : State) (p off : Nat) : Q := paramOf laySpeed (s.inForce 0x34 p) off
def State.limP (s : State) (p off : Nat) : Q := paramOf layLimits (s.stored 0x35 p 0) off
/-- `overspeed_trip`, 1.15 × n_max until given (Table 8). -/
def State.overspeedTrip (s : State) (p : Nat) : Q := if s.given 0x35 p 0 then s.limP p 40 else 115 / 100 * s.nMax p
def State.fieldP (s : State) (p off : Nat) : Q := paramOf layField (s.stored 0x36 p 0) off
def State.supP (s : State) (p off : Nat) : Q := paramOf laySupply (s.stored 0x37 p 0) off
def State.sdGrid (s : State) (p k : Nat) : Nat := ((s.stored 0x37 p 0).map fun b => byteAt b k).getD 0
def State.excP (s : State) (p off : Nat) : Q := paramOf layExciter (s.stored 0x3A p 0) off
def State.excByte (s : State) (p off : Nat) : Nat := ((s.stored 0x3A p 0).map fun b => byteAt b (off - 16)).getD 0

/-- A comparison is made only where both fields stand (R505): none of them missing a value without a default. -/
def given2 (a b : Bool) (x : Prop) [Decidable x] : Bool := a && b && decide x

/-- R122 for the values stored; each condition is made only where what it compares has been given. -/
def State.paramInconsistent (s : State) (p : Nat) : Bool :=
  let m := s.machine p
  let gm := s.given 0x30 p 0
  let gp := s.given 0x31 p 0
  let w := s.winding p
  let q := s.partner p
  given2 gm gp ((m = 3 ∧ s.lq p ≤ s.ld p) ∨ ((m = 2 ∨ m = 3) ∧ s.psiPm p = 0) ∨
    (m = 1 ∧ (s.lm p = 0 ∨ s.lr p = 0 ∨ s.rr p = 0 ∨ s.lr p ≤ s.lm p)) ∨ (m = 4 ∧ s.lm p = 0)) ||
  given2 gm true (w ≠ 0 ∧ (q = 0xFF ∨ (s.partnerNode p = 0xFFFF ∧ s.given 0x30 q 0 ∧ s.winding q = w))) ||
  decide (s.curP p 20 < 10 * paramOf laySpeed (s.stored 0x34 p 0) 16) || decide (s.curP p 20 < s.obsP p 16)

/-- `PARAM_INCONSISTENT` (R122). -/
def crossParam : CrossCheck :=
  { ops := [0x30, 0x31, 0x32, 0x33, 0x34], run := fun s p => if s.paramInconsistent p then 0x0300 else 0 }

/-- Ranges of `LIMITS` in terms of `n_max`, and of `SUPPLY_SETPOINT` (Table 8, R505). -/
def crossLimits : CrossCheck :=
  { ops := [0x30, 0x35]
    run := fun s p =>
      let n := s.nMax p
      if s.given 0x30 p 0 ∧ s.given 0x35 p 0 ∧
        (n < s.limP p 32 ∨ n < s.limP p 36 ∨ s.limP p 40 < n ∨ 3 / 2 * n < s.limP p 40) then 0x0003 else 0 }

/-- R121: what `PART_COMMIT` wants beyond R61. -/
def State.commitR121 (s : State) (p : Nat) : Nat :=
  if s.shape p = 6 then 0
  else if ¬ (s.given 0x30 p 0 ∧ s.given 0x31 p 0) then 0x0102
  else if s.paramInconsistent p then 0x0300
  else if s.shape p = 2 ∧ ¬ s.given 0x37 p 0 then 0x0102
  else if s.machine p = 4 ∧ ¬ s.given 0x3A p 0 then 0x0102
  else 0

end Sys2Proof.Machine
end

