-- ==== Sys2Proof/Machine/MotionParams.lean ====
section
/-!
DEFINITION. Parameters of operating curves, shock handling and winch motion (R144, R145): layouts and what they read as.
-/
namespace Sys2Proof.Machine
open Sys2Proof

def layRefSource : List Fld := [fu8 16 0 4]
def layCurve : List Fld :=
  [fu8 16 0 1, fu8 17 0 1, fu8 18 0 127, fu8 19 0 1, fq 20 (5/1000) (1/4) (5/100), fq 24 0 (1/4) (3/100), fqs 28 (-1), fqs 32 1,
   fq 36 (1/100) 10 (1/2)]
def layCurveInput : List Fld := [fq 16 (-1) 1]
def layShock : List Fld :=
  [fu8 16 0 1 1, fu8 17 0 1 1, fq 20 (2/10000) (1/100) (1/1000), fq 24 (2/100) 1 (2/10), fq 28 0 (1/2) (1/10), fq 32 (1/100) 2 (5/100),
   fq 36 (1/10) 60 5, fq 40 (1/1000) 1000 (1/2), fq 44 (1/100) (1/2) (5/100), fleast 48 0, fq 52 1 1000 50]
def layDrum : List Fld :=
  [fu8 16 1 16, { off := 20, ty := .f32, rng := .q (-10000) 10000 }, fq 24 1 20000, fq 28 0 1 (1/4), fq 32 0 50 2]
def layDrumSet : List Fld := [fleast 16 0]
def layProfLimits : List Fld :=
  [fq 16 (1/1000) 20 (1/2), fq 20 (1/1000) 20 (2/10), fq 24 (1/1000) 20 (2/10), fq 28 (1/1000) 100 (1/2)]
def layMove : List Fld := [fleast 16 0, fu8 20 0 1]
def layVlimit : List Fld := [fleast 16 0, fleast 20 0, fq 24 0 1000, fq 28 0 10 (1/2)]
def layTension : List Fld :=
  [fq 16 0 10000000, fq 20 1 10000000 10000, fq 24 0 20 (3/10), fq 28 0 20 (3/10), fsd 32, fq 36 0 50 (1/2)]
def layHeave : List Fld :=
  [fu8 16 0 1, fu16 18 0 0x3FF, fq 20 0 1 1, fq 24 (1/100) 10 2, fq 28 (1/100) 20 2, fq 32 (2/1000) (2/10) (2/100)]
def layHeaveRef : List Fld := [{ off := 16, ty := .u64 }, fq 24 (-50) 50, fq 28 (-20) 20]

def State.curveP (s : State) (p off : Nat) : Q := paramOf layCurve (s.stored 0x41 p 0) off
def State.curveByte (s : State) (p off : Nat) : Nat := ((s.stored 0x41 p 0).map fun b => byteAt b (off - 16)).getD 0
/-- A binary32 of a stored descriptor's buffer data. -/
def bufQ (b : List Byte) (off : Nat) : Q := (f32 (leNat b (48 + off) 4)).getD 0
/-- Point i of the operating curve. -/
def State.curveY (s : State) (p i : Nat) : Q := ((s.stored 0x41 p 0).map fun b => bufQ b (4 * i)).getD 0
def State.shockP (s : State) (p off : Nat) : Q := paramOf layShock (s.stored 0x43 p 0) off
def State.drumP (s : State) (p off : Nat) : Q := paramOf layDrum (s.stored 0x44 p 0) off
def State.gear (s : State) (p : Nat) : Q := s.drumP p 20
def State.ropeLen (s : State) (p : Nat) : Q := s.drumP p 24
/-- The drum layers, innermost first: effective diameter and turns (R134). -/
def layersOf (b : List Byte) : List (Q × Q) := (List.range (byteAt b 0)).map fun k => (bufQ b (8 * k), bufQ b (8 * k + 4))
def State.layers (s : State) (p : Nat) : List (Q × Q) := ((s.stored 0x44 p 0).map layersOf).getD []
def State.vlimP (s : State) (p off : Nat) : Q := paramOf layVlimit (s.stored 0x49 p 0) off
def State.heaveP (s : State) (p off : Nat) : Q := paramOf layHeave (s.stored 0x4B p 0) off
def State.heaveSrc (s : State) (p : Nat) : Nat := ((s.stored 0x4B p 0).map fun b => byteAt b 0).getD 0
def State.heaveNode (s : State) (p : Nat) : Nat := ((s.stored 0x4B p 0).map fun b => leNat b 2 2).getD 0

/-- T_rated (R125). -/
def State.tRated (s : State) (p : Nat) : Q := if s.nMax p = 0 then 0 else s.pRated p / s.nMax p

/-- The curve's ranges stated by other fields: rising points, `n_max`, the levels, and the input span (R128, R145). -/
def State.curveStatus (s : State) (p : Nat) : Nat :=
  if ¬ s.given 0x41 p 0 then 0
  else
    let ys := (List.range 33).map fun i => s.curveY p i
    let pairs := ys.zip (ys.drop 1)
    if s.curveP p 32 ≤ s.curveP p 28 then 0x0003
    else if s.curveY p 16 ≠ 0 ∨ pairs.any (fun e => decide (e.2 < e.1)) ∨ s.curveP p 20 ≤ s.curveP p 24 ∨
      (s.given 0x30 p 0 ∧ s.curveByte p 16 = 0 ∧ ys.any fun y => decide (s.nMax p < absQ y)) then 0x0400
    else 0

/-- The curve against `n_max` (R128, R505). -/
def crossCurve : CrossCheck := { ops := [0x30, 0x41], run := fun s p => s.curveStatus p }

/-- Ranges in terms of `n_max` and `rope_len` (Table 5, R505). -/
def crossMotion : CrossCheck :=
  { ops := [0x30, 0x43, 0x44, 0x49]
    run := fun s p =>
      if s.given 0x30 p 0 ∧ s.nMax p < s.shockP p 48 then 0x0003
      else if s.vlimP p 20 < s.vlimP p 16 then 0x0003
      else if s.given 0x44 p 0 ∧ (s.ropeLen p < s.vlimP p 16 ∨ s.ropeLen p < s.vlimP p 20) then 0x0003
      else 0 }

/-- The drum table (R134, R145): entry ranges, then rising diameters and the capacity. -/
def drumStatus (gear rope : Q) (ls : List (Q × Q)) : Nat :=
  if ¬ (1 ≤ absQ gear) ∨ ls.any (fun e => decide (e.1 < f32Near (1/20) ∨ 20 < e.1 ∨ e.2 < 1/2 ∨ 1000 < e.2)) then 0x0003
  else if (ls.zip (ls.drop 1)).any (fun e => decide (e.2.1 ≤ e.1.1)) ∨ sumQ (ls.map fun e => Config.pi * e.1 * e.2) < rope then 0x0405
  else 0

end Sys2Proof.Machine
end

