-- ==== Sys2Proof/Machine/FbParams.lean ====
section
/-!
DEFINITION. Parameters of position and speed feedback (R171, R172) and their checks (R148, R152, R159, R169, R171).
-/
namespace Sys2Proof.Machine
open Sys2Proof

/-- The binary32 nearest to 2π and to π. -/
def piTwice : Q := 13176795 / 2097152
def piOnce : Q := 13176795 / 4194304

def layFb : List Fld :=
  [fenum 16 [0, 1, 2, 3, 4, 5, 6, 7, 0xFF], fu8 17 1 3, fu8 18 0 2, fu8 19 0 1, fq 20 0 piTwice, fq 24 (1/1000) 1000 1]
def layEnc : List Fld := [fu32 16 1 65536 1024, fu8 20 0 1 1, fu8 21 1 16 2, fu16 22 0 1000 50, fu16 24 0 64 4, fq 28 (1/1000) 1 (1/10)]
def layRes : List Fld :=
  [fq 16 4000 20000 10000, fq 20 (1/10) 1 (8/10), fu8 24 0 127, fu8 25 0 127, fu8 26 1 16 1, fq 28 (-piOnce) piOnce, fq 32 100 10000 2000,
   fover 36 0]
def layBiss : List Fld :=
  [fu8 16 0 3 3, fu8 17 8 32 20, fu8 18 0 24, fenum 19 [0, 2] 2, fu16 20 500 20000 2000, fu8 22 1 16 3]
def laySensorless : List Fld :=
  [fq 16 (2/100) (1/2) (1/10), fq 20 (1/100) (1/2) (7/100), fq 24 (5/100) 1 (3/10), fq 28 (5/100) 1 (3/10)]
def layRestart : List Fld :=
  [fu8 16 0 1 1, fq 20 (1/1000) (2/10) (1/100), fq 24 (1/1000) (1/10) (5/1000), fq 28 (1/100) 10 (1/10), fq 32 (2/100) (1/2) (1/10),
   fq 36 (1/10) 10 1, fq 40 (2/100000) (2/1000) (2/10000)]
def limitCodes : List Nat := [0, 1, 2, 3, 4, 5, 6, 7] ++ (List.range 32).map (· + 0x20) ++ [0xFF]
def layLimitIn : List Fld := [fenum 16 limitCodes 0xFF, fenum 17 limitCodes 0xFF, fmask 18 .u8 3, fq 20 (1/10000) (5/100) (2/1000)]

def State.fbByte (s : State) (p off dflt : Nat) : Nat := ((s.stored 0x50 p 0).map fun b => byteAt b (off - 16)).getD dflt
/-- Interface E0 to E7 of a partition, 0xFF none. -/
def State.fbIf (s : State) (p : Nat) : Nat := s.fbByte p 16 0xFF
def State.fbType (s : State) (p : Nat) : Nat := s.fbByte p 17 1
def State.fbMode (s : State) (p : Nat) : Nat := s.fbByte p 18 0
def State.fbSign (s : State) (p : Nat) : Q := if s.fbByte p 19 0 = 1 then -1 else 1
def State.angleOffset (s : State) (p : Nat) : Q := paramOf layFb (s.stored 0x50 p 0) 20
def State.fbRatio (s : State) (p : Nat) : Q := paramOf layFb (s.stored 0x50 p 0) 24
def State.encP (s : State) (p off : Nat) : Q := paramOf layEnc (s.stored 0x51 p 0) off
def State.useIndex (s : State) (p : Nat) : Bool := decide (s.encP p 20 = 1)
def State.resP (s : State) (p off : Nat) : Q := paramOf layRes (s.stored 0x52 p 0) off
def State.resByte (s : State) (p off dflt : Nat) : Nat := ((s.stored 0x52 p 0).map fun b => byteAt b (off - 16)).getD dflt
def State.bissN (s : State) (p off len dflt : Nat) : Nat := ((s.stored 0x53 p 0).map fun b => leNat b (off - 16) len).getD dflt
def State.slP (s : State) (p off : Nat) : Q := paramOf laySensorless (s.stored 0x54 p 0) off
def State.rsP (s : State) (p off : Nat) : Q := paramOf layRestart (s.stored 0x55 p 0) off
def State.limByte (s : State) (p off dflt : Nat) : Nat := ((s.inForce 0x56 p).map fun b => byteAt b (off - 16)).getD dflt
/-- As `limByte`, of the descriptor last stored. -/
def State.limSet (s : State) (p off dflt : Nat) : Nat := ((s.stored 0x56 p 0).map fun b => byteAt b (off - 16)).getD dflt
def State.limDebounce (s : State) (p : Nat) : Q := paramOf layLimitIn (s.inForce 0x56 p) 20

/-- A multi-turn absolute encoder (R160). -/
def State.multiTurn (s : State) (p : Nat) : Bool := s.fbType p = 3 && s.fbIf p ≠ 0xFF && 0 < s.bissN p 18 1 0

/-- The drum calibration is lost, with its retained record (R135). -/
def State.loseDrum (s : State) (p : Nat) : State :=
  if ¬ (s.motOf p).calibrated then s
  else
    let s := s.setMot p { s.motOf p with calibrated := false }
    if s.multiTurn p then s.stageDevice 7 p [] else s

/-- Speed thresholds in rad/s. -/
def State.slOn (s : State) (p : Nat) : Q := s.slP p 16 * s.nMax p
def State.slOff (s : State) (p : Nat) : Q := s.slP p 20 * s.nMax p
def State.stillThr (s : State) (p : Nat) : Q := s.rsP p 24 * s.nMax p

/-- MA clock frequency in Hz (R158). -/
def maRate (code : Nat) : Q := if code = 0 then 1000000 else if code = 1 then 2500000 else if code = 2 then 5000000 else 10000000

/-- A BiSS-C configuration that its timing does not allow (R159). -/
def bissInfeasible (rate st mt stat tout : Nat) : Bool :=
  let frame : Q := ((mt + st + stat + 9 : Nat) : Q) / maRate rate + 1 / 1000000
  decide (8 / 1000000 < frame) || decide (20 / 1000000 < frame + secOf tout)

/-- The encoder filter is too slow for the edge spacing (R152). π is the open constant of Config. -/
def State.encInfeasible (s : State) (p : Nat) : Bool :=
  decide (1 / 2 < 4 * s.encP p 16 * (3 / 2) * s.nMax p / (2 * Config.pi * s.fbRatio p) * (s.encP p 22 + 20) / 1000000000)

/-- `FB_INFEASIBLE` of R152 and R159. -/
def crossFb : CrossCheck :=
  { ops := [0x30, 0x50, 0x51, 0x53]
    run := fun s p =>
      if s.given 0x30 p 0 ∧ s.given 0x50 p 0 ∧ s.fbIf p ≠ 0xFF ∧ s.fbType p = 1 ∧ s.encInfeasible p then 0x0501
      else if s.given 0x53 p 0 ∧ bissInfeasible (s.bissN p 16 1 3) (s.bissN p 17 1 20) (s.bissN p 18 1 0) (s.bissN p 19 1 2) (s.bissN p 20 2 2000)
        then 0x0501
      else 0 }

/-- The interface region check of R171. -/
def crossFbRegion : CrossCheck :=
  { ops := [0x10, 0x50]
    run := fun s p =>
      if s.given 0x50 p 0 ∧ ((s.fbIf p = 0xFF ∧ s.fbMode p ≠ 2) ∨
        (s.fbIf p ≠ 0xFF ∧ s.given 0x10 p 0 ∧ ¬ (s.confRegions p).contains (s.fbIf p))) then 0x0003 else 0 }

/-- `sl_off` up to `sl_on` (Table 6). -/
def slRange (onv offv : Q) : Bool := decide (offv ≤ onv)

/-- Another partition's configuration uses interface e (R148). -/
def State.fbTaken (s : State) (p e : Nat) : Bool := (List.range 8).any fun q => q ≠ p && s.given 0x50 q 0 && s.fbIf q = e

/-- What `PART_COMMIT` wants of feedback (R171). -/
def State.commitR171 (s : State) (p : Nat) : Nat :=
  if s.shape p = 6 then 0
  else if ¬ s.given 0x50 p 0 then 0x0102
  else if s.fbIf p ≠ 0xFF ∧ ¬ s.given (if s.fbType p = 1 then 0x51 else if s.fbType p = 2 then 0x52 else 0x53) p 0 then 0x0102
  else if crossFbRegion.run s p ≠ 0 then 0x0003
  else 0

end Sys2Proof.Machine
end

