-- ==== Sys2Proof/Machine/BrakeParams.lean ====
section
/-!
DEFINITION. Parameters of braking and emergency modes (R222, R223), their checks (R200, R204, R239), and the whole list of the
checks of R505 with what `PART_COMMIT` makes of it.
-/
namespace Sys2Proof.Machine
open Sys2Proof

def layBrake : List Fld :=
  [fmask 16 .u8 3 3, fu8 17 0 1, fu8 18 0 2 2, fq 20 (111/100) (140/100) (115/100), fq 24 (111/100) (139/100) (112/100),
   fq 28 (112/100) (145/100) (120/100), fq 32 (1/100) (2/10) (5/100), fq 36 (113/100) (15/10) (125/100), fleast 40 0,
   fq 44 (1/100) 1 (1/10), fq 48 (1/1000) (1/10) (5/1000)]
def brakeCh : List Nat := List.range 32 ++ [0xFF]
def layEmerg : List Fld :=
  [fenum 16 brakeCh 0xFF, fenum 17 brakeCh 0xFF, fu8 18 0 1, fq 20 (1/1000) 1000 1, fq 24 (1/1000) 20 (1/2), fq 28 (1/100) 5 (3/10),
   fq 32 (1/100) 5 (3/10), fq 36 (1/10) 20 2, fq 40 0 10000000, fq 44 0 20 1, fq 48 (1/1000) 1000 1, fq 52 (1/10) 60 10,
   fq 56 (1/100) (2/10) (5/100)]
def layRide : List Fld :=
  [fu8 16 0 1 1, fq 20 (5/100) (45/100) (2/10), fq 24 (6/10) (95/100) (85/100), fq 28 (1/2) (95/100) (8/10), fq 32 (1/10) 30 2, fq 36 0 10,
   fq 40 (1/100) (1/2) (5/100)]
def layLimp : List Fld := [{ off := 16, ty := .u16 }]
def layCrash : List Fld := [fu8 16 0 1, fqs 20, fq 24 (1/1000) 1000, fq 28 0 100000000, fq 32 0 40000000]
def layEstop : List Fld := [fu8 16 0 1]
def layWinch : List Fld := [fu8 16 0 2]

def State.brkP (s : State) (p off : Nat) : Q := paramOf layBrake (s.stored 0x70 p 0) off
def State.brkByte (s : State) (p off dflt : Nat) : Nat := ((s.stored 0x70 p 0).map fun b => byteAt b (off - 16)).getD dflt
def State.emP (s : State) (p off : Nat) : Q := paramOf layEmerg (s.stored 0x71 p 0) off
def State.emByte (s : State) (p off dflt : Nat) : Nat := ((s.stored 0x71 p 0).map fun b => byteAt b (off - 16)).getD dflt
def State.rideP (s : State) (p off : Nat) : Q := paramOf layRide (s.stored 0x72 p 0) off
def State.rtEnable (s : State) (p : Nat) : Bool := decide (s.rideP p 16 = 1)
/-- The holding-brake channels S0 to S31 a partition names (R208). -/
def State.brakeChans (s : State) (p : Nat) : List Nat := ([s.emByte p 16 0xFF, s.emByte p 17 0xFF]).filter fun c => c ≠ 0xFF

/-- The order of the DC-link levels (R200), with `ov_trip` of R247 as the over-voltage trip level. -/
def State.levelsOk (s : State) (p : Nat) : Bool :=
  decide (11 / 10 < s.brkP p 24) && decide (s.brkP p 24 < s.brkP p 20) && decide (s.brkP p 20 ≤ s.brkP p 28 - s.brkP p 32) &&
    decide (s.brkP p 28 - s.brkP p 32 < s.brkP p 28) && decide (s.brkP p 28 < s.brkP p 36) && decide (s.brkP p 36 < s.protP p 24)

/-- `BRAKE_LEVELS` (R200, R239). -/
def crossBrake : CrossCheck :=
  { ops := [0x70, 0x78], run := fun s p => if ¬ s.levelsOk p then 0x0800 else 0 }

/-- `SC_INFEASIBLE` (R204). -/
def State.scInfeasible (s : State) (p : Nat) : Bool :=
  s.brkByte p 17 0 = 1 &&
    ((s.given 0x30 p 0 && s.machine p ≠ 2 && s.machine p ≠ 3) ||
      (s.given 0x31 p 0 && decide (s.brkP p 40 * s.ld p < s.psiPm p)))
def crossSc : CrossCheck := { ops := [0x30, 0x31, 0x70], run := fun s p => if s.scInfeasible p then 0x0801 else 0 }

/-- `sc_i_max` up to 2 × i_arm_rated (Table 6). -/
def crossScRange : CrossCheck :=
  { ops := [0x10, 0x70], run := fun s p => if s.given 0x10 p 0 ∧ s.given 0x70 p 0 ∧ 2 * s.iRated p < s.brkP p 40 then 0x0003 else 0 }

/-- `uv_trip` below `ready_floor` (R239). -/
def crossUv : CrossCheck :=
  { ops := [0x15, 0x78], run := fun s p => if s.protP p 28 ≠ 0 ∧ s.readyFloor p ≤ s.protP p 28 then 0x0003 else 0 }

/-- `sd_sin` and `sd_cos` lie in the interface's region (Table 6 of R172). -/
def crossRes : CrossCheck :=
  { ops := [0x50, 0x52]
    run := fun s p =>
      if s.given 0x50 p 0 ∧ s.given 0x52 p 0 ∧ s.fbIf p ≠ 0xFF ∧
        (sdRegion (s.resByte p 24 0) ≠ s.fbIf p ∨ sdRegion (s.resByte p 25 0) ≠ s.fbIf p) then 0x0003 else 0 }

/-- Every check of R505, in the order in which the manual states them. -/
def allChecks : List CrossCheck :=
  [crossMethod, crossEdge, crossCarrier, crossSense, crossParam, crossLimits, crossCurve, crossMotion, crossFb, crossFbRegion, crossRes, crossBrake,
   crossSc, crossScRange, crossOc, crossUv]

/-- What `PART_COMMIT` finds: R61, R121, R171, then every check of R505 (R505); 0 when all pass. -/
def State.commitStatus (s : State) (p : Nat) : Nat :=
  firstStatus ([s.commitR61 p, s.commitR121 p, s.commitR171 p] ++ allChecks.map fun c => c.run s p)

/-- The checks that an arriving descriptor makes. -/
def State.arrival (s : State) (op p : Nat) : Nat :=
  firstStatus ((allChecks.filter fun c => c.ops.contains op).map fun c => c.run s p)

end Sys2Proof.Machine
end

