-- ==== Sys2Proof/Machine/Claims.lean ====
section
/-!
DEFINITION. Claims on auxiliary channels and pins (R169, R275): which partition function holds which channel, read off the
stored configuration, and whether a further function may name it.
-/
namespace Sys2Proof.Machine
open Sys2Proof

/-- Every claim in force: channel or pin code, opcode and target of the descriptor that names it (Table 2 of R275). -/
def State.claims (s : State) : List (Nat × Nat × Nat) :=
  let parts := (List.range 8).map fun p =>
    let br := (s.brakeChans p).map fun c => (0x20 + c, 0x71, p)
    let lim := (([s.limByte p 16 0xFF, s.limByte p 17 0xFF, s.limSet p 16 0xFF, s.limSet p 17 0xFF]).filter fun c => c ≠ 0xFF).map fun c => (c, 0x56, p)
    let exc := if s.given 0x3A p 0 ∧ s.excByte p 16 = 1 then [(0x100 + s.excByte p 17, 0x3A, p)] else []
    br ++ lim ++ exc
  let calve := match s.stored 0x66 0xFFFF 0 with
    | some b => (((b.take 4).map fun x => x.toNat).filter fun c => c ≠ 0xFF).map fun c => (c, 0x66, 0xFFFF)
    | none => []
  let step := (List.range 16).map fun m => match s.stored 0x84 m 0 with
    | some b => if byteAt b 0 = 1 then [(byteAt b 1, 0x84, m), (byteAt b 2, 0x84, m)] else []
    | none => []
  parts.flatten ++ calve ++ step.flatten

/-- A claim code's channel code: motor channels are listed at 0x100 + n, apart from the index pins 0 to 7 (R274). -/
def motorClaim (n : Nat) : Nat := 0x100 + n

/-- A channel is claimed by some function (R275). -/
def State.claimed (s : State) (chan : Nat) : Bool :=
  s.claims.any fun c => c.1 = (if chan < 16 then motorClaim chan else chan)

/-- A descriptor may claim a code: its channel is in mode 0, unowned and not claimed by another descriptor (R275). -/
def State.claimFree (s : State) (code op target : Nat) : Bool :=
  let mode := if code < 8 then 0 else if 0x100 ≤ code then s.auxMode (code - 0x100) else s.auxMode code
  mode = 0 && !(s.claims.any fun c => c.1 = code && c.2 ≠ (op, target))

/-- The region of a switch channel code. -/
def switchRegion (code : Nat) : Nat := (code - 0x20) / 4

end Sys2Proof.Machine
end

