-- ==== Sys2Proof/Machine/Links.lean ====
section
/-!
DEFINITION. The Ilugon cell link as the lane sees it (R255 to R272): frames and their CRC, identity, ranging, acceptance,
bring-up, retry, alarm symbols (R234, R235), and the link descriptors.
-/
namespace Sys2Proof.Machine
open Sys2Proof

/-! ### Frames -/

/-- One bit of the CRC-16 of R256: polynomial 0x1021. -/
def crcBit (c : Nat) : Nat := if c.testBit 15 then (c * 2 % 0x10000) ^^^ 0x1021 else c * 2 % 0x10000

/-- One byte of the CRC-16. -/
def crcByte (c : Nat) (b : Byte) : Nat :=
  (List.range 8).foldl (fun c _ => crcBit c) (c ^^^ (b.toNat * 256))

/-- The CRC-16 of a payload: initial value 0xFFFF, no reflection, no final XOR (R256). -/
def crc16 (bs : List Byte) : Nat := bs.foldl crcByte 0xFFFF

/-- Windows of the cell cycle, as offsets in ns (Table 1 of R73). -/
def upWindowEnd (T : Nat) : Nat := if T = 5000 then 2000 else 2500
def downWindowStart (T : Nat) : Nat := if T = 5000 then 3400 else 6000

/-- The largest one-way delay of Table 7 of R261, in ns. -/
def maxDelay (T : Nat) : Q := if T = 5000 then 150 else 1000

/-- The delay d of a lane: the mean of its samples, the largest value before the first (R263). -/
def Lane.delay (x : Lane) (T : Nat) : Q := if x.delays = [] then maxDelay T else sumQ x.delays / (x.delays.length : Q)

/-- `t_sync` and `u_off` of Table 7. -/
def tSyncOf (T : Nat) (d : Q) : Int := nearest ((if T = 5000 then 1600 else if T = 10000 then 4000 else 14000) - d)
def uOffOf (T : Nat) (d : Q) : Int := nearest ((if T = 5000 then 200 else 700) - d)

/-- The switch mask of a level by cell type (Table 3 of R258). -/
def maskOfLevel (kind : Nat) (lvl : Int) : Nat :=
  if kind = 1 ∨ kind = 6 then (if lvl = 1 then 1 else 2)
  else if kind = 5 then (if lvl = 1 then 1 else 0)
  else if lvl = 1 then 9 else if lvl = -1 then 6 else 10

/-- The 24 payload bytes of a down-frame (Table 2 of R257). -/
def Down.bytes (f : Down) : List Byte :=
  let b := leBytes 2 f.seq ++ leBytes 1 f.epoch ++ leBytes 1 f.cmd ++ leBytes 1 (f.mask0 + 16 * f.mask1) ++ leBytes 1 f.mask2 ++
    leBytes 2 f.e0 ++ leBytes 2 f.e1 ++ leBytesInt 2 f.tSync ++ leBytesInt 2 f.uOff ++ leBytes 1 f.cycle ++ leBytes 1 f.hold ++
    leBytes 1 f.flags ++ zeros 5
  b ++ leBytes 2 (crc16 b)

/-- The reserved fields of an up-frame are 0 and its enumerated fields hold defined codes (R256, Tables 5 and 6). -/
def upReserved (b : List Byte) : Bool :=
  if byteAt b 5 = 0 then
    !(byteAt b 8).testBit 7 && byteAt b 11 = 0 && byteAt b 28 ≤ 3
  else if byteAt b 5 = 1 then
    (1 ≤ byteAt b 16 && byteAt b 16 ≤ 6) && byteAt b 24 < 4 && byteAt b 25 = 0 && leNat b 28 2 = 0
  else false

/-- An up-frame is valid (R256): its characters, its length, its CRC, its reserved and enumerated fields. -/
def upValid (b : List Byte) (chars : Bool) : Bool :=
  chars && b.length = 32 && leNat b 30 2 = crc16 (b.take 30) && upReserved b

/-! ### Cells identified -/

/-- A cell enters QUALIFYING: its self-test runs (R60, R269). -/
def State.qualify (s : State) (l : Nat) : State :=
  s.setCell l { s.cell l with st := .qualifying, test := 1, testFrom := s.now }

/-- A cell is IDENTIFIED; during a precharge it enters QUALIFYING at once (R60 step 1). -/
def State.identified (s : State) (l : Nat) : State :=
  let s := s.setCell l { s.cell l with st := .identified }
  if (s.part (s.cell l).part).st = .precharge then s.qualify l else s

/-- The re-admission of R64 starts: the cell stands IDENTIFIED and its self-test runs. -/
def State.startAdmit (s : State) (l : Nat) : State :=
  let c := s.cell l
  (s.setBypassEntry c 0).setCell l { c with st := .identified, reason := 0, admitting := true, test := 1, testFrom := s.now }

/-- A cell with another identity takes a position: one bypassed before stays so, with the new reason and its own serial in the Firn entry;
else the cell-loss policy takes it (R44, R52, R65). -/
def State.keepOrLose (s : State) (l reason : Nat) : State :=
  if (s.cell l).st = .bypassed then
    let s := s.setCell l { s.cell l with reason := reason }
    s.setBypassEntry (s.cell l) ((s.cell l).serial + 1)
  else s.loseCell l reason

/-- The identity of a cell is accepted (R269 step 3): its type (R44), the bypass list (R52) and a changed identity (R65)
decide its state. -/
def State.acceptIdentity (s : State) (l : Nat) (b : List Byte) : State :=
  let c := s.cell l
  let serial := leNat b 8 8
  let boots := leNat b 18 2
  let kind := byteAt b 16
  let x := s.lane l
  let s := s.setLane l { x with lstate := 4, down := false, proto := byteAt b 17, fw := leNat b 26 2, dual := (byteAt b 24).testBit 0 }
  let same := c.known && c.serial = serial && c.boots = boots
  let changed := c.known && !same
  let now' : Cell := { c with known := true, kind := kind, serial := serial, boots := boots, tMin := leNat b 20 2, renamed := c.renamed || !same }
  let s := s.setCell l now'
  let s := if changed then
      let s := s.inform (srcLane l) 0x1004
        (leBytes 4 c.serial ++ leBytes 4 serial ++ leBytes 2 c.boots ++ leBytes 2 boots)
      let x := (s.protOf c.part).undrive fun a => decide (a = (0x0904, l))
      let s := { s with alarmLog := Tab.set (Tab.set s.alarmLog {} (2 * l) {}) {} (2 * l + 1) {} }
      (s.setProt c.part { x with alarms := x.alarms.filter (· ≠ l) }).setCell l
        now' |>.markSensor (cellSensor l 0) false |>.markSensor (cellSensor l 1) false
    else s
  let entry := Tab.get s.bypass 0 (posKey c.part c.arm c.pos)
  let energised := (s.part c.part).st.energised
  if c.st = .isolated then s
  else if kind ≠ s.armType c.part c.arm then s.keepOrLose l 5
  else if changed ∧ energised then
    let s := s.keepOrLose l 9
    let st := (s.part c.part).st
    if ¬ s.autoAdmit c.part ∨ s.cellHot l ≠ 0 then s
    else if st = .precharge then (s.setBypassEntry c 0).identified l
    else if isMmc (s.shape c.part) ∧ (st = .ready ∨ st = .running ∨ st = .braking) then s.startAdmit l
    else s
  else if changed then (if entry = 0 then s else s.setBypassEntry c 0).identified l
  else if entry ≠ 0 then
    if entry = 1 ∨ entry = serial + 1 then
      let s := s.setCell l { s.cell l with st := .bypassed }
      let s := if entry = serial + 1 then s else s.setBypassEntry (s.cell l) (serial + 1)
      if c.st = .bypassed then s else s.alarmBypassed l
    else (s.setBypassEntry c 0).identified l
  else if c.st = .absent then s.identified l
  else s

/-- A ranging sample (R263): the mean of the last 16, jumps counted, the limit of Table 7 judged. -/
def State.ranged (s : State) (l : Nat) (sample : Option Q) : State :=
  match sample with
  | none => s
  | some q =>
    let x := s.lane l
    let T := s.cycleNs (s.cell l).part
    let jump := x.delays ≠ [] ∧ 4 < absQ (q - x.delay T)
    let x := { x with delays := (q :: x.delays).take 16, delayJumps := if jump then holdAt 255 (x.delayJumps + 1) else x.delayJumps }
    let long := decide (maxDelay T < x.delay T)
    let s := s.setLane l { x with tooLong := long }
    if long && !x.tooLong then s.alarm (srcLane l) 0x1000 [] else s

/-- An identity up-frame on a lane that identifies (R269 step 3). -/
def State.identityFrame (s : State) (l : Nat) (b : List Byte) : State :=
  let x := s.lane l
  if x.lstate ≠ 3 then s
  else
    let ident := (b.drop 8).take 20
    let n := if x.idFrame = ident then x.idCount + 1 else 1
    let s := s.setLane l { x with idFrame := ident, idCount := n }
    if n < 3 then s
    else if byteAt b 17 ≠ 1 then (if n = 3 then s.alarm (srcLane l) 0x1003 [] else s)
    else if (s.lane l).tooLong then s
    else s.acceptIdentity l b

/-- What a status up-frame reports of its cell is taken up (R53, R60, R81, R234, R269); a standby's loses no cell and asserts nothing (R66). -/
def State.statusFrame (s : State) (l : Nat) (b : List Byte) : State :=
  let c := s.cell l
  let cst := byteAt b 8
  let seq := leNat b 0 2
  let x := s.lane l
  let s := s.setLane l { x with gotFrame := true, obeys := cst.testBit 5, lastFrame := b }
  let res := byteAt b 28
  let c := { c with
    vcap := (leNat b 12 2 : Q) / 10, tempA := (signed 16 (leNat b 14 2) : Q) / 4, tempB := (signed 16 (leNat b 16 2) : Q) / 4,
    missed := 0, plans := c.plans.filter fun e => decide ((e.1 % 65536 + 65536 - seq) % 65536 < 32768),
    test := if (c.st = .qualifying ∨ c.admitting) ∧ 2 ≤ res then res else c.test }
  let s := s.setCell l c
  let s := if ¬ cst.testBit 4 then s.releaseSource c.part 0x0904 l
    else if (s.protOf c.part).alarms.contains l ∧ ¬ x.standby then s.assertSource c.part 0x0904 l 0 0xFFFF else s
  let s := if s.power = .entering ∧ bits cst 1 0 = 0 then
      { s with frz := { s.frz with confirmed := if s.frz.confirmed.contains l then s.frz.confirmed else l :: s.frz.confirmed } }
    else s
  if x.standby then s
  else if cst.testBit 3 ∧ (byteAt b 9 ≠ 0 ∨ bits (leNat b 10 2) 6 0 ≠ 0) then s.loseCell l 2
  else if c.admitting ∧ c.st = .identified then
    if c.test = 3 ∨ s.cycleNs c.part < 2 * c.tMin ∨ x.tooLong then
      (s.setCell l { c with admitting := false }).loseCell l 4
    else if c.test = 2 then s.setCell l { c with st := .charging, admitting := false, admitAt := s.now }
    else s
  else if c.st = .charging ∧ c.vcap ≠ 0 ∧
      absQ (c.vcap - s.armAverage c.part c.arm) ≤ s.qualBand c.part * s.armAverage c.part c.arm then
    s.setCell l { c with st := .available }
  else s

/-- The self-tests of step 1 have all reported: the passive phase begins (R60). -/
def State.precharge1 (s : State) (p : Nat) : State :=
  let x := s.part p
  if x.st = .precharge ∧ x.phase = 1 ∧ ¬ (s.partCells p).any (fun e => e.2.st = .qualifying && e.2.test = 1) then
    s.setPart p { x with phase := 2 }
  else s

/-- A frame not accepted breaks a run of identical identity frames (R269 step 3). -/
def Lane.broken (x : Lane) : Lane := if x.lstate = 3 ∧ x.idCount < 3 then { x with idFrame := [], idCount := 0 } else x

/-- `UP_FRAME_RECEIVED` (R264): the frame's 32 payload bytes, whether all its characters were valid, and the round-trip time
measured in ns. -/
def execUpFrameReceived (t : Time) (lane : Nat) (bytes : List Byte) (chars : Bool) (rtt : Nat) (s : State) : Res :=
  within lane 1024 s fun s => s.awake t fun s =>
    let x := s.lane lane
    let c := s.cell lane
    if ¬ c.used ∨ x.lstate = 0 ∨ x.lstate = 5 then s
    else
      let T := s.cycleNs c.part
      let turn := leNat bytes 6 2
      let sample : Option Q := if turn = 0xFFFF then none else some (((rtt : Q) - turn) / 2)
      if ¬ upValid bytes chars then s.setLane lane { x.broken with rxErr := holdAt 0xFFFF (x.rxErr + 1) }
      else if upWindowEnd T < s.now % T then
        (s.setLane lane { x.broken with late := holdAt 0xFFFF (x.late + 1) }).ranged lane sample
      else if leNat bytes 0 2 ≠ s.cycleNo c.part % 65536 then
        (s.setLane lane { x.broken with rxErr := holdAt 0xFFFF (x.rxErr + 1) }).ranged lane sample
      else if byteAt bytes 5 = 1 then (s.ranged lane sample).identityFrame lane bytes
      else
        let s := s.ranged lane sample
        let x := s.lane lane
        let age := ((s.part c.part).epoch + 256 - byteAt bytes 4) % 256
        if 1 ≤ age ∧ age ≤ 127 then
          let young := decide (s.now < (s.part c.part).epochAt + 2 * T)
          s.setLane lane { x with epochDisc := holdAt 255 (x.epochDisc + 1), gotFrame := x.gotFrame || young }
        else if x.lstate ≠ 4 then s.setLane lane x.broken
        else if leNat bytes 20 2 ≠ c.boots then s.setLane lane { x with lstate := 3, idFrame := [], idCount := 0, trainFrom := s.now }
        else (s.statusFrame lane bytes).precharge1 c.part

/-! ### Bring-up, loss and retry (R269, R270) -/

/-- A lane of a committed partition enters ACQUIRE (R269 step 1). -/
def Lane.acquire (x : Lane) (now : Time) : Lane :=
  { x with lstate := 1, locked := false, idFrame := [], idCount := 0, delays := [], trainFrom := now, silentUntil := none,
           tooLong := false, queue := [] }

/-- The receiver locks: `IDENTIFY` frames follow (R255, R269 step 2). -/
def execLaneLockAcquired (t : Time) (lane : Nat) (s : State) : Res :=
  within lane 1024 s fun s => s.awake t fun s =>
    let x := s.lane lane
    if (s.cell lane).used ∧ x.lstate = 1 then s.setLane lane { x with lstate := 3, locked := true, down := false, idFrame := [], idCount := 0 }
    else s

/-- Training not complete within 10 ms restarts from ACQUIRE; a lane held at an unsupported protocol stays (R269). -/
def execTrainingTimeout (t : Time) (lane : Nat) (s : State) : Res :=
  within lane 1024 s fun s => s.awake t fun s =>
    let x := s.lane lane
    if (x.lstate = 1 ∨ (x.lstate = 3 ∧ (x.idCount < 3 ∨ x.tooLong))) ∧ x.trainFrom + 10000000 ≤ s.now then
      s.setLane lane { (x.acquire s.now) with tooLong := x.tooLong }
    else s

/-- The lane goes down (R270): retry timer, STATE event, and retraining. -/
def execLinkDown (t : Time) (lane : Nat) (s : State) : Res :=
  within lane 1024 s fun s => s.awake t fun s =>
    let x := s.lane lane
    if ¬ (s.cell lane).used ∨ x.lstate = 0 ∨ x.lstate = 5 ∨ x.down then s
    else (s.setLane lane { (x.acquire s.now) with down := true, downAt := s.now, downs := holdAt 255 (x.downs + 1) }).inform (srcLane lane) 0x1002 []

/-- `retry_ms` expires: the position is ABSENT unless BYPASSED or ISOLATED, and the lane searches (R270). -/
def execLinkRetryExpiry (t : Time) (lane : Nat) (s : State) : Res :=
  within lane 1024 s fun s => s.awake t fun s =>
    let x := s.lane lane
    let c := s.cell lane
    if x.lstate ≠ 5 ∧ x.down ∧ x.downAt + s.retryMs c.part * 1000000 ≤ s.now then
      let s := s.setLane lane { x with lstate := 2 }
      if c.st = .bypassed ∨ c.st = .isolated then s else s.setCell lane { c with st := .absent, admitting := false }
    else s

/-- A search interval begins: the lane attempts training (R270). -/
def execLinkSearchInterval (t : Time) (lane : Nat) (s : State) : Res :=
  within lane 1024 s fun s => s.awake t fun s =>
    let x := s.lane lane
    if x.lstate = 2 then s.setLane lane { (x.acquire s.now) with down := true, downAt := x.downAt } else s

/-- A cell has not reported its self-test within `st_timeout` (R269). -/
def execSelftestTimeout (t : Time) (lane : Nat) (s : State) : Res :=
  within lane 1024 s fun s => s.awake t fun s =>
    let c := s.cell lane
    if c.test = 1 ∧ c.testFrom + nsOf (s.stTimeout c.part) ≤ s.now then
      if c.admitting then (s.setCell lane { c with test := 3, admitting := false }).loseCell lane 4
      else (s.setCell lane { c with test := 3 }).precharge1 c.part
    else s

/-! ### Alarm symbols (R234, R235) -/

/-- An alarm symbol is taken: not inside a frame with a code error, not on a lane that has not completed training (R235). -/
def State.takesAlarm (s : State) (l : Nat) (clean : Bool) : Bool := clean && (s.lane l).lstate = 4 && (s.cell l).used

/-- An event that stands for several symbols, which the lane itself has counted: into the incident log, to every tenant routed it, with
the count in `repeat` (R235). -/
def State.emitRep (s : State) (cls src code rep : Nat) (data : List Byte) : State :=
  let s := (s.logEvent cls src code data).alarmTrigger cls src code
  let who := ((Tab.keys s.tenants).filter fun n => (s.tenant n).active && s.routed none n cls src && s.wants n cls)
  who.foldl (fun s n => s.recordEvent n cls (severityOf cls) src code (holdAt 0xFFFF rep) s.now (fitTo 12 data)) s

/-- The event of a cell that keeps alarming: of the same code and with the same data as its first (log entry 111). -/
def State.alarmAgain (s : State) (l rep : Nat) (unsafe_ : Bool) : State :=
  let c := s.cell l
  if unsafe_ then
    let r := (s.protOf c.part).recs.reverse.find? fun r => r.cause = 0x0904 ∧ r.source = l
    s.emitRep 7 (srcPart c.part) 0x0904 rep (tripData l c.part ((r.map TripRec.before).getD 0) ((r.map TripRec.order).getD 0) 0 0xFFFF 0)
  else s.emitRep 6 (srcLane l) 0x0108 rep (s.bypassedData l)

/-- A symbol counted on the lane and in the alarm log of its kind, 0 safe and 1 unsafe (R235): one that comes 1 ms or more after the
symbol that raised the last event raises the next, with the symbols counted since in `repeat`. -/
def State.countAlarm (s : State) (l kind : Nat) : State :=
  let x := s.lane l
  let a := Tab.get s.alarmLog {} (2 * l + kind)
  let s := s.setLane l { x with alarms := holdAt 0xFFFF (x.alarms + 1) }
  match a.last with
  | none => { s with alarmLog := Tab.set s.alarmLog {} (2 * l + kind) { a with last := some s.now, held := 0 } }
  | some u =>
    if s.now < u + 1000000 then { s with alarmLog := Tab.set s.alarmLog {} (2 * l + kind) { a with held := a.held + 1 } }
    else
      let s := { s with alarmLog := Tab.set s.alarmLog {} (2 * l + kind) { a with last := some s.now, held := 0 } }
      if x.standby then s else s.alarmAgain l (a.held + 1) (kind = 1)

/-- An alarm symbol discarded and counted (R235). -/
def State.dropAlarm (s : State) (l : Nat) : State :=
  let x := s.lane l
  if x.lstate = 0 then s else s.setLane l { x with alarmDisc := holdAt 255 (x.alarmDisc + 1) }

/-- The cell is BYPASSED with reason CELL_FAULT: by the cell-loss policy, or by a new reason where it was bypassed before (R234). -/
def State.cellFault (s : State) (l : Nat) : State :=
  let c := s.cell l
  if c.used ∧ c.st = .bypassed then s.setCell l { c with reason := 2 } else s.loseCell l 2

/-- `ALARM_S` (R234): the cell-loss policy with reason CELL_FAULT; the source of an unsafe alarm ends unless the last up-frame still
reports the unsafe condition. On a standby only recorded (R235). -/
def execAlarmSReceived (t : Time) (lane : Nat) (clean : Bool) (s : State) : Res :=
  within lane 1024 s fun s => s.awake t fun s =>
    if ¬ s.takesAlarm lane clean then s.dropAlarm lane
    else
      let c := s.cell lane
      let s := s.countAlarm lane 0
      let s := if (byteAt (s.lane lane).lastFrame 8).testBit 4 then s else s.releaseSource c.part 0x0904 lane
      if (s.lane lane).standby then s.setCell lane { s.cell lane with st := .bypassed, reason := 2 } else s.loseCell lane 2

/-- `ALARM_U` (R234): the partition's CELL_ALARM source asserts and the cell is BYPASSED with reason CELL_FAULT. -/
def execAlarmUReceived (t : Time) (lane : Nat) (clean : Bool) (s : State) : Res :=
  within lane 1024 s fun s => s.awake t fun s =>
    if ¬ s.takesAlarm lane clean then s.dropAlarm lane
    else
      let c := s.cell lane
      let s := s.countAlarm lane 1
      if (s.lane lane).standby then s.setCell lane { s.cell lane with st := .bypassed, reason := 2 }
      else
        let x := s.protOf c.part
        let s := s.setProt c.part { x with alarms := lane :: x.alarms.filter (· ≠ lane) }
        (s.assertSource c.part 0x0904 lane 0 0xFFFF).cellFault lane

/-! ### Descriptors (R271, R272) -/

def infoLinkConfig : OpInfo :=
  { op := 0xD0, tgt := .part, need := .part, lease := true, kept := true, conf := true,
    states := some [.unconfigured, .blocked], lay := layLink }
def infoLinkRetrain : OpInfo :=
  { op := 0xD1, tgt := .part, need := .part, lease := true, lay := [{ off := 16, ty := .u16 }],
    states := some [.blocked, .precharge, .ready, .running, .braking, .tripped, .safeOff] }
def infoLinkStatus : OpInfo := { op := 0xD2, tgt := .part, need := .read, gives := true }

/-- `LINK_CONFIG` (R272). -/
def execLinkConfig (d : Desc) (s : State) : Res := serveRes infoLinkConfig d none (fun s => { st := s }) s

/-- The effect of `LINK_RETRAIN` (Table 9 of R271). -/
def linkRetrainEffect (d : Desc) (s : State) : Reply :=
  let l := d.u16 16
  let c := s.cell l
  if 1024 ≤ l ∨ ¬ c.used ∨ c.part ≠ d.target then Reply.no s 0x0003
  else if c.st = .isolated ∨ (s.lane l).lstate = 5 then Reply.no s 0x1001
  else if (s.part d.target).st.energised ∧ (c.st = .available ∨ c.st = .qualifying ∨ c.st = .charging) then Reply.no s 0x0004
  else { st := s.setLane l { s.lane l with silentUntil := some (s.now + 25000) } }

/-- `LINK_RETRAIN` (R271). -/
def execLinkRetrain (d : Desc) (s : State) : Res := serveRes infoLinkRetrain d none (linkRetrainEffect d) s

/-- The ordered silence ends and the lane trains (R271). -/
def execRetrainSilenceEnd (t : Time) (lane : Nat) (s : State) : Res :=
  within lane 1024 s fun s => s.awake t fun s =>
    let x := s.lane lane
    match x.silentUntil with
    | some u => if u ≤ s.now then s.setLane lane (x.acquire s.now) else s
    | none => s

/-- A `LINK_STATUS` record (Table 11 of R271). -/
def State.linkRecord (s : State) (l : Nat) : List Byte :=
  let x := s.lane l
  let c := s.cell l
  let T := s.cycleNs c.part
  leBytes 2 l ++ leBytes 1 x.lstate ++
    leBytes 1 ((if x.dual then 1 else 0) + (if x.obeys then 2 else 0) + (if x.standby then 4 else 0)) ++
    leBytes 2 (holdAt 0xFFFF (nearest (x.delay T)).toNat) ++ leBytes 2 c.tMin ++ leBytes 8 c.serial ++ leBytes 2 c.boots ++
    leBytes 1 c.kind ++ leBytes 1 x.proto ++ leBytes 2 x.rxErr ++ leBytes 2 x.late ++ leBytes 2 x.alarms ++ leBytes 1 x.downs ++
    leBytes 1 x.epochDisc ++ leBytes 1 x.alarmDisc ++ leBytes 1 x.delayJumps ++ leBytes 2 x.fw

/-- The counters of a lane cleared by a read (R271). -/
def Lane.cleared (x : Lane) : Lane :=
  { x with rxErr := 0, late := 0, alarms := 0, downs := 0, epochDisc := 0, alarmDisc := 0, delayJumps := 0 }

/-- `LINK_STATUS` (R271): one record for each assigned lane in lane order. -/
def execLinkStatus (d : Desc) (s : State) : Res :=
  let ls := sortBy (fun n => n) (s.lanesOf d.target)
  serveRes infoLinkStatus d (some (32 * ls.length))
    (fun s => { st := ls.foldl (fun s l => s.setLane l (s.lane l).cleared) s, write := some (ls.map fun l => s.linkRecord l).flatten }) s

end Sys2Proof.Machine
end

