-- ==== Sys2Proof/Machine/PlantParams.lean ====
section
/-!
DEFINITION. Parameters of load sharing and of the fabric (R194, R410): layouts and what they read as.
-/
namespace Sys2Proof.Machine
open Sys2Proof

/-- The greatest power of Table 3: 4 × 10⁷ W. -/
def wattTop : Q := 40000000

def layConsumer : List Fld :=
  [fu16 16 0 0xFFFE, fu8 18 0 3, fu8 19 0 7, fu8 20 0 1, fq 24 0 wattTop, fq 28 0 (1/2) (5/100), fq 32 0 wattTop, fq 36 0 wattTop,
   fq 40 0 wattTop, fq 44 0 wattTop, fq 48 1000 1000000000 1000000]
def layDemand : List Fld := [fq 16 0 wattTop]
def laySupplyRecord : List Fld :=
  [fq 16 0 1000000000, fq 20 0 1000000000, fq 24 0 1000000000, fq 28 0 1000000000, { off := 32, ty := .u8 }, { off := 36, ty := .u64 }]
/-- A switch channel code named as a breaker input, 0xFF none. -/
def brkSources : List Nat := (List.range 32).map (· + 0x20) ++ [0xFF]
def layCalveConfig : List Fld :=
  ((List.range 4).map fun k => [fenum (16 + k) brkSources 0xFF, ({ off := 20 + k, ty := .u8 } : Fld), fu8 (24 + k) 1 4 1]).flatten ++
    [fq 28 (2/100000) (1/100) (1/10000), fq 32 (85/100) (99/100) (95/100), fq 36 (2/10) 20 2, fq 40 (1/2) (95/100) (7/10),
     fq 44 (5/1000) 1 (5/100), fq 48 (1/10) 60 1, fu8 52 0 4 1]
def layCalve : List Fld := [fu8 16 1 0xFF, fu8 17 1 4]
def layCalveClear : List Fld := [fu8 16 1 0xFF]
def layInterleave : List Fld := [fu8 16 1 32 1, { off := 17, ty := .u8 }]
def layReserve : List Fld := [fu8 16 1 16, fq 20 (1/100) 60 1]
def layRelease : List Fld := [{ off := 16, ty := .u32 }]

def State.consN (s : State) (p off len : Nat) : Nat := ((s.stored 0x63 p 0).map fun b => leNat b (off - 16) len).getD 0
def State.consP (s : State) (p off : Nat) : Q := paramOf layConsumer (s.stored 0x63 p 0) off
def State.isConsumer (s : State) (p : Nat) : Bool := s.given 0x63 p 0
def State.demandMax (s : State) (p : Nat) : Q := paramOf layDemand (s.stored 0x64 p 0) 16
/-- The Calving floor at a level from 1 to 4. -/
def State.calveFloor (s : State) (p level : Nat) : Q := s.consP p (28 + 4 * level)
def State.calveP (s : State) (off : Nat) : Q := paramOf layCalveConfig (s.stored 0x66 0xFFFF 0) off
def State.calveByte (s : State) (off dflt : Nat) : Nat := ((s.stored 0x66 0xFFFF 0).map fun b => byteAt b (off - 16)).getD dflt
def State.consOf (s : State) (p : Nat) : Cons := Tab.get s.cons {} p
def State.setCons (s : State) (p : Nat) (x : Cons) : State := { s with cons := Tab.set s.cons {} p x }

/-- The consumer record of a partition (R184). -/
def State.consRec (s : State) (p : Nat) : Option ConsRec :=
  if s.isConsumer p then
    some { id := s.consN p 16 2, cls := s.consN p 18 1, sec := s.consN p 19 1, floor := s.consP p 24, demand := (s.consOf p).demand,
           offer := (s.consOf p).offer, absorb := s.consN p 20 1 }
  else none

/-! ### Fabric (R410) -/

def layStandby : List Fld := [fu8 16 0 2, { off := 17, ty := .u8 }, fu16 18 0 0x3FF, { off := 20, ty := .u8 }, fq 24 (25/1000000) (1/1000) (3/100000)]
def layCal : List Fld := [fu8 16 0 7, fu8 17 0 1, fq 20 (-100) 100]
def laySubs : List Fld :=
  fu8 16 0 8 :: ((List.range 8).map fun k => [({ off := 20 + 4 * k, ty := .u16 } : Fld), { off := 22 + 4 * k, ty := .u16 }]).flatten
def layPublish : List Fld := [fu8 16 1 1, { off := 24, ty := .u64 }, fq 32 (-50) 50, fq 36 (-20) 20]
def layFabSend : List Fld := [fu16 16 0 0x3FF, fu16 18 0 1023, { off := 20, ty := .u32, rng := .nat 1 65536 }, { off := 24, ty := .u32 }]
def layFabRecv : List Fld := [fnode 16, fu16 18 0 1023, { off := 20, ty := .u32, rng := .nat 1 65536 }]
def layTrace : List Fld := [fu16 16 0 0x3FF]

def State.sbByte (s : State) (off dflt len : Nat) : Nat := ((s.stored 0xB0 0xFFFF 0).map fun b => leNat b (off - 16) len).getD dflt
/-- The configured role, partner, mirror ports and partition mask of a standby pair (R402). -/
def State.sbRole (s : State) : Nat := s.sbByte 16 0 1
def State.sbPorts (s : State) : Nat := s.sbByte 17 0 1
def State.sbPartner (s : State) : Nat := s.sbByte 18 0xFFFF 2
def State.sbParts (s : State) : Nat := s.sbByte 20 0 1
def State.mirrorTimeout (s : State) : Q := paramOf layStandby (s.stored 0xB0 0xFFFF 0) 24
/-- `asym` in ns and the calibrated flag of a port (R399). -/
def State.asym (s : State) (k : Nat) : Q := paramOf layCal (s.stored 0xB1 0xFFFF k) 20
def State.calibrated (s : State) (k : Nat) : Bool := ((s.stored 0xB1 0xFFFF k).map fun b => byteAt b 1).getD 0 = 1

end Sys2Proof.Machine
end

