-- ==== Sys2Proof/Machine/Standby.lean ====
section
/-!
DEFINITION. Hot standby (R402 to R407, R66, R118): the mirror records an active node sends after each current-loop step, what
the standby keeps of them, takeover, and the change of roles at a step boundary.
-/
namespace Sys2Proof.Machine
open Sys2Proof

def State.mirOf (s : State) (p : Nat) : Mir := Tab.get s.fab.mirrors {} p
def State.setMir (s : State) (p : Nat) (x : Mir) : State := { s with fab := { s.fab with mirrors := Tab.set s.fab.mirrors {} p x } }

/-- A mirror record with the identities that earlier records gave and it does not repeat (R402). -/
def Mirror.merged (m : Mirror) (old : Option Mirror) : Mirror :=
  let had := (old.map fun r => r.idents).getD []
  { m with idents := m.idents ++ had.filter fun e => !(m.idents.any fun i => i.1 = e.1) }

/-- Partitions of the standby mask. -/
def State.pairParts (s : State) : List Nat := maskList 8 s.sbParts

/-- The opcodes stored under a partition's number. -/
def partOps : List Nat :=
  [0x10, 0x11, 0x12, 0x13, 0x15, 0x16, 0x1C, 0x1D, 0x20, 0x21, 0x22, 0x23, 0x24, 0x25, 0x26, 0x30, 0x31, 0x32, 0x33, 0x34, 0x35,
   0x36, 0x37, 0x3A, 0x41, 0x43, 0x44, 0x46, 0x49, 0x4B, 0x50, 0x51, 0x52, 0x53, 0x54, 0x55, 0x56, 0x58, 0x59, 0x5A, 0x60, 0x61, 0x63,
   0x64, 0x69, 0x70, 0x71, 0x72, 0x73, 0x78, 0x79, 0xD0]

/-- The digest of a partition's retained configuration (R402), its records in the order of opcode, target and key. -/
def State.confDigest (s : State) (p : Nat) : List Byte :=
  Config.sha384 ((s.cfg.filter fun e => (e.1 / 65536) % 65536 = p && partOps.contains (e.1 / 4294967296)).map fun e => leBytes 8 e.1 ++ e.2).flatten

/-- The data of a mirror record without identities (R402), in the model's own layout: the cells one byte each, in the order of their lanes. -/
def State.mirrorFixed (s : State) (p : Nat) : List Byte :=
  let c := s.ctlOf p
  let m := s.motOf p
  let l := s.lease p
  let cells := (sortBy (fun e => e.1) (s.partCells p)).map fun e => leBytes 1 ((match e.2.st with
    | .absent => 0 | .identified => 1 | .qualifying => 2 | .available => 3 | .charging => 4 | .bypassed => 5 | .isolated => 6) +
      16 * e.2.reason)
  let nums := [c.sp, c.ramp, c.tRamp, c.spdInt, c.tSpd, c.xd, c.xq, c.fw, c.psiR, c.thetaR, c.psiA, c.psiB, c.thObs, c.wObs, c.wHat, c.tl,
    c.pllTh, c.pllW, c.pllInt, c.sxd, c.sxq, c.vdcRamp, c.vdcInt, c.xF, m.u, m.tY, m.phi, m.pRef, m.vRef, m.aRef, m.target, m.fRamp, m.hOff,
    m.fInt, m.hV] ++ (match m.follow with
      | some x => [1, x]
      | none => [0, 0]) ++ (match m.hv with
      | some (_, z, v) => [1, z, v]
      | none => [0, 0, 0])
  let yes := fun (b : Bool) => leBytes 1 (if b then 1 else 0)
  let winch := yes m.curveOn ++ leBytes 1 m.yst ++ leBytes 8 m.hold ++ yes m.moving ++ yes m.calibrated ++ yes m.planned ++
    leBytes 8 ((m.hv.map fun e => e.1).getD 0)
  let md := s.modOf p
  let tab := fun (l : List (Nat × Q)) => leBytes 1 l.length ++ (l.map fun e => leBytes 1 e.1 ++ f32Bytes e.2).flatten
  let circ := tab md.circInt ++ tab md.circRes ++ tab md.circRes2
  let refs := (s.modOf p).refs.map fun e => leBytes 8 e.1 ++ (e.2.map f32Bytes).flatten
  let con := match s.consRec p with
    | some r => leBytes 2 r.id ++ leBytes 1 r.cls ++ leBytes 1 r.sec ++ f32Bytes r.floor ++ f32Bytes r.demand ++ f32Bytes r.offer ++ leBytes 1 r.absorb
    | none => []
  leBytes 1 p ++ leBytes 1 (s.part p).st.code ++ leBytes 1 (s.part p).epoch ++ leBytes 1 m.source ++ leBytes 2 (l.holder.getD 0xFFFF) ++
    leBytes 2 l.epoch ++ s.confDigest p ++ con ++ (nums.map f32Bytes).flatten ++ winch ++ circ ++ refs.flatten ++ cells.flatten

/-- The cells whose identities go with the next mirror record: changed ones, then an arm's in rotation, as many as a record of 2 KiB takes
(R402). -/
def State.mirrorCells (s : State) (p : Nat) : List (Nat × Cell) :=
  let arms := s.armsOf p
  let a := arms.getD (Tab.get s.fab.identTurn 0 p % max 1 arms.length) 0
  let l := s.partCells p
  (l.filter (fun e => e.2.renamed) ++ l.filter fun e => e.2.arm = a && !e.2.renamed).take ((2048 - (s.mirrorFixed p).length) / 13)

/-- The data of a mirror record, at most 2 KiB (R402). -/
def State.mirrorBytes (s : State) (p : Nat) : List Byte :=
  s.mirrorFixed p ++
    ((s.mirrorCells p).map fun e => leBytes 2 e.1 ++ leBytes 1 e.2.kind ++ leBytes 8 e.2.serial ++ leBytes 2 e.2.boots).flatten

/-- Data bytes of a mirror record in one frame (R391), after 3 bytes of the model's own header: partition, part, parts. -/
def mirrorChunk : Nat := 737

/-- The active node's mirror record after a current-loop step, on the lowest up port of `mirror_ports` (R402). -/
def State.sendMirror (s : State) (p : Nat) : State :=
  if s.fab.role ≠ 1 ∨ ¬ s.sbParts.testBit p ∨ s.fencedPart p then s
  else match s.upPorts.find? fun k => s.sbPorts.testBit k with
    | none => s
    | some k =>
      let q := Tab.get s.fab.seqs 0 3
      let bs := s.mirrorBytes p
      let n := (bs.length + mirrorChunk - 1) / mirrorChunk
      let frames := (List.range n).map fun i => frameBytes s.sbPartner s.node 3 1 0 s.sys.nodeEpoch ((q + i) % 2 ^ 32) 0 s.now
        (leBytes 1 p ++ leBytes 1 i ++ leBytes 1 n ++ (bs.drop (i * mirrorChunk)).take mirrorChunk)
      let s := (s.mirrorCells p).foldl (fun s e => s.setCell e.1 { s.cell e.1 with renamed := false }) s
      let s := { s with fab := { s.fab with seqs := Tab.set s.fab.seqs 0 3 ((q + n) % 2 ^ 32)
                                            identTurn := Tab.set s.fab.identTurn 0 p (Tab.get s.fab.identTurn 0 p + 1) } }
      frames.foldl (fun (s : State) f => s.transmit k f) s

/-- A partition's lanes send their frames with the standby flag set or clear (R266). -/
def State.flagLanes (s : State) (p : Nat) (standby : Bool) : State :=
  (s.lanesOf p).foldl (fun s l => s.setLane l { s.lane l with standby := standby, queue := if standby then (s.lane l).queue else [] }) s

/-- The node's role in its pair changes: its down-frames carry the standby flag as a standby (R403, R405). -/
def State.setRole (s : State) (role : Nat) : State :=
  let s := { s with fab := { s.fab with role := role, mirrorLost := false, mirrors := if role = 2 then [] else s.fab.mirrors } }
  s.pairParts.foldl (fun s p => s.flagLanes p (role = 2)) s

/-- The partition state of a code (Table 5 of R57). -/
def stateOfCode (c : Nat) : PState :=
  if c = 1 then .blocked else if c = 2 then .precharge else if c = 3 then .ready else if c = 4 then .running else if c = 5 then .braking
  else if c = 6 then .tripped else if c = 7 then .safeOff else .unconfigured

/-- A cell takes its mirrored state (R66). -/
def State.mirrorCell (s : State) (e : Nat × Nat × Nat) : State :=
  let c := s.cell e.1
  let st : CState := if e.2.1 = 1 then .identified else if e.2.1 = 2 then .qualifying else if e.2.1 = 3 then .available
    else if e.2.1 = 4 then .charging else if e.2.1 = 5 then .bypassed else if e.2.1 = 6 then .isolated else .absent
  if ¬ c.used ∨ c.st = .bypassed ∨ c.st = .isolated then s
  else if st = .bypassed then
    let s := s.setCell e.1 { c with st := .bypassed, reason := e.2.2, admitting := false }
    (s.setBypassEntry c (c.serial + 1)).alarmBypassed e.1
  else s.setCell e.1 { c with st := st, reason := e.2.2 }

/-- What the standby's own link says of a cell: a fault or bypass in its last up-frame, or no link (R66). -/
def State.judgeStandby (s : State) (l : Nat) : State :=
  let x := s.lane l
  let cst := byteAt x.lastFrame 8
  let faulty := byteAt x.lastFrame 9 ≠ 0 || bits (leNat x.lastFrame 10 2) 6 0 ≠ 0 || cst.testBit 3
  if x.lstate ≠ 4 then s.loseCell l 1
  else if faulty ∨ cst.testBit 2 ∨ bits cst 1 0 = 2 then s.loseCell l 2
  else s

/-- The new active sets a partition that comes TRIPPED because its mirror is too old (R404). -/
def State.takeTripped (s : State) (p : Nat) : State :=
  let x := s.protOf p
  let r : TripRec := { t := s.now, cause := 0x0908, source := 0xFFFF, before := (s.part p).st.code, order := 0, more := 0, value := 0,
                       cycle := s.cycleNo p % 2 ^ 32, tenant := 0xFFFF }
  let s := s.setProt p { x.record r with firstAt := some s.now, firstCause := 0x0908, firstSource := 0xFFFF, later := 0 }
  (s.setPState p .tripped).emit 7 (srcPart p) 0x0908 (tripData 0xFFFF p r.before 0 0 0xFFFF 0)

/-- The standby takes one partition over (R404 steps 1 to 3): an announced state code, or none for the mirrored state. -/
def State.takePart (s : State) (p : Nat) (announced : Option Nat) : State :=
  if (s.part p).st = .unconfigured then s
  else
    let x := s.mirOf p
    let old : Bool := match x.rec_ with
      | some _ => decide (16 < x.age)
      | none => true
    let m := x.rec_
    let l := s.lease p
    let base := (m.map fun r => r.epoch).getD l.epoch
    let holder := match m with
      | some r => if r.holder = 0xFFFF then none else some r.holder
      | none => l.holder
    let s := s.setLease p { holder := holder, epoch := base }
    let s := s.leaseTo p holder
    let s := s.setPart p { s.part p with epoch := ((m.map fun r => r.pEpoch).getD (s.part p).epoch + 1) % 256, epochAt := s.now }
    let s := s.clearCarry p
    let s := match m with
      | some r =>
        let s := (s.setCtl p { r.ctl with enWait := none }).setMot p r.mot
        let s := s.setMod p { s.modOf p with refs := r.refs, circInt := r.circInt, circRes := r.circRes, circRes2 := r.circRes2 }
        match r.cons with
        | some k => s.setCons p { s.consOf p with demand := k.demand, offer := k.offer }
        | none => s
      | none => s
    let s := if old then s.takeTripped p
      else s.setPState p (stateOfCode (announced.getD ((m.map fun r => r.st).getD 6)))
    let s := match m with
      | some r => r.cells.foldl (fun (s : State) e => s.mirrorCell e) s
      | none => s
    let s := (s.lanesOf p).foldl (fun (s : State) l => s.judgeStandby l) s
    let s := s.judgeArms p
    s.inform (srcPart p) 0x0D03 []

/-- The standby takes over (R404, R397): every partition of the mask, then the broadcast that names them. -/
def State.takeOver (s : State) (announced : Option (List Nat)) : State :=
  let s := s.pairParts.foldl (fun s p => s.takePart p (announced.map fun l => l.getD p 6)) s
  let s := (s.setRole 1).takenOver s.sbPartner s.node
  s.fabSend 1 0xFFFF 11 (leBytes 1 s.sbParts)

/-- The announcement of this chip's failure in the CONTROL class (R396), with the state of each partition (R404). -/
def State.announceFailure (s : State) : State :=
  s.fabSend 1 0xFFFF 1 (leBytes 1 s.sys.nodeEpoch ++ ((List.range 8).map fun p => leBytes 1 (s.part p).st.code).flatten)

/-- A standby is ready (R403), as far as one partition goes. -/
def State.mirrorReady (s : State) (p : Nat) : Bool :=
  let x := s.mirOf p
  decide (16 ≤ x.row) && !x.differs && (s.partCells p).all fun e =>
    !(s.lane e.1).dual || ((s.lane e.1).lstate = 4 && (match x.rec_ with
      | some r => r.idents.any fun i => i.1 = e.1 && i.2.2.1 = e.2.serial && i.2.2.2 = e.2.boots
      | none => false))

/-- The node is locked to fabric time (R400). -/
def State.locked (s : State) : Bool :=
  s.fab.master = some s.node || (decide (16 ≤ s.fab.good) && s.fab.hold.isNone)

/-- A standby is ready to take over (R403). -/
def State.standbyReady (s : State) : Bool := s.fab.role = 2 && s.locked && s.pairParts.all fun p => s.mirrorReady p

/-- A commanded `TAKEOVER` takes effect at a step boundary: the roles change (R405). -/
def State.swapRoles (s : State) : State :=
  if ¬ s.fab.order then s
  else
    let w := s.fab.orderDesc
    let s := { s with fab := { s.fab with order := false, orderDesc := none } }
    let s := if s.fab.role = 2 then s.takeOver none else if s.fab.role = 1 then s.setRole 2 else s
    match w with
    | some (n, series, seq) => s.finish n series seq 0 []
    | none => s

/-- The boundary of a current-loop step: roles change where they must, and the standby counts its mirrors (R402, R403). -/
def State.stepBoundary (s : State) (p : Nat) : State :=
  let s := if s.sbParts.testBit p then s.swapRoles else s
  if s.fab.role = 2 ∧ s.sbParts.testBit p then
    let x := s.mirOf p
    s.setMir p { x with got := false, row := if x.got then x.row + 1 else 0, age := if x.got then 0 else x.age + 1 }
  else s

/-- Each cycle of a pair's active partition: whether most of its cells obeyed another chip (R406). -/
def State.countObeying (s : State) (p : Nat) : State :=
  let ls := (s.lanesOf p).filter fun l => (s.lane l).lstate = 4
  let away := (ls.filter fun l => !(s.lane l).obeys).length
  let n := if s.fab.role = 1 ∧ s.sbParts.testBit p ∧ ls.length < 2 * away then Tab.get s.fab.deposeRow 0 p + 1 else 0
  { s with fab := { s.fab with deposeRow := Tab.set s.fab.deposeRow 0 p n } }

end Sys2Proof.Machine
end

