-- ==== Sys2Proof/Machine/Partition.lean ====
section
/-!
DEFINITION. Partitions and cells (R41 to R71): configuration, commit and release, bypass and re-admission, the precharge
sequence's steps (R60), and the status descriptors (R70).
-/
namespace Sys2Proof.Machine
open Sys2Proof

/-- A configuration descriptor of a partition with the lease, in UNCONFIGURED or BLOCKED. -/
def confInfo (op : Nat) (lay : List Fld) : OpInfo :=
  { op := op, tgt := .part, need := .part, lease := true, kept := true, conf := true,
    states := some [.unconfigured, .blocked], lay := lay }

/-- The state as it would be with a descriptor stored. -/
def State.withStored (s : State) (op : Nat) (d : Desc) (kc : Nat) : State :=
  { s with cfg := Tab.set s.cfg [] (cfgKey op d.target kc) (d.payload ++ d.host) }

/-- The checks of R505 that an arriving descriptor makes, against the values stored for the others. -/
def crossStatus (checks : List CrossCheck) (op : Nat) (s : State) (p : Nat) : Nat :=
  firstStatus ((checks.filter fun c => c.ops.contains op).map fun c => c.run s p)

/-- The effect of a stored configuration descriptor: its cross checks on arrival (R505), then it is stored. -/
def confEffect (checks : List CrossCheck) (op : Nat) (d : Desc) (kc : Nat) (s : State) : Reply :=
  let c := crossStatus checks op (s.withStored op d kc) d.target
  if c ≠ 0 then Reply.no s c else { st := s, keyC := kc }

/-! ### Status -/

/-- Spare cells of an arm, none below 0 (R55, R70). -/
def State.spare (s : State) (p a : Nat) : Nat := s.availCount p a - s.needed p a

/-- The arm code with the least spare (R70). -/
def State.leastSpareArm (s : State) (p : Nat) : Nat :=
  match sortBy (fun a => s.spare p a) (s.armsOf p) with
  | [] => 0
  | a :: _ => a

/-- The result of `PART_STATUS` (Table 11 of R70). Table 11 has no field for the arm-engine assignment that R47 says it reports, so none is
reported (log entry 131). -/
def State.partStatus (s : State) (p : Nat) : List Byte :=
  let x := s.part p
  let gone := ((s.partCells p).filter fun e => e.2.st = .bypassed || e.2.st = .isolated).length
  leBytes 1 x.st.code ++ leBytes 1 (if x.st = .precharge then x.phase else 0) ++ leBytes 1 x.epoch ++
    leBytes 1 (s.leastSpareArm p) ++ leBytes 1 (holdAt 255 (s.spare p (s.leastSpareArm p))) ++
    leBytes 1 ((if x.bonded then 1 else 0) + (if x.sto then 2 else 0) + (if x.core1 then 4 else 0)) ++ leBytes 2 gone

def infoPartStatus : OpInfo := { op := 0x1E, tgt := .part, need := .read, gives := true }
def infoCellStatus : OpInfo := { op := 0x1F, tgt := .part, need := .read, gives := true }

/-- `PART_STATUS` (R70). -/
def execPartStatus (d : Desc) (s : State) : Res :=
  serveRes infoPartStatus d none (fun s => { st := s, result := s.partStatus d.target }) s

def CState.code : CState → Nat
  | .absent => 0 | .identified => 1 | .qualifying => 2 | .available => 3 | .charging => 4 | .bypassed => 5 | .isolated => 6

/-- A `CELL_STATUS` record (Table 12 of R70). -/
def cellRecord (l : Nat) (c : Cell) : List Byte :=
  leBytes 2 l ++ leBytes 1 c.arm ++ leBytes 1 c.pos ++ leBytes 1 c.st.code ++
    leBytes 1 (if c.st = .bypassed ∨ c.st = .isolated then c.reason else 0) ++ leBytes 1 c.kind ++ zeros 1 ++ f32Bytes c.vcap ++
    leBytes 4 c.serial

/-- `CELL_STATUS` (R70): one record for each configured cell, in arm and position order. -/
def execCellStatus (d : Desc) (s : State) : Res :=
  let cs := s.partCells d.target
  serveRes infoCellStatus d (some (16 * cs.length))
    (fun s => { st := s, write := some (cs.map fun e => cellRecord e.1 e.2).flatten }) s

/-! ### Bypass and re-admission -/

def infoCell (op : Nat) : OpInfo :=
  { op := op, tgt := .part, need := .part, lease := true, kept := true,
    states := some [.blocked, .precharge, .ready, .running, .braking], lay := layCellName }

/-- The lane of a cell by arm and position. -/
def State.laneAt (s : State) (p a k : Nat) : Option Nat :=
  ((s.partCells p).find? fun e => e.2.arm = a ∧ e.2.pos = k).map fun e => e.1

/-- The effect of `CELL_BYPASS` (R57, R62). -/
def cellBypassEffect (d : Desc) (s : State) : Reply :=
  let p := d.target
  let kc := d.u8 16 * 256 + d.u8 17
  match s.laneAt p (d.u8 16) (d.u8 17) with
  | none => Reply.no s 0x0003
  | some l =>
    let c := s.cell l
    let st := (s.part p).st
    if c.st = .bypassed then { st := s.finish d.page d.series d.seq 0 [], handled := true }
    else if (st = .running ∨ st = .braking) ∧ c.st = .available ∧ s.availCount p c.arm - 1 < s.needed p c.arm then Reply.no s 0x0105
    else { st := s.loseCell l 8, keyC := kc }

/-- `CELL_BYPASS` (R62). -/
def execCellBypass (d : Desc) (s : State) : Res := serveRes (infoCell 0x1C) d none (cellBypassEffect d) s

/-- A cell leaves BYPASSED for IDENTIFIED, or ABSENT where it has no link (R64). -/
def State.unbypass (s : State) (l : Nat) : State :=
  let s := s.setBypassEntry (s.cell l) 0
  let c := { s.cell l with reason := 0, st := CState.absent }
  let s := s.setCell l c
  if (s.lane l).lstate = 4 ∧ c.known then s.identified l else s

/-- The effect of `CELL_ADMIT` (R64); the cell's temperature bars it as R308 provides. -/
def cellAdmitEffect (tempBar : State → Nat → Nat) (d : Desc) (s : State) : Reply :=
  let p := d.target
  let kc := d.u8 16 * 256 + d.u8 17
  match s.laneAt p (d.u8 16) (d.u8 17) with
  | none => Reply.no s 0x0003
  | some l =>
    let c := s.cell l
    let st := (s.part p).st
    if c.st = .isolated then Reply.no s 0x0004
    else if c.st ≠ .bypassed then { st := s.finish d.page d.series d.seq 0 [], handled := true }
    else if tempBar s l ≠ 0 then Reply.no s (tempBar s l)
    else if st = .blocked ∨ st = .precharge then { st := s.unbypass l, keyC := kc }
    else if ¬ isMmc (s.shape p) ∨ (s.lane l).lstate ≠ 4 ∨ ¬ c.known then Reply.no s 0x0004
    else { st := s.startAdmit l, keyC := kc }

/-- A CHARGING cell not yet qualified after `readmit_timeout` returns to BYPASSED (R64). -/
def execReadmitTimeout (t : Time) (lane : Nat) (s : State) : Res :=
  within lane 1024 s fun s => s.live t fun s =>
    let c := s.cell lane
    if c.st = .charging ∧ c.admitAt + nsOf (s.readmitTimeout c.part) ≤ s.now then s.loseCell lane 4 else s

/-! ### Commit and release -/

/-- The cells and lanes of a lane map are formed: every cell starts ABSENT and every lane enters ACQUIRE (R65, R269), but for an isolated
lane, which stays so with its cell until its region restarts (R32). -/
def State.formCells (s : State) (p : Nat) : State :=
  (s.laneMap p).foldl (fun s e =>
    let c : Cell := { part := p, arm := e.arm, pos := e.pos, used := true }
    if (s.lane e.lane).lstate = 5 then s.setCell e.lane { c with st := .isolated, reason := 6 }
    else (s.setCell e.lane c).setLane e.lane ((s.lane e.lane).acquire s.now)) s

/-- The lanes of a partition are freed: off, without a cell. -/
def State.freeLanes (s : State) (p : Nat) : State :=
  (s.lanesOf p).foldl (fun s l =>
    (s.setCell l {}).setLane l (if (s.lane l).lstate = 5 then { lstate := 5 } else {})) s

/-- STO is asserted for a partition by its group's map and the levels of its channels (R217). -/
def State.enterBlocked (s : State) (p : Nat) : State :=
  if (s.part p).sto then s.setPState p .safeOff else s.setPState p .blocked

/-- The bond and the arm engines of a committed partition are those of its configuration (R45, R47). -/
def State.assignEngines (s : State) (p : Nat) : State :=
  s.setPart p { s.part p with bonded := s.bondSet p, engines := s.engineMap p }

/-- What a changed shape, arm or cell cycle breaks of a partition that stays committed: the arm-engine limit (R20), its lanes' regions
(R48) or its bond (R45). -/
def State.reformStatus (s : State) (p : Nat) : Nat :=
  if ¬ s.engineOk p then 0x0003
  else if (s.laneMap p).any fun e => !(s.confRegions p).contains (e.lane / 128) then 0x0101
  else s.bondStatus p

/-- The effect of `PART_CONFIG` and `ARM_CONFIG`: in BLOCKED the bond and the arm engines follow the change (R45, R47, R63; log
entry 35). -/
def reformEffect (checks : List CrossCheck) (op : Nat) (d : Desc) (kc : Nat) (s : State) : Reply :=
  let r := confEffect checks op d kc s
  let u := s.withStored op d kc
  if r.status ≠ 0 ∨ (s.part d.target).st = .unconfigured then r
  else if u.reformStatus d.target ≠ 0 then Reply.no s (u.reformStatus d.target)
  else { r with st := s.setPart d.target { s.part d.target with bonded := u.bondSet d.target, engines := u.engineMap d.target } }

/-- The partition is committed: its lanes are taken and it enters BLOCKED, or SAFE_OFF while STO stands asserted (R57). -/
def State.commit (s : State) (p : Nat) : State :=
  ((s.assignEngines p).formCells p).enterBlocked p

/-- The stored configuration without a partition's records (R372, kind 6). -/
def clearPart (cfg : Tab (List Byte)) (p : Nat) : Tab (List Byte) :=
  cfg.filter fun e => ¬ (partOps.contains (e.1 / 2 ^ 32) ∧ (e.1 / 65536) % 65536 = p)

/-- The effect of `PART_RELEASE`: UNCONFIGURED, lanes freed, one record of kind 6 (R372). -/
def partReleaseEffect (d : Desc) (s : State) : Reply :=
  let p := d.target
  let s := s.freeLanes p
  let s := { s with cfg := clearPart s.cfg p, bypass := s.bypass.filter fun e => e.1 / 65536 ≠ p }
  let s := s.setPart p { epoch := (s.part p).epoch, sto := (s.part p).sto, core1 := (s.part p).core1 }
  let s := s.setMod p {}
  let s := (s.setPState p .unconfigured).stageRec 6 0x14 p 0 d.page []
  { st := s, ownRec := true }

def infoPartRelease : OpInfo :=
  { op := 0x14, tgt := .part, need := .part, lease := true, kept := true, states := some [.blocked] }

/-- `PART_RELEASE` (R57, R372). -/
def execPartRelease (d : Desc) (s : State) : Res := serveRes infoPartRelease d none (partReleaseEffect d) s

/-- An entry of a lane map is within the ranges of Table 9 of R68; a position passes while its arm has no count (R505). -/
def State.entryOk (s : State) (p : Nat) (e : MapEntry) : Bool :=
  e.lane < 1024 && (e.arm < 12 || e.arm = 15) && (!s.armGiven p e.arm || e.pos < s.armCells p e.arm)

/-- The effect of `LANE_ASSIGN` (R63, R68): the map is stored; in BLOCKED the partition's lanes and cells are formed from it
(log entry 11). -/
def laneAssignEffect (checks : List CrossCheck) (d : Desc) (s : State) : Reply :=
  let r := confEffect checks 0x12 d 0 s
  let s' := s.withStored 0x12 d 0
  if (s'.laneMap d.target).any fun e => ¬ s'.entryOk d.target e then Reply.no s 0x0003
  else if r.status ≠ 0 then r
  else if (s.part d.target).st = .unconfigured then r
  else
    let c := s'.mapStatus d.target
    if c ≠ 0 then Reply.no s c
    else { st := ((s'.freeLanes d.target).formCells d.target) }

/-! ### Precharge (R60) -/

/-- Every cell in QUALIFYING whose self-test has ended is decided: AVAILABLE within ±qual_band of the arm average after a passed self-test, else
BYPASSED with QUAL_FAIL (R60 step 4, R83, R269). -/
def State.decideCells (s : State) (p : Nat) : State :=
  let avg : List (Nat × Q) := (s.armsOf p).map fun a => (a, s.armAverage p a)
  let cells := (s.partCells p).filter fun e => e.2.st = .qualifying && e.2.test ≠ 1
  cells.foldl (fun (s : State) (e : Nat × Cell) =>
    let c := e.2
    let a : Q := ((avg.find? fun x => x.1 = c.arm).map fun x => x.2).getD 0
    if c.test = 2 ∧ 2 * c.tMin ≤ s.cycleNs p ∧ ¬ (s.lane e.1).tooLong ∧ absQ (c.vcap - a) ≤ s.qualBand p * a then
      s.setCell e.1 { s.cell e.1 with st := .available }
    else s.loseCell e.1 4) s

/-- A precharge has reached completion: required counts and every arm average within ±qual_band of nominal (R60 step 5). -/
def State.precharged (s : State) (p : Nat) : Bool :=
  (s.armsOf p).all fun a =>
    s.needed p a ≤ ((s.cellsOf p a).filter fun e => e.2.st = .available).length &&
      decide (absQ (s.armAverage p a - s.vCellNom p a) ≤ s.qualBand p * s.vCellNom p a)

/-- The passive phase has ended (R60 step 2): every arm average, or the DC link of TL and BC, has reached `passive_level`. -/
def State.passiveReached (s : State) (p : Nat) : Bool :=
  if s.shape p = 5 ∨ s.shape p = 6 then decide (s.passiveLevel p * s.vdcNom p ≤ Tab.get s.sd 0 (s.sdVdc p))
  else (s.armsOf p).all fun a => decide (s.passiveLevel p * s.vCellNom p a ≤ s.armAverage p a)

/-- `PRECHARGE_PASSIVE_DONE` (R60 steps 2 to 4): the averages have reached the level and risen by less than 1 % in 100 ms. -/
def execPrechargePassiveDone (t : Time) (p : Nat) (s : State) : Res :=
  within p 8 s fun s => s.live t fun s =>
    let x := s.part p
    if x.st ≠ .precharge ∨ x.phase ≠ 2 ∨ ¬ s.passiveReached p then s
    else if isMmc (s.shape p) ∨ s.shape p = 4 then s.setPart p { x with phase := 3 }
    else
      let s := (s.setPart p { x with phase := 4 }).decideCells p
      if (s.part p).st = .precharge then (s.setPart p { s.part p with phase := 5 }).judgeArms p else s

/-- `PRECHARGE_TIMEOUT` (R60): the source PRECHARGE_FAILED trips the partition. -/
def execPrechargeTimeout (t : Time) (p : Nat) (s : State) : Res :=
  within p 8 s fun s => s.live t fun s =>
    let x := s.part p
    if x.st = .precharge ∧ x.stamp + nsOf (s.prechargeTimeout p) ≤ s.now then s.assertSource p 0x0104 0xFFFF 0 0xFFFF else s

/-- DC link below `ready_floor` for longer than 1 s puts a READY partition in BLOCKED (R57). -/
def execReadyFloorExpiry (t : Time) (p : Nat) (s : State) : Res :=
  within p 8 s fun s => s.live t fun s =>
    if (s.part p).st = .ready ∧ Tab.get s.sd 0 (s.sdVdc p) < s.readyFloor p * s.vdcNom p then (s.quiet p).setPState p .blocked else s

/-- The stream of `UP_FRAME_WINDOW_END` (R74): a frame not accepted is missing and counts towards `loss_frames` (R53). -/
def State.countMissing (s : State) (l : Nat) : State :=
  let c := s.cell l
  let x := s.lane l
  if x.lstate = 0 ∨ x.lstate = 5 then s
  else if x.gotFrame then s.setLane l { x with gotFrame := false }
  else
    let s := s.setCell l { c with missed := c.missed + 1 }
    if s.lossFrames c.part ≤ c.missed + 1 ∧ (c.st = .available ∨ c.st = .charging ∨ c.st = .qualifying) then s.loseCell l 1 else s

/-- `UP_FRAME_WINDOW_END` (R53, R74). -/
def execUpFrameWindowEnd (t : Time) (p : Nat) (s : State) : Res :=
  within p 8 s fun s => s.awake t fun s => ((s.lanesOf p).foldl (fun s l => s.countMissing l) s).countObeying p

end Sys2Proof.Machine
end

