-- ==== Sys2Proof/Machine/Plans.lean ====
section
/-!
DEFINITION. How an arm engine turns references into switching instants (R79 to R90): prediction of the capacitor voltages,
clipping, nearest-level control with balancing, phase-shifted carriers, space-vector PWM with sharing, and the placement of
edges. A time within a cycle is in ns from its start; a time before it is negative.
-/
namespace Sys2Proof.Machine
open Sys2Proof

/-- A quotient; by 0 the open constant of Config. -/
def quot (a b : Q) : Q := if b = 0 then Config.divZero a else a / b

/-- An angle brought to −π to π. -/
def wrapPi (x : Q) : Q := Config.atan2 (Config.sin x) (Config.cos x)

/-! ### Plans -/

/-- The level of a plan at time x of its cycle (R84). -/
def Plan.levelAt (p : Plan) (x : Nat) : Int :=
  let a := match p.e0 with
    | some (e, l) => if e ≤ x then l else p.start
    | none => p.start
  match p.e1 with
    | some (e, l) => if e ≤ x then l else a
    | none => a

/-- The level at the end of the cycle. -/
def Plan.last (p : Plan) : Int :=
  match p.e1 with
  | some (_, l) => l
  | none => match p.e0 with
    | some (_, l) => l
    | none => p.start

/-- The level's integral over a cycle of T ns: the insertion time with its sign, in ns. -/
def Plan.area (p : Plan) (T : Nat) : Int :=
  match p.e0, p.e1 with
  | none, none => p.start * T
  | some (a, l), none => p.start * a + l * ((T : Int) - a)
  | none, some (b, m) => p.start * b + m * ((T : Int) - b)
  | some (a, l), some (b, m) => p.start * a + l * ((b : Int) - a) + m * ((T : Int) - b)

/-- The plan that the transitions of one cell make, in order of time; a third is merged (R88). -/
def planOf (held : Int) (tr : List (Nat × Int)) : Plan :=
  match tr with
  | [] => { start := held }
  | [a] => { start := held, e0 := some a }
  | a :: b :: _ => { start := held, e0 := some a, e1 := some b }

/-- Drops transitions of a plan that do not change the level. -/
def Plan.tidy (p : Plan) : Plan :=
  match p.e0, p.e1 with
  | some (a, l), e1 =>
    if l = p.start then { start := p.start, e0 := e1, e1 := none }
    else match e1 with
      | some (_, m) => if m = l then { p with e1 := none } else { p with e0 := some (a, l) }
      | none => p
  | none, _ => p

/-- The time of a plan's last transition. -/
def Plan.lastTime (p : Plan) : Option Nat :=
  match p.e1 with
  | some (e, _) => some e
  | none => p.e0.map fun e => e.1

/-! ### Prediction (R81) -/

/-- The forecast mean current of an arm over the cycle in progress. -/
def Mod.forecast (m : Mod) (a : Nat) : Q := 3 / 2 * Tab.get m.iNow 0 a - 1 / 2 * Tab.get m.iPrev 0 a

/-- The predicted voltage of a cell at the end of cycle c: its last report, and the charge of every plan applied since. -/
def State.predictCell (s : State) (p : Nat) (c : Cell) : Q :=
  if s.predicts p then
    let T := s.cycleNs p
    c.vcap + sumQ (c.plans.map fun e => (e.2.1.area T : Q) / 1000000000 * e.2.2) / (if s.cCell p c.arm = 0 then 1 else s.cCell p c.arm)
  else c.vcap

/-! ### References (R79) -/

/-- An arm's capability (R79, R216). -/
def State.capability (s : State) (p a : Nat) : Q := (s.required p a : Q) * s.vCellNom p a *
    (if s.limp p ≠ 0 ∧ s.limpArm p a then minQ (s.modLimit p) ((s.limp p : Q) / (max 1 (s.required p a) : Nat)) else s.modLimit p)

/-- Cells whose level is never negative: HB, PL and BC. -/
def unipolar (kind : Nat) : Bool := kind = 1 || kind = 5 || kind = 6

/-- An arm reference clipped to the arm's capability. -/
def State.clipRef (s : State) (p a : Nat) (v : Q) : Q :=
  clampQ (if unipolar (s.armType p a) then 0 else -(s.capability p a)) (s.capability p a) v

/-- The square of the magnitude of a phase vector (amplitude-invariant). -/
def vecSq (u v w : Q) : Q :=
  let m := (u + v + w) / 3
  2 / 3 * ((u - m) * (u - m) + (v - m) * (v - m) + (w - m) * (w - m))

/-- The scale that brings a TL reference vector to mod_limit × v_dc / √3. -/
def svmScale (limit vdc : Q) (r : List Q) : Q :=
  let sq := vecSq (r.getD 0 0) (r.getD 1 0) (r.getD 2 0)
  if 3 * sq ≤ limit * limit * vdc * vdc then 1 else limit * absQ vdc / Config.sqrt (3 * sq)

/-- The reference of cycle c of an arm: the set published for it, else the last of the sets before it (R33, R75, R76). -/
def Mod.refFor (m : Mod) (c a : Nat) : Q :=
  let exact := m.refs.find? fun e => e.1 = c
  let older := (m.refs.filter fun e => e.1 < c).getLast?
  match exact with
  | some e => e.2.getD a 0
  | none => match older with
    | some e => e.2.getD a 0
    | none => 0

/-! ### Slots -/

/-- A time is free: at least `gap` from every transition already placed (R86). -/
def slotFree (gap : Nat) (placed : List Int) (x : Int) : Bool := placed.all fun y => decide ((gap : Int) ≤ (x - y).natAbs)

/-- The earliest free slot at or after a nominal time. -/
def slotFrom (gap : Nat) (placed : List Int) (x : Int) : Int :=
  let c := (x :: placed.map (· + gap)).filter fun y => decide (x ≤ y) && slotFree gap placed y
  c.foldl (fun m y => if m < x ∨ y < m then y else m) (x - 1)

/-- Edges being placed for one arm: the times taken, and each cell's transitions so far. -/
structure Edges where
  placed : List Int
  tr : List (Nat × Nat × Int) := []
deriving DecidableEq, Repr

/-- The last transition of a cell: in this cycle, else in the one before. -/
def Edges.lastOf (e : Edges) (before : Nat → Int) (l : Nat) : Int :=
  ((e.tr.filter fun x => x.1 = l).map fun x => (x.2.1 : Int)).foldl max (before l)

/-- One transition placed at a slot, where R85 holds and the slot lies in the cycle. -/
def Edges.put (e : Edges) (T gap tmin : Nat) (before : Nat → Int) (lane : Nat) (nominal : Int) (level : Int) : Edges × Bool :=
  let x := slotFrom gap e.placed nominal
  if 0 ≤ x ∧ x < T ∧ e.lastOf before lane + tmin ≤ x then
    ({ placed := x :: e.placed, tr := e.tr ++ [(lane, x.toNat, level)] }, true)
  else (e, false)

/-- The plan of one cell from the placed edges. -/
def Edges.plan (e : Edges) (lane : Nat) (held : Int) : Plan :=
  planOf held (sortBy (fun x => x.1) ((e.tr.filter fun x => x.1 = lane).map fun x => x.2))

/-! ### Nearest-level control (R82, R83, R86, R87) -/

/-- What planning sees of one cell. -/
structure NCell where
  lane : Nat
  v : Q
  held : Int
  last : Int
  charging : Bool
deriving DecidableEq, Repr

/-- The key order: by v, ascending or descending; charging cells head it when the current charges, and are left out
otherwise. -/
def keyOrder (charges ascending : Bool) (l : List NCell) : List NCell :=
  let o := sortByQ (fun c => if ascending then c.v else -c.v) l
  if charges then (o.filter fun c => c.charging) ++ o.filter fun c => !c.charging else o.filter fun c => !c.charging

/-- The set S as cells of the key order. -/
def inSet (S : List Nat) (l : List NCell) : List NCell := l.filter fun c => S.contains c.lane
def outSet (S : List Nat) (l : List NCell) : List NCell := l.filter fun c => !S.contains c.lane
def sumV (l : List NCell) : Q := sumQ (l.map fun c => c.v)

/-- Cells removed from the end of the key order while the set exceeds the target. -/
def shrink (T target : Q) : List NCell → List NCell
  | [] => []
  | c :: r => if target < sumV (c :: r) * T then shrink T target r else c :: r

/-- Bypassed cells added in key order while they fit. -/
def grow (T target sum : Q) : List NCell → List Nat
  | [] => []
  | c :: r => if (sum + c.v) * T ≤ target then c.lane :: grow T target (sum + c.v) r else []

/-- Swaps of the balancing pass: the set after them, and the pairs (inserted, bypassed). -/
def swapLoop (order : List NCell) (ascending : Bool) (limit : Q) (cand : NCell → Bool) :
    Nat → List Nat → List (Nat × Nat) → List Nat × List (Nat × Nat)
  | 0, S, done => (S, done)
  | n + 1, S, done =>
    match (outSet S order).find? cand, ((inSet S order).filter cand).getLast? with
    | some b, some x =>
      let gap := if ascending then x.v - b.v else b.v - x.v
      if gap ≤ limit then (S, done)
      else swapLoop order ascending limit cand n (b.lane :: S.filter fun l => l ≠ x.lane) (done ++ [(b.lane, x.lane)])
    | _, _ => (S, done)

/-- The outcome of planning an arm: its edges, transitions deferred, and the volt-seconds carried on. -/
structure ArmPlan where
  plans : List (Nat × Plan)
  deferred : Nat
  carry : Q
deriving DecidableEq, Repr

/-- The volt-seconds that plans insert. -/
def inserted (T : Nat) (v : Nat → Q) (plans : List (Nat × Plan)) : Q :=
  sumQ (plans.map fun e => v e.1 * (e.2.area T : Q) / 1000000000)

/-- The parameters of one NLC pass. -/
structure NlcIn where
  T : Nat
  tmin : Nat
  tminPulse : Nat
  gap : Nat
  maxSwaps : Nat
  limit : Q
  charges : Bool
  target : Q
  /-- half bridges, without a negative level -/
  half : Bool := false
deriving DecidableEq, Repr

/-- Swap pairs placed at rank 3; a pair without a slot for both its transitions is deferred (Table 3 of R86). -/
def placePairs (x : NlcIn) (before : Nat → Int) (sg : Int) (room : Nat) :
    List (Nat × Nat) → Edges → Nat → Edges × Nat
  | [], e, d => (e, d)
  | (b, k) :: r, e, d =>
    let one := e.put x.T x.gap x.tmin before b 0 sg
    let two := one.1.put x.T x.gap x.tmin before k 0 0
    if one.2 ∧ two.2 ∧ e.tr.length + 2 ≤ room then placePairs x before sg room r two.1 d
    else placePairs x before sg room r e (d + 1)

/-- Nearest-level planning of one arm (R82): the set, the swaps, the PWM cell, and the edges in the rank order of Table 3. A charging cell
that stands inserted stays in S while the current charges it (log entry 137); a pulse whose edges, which are never moved, would stand
within t_stagger of a transition of the cycle before is not emitted and is carried on (R86, log entry 138). -/
def nlc (x : NlcIn) (cells : List NCell) (other : List Int) : ArmPlan :=
  let sg : Int := if x.target < 0 ∧ ¬ x.half then -1 else 1
  let target := if x.half then x.target else absQ x.target
  let ascending := x.charges == decide (sg = 1)
  let order := keyOrder x.charges ascending cells
  let T : Q := (x.T : Q) / 1000000000
  let S0 := (order.filter fun c => c.held = sg).map NCell.lane
  let kept := (shrink T target (inSet S0 order).reverse).reverse
  let S1 := kept.map NCell.lane ++ grow T target (sumV kept) (outSet (kept.map NCell.lane) order)
  let cand := fun (c : NCell) => !c.charging && decide (c.last + (x.tminPulse : Int) ≤ (0 : Int))
  let sw := swapLoop order ascending x.limit cand x.maxSwaps S1 []
  let S := sw.1
  let swapped := sw.2.map Prod.fst ++ sw.2.map Prod.snd
  let pwm := (outSet S order).find? fun c => !swapped.contains c.lane && decide (c.last + (x.tmin : Int) ≤ (0 : Int))
  let rest := target - sumV (inSet S order) * T
  let tOn : Int := match pwm with
    | some c => if c.v = 0 then 0 else nearest (rest / c.v * 1000000000)
    | none => 0
  let whole := decide ((x.T : Int) - tOn < x.tmin)
  let before := fun (l : Nat) => ((cells.find? fun c => c.lane = l).map NCell.last).getD (-1000000000)
  let e0 : Edges := { placed := (other ++ cells.map NCell.last).filter fun y => decide (-(x.gap : Int) < y) }
  let on := ((x.T : Int) - tOn) / 2
  let pulse := decide ((x.tmin : Int) ≤ tOn) && !whole && slotFree x.gap e0.placed on && slotFree x.gap e0.placed (on + tOn)
  let e1 : Edges := match pwm with
    | some c =>
      if pulse then
        { placed := on :: (on + tOn) :: e0.placed, tr := [(c.lane, on.toNat, sg), (c.lane, (on + tOn).toNat, 0)] }
      else e0
    | none => e0
  let joins : List Nat := match pwm with
    | some c => if whole then [c.lane] else []
    | none => []
  let want : Nat → Int := fun l => if S.contains l || joins.contains l then sg else 0
  let pw : List Nat := match pwm with
    | some c => if pulse then [c.lane] else []
    | none => []
  let changes := (order ++ cells.filter fun c => !order.contains c).filter fun c =>
    !swapped.contains c.lane && !pw.contains c.lane && decide (want c.lane ≠ c.held)
  let K := x.T / x.gap - 2
  let room := K - e1.tr.length
  let e2 := (changes.take room).foldl (fun (e : Edges) c => (e.put x.T x.gap x.tmin before c.lane 0 (want c.lane)).1) e1
  let e3 := placePairs x before sg K sw.2 e2 (changes.length - room)
  let plans := cells.map fun c => (c.lane, (e3.1.plan c.lane c.held).tidy)
  let v := fun (l : Nat) => ((cells.find? fun c => c.lane = l).map NCell.v).getD 0
  { plans := plans, deferred := e3.2, carry := x.target - inserted x.T v plans }

/-! ### Phase-shifted carriers (R88) -/

/-- The whole part of a rational. -/
def fracQ (x : Q) : Q := x - x.floor

/-- The carrier at a phase of 0 to 1: its peak +1 at phase 0, its valley −1 at phase 1/2. -/
def triangle (ph : Q) : Q := if ph < 1 / 2 then 1 - 4 * ph else 4 * ph - 3

/-- The instants at which a leg of index m switches in a span of w ns that starts at device time t0, as exact offsets with the new leg
state: on at phase (1 − m)/4, off at phase (3 + m)/4 of a carrier of frequency fc with phase lead ph. -/
def legEdges (fc ph m : Q) (t0 w : Nat) : List (Q × Int) :=
  if m ≤ -1 ∨ 1 ≤ m ∨ fc = 0 then []
  else
    let k0 := (fc * secOf t0 + ph).floor
    let at_ := fun (k : Int) (q : Q) => ((k : Q) + q - ph) / fc * 1000000000 - t0
    let all := ([k0, k0 + 1].map fun k => [(at_ k ((1 - m) / 4), (1 : Int)), (at_ k ((3 + m) / 4), (0 : Int))]).flatten
    all.filter fun e => decide (0 ≤ e.1 ∧ e.1 < w)

/-- The state of a leg at the start of the cycle. -/
def legAt (fc ph m : Q) (t0 : Nat) : Int := if triangle (fracQ (fc * secOf t0 + ph)) < m then 1 else 0

/-- The level steps of a cell in a span: the level demanded at its start, and the transitions in order of time. A half
bridge has one leg on a carrier of 0 to 1, an H-bridge a second leg with the negated reference. -/
def cellEdges (half : Bool) (fc ph m : Q) (t0 w : Nat) : Int × List (Q × Int) :=
  let ma := if half then 2 * m - 1 else m
  let a0 := legAt fc ph ma t0
  let b0 := if half then 0 else legAt fc ph (-m) t0
  let ea := (legEdges fc ph ma t0 w).map fun e => (e.1, true, e.2)
  let eb := if half then [] else (legEdges fc ph (-m) t0 w).map fun e => (e.1, false, e.2)
  let evs := sortByQ (fun (e : Q × Bool × Int) => e.1) (ea ++ eb)
  let run := evs.foldl (fun (st : Int × Int × List (Q × Int)) e =>
      let a := if e.2.1 then e.2.2 else st.1
      let b := if e.2.1 then st.2.1 else e.2.2
      if a - b = st.1 - st.2.1 then (a, b, st.2.2) else (a, b, st.2.2 ++ [(e.1, a - b)])) (a0, b0, [])
  (a0 - b0, run.2.2)

/-- The exact level integral of steps over a span of w ns, in ns. -/
def stepsArea (w fro : Q) (start : Int) : List (Q × Int) → Q
  | [] => start * (w - fro)
  | (x, l) :: r => start * (x - fro) + stepsArea w x l r

/-- Steps at whole nanoseconds, ties to the later (R84). -/
def roundSteps (l : List (Q × Int)) : List (Nat × Int) := l.map fun e => ((nearest e.1).toNat, e.2)

/-- What the carriers of an arm or string have in common over one cycle (R88). -/
structure PscIn where
  half : Bool
  fc : Q
  /-- shift of the carrier origin, in carrier periods -/
  shift : Q
  /-- carrier periods between rotations, 0 for none -/
  rot : Q
  T : Nat
  /-- device time of the cycle's start -/
  t0 : Nat
  /-- available cells -/
  n : Nat
  index : Q
deriving DecidableEq, Repr

/-- A rotation of the cells' places: cell j takes place j + k, the direction being the model's choice (R88, log entry 136). -/
def rotatedPlace (n k j : Nat) : Nat := if n = 0 then 0 else (j + k) % n

/-- Rotations made by a device time: one at every `rot`-th peak of the carrier at the origin. -/
def PscIn.rotations (x : PscIn) (t : Nat) : Nat := if x.rot = 0 then 0 else ((x.fc * secOf t + x.shift) / x.rot).floor.toNat

/-- The phase lead of the cell at position j of the order after k rotations. -/
def PscIn.lead (x : PscIn) (k j : Nat) : Q := x.shift + quot (rotatedPlace x.n k j : Q) x.n * (if x.half then 1 else 1 / 2)

/-- The offsets in the cycle at which a cell's carrier takes another phase or begins another half period, with 0 and T, in order. -/
def PscIn.cuts (x : PscIn) (j : Nat) : List Nat :=
  let k := x.rotations x.t0
  let off := fun (q : Q) => ((quot q x.fc) * 1000000000 - x.t0).ceil.toNat
  let turn := if x.rot = 0 then [] else [off (((k : Q) + 1) * x.rot - x.shift)]
  let halves := ([k, k + 1].map fun r => off (((2 * (x.fc * secOf x.t0 + x.lead r j)).floor + 1 : Int) / 2 - x.lead r j))
  let inner := (turn ++ halves).filter fun o => decide (0 < o) && decide (o < x.T)
  0 :: sortBy (fun o => o) inner ++ [x.T]

/-- One cell's carrier over the spans of a cycle so far: its steps, the volt-seconds they owe, its carry not yet due, and the half period
with the carry that is due in it. -/
structure PscRun where
  steps : List (Q × Int) := []
  owed : Q := 0
  carry : Q := 0
  due : Q := 0
  halfNo : Int := 0
deriving DecidableEq, Repr

/-- One span from offset a to b: the carry is due whole in the half-carrier period that begins (R88). -/
def PscIn.span (x : PscIn) (j : Nat) (bal v : Q) (o : PscRun) (a b : Nat) : PscRun :=
  let t := x.t0 + a
  let lead := x.lead (x.rotations t) j
  let h := (2 * (x.fc * secOf t + lead)).floor
  let o := if h = o.halfNo then o else { o with halfNo := h, due := o.carry, carry := 0 }
  let low : Q := if x.half then 0 else -1
  let want := clampQ low 1 (x.index + bal) + quot (2 * x.fc * o.due) v
  let m := clampQ low 1 want
  let e := cellEdges x.half x.fc lead m t (b - a)
  { o with steps := o.steps ++ ((a : Q), e.1) :: e.2.map (fun s => (s.1 + a, s.2)),
           owed := o.owed + v * (stepsArea ((b - a : Nat) : Q) 0 e.1 e.2 + (want - m) * ((b - a : Nat) : Q)) / 1000000000 }

/-- A cell's carrier over the whole cycle. -/
def PscIn.run (x : PscIn) (j : Nat) (bal v : Q) (o : PscRun) : PscRun :=
  let c := x.cuts j
  (c.zip (c.drop 1)).foldl (fun o e => x.span j bal v o e.1 e.2) o

/-- The transitions that bring a held level to the demanded steps. -/
def demanded (held start : Int) (tr : List (Nat × Int)) : List (Nat × Int) := if held = start then tr else (0, start) :: tr

/-- One cell for PSC and SVM: its lane, held level, last transition, voltage, carry and demanded steps. -/
structure PCell where
  lane : Nat
  held : Int
  last : Int
  start : Int
  steps : List (Nat × Int)
deriving DecidableEq, Repr

/-- Transitions an arm can hold in one cycle (R87); no stagger, no limit (R86). -/
def edgeRoom (T gap : Nat) : Option Nat := if gap = 0 then none else some (T / gap - 2)

/-- The steps of several cells placed in order of time: a later one that falls too close moves, one that breaks R85 is
suppressed, those beyond the arm's limit are not emitted and are counted (R86, R87, R88). -/
def arrange (T gap tmin : Nat) (cells : List PCell) (other : List Int) : List (Nat × Plan) × Nat :=
  let before := fun (l : Nat) => ((cells.find? fun c => c.lane = l).map PCell.last).getD (-1000000000)
  let all := (cells.map fun c => (demanded c.held c.start c.steps).map fun e => (c.lane, e)).flatten
  let sorted := sortBy (fun (e : Nat × Nat × Int) => e.2.1) all
  let room := (edgeRoom T gap).getD all.length
  let e0 : Edges := { placed := (other ++ cells.map PCell.last).filter fun y => decide (-(gap : Int) < y) }
  let r := sorted.foldl (fun (r : Edges × Nat) x =>
    if 2 ≤ (r.1.tr.filter fun y => y.1 = x.1).length then r
    else if room ≤ r.1.tr.length then (r.1, r.2 + 1)
    else ((r.1.put T gap tmin before x.1 x.2.1 x.2.2).1, r.2)) (e0, 0)
  (cells.map fun c => (c.lane, (r.1.plan c.lane c.held).tidy), r.2)

/-! ### Space-vector PWM (R89, R90) -/

/-- The zero-sequence addition v0 of R89. -/
def svmZero (discontinuous : Bool) (vdc : Q) (u v w : Q) : Q :=
  let hi := maxQ u (maxQ v w)
  let lo := minQ u (minQ v w)
  if discontinuous then (if absQ hi ≥ absQ lo then vdc / 2 - hi else -(vdc / 2) - lo) else -(hi + lo) / 2

/-- The duty of a leg. -/
def svmDuty (vdc v v0 : Q) : Q := clampQ 0 1 (1 / 2 + (v + v0) / (if vdc = 0 then 1 else vdc))

/-- The duty of a leg in one half of the carrier period: a pulse, which spans the centre, or a gap, which spans the ends, that would be
shorter than t_min is suppressed, merged, or brought to t_min where it has begun in the half before (R89). Times in ns. -/
def halfDuty (first : Bool) (tmin half prev want : Q) : Q :=
  let w := clampQ 0 1 want
  if first then
    let gone := (1 - prev) * half
    let gap := gone + (1 - w) * half
    let w := if 0 < gap ∧ gap < tmin then (if gone = 0 then 1 else clampQ 0 1 (1 - quot (tmin - gone) half)) else w
    if 2 * w * half < tmin then 0 else w
  else
    let gone := prev * half
    let pulse := gone + w * half
    let w := if 0 < pulse ∧ pulse < tmin then (if gone = 0 then 0 else clampQ 0 1 (quot (tmin - gone) half)) else w
    if 2 * (1 - w) * half < tmin then 1 else w

/-- The exact edge of a module in the half-period of the carrier that starts at h0 (ns from the start of the cycle): the upper switch
turns on in the first half and off in the second, centred; `adv` advances the edge, `trim` delays the turn-on and advances
the turn-off. -/
def svmEdge (first : Bool) (h0 : Int) (half : Nat) (d adv trim : Q) : Q :=
  if first then (h0 : Q) + (1 - d) * half - adv + trim else (h0 : Q) + d * half - adv - trim

/-- Steps that do not change the level left out. -/
def tidySteps {α : Type} (cur : Int) : List (α × Int) → List (α × Int)
  | [] => []
  | (x, l) :: r => if l = cur then tidySteps cur r else (x, l) :: tidySteps l r

/-- Pulses and gaps shorter than t_min within the cycle are suppressed, a change of two levels merged (R88). -/
def dropShort (tmin : Nat) (cur : Int) : List (Nat × Int) → List (Nat × Int)
  | [] => []
  | [a] => [a]
  | a :: b :: r =>
    if b.1 < a.1 + tmin then (if b.2 = cur then dropShort tmin cur r else dropShort tmin cur (b :: r))
    else a :: dropShort tmin a.2 (b :: r)

end Sys2Proof.Machine
end

