-- ==== Sys2Proof/Machine/Feedback.lean ====
section
/-!
DEFINITION. Position and speed feedback (R148 to R174): latching, the three sensor types with their validity, the feedback
states and the limit inputs. Angles are in radians; the sensor's own samples are operands of the events.
-/
namespace Sys2Proof.Machine
open Sys2Proof

/-- Synchronous machines: SPMSM, IPMSM and wound-field. -/
def State.synchronous (s : State) (p : Nat) : Bool := s.machine p = 2 || s.machine p = 3 || s.machine p = 4

/-- An event with data that its rule names without a layout. -/
def evd (code : Nat) (l : List Q) : List Byte := fitTo 12 (Config.evData code l)

/-- The partition that an interface serves while it runs (R148). -/
def State.servedBy (s : State) (e : Nat) : Option Nat :=
  (List.range 8).find? fun p => s.given 0x50 p 0 && s.fbIf p = e && decide ((s.part p).st ≠ .unconfigured)

/-- An event of interface E0 to E7 of the given sensor type, for the partition it serves. -/
def fbEvent (t : Time) (e ty : Nat) (s : State) (f : State → Nat → State) : Res :=
  within e 8 s fun s => s.awake t fun s =>
    match s.servedBy e with
    | some p => if s.fbType p = ty then f s p else s
    | none => s

/-- The position becomes invalid (R161), with the error bit of its cause. -/
def State.fbInvalid (s : State) (p bit : Nat) : State :=
  let x := s.fbOf p
  let was := x.valid
  let s := s.setFb p { x with valid := false, errors := setBit x.errors bit true, absolute := false, goodSince := none, good := 0,
                              invalidAt := some (x.invalidAt.getD s.now) }
  let s := if was ∨ x.invalidAt = none then s.alarm (srcPart p) 0x0502 (evd 0x0502 [bit]) else s
  s.loseDrum p

/-- The sensor has a valid position. -/
def State.fbOk (s : State) (p : Nat) : State :=
  let x := s.fbOf p
  s.setFb p { x with valid := true, invalidAt := none }

/-- An error bit set without invalidation. -/
def State.fbBit (s : State) (p bit : Nat) : State := s.setFb p { s.fbOf p with errors := setBit (s.fbOf p).errors bit true }

/-! ### Incremental encoders (R152 to R155) -/

/-- Counts of one sensor turn. -/
def State.encTurn (s : State) (p : Nat) : Q := 4 * s.encP p 16

/-- `ENC_ILLEGAL_TRANSITION` (R152): the fourth within 1 ms makes the position invalid. -/
def execEncIllegalTransition (t : Time) (e : Nat) (s : State) : Res :=
  fbEvent t e 1 s fun s p =>
    let x := s.fbOf p
    let recent := s.now :: x.illegalAt.filter fun u => decide (s.now < u + 1000000)
    let s := (s.setFb p { x with illegal := holdAt 0xFFFF (x.illegal + 1), illegalAt := recent.take 4 }).fbBit p 0
    if 4 ≤ recent.length then s.fbInvalid p 0 else s

/-- A failed index check counted (R153). -/
def State.indexFail (s : State) (p bit : Nat) (d : Int) : State :=
  let x := s.fbOf p
  let s := (s.setFb p { x with idxErr := holdAt 0xFFFF (x.idxErr + 1), consec := x.consec + 1 }).fbBit p bit
  let s := s.alarm (srcPart p) 0x0506 (evd 0x0506 [(d : Q)])
  if s.encP p 21 ≤ ((s.fbOf p).consec : Q) then s.fbInvalid p bit else s

/-- `INDEX_PULSE` (R153, R155): the count at the index is checked and the position re-referenced. -/
def execIndexPulse (t : Time) (e : Nat) (count : Int) (s : State) : Res :=
  fbEvent t e 1 s fun s p =>
    if ¬ s.useIndex p then s
    else
      let x := s.fbOf p
      match x.idxAt with
      | none => (s.setFb p { x with idxAt := some count, zero := count, consec := 0, idxMiss := 0, absolute := true }).fbOk p
      | some c0 =>
        let d := count - c0
        let badd := decide (s.encP p 24 < absQ (((d.natAbs : Nat) : Q) - s.encTurn p))
        let s := s.setFb p { x with idxAt := some count, zero := count, idxMiss := 0 }
        if badd then s.indexFail p 1 d
        else (s.setFb p { s.fbOf p with consec := 0, absolute := true }).fbOk p

/-- `INDEX_MISSING` (R153): no index within 1.25 turns of travel counts as a failed check, with d reported as 0; each further 1.25 turns
without one count again (log entry 151). The index before stays the one that the next is held against. -/
def execIndexMissing (t : Time) (e : Nat) (count : Int) (s : State) : Res :=
  fbEvent t e 1 s fun s p =>
    let x := s.fbOf p
    match x.idxAt with
    | none => s
    | some c0 =>
      if s.useIndex p ∧ 5 / 4 * s.encTurn p * ((x.idxMiss + 1 : Nat) : Q) ≤ (((count - c0).natAbs : Nat) : Q) then
        (s.setFb p { x with idxMiss := x.idxMiss + 1 }).indexFail p 2 0
      else s

/-! ### Resolvers (R156, R157) -/

/-- The excitation that an interface drives at a device time, as a fraction of full scale (R156). -/
def State.excitation (s : State) (p : Nat) (t : Time) : Q := s.resP p 20 * Config.sin (2 * Config.pi * s.resP p 16 * secOf t)

/-- Coherent demodulation over one half-period (R156): the mean of twice the samples times the excitation's unit wave shifted by `res_phase`.
Each sample comes with its age in ns before the end of the half-period. -/
def State.demodulate (s : State) (p : Nat) (l : List (Nat × Q)) : Q :=
  quot (sumQ (l.map fun e => 2 * e.2 * Config.sin (2 * Config.pi * s.resP p 16 * secOf (s.now - e.1) + s.resP p 28))) l.length

/-- `RESOLVER_SAMPLE` (R156, R157): the samples of one half-period of the sin and cos windings are demodulated, and the pair runs the tracking
loop and the checks. -/
def execResolverSample (t : Time) (e : Nat) (sins coss : List (Nat × Q)) (s : State) : Res :=
  fbEvent t e 2 s fun s p =>
    let x := s.fbOf p
    let sn := s.demodulate p sins
    let cs := s.demodulate p coss
    let h : Q := 1 / (2 * s.resP p 16)
    let bw := s.resP p 32
    let relock := (Tab.get s.sdFlags 0 (s.resByte p 24 0)).testBit 1 || (Tab.get s.sdFlags 0 (s.resByte p 25 0)).testBit 1
    if relock then s.setFb p { x with thT := x.thT + x.wT * h, lastAt := s.now }
    else
      let err := sn * Config.cos x.thT - cs * Config.sin x.thT
      let w := x.wT + bw * bw * err * h
      let x := { x with wT := w, thT := x.thT + (w + 14 / 10 * bw * err) * h, lastAt := s.now }
      let amp2 := sn * sn + cs * cs
      let nom := s.resP p 36
      let inRange := decide (nom * nom / 4 ≤ amp2 ∧ amp2 ≤ 9 / 4 * nom * nom)
      let x := { x with ampBad := if inRange then 0 else x.ampBad + 1,
                        errSince := if absQ err ≤ 1 / 10 then none else some (x.errSince.getD s.now) }
      let fine := inRange && decide (absQ err < 2 / 100)
      let x := { x with goodSince := if fine then some (x.goodSince.getD s.now) else none }
      let s := s.setFb p x
      let lostTrack := match x.errSince with
        | some u => decide (u + 1000000 ≤ s.now)
        | none => false
      if x.ampBad ≥ 3 then s.fbInvalid p 3
      else if lostTrack then s.fbInvalid p 4
      else if ¬ x.valid then
        match x.goodSince with
        | some u => if u + 50000000 ≤ s.now then s.fbOk p else s
        | none => s
      else s

/-! ### BiSS-C (R158 to R160) -/

/-- `BISS_REQUEST` (R151, R158): the request instant of the frame; none is made until `biss_tout` after the frame before. -/
def execBissRequest (t : Time) (e : Nat) (s : State) : Res :=
  fbEvent t e 3 s fun s p =>
    let x := s.fbOf p
    let waits := match x.frameAt with
      | some u => decide (s.now < u + s.bissN p 20 2 2000)
      | none => false
    if waits then s else s.setFb p { x with reqAt := some s.now }

/-- The absolute angle of a BiSS frame in radians. -/
def State.bissAngle (s : State) (p st : Nat) (mt : Int) : Q :=
  2 * Config.pi * ((mt : Q) + (st : Q) / (2 ^ s.bissN p 17 1 20 : Nat))

/-- One bit into the CRC-6 of polynomial x⁶ + x + 1 (R158). -/
def crc6Step (c : Nat) (b : Bool) : Nat :=
  let out := c.testBit 5 ^^ b
  (2 * c % 64) ^^^ (if out then 3 else 0)

/-- The CRC-6 of the n low bits of a number, most significant first, from 0 (log entry 153). -/
def crc6 (v : Nat) : Nat → Nat → Nat
  | 0, c => c
  | n + 1, c => crc6 v n (crc6Step c (v.testBit n))

/-- What a BiSS-C frame holds after its CDS bit (R158): multi-turn and single-turn value, and the levels of nE and nW (true: high). -/
structure BissData where
  mt : Int
  st : Nat
  ne : Bool
  nw : Bool
deriving DecidableEq, Repr

/-- The bits after the CDS bit, all MSB first, as one number: multi-turn, single-turn, nE and nW where configured, and the inverted CRC; none
where the CRC does not hold. The multi-turn count is two's complement (log entry 153). -/
def State.bissData (s : State) (p : Nat) (frame : Nat) : Option BissData :=
  let stN := s.bissN p 17 1 20
  let mtN := s.bissN p 18 1 0
  let fl := s.bissN p 19 1 2
  let body := frame / 64 % 2 ^ (mtN + stN + fl)
  if frame % 64 ≠ 63 - crc6 body (mtN + stN + fl) 0 then none
  else
    let v := body / 2 ^ fl
    some { mt := if mtN = 0 then 0 else signed mtN (v / 2 ^ stN), st := v % 2 ^ stN, ne := body.testBit 1, nw := body.testBit 0 }

/-- A frame of n bits after the CDS bit, received in four 16-bit words, the last bit lowest; none where its length is not the configured one. -/
def State.bissFrame (s : State) (p n : Nat) (ws : List Nat) : Option Nat :=
  if n = s.bissN p 18 1 0 + s.bissN p 17 1 20 + s.bissN p 19 1 2 + 6 then some (ws.foldl (fun a w => a * 65536 + w % 65536) 0) else none

/-- `BISS_FRAME_END` (R158, R160): how many bits the frame brought after its CDS bit, 0 where the encoder did not answer, and the bits. -/
def execBissFrameEnd (t : Time) (e n w0 w1 w2 w3 : Nat) (s : State) : Res :=
  fbEvent t e 3 s fun s p =>
    let s := s.setFb p { s.fbOf p with frameAt := some s.now }
    let x := s.fbOf p
    match (s.bissFrame p n [w0, w1, w2, w3]).bind fun w => s.bissData p w with
    | none =>
      let s := (s.setFb p { x with crcErr := holdAt 0xFFFF (x.crcErr + 1), bad := x.bad + 1, good := 0, reqAt := none }).fbBit p 5
      if s.bissN p 22 1 3 ≤ x.bad + 1 then s.fbInvalid p 5 else s
    | some d =>
      let th := s.bissAngle p d.st d.mt
      let at_ := x.reqAt.getD s.now
      let dt := secOf (at_ - x.lastAt)
      let turns : Q := if s.multiTurn p then ((2 ^ s.bissN p 18 1 0 : Nat) : Q) else 1
      let went := (th - x.thT) / (2 * Config.pi)
      let w := if x.lastAt = 0 ∨ dt = 0 then x.wT else (went - turns * (nearest (went / turns) : Q)) * 2 * Config.pi / dt
      let flags := s.bissN p 19 1 2 = 2
      let nE := !flags || d.ne
      let x := { x with bad := 0, good := if nE then x.good + 1 else 0, thT := th, wT := w, lastAt := at_, raw := d.st, mt := d.mt,
                        reqAt := none }
      let s := s.setFb p x
      let warnDue := match x.nwAt with
        | none => true
        | some u => decide (u + 1000000000 ≤ s.now)
      let s := if flags && !d.nw && warnDue then (s.setFb p { x with nwAt := some s.now }).warn (srcPart p) 0x0502 (evd 0x0502 [8]) else s
      if ¬ nE then s.fbInvalid p 6
      else if ¬ x.valid ∧ 16 ≤ x.good then s.fbOk p
      else s

/-! ### Latching (R150, R151, R154) -/

/-- The count step and the time between the two edges of the speed measurement (R154), of edges newest first, each with its age in ns and the
count after it: the latest, and the earliest of the last 20 µs, or the one before the latest where fewer than two fall in those, up to
`spd_win_max`; none where `spd_win_max` holds fewer than two (log entry 152). -/
def speedEdges (top : Nat) (edges : List (Nat × Int)) : Option (Int × Nat) :=
  match edges.filter fun e => decide (e.1 ≤ top) with
  | a :: b :: r =>
    let z := (((b :: r).filter fun e => decide (e.1 ≤ 20000)).getLast?).getD b
    some (a.2 - z.2, z.1 - a.1)
  | _ => none

/-- Sensor angle and speed at the latch instant. -/
def State.latchSensor (s : State) (p : Nat) (count : Int) (edges : List (Nat × Int)) : Fb :=
  let x := s.fbOf p
  if s.fbIf p = 0xFF then x
  else if s.fbType p = 1 then
    let turn := s.encTurn p
    let w : Q := match speedEdges (nsOf (s.encP p 28)) edges with
      | some (dc, dt) => if dt = 0 then 0 else 2 * Config.pi * (dc : Q) / turn / secOf dt
      | none => 0
    { x with count := count, raw := (count % (2 ^ 32 : Nat)).toNat, thS := 2 * Config.pi * ((count - x.zero : Int) : Q) / turn, wS := w,
             invalidAt := if s.useIndex p ∨ 4 ≤ (x.illegalAt.filter fun u => decide (s.now < u + 1000000)).length then x.invalidAt else none }
  else
    let pairs : Q := if s.fbType p = 2 then s.resByte p 26 1 else 1
    { x with thS := (x.thT + x.wT * secOf (s.now - x.lastAt)) / pairs, wS := x.wT / pairs,
             raw := if s.fbType p = 2 then (nearest (fracQ (x.thT / (2 * Config.pi)) * (2 ^ 32 : Nat)) % (2 ^ 32 : Nat)).toNat else x.raw }

/-- The interface publishes angle and speed for offset 0 (R151). -/
def State.latchFeedback (s : State) (p : Nat) (count : Int) (edges : List (Nat × Int)) : State :=
  let x := s.latchSensor p count edges
  s.setFb p { x with thM := s.fbSign p * x.thS / s.fbRatio p, wM := s.fbSign p * x.wS / s.fbRatio p }

/-- The mechanical speed in use: the sensor's, the observer's, or the ramp's (Table 3 of R161). In INVALID there is none, and what would use it
takes 0 (log entry 150). -/
def State.speed (s : State) (p : Nat) : Q :=
  let x := s.fbOf p
  if x.st = 1 ∨ x.st = 4 then x.wM
  else if x.st = 2 then (s.ctlOf p).wObs
  else if x.st = 3 then (s.ctlOf p).ramp
  else 0

/-- The feedback reports a valid speed. -/
def State.speedValid (s : State) (p : Nat) : Bool := (s.fbOf p).st ≠ 0

/-- The load-torque feed-forward in force (R105, R117). -/
def State.ltoFf (s : State) (p : Nat) : Q := if (s.ctlOf p).ffOff.isSome then 0 else s.obsP p 20 * (s.ctlOf p).tl

/-- The speed loop resumes from the measured speed with its output at a torque (R109). -/
def State.resumeAt (s : State) (p : Nat) (tq : Q) : State :=
  s.setCtl p { s.ctlOf p with ramp := s.speed p, spdInt := tq - s.ltoFf p }

/-- The bumpless change to the speed loop: its output equals the present torque reference (R109). -/
def State.bumpless (s : State) (p : Nat) : State := s.resumeAt p (s.ctlOf p).tRef

/-- The electrical angle of the sensor (R116, R150). -/
def State.sensorAngle (s : State) (p : Nat) : Q :=
  s.polePairs p * (s.fbOf p).thM + s.angleOffset p + (if s.winding p = 2 then s.windAngle p else 0)

/-- A blend out of OPEN_LOOP ends at the sensor: it is valid and in use (R163). -/
def State.blendsToSensor (s : State) (p : Nat) : Bool := (s.fbOf p).valid && decide (s.fbMode p ≠ 2) && decide (s.fbIf p ≠ 0xFF)

/-- The electrical angle in use at the latch. -/
def State.elecAngle (s : State) (p : Nat) : Q :=
  let x := s.fbOf p
  let c := s.ctlOf p
  if x.st = 2 then c.thObs
  else if x.st = 3 then
    match x.blendAt with
    | some u =>
      let k := clampQ 0 1 (secOf (s.now - u) / (20 / 1000))
      x.olTh + k * wrapPi ((if s.blendsToSensor p then s.sensorAngle p else c.thObs) - x.olTh)
    | none => x.olTh
  else s.sensorAngle p

/-- A feedback state entered, with its STATE event for SENSORLESS (R161). -/
def State.fbEnter (s : State) (p st : Nat) : State :=
  let x := s.fbOf p
  if x.st = st then s
  else
    let c := s.ctlOf p
    let x := { x with st := st, blendAt := none }
    let x := if st = 3 then { x with olTh := c.thObs, olI := Config.sqrt (c.id * c.id + c.iq * c.iq), olAt := some s.now }
             else { x with olAt := none }
    let s := s.setFb p x
    if st = 2 then s.inform (srcPart p) 0x0504 [] else s

/-- The state follows `fb_mode` (R162, R163) at a current-loop step. -/
def State.fbFollow (s : State) (p : Nat) : State :=
  let x := s.fbOf p
  let w := absQ (s.speed p)
  let rel := decide (s.fbType p = 1) && !x.absolute && x.invalidAt.isNone
  let runs := decide ((s.part p).st = .running) || decide ((s.part p).st = .braking)
  let blend := if x.blendAt = none ∧ s.slOn p ≤ absQ (s.ctlOf p).ramp then s.setFb p { x with blendAt := some s.now } else s
  if runs ∧ s.machine p = 1 ∧ x.restart = 2 then s
  else if s.fbIf p = 0xFF ∨ s.fbMode p = 2 then
    let wo := absQ (s.ctlOf p).wObs
    if x.st = 2 then (if wo < s.slOff p then s.fbEnter p 3 else s)
    else if x.st = 3 then blend
    else s.fbEnter p (if s.slOn p ≤ wo then 2 else 3)
  else if rel then
    if runs ∧ s.synchronous p ∧ x.st = 3 then blend
    else if runs ∧ s.synchronous p ∧ x.st = 2 then (if w < s.slOff p then s.fbEnter p 3 else s)
    else s.fbEnter p 4
  else if x.valid then
    (if x.st = 3 ∧ runs then (if x.blendAt = none then s.setFb p { x with blendAt := some s.now } else s) else s.fbEnter p 1)
  else if ¬ runs then s.fbEnter p 0
  else if x.st = 3 then blend
  else if s.synchronous p then
    if x.st = 2 then (if w < s.slOff p then s.fbEnter p 0 else s)
    else if x.st = 1 ∧ s.fbMode p = 1 ∧ s.slOn p ≤ w then s.fbEnter p 2
    else s.fbEnter p 0
  else if x.st = 2 then (if w < s.slOff p then s.fbEnter p 0 else s)
  else if (x.st = 1 ∨ x.st = 4) ∧ s.slOff p ≤ w then s.fbEnter p 2
  else s.fbEnter p 0

/-- The cross-check of sensor and observer (R162): above `xcheck` for 20 ms, once per disagreement, while the observer runs. -/
def State.fbCross (s : State) (p : Nat) : State :=
  let x := s.fbOf p
  let c := s.ctlOf p
  let runs := ((s.part p).st = .running ∨ (s.part p).st = .braking) ∧ (s.brkOf p).sc = none
  let apart := runs ∧ x.st = 1 ∧ s.slOn p ≤ absQ x.wM ∧ s.slP p 24 < absQ (wrapPi (s.elecAngle p - c.thObs))
  if ¬ apart then s.setFb p { x with xSince := none, xRaised := false }
  else
    let u := x.xSince.getD s.now
    let due := decide (u + 20000000 ≤ s.now)
    let s := s.setFb p { x with xSince := some u, xRaised := x.xRaised || due }
    if due ∧ ¬ x.xRaised then (s.fbBit p 7).alarm (srcPart p) 0x0503 [] else s

/-- `OPEN_LOOP_BLEND_END` (R163): after the 20 ms blend the state is SENSORLESS, or VALID where the sensor has become so. -/
def execOpenLoopBlendEnd (t : Time) (p : Nat) (s : State) : Res :=
  within p 8 s fun s => s.live t fun s =>
    let x := s.fbOf p
    match x.blendAt with
    | some u =>
      if x.st = 3 ∧ u + 20000000 ≤ s.now then
        let s := s.fbEnter p (if s.blendsToSensor p then 1 else 2)
        s.bumpless p
      else s
    | none => s

/-! ### Status (R173) -/

/-- The sensor gives a speed: it is valid, or an incremental encoder before its first index (R155). -/
def State.sensorSpeaks (s : State) (p : Nat) : Bool :=
  let x := s.fbOf p
  decide (s.fbIf p ≠ 0xFF) && (x.valid || (decide (s.fbType p = 1) && !x.absolute && x.invalidAt.isNone))

/-- `errors`, limits and speed as `FB_STATUS` shows them (Tables 7 and 8). -/
def State.fbResult (s : State) (p : Nat) : List Byte :=
  let x := s.fbOf p
  leBytes 1 x.st ++ leBytes 1 x.errors ++ leBytes 1 (x.limits + if x.limits = 3 then 4 else 0) ++ leBytes 1 x.restart ++
    f32Bytes (if s.sensorSpeaks p then x.wM else 0)
def State.fbRecord (s : State) (p : Nat) : List Byte :=
  let x := s.fbOf p
  leBytes 4 x.raw ++ leBytes 2 x.illegal ++ leBytes 2 x.idxErr ++ leBytes 2 x.crcErr ++ zeros 2 ++
    leBytesInt 4 (if s.fbType p = 3 then x.mt else 0)

/-- A status descriptor with an 8-byte result and an optional record at its buffer offset. -/
def statusBuf (d : Desc) (n : Nat) : Option Nat := if d.buffer = 0xFFFFFFFF then none else some n

def infoFbStatus : OpInfo := { op := 0x57, tgt := .part, need := .read, gives := true }

/-- `FB_STATUS` (R173): the read clears the error bits, and the record's counters where it is written. -/
def execFbStatus (d : Desc) (s : State) : Res :=
  serveRes infoFbStatus d (statusBuf d 16) (fun s =>
    let x := s.fbOf d.target
    let y := { x with errors := 0 }
    if d.buffer = 0xFFFFFFFF then { st := s.setFb d.target y, result := s.fbResult d.target }
    else { st := s.setFb d.target { y with illegal := 0, idxErr := 0, crcErr := 0 }, result := s.fbResult d.target,
           write := some (s.fbRecord d.target) }) s

end Sys2Proof.Machine
end

