-- ==== Sys2Proof/Machine/Members.lean ====
section
/-!
DEFINITION. Membership of tandems (R175 to R177): the member lists, a partition's place and whether it leads, and the answer
of a member that is not master.
-/
namespace Sys2Proof.Machine
open Sys2Proof

def layTandem : List Fld :=
  [fu8 16 2 4, fu16 18 0 0xFFFE] ++ ((List.range 4).map fun k => [fu16 (20 + 8 * k) 0 0x3FF, fu8 (22 + 8 * k) 0 255, fqs (24 + 8 * k)]).flatten
def layRatio : List Fld := (List.range 4).map fun k => fq (16 + 4 * k) (5/100) 1

/-- A member of a tandem: node, partition, ratio (R175). -/
structure Member where
  node : Nat
  part : Nat
  ratio : Q
deriving DecidableEq, Repr

/-- The members that a `TANDEM_CONFIG` payload lists. -/
def membersOf (b : List Byte) : List Member :=
  (List.range (byteAt b 0)).map fun k =>
    { node := leNat b (4 + 8 * k) 2, part := byteAt b (6 + 8 * k), ratio := (f32 (leNat b (8 + 8 * k) 4)).getD 0 }

/-- The members of a partition's tandem, with the ratios of a later `TANDEM_RATIO` (R180). -/
def State.members (s : State) (p : Nat) : List Member :=
  match s.stored 0x60 p 0 with
  | none => []
  | some b =>
    match s.stored 0x61 p 0 with
    | none => membersOf b
    | some r => (membersOf b).mapIdx fun k m => { m with ratio := (f32 (leNat r (4 * k) 4)).getD 0 }

def State.tanOf (s : State) (p : Nat) : Tan := Tab.get s.tan {} p
def State.setTan (s : State) (p : Nat) (x : Tan) : State := { s with tan := Tab.set s.tan {} p x }

/-- The partition belongs to a tandem. -/
def State.inTandem (s : State) (p : Nat) : Bool := s.given 0x60 p 0
/-- A partition's place in its member list. -/
def State.myPlace (s : State) (p : Nat) : Option Nat :=
  ((s.members p).mapIdx fun k m => (k, m)).find? (fun e => e.2.node = s.node && e.2.part = p) |>.map fun e => e.1
/-- The partition is its tandem's master. -/
def State.isMaster (s : State) (p : Nat) : Bool := s.inTandem p && (s.tanOf p).master.isSome && decide ((s.tanOf p).master = s.myPlace p)
/-- The speed loop of the partition runs: it stands alone or is master (R176). -/
def State.leads (s : State) (p : Nat) : Bool := !s.inTandem p || s.isMaster p
/-- Another member is master (R177); while a tandem has no master yet, no member is turned away (log entry 22). -/
def State.follows (s : State) (p : Nat) : Bool := s.inTandem p && (s.tanOf p).master.isSome && !s.isMaster p

/-- `rt_delay` of the shaft (R214): a tandem's master decides it for every member. -/
def State.shaftDelay (s : State) (p : Nat) : Q :=
  if s.leads p then s.rideP p 36
  else match (s.members p)[(s.tanOf p).master.getD 0xFF]? with
    | some m => if m.node = s.node then s.rideP m.part 36 else (s.tanOf p).delay
    | none => s.rideP p 36

/-- The answer of a member that is not master: it names the master (R177). -/
def notMaster (s : State) (p : Nat) : Reply :=
  let m := ((s.members p).getD ((s.tanOf p).master.getD 0) { node := 0, part := 0, ratio := 0 })
  { st := s, status := 0x0701, result := leBytes 1 m.part ++ zeros 1 ++ leBytes 2 m.node ++ zeros 4 }

/-- The effect of a descriptor that addresses the master only (R177). -/
def masterOnly (d : Desc) (eff : State → Reply) (s : State) : Reply := if s.follows d.target then notMaster s d.target else eff s

end Sys2Proof.Machine
end

