-- ==== Sys2Proof/Machine/Rounds.lean ====
section
/-!
DEFINITION. Decision rounds (R59, R138, R221, R331): the commands that wait behind the one in hand with its own instant meet it in one
round, and what of them counts in it (log entry 130).
-/
namespace Sys2Proof.Machine
open Sys2Proof

/-- A waiting descriptor belongs to the round and passes its checks. -/
def State.meets (s : State) (i : OpInfo) (d : Desc) : Bool := s.thisRound d.t && decide (s.checks i d none = 0)

/-- A state-changing descriptor of Table 8 of R67. -/
def stateInfo (op : Nat) (st : List PState) : OpInfo :=
  { op := op, tgt := .part, need := .part, lease := true, states := some st }
def infoBlock : OpInfo := { stateInfo 0x1A [.blocked, .precharge, .ready, .running, .braking, .tripped, .safeOff] with urgent := true }
def infoProtTrip : OpInfo := { stateInfo 0x7B [.precharge, .ready, .running, .braking] with urgent := true }
def infoProfileStop : OpInfo := { op := 0x48, tgt := .part, need := .part, lease := true, urgent := true }

/-- A `PROFILE_STOP` of the round, given already or still waiting (R138). -/
def State.stopInRound (s : State) (p : Nat) : Bool :=
  decide ((s.motOf p).stopAt = some s.now) || s.pending.any fun i =>
    match i with
    | .profileStop d => decide (d.target = p) && s.meets infoProfileStop d
    | _ => false

/-- The partition mask of an STO group, and whether it is in SS1 mode (R217). -/
def State.stoMap (s : State) (g : Nat) : Nat := s.regField 0x1028 0 (8 * g + 7) (8 * g)
def State.stoSs1 (s : State) (g : Nat) : Bool := (s.regWord 0x1028 0).testBit (16 + g)

/-- Partitions that an enabled input trips; the map bit of a bonded partition's partner is ignored (R231). -/
def State.tripinParts (s : State) (i : Nat) : List Nat :=
  if (s.regWord 0x1000 0).testBit i then (maskList 8 (s.regField 0x1004 0 (8 * i + 7) (8 * i))).filter fun p => !s.bondPartner p else []

/-- The stopping test of a region's supervisor has run out (R31, R491). -/
def State.watchdogOut (s : State) (r : Nat) : Bool :=
  let x := s.region r
  !(x.wdogStopped && decide (s.now < x.wdogFrom + 200000))

end Sys2Proof.Machine
end

