-- ==== Sys2Proof/Machine/Motion.lean ====
section
/-!
DEFINITION. Operating curves, shock handling and winch motion (R125 to R146): drum, profile generator, limits, tension and
heave as the speed step and the current-loop step use them, and the chapter's descriptors and events.
-/
namespace Sys2Proof.Machine
open Sys2Proof

/-! ### Modes that a ride-through suspends (R221) -/

/-- The crash stop that acts: none while a ride-through suspends it. -/
def State.crashNow (s : State) (p : Nat) : Option (Q × Q × Q × Q) := if (s.brkOf p).rt = 0 then (s.brkOf p).crash else none
/-- Rendering acts: not while a ride-through suspends it. -/
def State.renderNow (s : State) (p : Nat) : Bool := (s.brkOf p).render && decide ((s.brkOf p).rt = 0)

/-! ### Drum (R134) -/

/-- The stepped drum: wound length of x turns, by layer. -/
def woundStep : List (Q × Q) → Q → Q
  | [], _ => 0
  | (d, n) :: r, x => if x ≤ n then Config.pi * d * x else Config.pi * d * n + woundStep r (x - n)

/-- The layer and its boundaries at φ turns: index, diameter, start and end, and the neighbours' diameters. -/
def layerAt : List (Q × Q) → Nat → Q → Q → Q → Nat × Q × Q × Q × Q × Q
  | [], k, b, prev, _ => (k, prev, b, b, prev, prev)
  | [(d, n)], k, b, prev, _ => (k, d, b, b + n, prev, d)
  | (d, n) :: (e, m) :: r, k, b, prev, x =>
    if x ≤ b + n then (k, d, b, b + n, prev, e) else layerAt ((e, m) :: r) (k + 1) (b + n) d x

def State.layerOf (s : State) (p : Nat) (x : Q) : Nat × Q × Q × Q × Q × Q :=
  let l := s.layers p
  layerAt l 0 0 ((l.head?.map fun e => e.1).getD 1) x

/-- The effective diameter at φ, interpolated within `crossover` turns of a layer boundary. -/
def State.drumD (s : State) (p : Nat) (x : Q) : Q :=
  let L := s.layerOf p x
  let c := s.drumP p 28
  if c = 0 then L.2.1
  else if L.2.2.1 ≠ 0 ∧ x < L.2.2.1 + c / 2 then L.2.2.2.2.1 + (L.2.1 - L.2.2.2.2.1) * (x - (L.2.2.1 - c / 2)) / c
  else if L.2.2.2.1 - c / 2 < x then L.2.1 + (L.2.2.2.2.2 - L.2.1) * (x - (L.2.2.2.1 - c / 2)) / c
  else L.2.1

/-- The wound length W(φ): the stepped table, corrected inside a crossover interval so that its ends keep their payout. -/
def State.wound (s : State) (p : Nat) (x : Q) : Q :=
  let L := s.layerOf p x
  let c := s.drumP p 28
  let zone := fun (b lo hi : Q) =>
    let y := x - (b - c / 2)
    woundStep (s.layers p) (b - c / 2) + Config.pi * (lo * y + (hi - lo) * y * y / (2 * c))
  if c = 0 then woundStep (s.layers p) x
  else if L.2.2.1 ≠ 0 ∧ x < L.2.2.1 + c / 2 then zone L.2.2.1 L.2.2.2.2.1 L.2.1
  else if L.2.2.2.1 - c / 2 < x ∧ L.2.2.2.2.2 ≠ L.2.1 then zone L.2.2.2.1 L.2.1 L.2.2.2.2.2
  else woundStep (s.layers p) x

/-- The turns that wind a length on the stepped drum. -/
def turnsStep : List (Q × Q) → Q → Q
  | [], _ => 0
  | (d, n) :: r, x => if x ≤ Config.pi * d * n then x / (Config.pi * d) else n + turnsStep r (x - Config.pi * d * n)

/-- The wound position of a payout; inside a crossover interval the turns solve the interpolated length. -/
def State.phiOf (s : State) (p : Nat) (payout : Q) : Q :=
  let len := s.ropeLen p - payout
  let x := turnsStep (s.layers p) len
  let L := s.layerOf p x
  let c := s.drumP p 28
  let solve := fun (b lo hi : Q) =>
    let rest := (len - woundStep (s.layers p) (b - c / 2)) / Config.pi
    b - c / 2 + (Config.sqrt (lo * lo + 2 * (hi - lo) * rest / c) - lo) * c / (hi - lo)
  if c = 0 then x
  else if L.2.2.1 ≠ 0 ∧ x < L.2.2.1 + c / 2 ∧ L.2.1 ≠ L.2.2.2.2.1 then solve L.2.2.1 L.2.2.2.2.1 L.2.1
  else if L.2.2.2.1 - c / 2 < x ∧ L.2.2.2.2.2 ≠ L.2.1 then solve L.2.2.2.1 L.2.1 L.2.2.2.2.2
  else x

/-- Measured payout and rope speed. -/
def State.payout (s : State) (p : Nat) : Q := s.ropeLen p - s.wound p (s.motOf p).phi
def State.drumNow (s : State) (p : Nat) : Q := s.drumD p (s.motOf p).phi
def State.ropeV (s : State) (p : Nat) : Q := if s.gear p = 0 then 0 else -(s.speed p) * s.drumNow p / (2 * s.gear p)
/-- The motor speed of a rope speed. -/
def State.motorW (s : State) (p : Nat) (v : Q) : Q := if s.drumNow p = 0 then 0 else -2 * s.gear p * v / s.drumNow p
/-- The direction of rotation that pays rope out: negative for a positive gear. -/
def State.paySign (s : State) (p : Nat) : Q := if s.gear p < 0 then 1 else -1

/-- The sensor turns after which the position starts anew: of a multi-turn encoder those that it counts, else one. -/
def State.turnsCounted (s : State) (p : Nat) : Q := if s.multiTurn p then ((2 ^ s.bissN p 18 1 0 : Nat) : Q) else 1

/-- φ follows the motor position (R135), through the turns at which a sensor starts anew. -/
def State.followDrum (s : State) (p : Nat) : State :=
  let m := s.motOf p
  let th := (s.fbOf p).thM
  let whole := 2 * Config.pi * s.turnsCounted p / s.fbRatio p
  let move := th - m.thLast
  let move := move - whole * (nearest (move / whole) : Q)
  let d := if s.gear p = 0 then 0 else move / (2 * Config.pi * s.gear p)
  s.setMot p { m with phi := if m.calibrated then m.phi + d else m.phi, thLast := th }

/-! ### Profile generator (R136, R139) -/

def State.plimP (s : State) (p off : Nat) : Q := paramOf layProfLimits (s.stored 0x46 p 0) off

/-- The largest value that passes a test which small values pass, found from below by n halvings of the interval (log entry 147). -/
def bisect (ok : Q → Bool) : Nat → Q → Q → Q
  | 0, lo, _ => lo
  | n + 1, lo, hi => if ok ((lo + hi) / 2) then bisect ok n ((lo + hi) / 2) hi else bisect ok n lo ((lo + hi) / 2)

/-- stopdist(v) ≤ x for v ≥ 0 (R136); the root of the slow branch is compared by its square. -/
def stopsIn (d j v x : Q) : Bool :=
  decide (0 ≤ x) && (if d * d / j ≤ v then decide (v * (v / d + d / j) / 2 ≤ x) else decide (v * v * v ≤ j * x * x))

/-- The stopping distance from speed v ≥ 0, taken from above within one part in 2⁶⁴. -/
def stopDist (d j v : Q) : Q :=
  if d * d / j ≤ v then v * (v / d + d / j) / 2
  else bisect (fun x => !stopsIn d j v x) 64 0 (v * (1 + v / j)) + v * (1 + v / j) / (2 ^ 64 : Nat)

/-- The largest v with stopdist(v) ≤ x. -/
def stopV (d j x : Q) : Q := if x ≤ 0 then 0 else bisect (fun v => stopsIn d j v x) 64 0 (1 + d * d / j + 2 * d * x)

/-- The first of the steps that fall by one unit each to 0 and together stay within |e|: a whole number of units, or e itself where that is
less than one unit. -/
def easeStep (unit e : Q) : Q :=
  let n := (Nat.sqrt (1 + 8 * (absQ e / unit).floor.toNat) - 1) / 2
  if n = 0 then e else signQ e * n * unit

/-- The virtual limits in payout. -/
def State.vlimits (s : State) (p : Nat) : Q × Q :=
  (s.vlimP p 16, minQ (s.vlimP p 20) (s.ropeLen p - s.wound p (s.vlimP p 24)))

/-- A rope speed clamped so that motion towards a virtual limit comes to rest `lim_margin` short of it. -/
def State.vclamp (s : State) (p : Nat) (pos v : Q) : Q :=
  let l := s.vlimits p
  let d := s.plimP p 24
  let j := s.plimP p 28
  clampQ (-(stopV d j (pos - l.1 - s.vlimP p 28))) (stopV d j (l.2 - pos - s.vlimP p 28)) v

/-- One tick of the generator, h = 200 µs (R136). The acceleration goal follows the planned speed as it changes and closes on it by as much as a
run-out under `j_max` allows, so that no bound is passed (log entry 147). While a yield recovers, `recover_rate` bounds the acceleration until
the planned speed is reached, and arrival ends the recovery (R132). -/
def State.genTick (s : State) (p : Nat) : State :=
  let m := s.motOf p
  if ¬ m.moving then s
  else
    let h : Q := 1 / 5000
    let dmax := s.plimP p 24
    let j := s.plimP p 28
    let amax := if m.yst = 2 ∧ ¬ m.planned then (if s.gear p = 0 then s.plimP p 20 else s.shockP p 40 * s.drumNow p / (2 * absQ (s.gear p)))
      else s.plimP p 20
    let dist := m.target - m.pRef
    let planned := fun (x : Q) => s.vclamp p x
      (signQ dist * minQ (s.plimP p 16) (stopV dmax j (signQ dist * (m.target - x) - absQ m.aRef * absQ m.vRef / j)))
    let goal := planned m.pRef
    let growing := decide (absQ m.vRef < absQ goal) && decide (0 ≤ goal * m.vRef)
    let a := (planned (m.pRef + m.vRef * h) - goal) / h + easeStep (j * h * h) (goal - m.vRef) / h
    let a := clampQ (-(if growing then amax else dmax)) (if growing then amax else dmax) a
    let a := slewQ m.aRef a (j * h)
    let v := m.vRef + a * h
    let x := m.pRef + v * h
    let m := { m with aRef := a, vRef := v, pRef := x, planned := m.planned || decide (absQ goal ≤ absQ v + j * h * h) }
    if absQ dist < 1 / 1000 ∧ absQ v < j * h * h then
      let m := { m with yst := if m.yst = 2 then 0 else m.yst }
      let m := match m.follow with
        | some y => { m with vRef := 0, aRef := 0, target := y, follow := none }
        | none => { m with vRef := 0, aRef := 0, moving := false }
      (s.setMot p m).inform (srcPart p) 0x040E []
    else s.setMot p m

/-- The generator set to the measured rope position and speed with zero acceleration; under source 4 the heave offset comes on
top of it (R142). One that does not move has no speed. -/
def State.genTrack (s : State) (p : Nat) : State :=
  let m := s.motOf p
  let heave := decide (m.source = 4)
  s.setMot p { m with pRef := s.payout p - (if heave then m.hOff else 0), aRef := 0,
                      vRef := if m.moving then s.ropeV p - (if heave then m.hV else 0) else 0 }

/-- The generator follows the shaft while a limit holds the speed loop off (R132, R199): one at rest moves back to where it
rested afterwards. -/
def State.genYield (s : State) (p : Nat) : State :=
  let m := s.motOf p
  (if m.moving then s else s.setMot p { m with moving := true, target := m.pRef }).genTrack p

/-! ### Operating curve (R128 to R130) -/

/-- The lever of the sigma-delta input, mapped to −1 to +1. -/
def State.leverOf (s : State) (p : Nat) : Q :=
  let x := Tab.get s.sd 0 (s.curveByte p 18)
  clampQ (-1) 1 (2 * (x - s.curveP p 28) / (s.curveP p 32 - s.curveP p 28) - 1)

/-- The sigma-delta lever reads more than 5 % of its span outside its range. -/
def State.leverWild (s : State) (p : Nat) : Bool :=
  let x := Tab.get s.sd 0 (s.curveByte p 18)
  let span := s.curveP p 32 - s.curveP p 28
  decide (x < s.curveP p 28 - span / 20) || decide (s.curveP p 32 + span / 20 < x)

/-- The lever is read for a speed step: u holds while the input is lost or flagged invalid, and becomes 0 once a loss has
lasted `in_timeout` with `in_loss` = 1. -/
def State.readLever (s : State) (p : Nat) : State :=
  let m := s.motOf p
  let sd := s.curveByte p 17 = 1
  let flagged := (Tab.get s.sdFlags 0 (s.curveByte p 18)).testBit 1
  let m := if sd ∧ ¬ flagged ∧ ¬ s.leverWild p then { m with u := s.leverOf p, lost := false, lostAt := none } else m
  let zero := match m.lostAt with
    | some t => m.lost && s.curveByte p 19 = 1 && decide (t + nsOf (s.curveP p 36) ≤ s.now)
    | none => false
  s.setMot p (if zero then { m with u := 0 } else m)

/-- The curve's value at a lever position, linear between neighbouring points. -/
def State.curveAt (s : State) (p : Nat) (u : Q) : Q :=
  let x := clampQ 0 32 ((u + 1) * 16)
  let i := min 31 x.floor.toNat
  s.curveY p i + (s.curveY p (i + 1) - s.curveY p i) * (x - (i : Q))

/-- The ON/OFF state of the curve moved on, and its output (R129). -/
def State.curveOut (s : State) (p : Nat) : State × Q :=
  let m := s.motOf p
  let a := absQ m.u
  let on := if ¬ m.curveOn ∧ s.curveP p 20 ≤ a then true else if m.curveOn ∧ a < s.curveP p 24 then false else m.curveOn
  (s.setMot p { m with curveOn := on }, if on then s.curveAt p m.u else 0)

/-! ### Tension and heave (R141, R142) -/

/-- The tension command moves on by one speed step and gives the torque reference. -/
def State.tensionStep (s : State) (p : Nat) : State × Q :=
  let m := s.motOf p
  let h : Q := 1 / 5000
  let render := s.renderNow p
  let fset := if render then s.emP p 40 else m.fSet
  let ramp := if render then fset else slewQ m.fRamp fset (m.fRate * h)
  let int := if m.sdT = 255 then 0 else m.fInt + (ramp - Tab.get s.sd 0 m.sdT) * h
  let f := ramp + clampQ (-(2 / 10 * ramp)) (2 / 10 * ramp) (m.ctKi * int)
  (s.setMot p { m with fRamp := ramp, fInt := int }, if s.gear p = 0 then 0 else f * (s.drumNow p / 2) / s.gear p)

/-- The heave offset moves on by one speed step (R142): it closes on the goal, whose rate it takes up, by as much as a run-out under `hv_a_max`
allows. -/
def State.heaveStep (s : State) (p : Nat) : State :=
  let m := s.motOf p
  let h : Q := 1 / 5000
  let fresh := match m.hv with
    | some (ts, z, vz) =>
      if secOf (s.now - ts) ≤ s.heaveP p 32 then some (s.heaveP p 20 * (z + vz * secOf (s.now - ts)), s.heaveP p 20 * vz) else none
    | none => none
  let goal := fresh.getD (m.hOff, 0)
  let want := goal.2 + easeStep (s.heaveP p 28 * h * h) (goal.1 - m.hOff) / h
  let v := slewQ m.hV (clampQ (-(s.heaveP p 24)) (s.heaveP p 24) want) (s.heaveP p 28 * h)
  let m' := { m with hOff := m.hOff + v * h, hV := v, hvValid := fresh.isSome, hvStale := fresh.isNone }
  let s := s.setMot p m'
  if fresh.isNone ∧ ¬ m.hvStale then s.alarm (srcPart p) 0x040D [] else s

/-! ### Hard limits (R140) -/

/-- A motor speed reference with the active hard limits applied: 0 towards a limit. -/
def State.hardClamp (s : State) (p : Nat) (w : Q) : Q :=
  let l := (s.fbOf p).limits
  let pay := s.paySign p
  if (l.testBit 0 ∧ 0 < w * pay) ∨ (l.testBit 1 ∧ w * pay < 0) then 0 else w

/-- A profile is discarded; the generator stands, so a recovery is at its end (R132, R140). -/
def State.dropProfile (s : State) (p : Nat) : State :=
  let m := s.motOf p
  s.setMot p { m with moving := false, follow := none, vRef := 0, aRef := 0, yst := if m.yst = 2 then 0 else m.yst }

/-- `HARD_LIMIT_ACTIVE` (R140, R170): the input of direction dir (0 payout, 1 haul-in) debounces active. -/
def execHardLimitActive (t : Time) (p dir : Nat) (s : State) : Res :=
  within p 8 s fun s => s.live t fun s =>
    if 2 ≤ dir ∨ s.limByte p (16 + dir) 0xFF = 0xFF ∨ (s.fbOf p).limits.testBit dir then s
    else
      let x := s.fbOf p
      let s := s.setFb p { x with limits := setBit x.limits dir true }
      let s := s.alarm (srcPart p) 0x040B (evd 0x040B [dir])
      let s := if (s.fbOf p).limits = 3 then s.alarm (srcPart p) 0x0507 [] else s
      let had := (s.motOf p).moving
      let s := if had then s.dropProfile p else s
      let m := s.motOf p
      let l := s.vlimits p
      let away := if dir = 0 then l.2 - s.payout p else s.payout p - l.1
      if m.calibrated ∧ s.vlimP p 28 < away then s.loseDrum p else s

/-- `HARD_LIMIT_INACTIVE` (R170). -/
def execHardLimitInactive (t : Time) (p dir : Nat) (s : State) : Res :=
  within p 8 s fun s => s.live t fun s =>
    if 2 ≤ dir then s else s.setFb p { s.fbOf p with limits := setBit (s.fbOf p).limits dir false }

/-! ### Yield and ceiling (R131 to R133) -/

/-- The source uses the speed loop (Table 1); rendering, which replaces the source, is a torque loop (R141, R211). -/
def State.speedSource (s : State) (p : Nat) : Bool :=
  let m := s.motOf p
  if s.renderNow p then false
  else if m.source = 0 then (s.ctlOf p).mode = 0
  else if m.source = 1 then s.curveByte p 16 = 0
  else m.source = 2 || m.source = 4

/-- The load-torque estimate `shock_win` earlier. -/
def Ctl.tlBefore (c : Ctl) (now win : Time) : Q :=
  match c.tlHist.find? fun e => decide (e.1 + win ≤ now) with
  | some e => e.2
  | none => (c.tlHist.getLast?.map fun e => e.2).getD c.tl

/-- The shock detector (R131) of a current-loop step. -/
def State.shockStep (s : State) (p : Nat) : State :=
  let c := s.ctlOf p
  let m := s.motOf p
  let w := s.speed p
  if ¬ s.speedSource p ∨ s.shockP p 16 = 0 ∨ absQ w < 5 / 100 * s.nMax p ∨ (s.part p).st ≠ .running ∨ 2 ≤ (s.brkOf p).rt ∨ (s.fbOf p).st = 3 then s
  else
    let d := signQ w * (c.tl - c.tlBefore s.now (nsOf (s.shockP p 20)))
    let thr := s.shockP p 24 * s.tRated p
    if thr < d then
      if m.yst = 1 then s.setMot p { m with hold := 0 }
      else
        let ty := absQ c.tRef + s.shockP p 28 * s.tRated p
        let s := s.setMot p { m with yst := 1, tY := ty, yStart := s.now, hold := 0, shocks := holdAt 0xFFFF (m.shocks + 1) }
        s.inform (srcPart p) 0x0407 (evd 0x0407 [d, ty])
    else if d < -thr then s.inform (srcPart p) 0x0408 []
    else s

/-- Rank 8: the speed-loop output in the direction of motion stays within t_y while yielding. -/
def State.yieldLimit (s : State) (p : Nat) (tq : Q) : Q :=
  let m := s.motOf p
  let sg := signQ (s.speed p)
  if m.yst = 1 ∧ m.tY < sg * tq then sg * m.tY else tq

/-- n_c of R133 (R141, R210, R211); a torque source runs no faster towards a virtual limit than it can stop (R139), and not at all towards an
active hard limit (R140). -/
def State.ceilSpeed (s : State) (p : Nat) : Q :=
  let m := s.motOf p
  let b := s.brkOf p
  let abs := if s.shockP p 48 = 0 then s.nMax p else s.shockP p 48
  let rope := fun (v : Q) => if s.drumNow p = 0 then 0 else 2 * absQ (s.gear p) * v / s.drumNow p
  if b.qr then rope (s.emP p 36)
  else if s.renderNow p ∨ m.source = 3 then
    let v := s.ropeV p
    let rend := if s.renderNow p then s.emP p 44 else m.vRend
    let rec_ := if s.renderNow p then 0 else m.vRec
    if s.hardClamp p (s.motorW p v) ≠ s.motorW p v then 0
    else rope (if 0 < v then minQ rend (s.vclamp p (s.payout p) rend) else minQ rec_ (-(s.vclamp p (s.payout p) (-rec_))))
  else if s.speedSource p then minQ abs (absQ (s.ctlOf p).ramp + s.shockP p 44 * s.nMax p)
  else abs

/-- Rank 9: the torque in the direction of motion that the speed ceiling leaves. -/
def State.ceilLimit (s : State) (p : Nat) (tq : Q) : Q × Bool :=
  let c := s.ctlOf p
  let w := s.speed p
  let sg := signQ w
  let b := s.brkOf p
  let acts := (s.shockP p 17 = 1 || b.qr || s.renderNow p) && (s.fbOf p).st ≠ 3
  let top := sg * c.tl + s.shockP p 52 * s.jTotal p * (s.ceilSpeed p - absQ w)
  if acts ∧ sg ≠ 0 ∧ top < sg * tq ∧ (¬ b.qr ∨ 0 < s.ropeV p) then (sg * top, true) else (tq, false)

/-- `YIELD_HOLD_REACHED` (R132): the state becomes recovering. -/
def execYieldHoldReached (t : Time) (p : Nat) (s : State) : Res :=
  within p 8 s fun s => s.live t fun s =>
    let m := s.motOf p
    if m.yst = 1 ∧ nsOf (s.shockP p 32) ≤ m.hold then s.setMot p { m with yst := 2, planned := false } else s

/-- `YIELD_TIMEOUT` (R132). -/
def execYieldTimeout (t : Time) (p : Nat) (s : State) : Res :=
  within p 8 s fun s => s.live t fun s =>
    let m := s.motOf p
    if m.yst = 1 ∧ m.yStart + nsOf (s.shockP p 36) ≤ s.now then (s.setMot p { m with yst := 2, planned := false }).alarm (srcPart p) 0x0409 [] else s

/-- `CURVE_INPUT_LOST` (R130): no `CURVE_INPUT` for `in_timeout`, or a lever outside its range. Where none has ever arrived the input counts as
late at once (log entry 149). -/
def execCurveInputLost (t : Time) (p : Nat) (s : State) : Res :=
  within p 8 s fun s => s.live t fun s =>
    let m := s.motOf p
    let late := match m.uAt with
      | some u => decide (u + nsOf (s.curveP p 36) ≤ s.now)
      | none => true
    let wild := s.leverWild p && !(Tab.get s.sdFlags 0 (s.curveByte p 18)).testBit 1
    if ¬ m.lost ∧ s.given 0x41 p 0 ∧ (if s.curveByte p 17 = 1 then wild else late) then
      (s.setMot p { m with lost := true, lostAt := some s.now }).alarm (srcPart p) 0x040A []
    else s

/-! ### Descriptors (R144) -/

def motInfo (op : Nat) (lay : List Fld) (st : List PState) (kept : Bool) : OpInfo :=
  { op := op, tgt := .part, need := .part, lease := true, kept := kept, conf := kept, states := some st, lay := lay }
def st05 : List PState := [.unconfigured, .blocked, .precharge, .ready, .running, .braking]
def st15 : List PState := [.blocked, .precharge, .ready, .running, .braking]
def st01 : List PState := [.unconfigured, .blocked]
def st013 : List PState := [.unconfigured, .blocked, .ready]

/-- Rendering or a crash stop is active (R211, R212). -/
def State.emergActive (s : State) (p : Nat) : Bool := (s.brkOf p).render || (s.brkOf p).crash.isSome

/-- The effect of `REF_SOURCE` (R125, R126). On a BC partition, which has no reference source, it completes like any other and has no use (log
entry 148). -/
def refSourceEffect (d : Desc) (s : State) : Reply :=
  let p := d.target
  let k := d.u8 16
  let m := s.motOf p
  let winch := k = 2 ∨ k = 3 ∨ k = 4
  if s.emergActive p then Reply.no s 0x0802
  else if k ≠ m.source ∧ (m.source = 2 ∨ m.source = 4) ∧ m.moving then Reply.no s 0x0402
  else if winch ∧ (s.part p).st = .running ∧ s.nMax p / 100 ≤ absQ (s.speed p) then Reply.no s 0x0004
  else if k = 1 ∧ ¬ s.given 0x41 p 0 then Reply.no s 0x0400
  else if winch ∧ ¬ (m.calibrated ∧ s.given 0x49 p 0 ∧ (k ≠ 4 ∨ s.given 0x4B p 0)) then Reply.no s 0x0406
  else { st := s.setMot p { m with srcNew := some k } }

/-- `REF_SOURCE`: the master only in a tandem (R177). -/
def execRefSource (d : Desc) (s : State) : Res :=
  serveRes (motInfo 0x40 layRefSource [.blocked, .ready, .running] false) d none (masterOnly d (refSourceEffect d)) s

/-- `CURVE_LOAD` (R128): the 33 points come from the host buffer. -/
def execCurveLoad (d : Desc) (s : State) : Res :=
  serveRes (motInfo 0x41 layCurve st05 true) d (some 132) (fun s =>
    let c := (s.withStored 0x41 d 0).curveStatus d.target
    if (List.range 33).any fun i => (f32 (leNat d.host (4 * i) 4)).isNone then Reply.no s 0x0003
    else if c ≠ 0 then Reply.no s c else { st := s }) s

/-- `CURVE_INPUT` (R125, R130): stored whatever the source. -/
def execCurveInput (d : Desc) (s : State) : Res :=
  serveRes (motInfo 0x42 layCurveInput st15 false) d none (masterOnly d fun s =>
    if (s.brkOf d.target).crash.isSome then Reply.no s 0x0802
    else
      let m := s.motOf d.target
      let m := { m with uAt := some s.now }
      { st := s.setMot d.target (if s.curveByte d.target 17 = 0 then { m with u := d.f32 16, lost := false, lostAt := none } else m) }) s

/-- A stored descriptor with the checks of R505 that its arrival makes. -/
def storeEffect (op : Nat) (d : Desc) (kc : Nat) (s : State) : Reply :=
  let c := (s.withStored op d kc).arrival op d.target
  if c ≠ 0 then Reply.no s c else { st := s, keyC := kc }

/-- `SHOCK_CONFIG`. -/
def execShockConfig (d : Desc) (s : State) : Res := serveRes (motInfo 0x43 layShock st05 true) d none (storeEffect 0x43 d 0) s

/-- `DRUM_CONFIG` (R134). -/
def execDrumConfig (d : Desc) (s : State) : Res :=
  serveRes { motInfo 0x44 layDrum st01 true with conf := true } d (some (8 * d.u8 16)) (fun s =>
    let c := drumStatus (d.f32 20) (d.f32 24) (layersOf (d.payload ++ d.host))
    if c ≠ 0 then Reply.no s c else storeEffect 0x44 d 0 s) s

/-- A device-state record of the drum calibration, with a multi-turn encoder (R135, R370). -/
def State.keepDrum (s : State) (p : Nat) : State :=
  if s.multiTurn p then s.stageDevice 7 p (f32Bytes (s.motOf p).phi ++ f32Bytes (s.fbOf p).thM) else s

/-- The effect of `DRUM_SET` (R135). -/
def drumSetEffect (d : Desc) (s : State) : Reply :=
  let p := d.target
  if ¬ s.given 0x44 p 0 then Reply.no s 0x0405
  else if s.ropeLen p < d.f32 16 then Reply.no s 0x0003
  else { st := (s.setMot p { s.motOf p with calibrated := true, phi := s.phiOf p (d.f32 16), thLast := (s.fbOf p).thM }).keepDrum p }

/-- `DRUM_SET`. -/
def execDrumSet (d : Desc) (s : State) : Res :=
  serveRes (motInfo 0x45 layDrumSet [.blocked, .ready] false) d none (drumSetEffect d) s

/-- A stop from the generator's present state is reachable before a point under the given limits. -/
def stopFits (dmax j : Q) (m : Mot) (room : Q) : Bool := stopsIn dmax j (absQ m.vRef) (room - absQ m.aRef * absQ m.vRef / j)

/-- The effect of `PROFILE_LIMITS` (R138). -/
def profLimitsEffect (d : Desc) (s : State) : Reply :=
  let p := d.target
  let m := s.motOf p
  let l := s.vlimits p
  let room := minQ (absQ (m.target - m.pRef)) ((if 0 ≤ m.vRef then l.2 - m.pRef else m.pRef - l.1) - s.vlimP p 28)
  if (s.brkOf p).render then Reply.no s 0x0802
  else if m.moving ∧ m.movedAt ≠ some s.now ∧ ¬ stopFits (d.f32 24) (d.f32 28) m room then Reply.no s 0x0403
  else { st := s }

/-- `PROFILE_LIMITS`: the master only in a tandem (R177). -/
def execProfileLimits (d : Desc) (s : State) : Res :=
  serveRes (motInfo 0x46 layProfLimits st15 true) d none (masterOnly d (profLimitsEffect d)) s

/-- The effect of `PROFILE_MOVE` (R138); outside sources 2 and 4 it is refused (log entry 15). -/
def moveEffect (d : Desc) (s : State) : Reply :=
  let p := d.target
  let m := s.motOf p
  let x := d.f32 16
  let l := s.vlimits p
  if s.ropeLen p < x then Reply.no s 0x0003
  else if (s.brkOf p).render then Reply.no s 0x0802
  else if s.stopInRound p then Reply.no s 0x0001
  else if ¬ m.calibrated then Reply.no s 0x0406
  else if m.source ≠ 2 ∧ m.source ≠ 4 then Reply.no s 0x0004
  else if x < l.1 ∨ l.2 < x then Reply.no s 0x0404
  else if m.moving then
    if d.u8 20 = 0 ∨ m.follow.isSome then Reply.no s 0x0402 else { st := s.setMot p { m with follow := some x } }
  else if x = m.pRef then { st := s }
  else { st := s.setMot p { m with moving := true, target := x, movedAt := some s.now } }

/-- `PROFILE_MOVE`: the master only in a tandem (R177). -/
def execProfileMove (d : Desc) (s : State) : Res := serveRes (motInfo 0x47 layMove [.running] false) d none (masterOnly d (moveEffect d)) s

/-- The profile stops: the follow-on is discarded and the target becomes the nearest point of rest (R138). -/
def State.profileStop (s : State) (p : Nat) : State :=
  let m := s.motOf p
  if ¬ m.moving then s
  else
    let x := stopDist (s.plimP p 24) (s.plimP p 28) (absQ m.vRef) + absQ m.aRef * absQ m.vRef / s.plimP p 28
    s.setMot p { m with follow := none, target := m.pRef + signQ m.vRef * x }

/-- `PROFILE_STOP`: the master only in a tandem (R177). -/
def execProfileStop (d : Desc) (s : State) : Res :=
  serveRes infoProfileStop d none (masterOnly d fun s =>
    if (s.brkOf d.target).render then Reply.no s 0x0802
    else { st := (s.profileStop d.target).setMot d.target { (s.profileStop d.target).motOf d.target with stopAt := some s.now } }) s

/-- The effect of `VLIMIT_CONFIG` (R139). -/
def vlimitEffect (d : Desc) (s : State) : Reply :=
  let p := d.target
  let r := storeEffect 0x49 d 0 s
  if r.status ≠ 0 then r
  else
    let x := s.withStored 0x49 d 0
    let m := s.motOf p
    let l := x.vlimits p
    let out := fun (y : Q) => decide (y < l.1) || decide (l.2 < y)
    if m.calibrated ∧ (out (s.payout p) ∨ (m.moving ∧ (out m.target ∨ m.follow.any out))) then Reply.no s 0x0404
    else if m.moving ∧ ¬ stopFits (s.plimP p 24) (s.plimP p 28) m ((if 0 ≤ m.vRef then l.2 - m.pRef else m.pRef - l.1) - x.vlimP p 28) then
      Reply.no s 0x0403
    else r

/-- `VLIMIT_CONFIG`. -/
def execVlimitConfig (d : Desc) (s : State) : Res := serveRes (motInfo 0x49 layVlimit st05 true) d none (vlimitEffect d) s

/-- `TENSION` (R141). -/
def execTension (d : Desc) (s : State) : Res :=
  serveRes (motInfo 0x4A layTension st15 false) d none (masterOnly d fun s =>
    if (s.brkOf d.target).render then Reply.no s 0x0802
    else { st := s.setMot d.target { s.motOf d.target with
      fSet := d.f32 16, fRate := d.f32 20, vRec := d.f32 24, vRend := d.f32 28, sdT := d.u8 32, ctKi := d.f32 36 } }) s

/-- `HEAVE_CONFIG`. -/
def execHeaveConfig (d : Desc) (s : State) : Res := serveRes (motInfo 0x4B layHeave st013 true) d none (fun s => { st := s }) s

/-- A heave sample is taken when none of a later stamp is held (R142). -/
def State.takeHeave (s : State) (p : Nat) (ts : Time) (z vz : Q) : State :=
  let m := s.motOf p
  match m.hv with
  | some (t0, _, _) => if ts < t0 then s else s.setMot p { m with hv := some (ts, z, vz) }
  | none => s.setMot p { m with hv := some (ts, z, vz) }

/-- `HEAVE_REF` (R125, R142): stored whatever the source; the host's samples count where `hv_src` is 0. -/
def execHeaveRef (d : Desc) (s : State) : Res :=
  serveRes (motInfo 0x4C layHeaveRef st15 false) d none (masterOnly d fun s =>
    { st := if s.heaveSrc d.target = 0 then s.takeHeave d.target (d.u64 16) (d.f32 24) (d.f32 28) else s }) s

/-- `HEAVE_SAMPLE_RECEIVED` (R142): a SHARE-class message of node `node`. -/
def execHeaveSampleReceived (t : Time) (p node ts : Nat) (z vz : Q) (s : State) : Res :=
  within p 8 s fun s => s.live t fun s =>
    if s.heaveSrc p = 1 ∧ s.heaveNode p = node then s.takeHeave p ts z vz else s

/-! ### Status (R146) -/

/-- The layer of the drum as `MOTION_STATUS` shows it. -/
def State.motionResult (s : State) (p : Nat) : List Byte :=
  let m := s.motOf p
  let flag := fun (k : Nat) (b : Bool) => if b then 2 ^ k else 0
  let fl := flag 0 m.curveOn + flag 1 (m.yst = 1) + flag 2 (m.yst = 2) + flag 3 m.ceil + flag 4 m.moving + flag 5 m.follow.isSome +
    flag 6 m.calibrated + flag 7 m.hvValid
  leBytes 1 m.source ++ leBytes 1 fl ++ leBytes 1 (if m.calibrated then (s.layerOf p m.phi).1 else 0xFF) ++ zeros 1 ++
    leBytes 2 m.shocks ++ zeros 2

/-- The record of Table 7. -/
def State.motionRecord (s : State) (p : Nat) : List Byte :=
  let m := s.motOf p
  let f := if m.sdT ≠ 255 then Tab.get s.sd 0 m.sdT
    else if s.drumNow p = 0 then 0 else (s.ctlOf p).te * 2 * s.gear p / s.drumNow p
  f32Bytes (s.payout p) ++ f32Bytes (s.ropeV p) ++ f32Bytes (m.pRef + m.hOff) ++ f32Bytes m.target ++ f32Bytes f ++ f32Bytes m.hOff ++
    f32Bytes (if m.yst = 1 then m.tY else 0) ++ f32Bytes m.u

def infoMotionStatus : OpInfo := { op := 0x4F, tgt := .part, need := .read, gives := true }

/-- `MOTION_STATUS` (R146): `shocks` is cleared by the read. -/
def execMotionStatus (d : Desc) (s : State) : Res :=
  serveRes infoMotionStatus d (statusBuf d 32) (fun s =>
    let s' := s.setMot d.target { s.motOf d.target with shocks := 0 }
    if d.buffer = 0xFFFFFFFF then { st := s', result := s.motionResult d.target }
    else { st := s', result := s.motionResult d.target, write := some (s.motionRecord d.target) }) s

end Sys2Proof.Machine
end

