-- ==== Sys2Proof/Machine/AuxChan.lean ====
section
/-!
DEFINITION. Auxiliary motor and switch channels (R274 to R299): six-step BLDC, bipolar stepper, switch channels, sag groups and
off-state load checks, with the chapter's descriptors.
-/
namespace Sys2Proof.Machine
open Sys2Proof

/-! ### Starting and stopping (R279, R292, R294, R295) -/

/-- A start once its check is passed or not due. -/
def State.auxStartNow (s : State) (c : Nat) : State :=
  if isMotor c then
    if s.auxMode c = 1 then
      (s.setAux c { s.auxOf c with tries := 0, retryAt := none, waitSince := none }).auxGo c 2
    else
      let x := s.auxOf c
      s.setAux c { x with st := 5, stAt := s.now, f := 1, stepAt := s.now, shorted := false, wakeAt := none, coarseAt := none }
  else s.switchOn c

/-- The off-state check begins (R294); what follows a pass: 0 off, 1 start. -/
def State.auxCheck (s : State) (c next : Nat) : State :=
  (s.setAux c { s.auxOf c with dStep := 0, dThen := next }).auxGo c 1

/-- A start or turn-on: it waits for a self-test, is checked when due, and begins (R277, R294). -/
def State.auxStart (s : State) (c : Nat) : State :=
  if s.auxTested c then s.setAux c { s.auxOf c with startWaits := true }
  else if ¬ s.claimed c ∧ s.auxByte c 19 1 = 1 then s.auxCheck c 1
  else s.auxStartNow c

/-- A BLDC channel enters STOPPING with the speed it has (R279, R286). -/
def State.bldcStop (s : State) (c : Nat) : State :=
  let x := s.auxOf c
  (s.setAux c { x with wStop := x.wm, highSince := none, retryAt := none, waitSince := none }).auxGo c 6

/-- Short-circuit braking ordered by the region supervisor (R280, R286). -/
def State.auxScBrake (s : State) (c : Nat) (check : Bool) : State :=
  let x := s.auxOf c
  ((s.setAux c { x with scCheck := check, nextComm := none, waitSince := none, highSince := none }).auxGo c 7).auxEmit c 4 0x0A0A []

/-- A start attempt has failed (R281): retry after 1 s, or FAULT after `start_tries`. -/
def State.bldcFail (s : State) (c : Nat) : State :=
  let x := s.auxOf c
  if s.bldcByte c 19 3 ≤ x.tries + 1 then s.auxFault c 0x0A06 []
  else (s.setAux c { x with tries := x.tries + 1, retryAt := some (s.now + 1000000000), waitSince := none, duty := 0 }).auxGo c 2

/-! ### BLDC (R278 to R286) -/

/-- An event of motor channel M0 to M15 in a mode. -/
def motorEvent (t : Time) (m mode : Nat) (s : State) (f : State → State) : Res :=
  within m 16 s fun s => s.awake t fun s => if s.auxMode m = mode then f s else s

/-- Mechanical speed of an electrical frequency in Hz (R283). -/
def State.bldcSpeed (s : State) (c : Nat) (f : Q) : Q := 2 * Config.pi * f / (s.bldcByte c 16 1 : Q)

/-- RUN begins at a duty and a speed. -/
def State.bldcRun (s : State) (c sector : Nat) (duty w : Q) (iv : Nat) : State :=
  let x := s.auxOf c
  (s.setAux c { x with sector := sector, duty := duty, integ := duty, wm := w, wRef := w, ivals := [iv, iv], lastComm := s.now,
                       nextComm := none, missRow := 0, tries := 0, waitSince := none }).auxGo c 5

/-- `BLDC_CHECK_END` (R280): signed electrical frequency (forward positive) and the sector observed. -/
def execBldcCheckEnd (t : Time) (m : Nat) (f : Q) (sector : Nat) (s : State) : Res :=
  motorEvent t m 1 s fun s =>
    let x := { s.auxOf m with wm := s.bldcSpeed m (absQ f) }
    let f1 := s.bldcP m 28
    if x.st ≠ 2 ∨ x.retryAt.isSome then s
    else if f1 ≤ f then
      let w := s.bldcSpeed m f
      let duty := match x.lastRun with
        | some (w0, d0) => if w0 = 0 then s.bldcP m 36 else clampQ 0 1 (d0 * w / w0)
        | none => s.bldcP m 36
      s.bldcRun m (sector % 6) duty w (nsOf (1 / (6 * f)))
    else if f1 / 4 ≤ f then s.setAux m { x with waitSince := some (x.waitSince.getD s.now) }
    else if f ≤ -f1 / 4 then
      let s := s.setAux m x
      let s := if x.waitSince.isNone then s.auxEmit m 4 0x0A09 [] else s
      if s.bldcByte m 18 0 = 1 then s.auxScBrake m true
      else s.setAux m { s.auxOf m with waitSince := some (x.waitSince.getD s.now) }
    else (s.setAux m { x with waitSince := none, sector := 0, duty := s.bldcP m 20 }).auxGo m 3

/-- `BLDC_CHECK_WAIT_TIMEOUT` (R280): waiting longer than 30 s fails the start. -/
def execBldcCheckWaitTimeout (t : Time) (m : Nat) (s : State) : Res :=
  motorEvent t m 1 s fun s =>
    match (s.auxOf m).waitSince with
    | some u => if (s.auxOf m).st = 2 ∧ u + 30000000000 ≤ s.now then s.bldcFail m else s
    | none => s

/-- `BLDC_ALIGN_END` (R279): after `align_time` the blind ramp starts. -/
def execBldcAlignEnd (t : Time) (m : Nat) (s : State) : Res :=
  motorEvent t m 1 s fun s =>
    let x := s.auxOf m
    if x.st = 3 ∧ x.stAt + nsOf (s.bldcP m 24) ≤ s.now then
      (s.setAux m { x with duty := s.bldcP m 36, crossRow := 0, ivals := [], lastComm := s.now }).auxGo m 4
    else s

/-- The ramp's frequency at the present time (R281). -/
def State.rampHz (s : State) (c : Nat) : Q :=
  let f1 := s.bldcP c 28
  f1 / 10 + 9 / 10 * f1 * clampQ 0 1 (secOf (s.now - (s.auxOf c).stAt) / s.bldcP c 32)

/-- The mean of the last two sector intervals. -/
def Aux.meanIval (x : Aux) : Nat := match x.ivals with
  | a :: b :: _ => (a + b) / 2
  | [a] => a
  | [] => 0

/-- An instant lies within a span of the crossing expected half of a sector interval iv after the last commutation (R281, R282). -/
def Aux.nearCrossing (x : Aux) (t : Time) (iv span : Nat) : Bool :=
  decide (x.lastComm + iv / 2 ≤ t + span ∧ t ≤ x.lastComm + iv / 2 + span)

/-- `BLDC_ZERO_CROSSING` (R281 to R283): the flag tells a crossing of the expected order. In RAMP it counts towards the handover within
±25 % of a sector of its instant; in RUN it schedules the commutation half of the mean interval later, unless it falls outside the
windowed periods of extrapolation. -/
def execBldcZeroCrossing (t : Time) (m : Nat) (order : Bool) (s : State) : Res :=
  motorEvent t m 1 s fun s =>
    let x := s.auxOf m
    if x.st = 4 then
      let f := s.rampHz m
      let iv := nsOf (1 / (6 * f))
      let n := if order && x.nearCrossing s.now iv (iv / 4) then x.crossRow + 1 else 0
      let s := s.setAux m { x with crossRow := n }
      if 6 ≤ n ∧ s.bldcP m 28 / 2 ≤ f then
        let s := s.bldcRun m x.sector (s.bldcP m 36) (s.bldcSpeed m f) iv
        s.setAux m { s.auxOf m with lastComm := x.lastComm, nextComm := some (s.now + iv / 2) }
      else s
    else if (x.st = 5 ∨ x.st = 6) ∧ order ∧ (¬ x.extrap ∨ x.nearCrossing s.now x.meanIval (x.meanIval / 8)) then
      s.setAux m { x with nextComm := some (s.now + x.meanIval / 2), missRow := 0 }
    else s

/-- Loss of synchronisation (R283): gates off and a restart, or FAULT at the third within 10 s. -/
def State.bldcLoss (s : State) (c : Nat) : State :=
  let x := s.auxOf c
  let losses := s.now :: x.lossAt.filter fun u => decide (s.now < u + 10000000000)
  let s := s.setAux c { x with lossAt := losses.take 3, restarts := holdAt 0xFFFF (x.restarts + 1), missRow := 0, nextComm := none, duty := 0,
                               waitSince := none, retryAt := none }
  if 3 ≤ losses.length then s.auxFault c 0x0A07 [] else s.auxGo c 2

/-- `BLDC_COMMUTATION` (R278, R283): the next sector; without a crossing seen it counts as missed. -/
def execBldcCommutation (t : Time) (m : Nat) (s : State) : Res :=
  motorEvent t m 1 s fun s =>
    let x := s.auxOf m
    let next := if s.bldcByte m 17 0 = 0 then (x.sector + 1) % 6 else (x.sector + 5) % 6
    let iv := s.now - x.lastComm
    let wm := if iv = 0 then x.wm else Config.pi / 3 / (secOf iv * (s.bldcByte m 16 1 : Q))
    if x.st = 4 then s.setAux m { x with sector := next, lastComm := s.now, wm := wm }
    else if x.st = 5 ∨ x.st = 6 then
      let seen := x.nextComm.isSome
      let y := { x with sector := next, lastComm := s.now, nextComm := none, ivals := [iv, x.ivals.headD iv], wm := wm,
                        missed := if seen then x.missed else holdAt 0xFFFF (x.missed + 1), missRow := if seen then 0 else x.missRow + 1 }
      let s := s.setAux m y
      if y.st = 5 ∧ 6 ≤ y.missRow then s.bldcLoss m else s
    else s

/-- `BLDC_RAMP_END` (R281): no handover within `ramp_time`. -/
def execBldcRampEnd (t : Time) (m : Nat) (s : State) : Res :=
  motorEvent t m 1 s fun s =>
    let x := s.auxOf m
    if x.st = 4 ∧ x.stAt + nsOf (s.bldcP m 32) ≤ s.now then s.bldcFail m else s

/-- `BLDC_START_RETRY` (R281): 1 s after a failed ramp. -/
def execBldcStartRetry (t : Time) (m : Nat) (s : State) : Res :=
  motorEvent t m 1 s fun s =>
    match (s.auxOf m).retryAt with
    | some u => if u ≤ s.now then (s.setAux m { s.auxOf m with retryAt := none, waitSince := none }).auxGo m 2 else s
    | none => s

/-- `BLDC_PEAK_COMPARATOR` (R284, R286, R291): an assertion ends the on-time; at the end of blanking in two consecutive periods it
is a short. -/
def execBldcPeakComparator (t : Time) (m : Nat) (atBlankEnd : Bool) (s : State) : Res :=
  within m 16 s fun s => s.awake t fun s =>
    let x := s.auxOf m
    if s.auxMode m ≠ 1 ∧ ¬ s.claimed m then s
    else if ¬ atBlankEnd ∨ x.st = 7 then s.setAux m { x with cutAt := some s.now, peakAt := none }
    else
      let again := match x.peakAt with
        | some u => decide (secOf (s.now - u) * s.auxP m 20 < 2)
        | none => false
      let s := s.setAux m { x with cutAt := some s.now, peakAt := some s.now }
      if again then
        (s.setAux m { s.auxOf m with trips := holdAt 0xFFFF (x.trips + 1), peakAt := none }).auxFault m 0x0A03 []
      else s

/-- The curve's speed at an input (R285): 17 points between `in_lo` and `in_hi`. -/
def State.bldcCurve (s : State) (c : Nat) (u : Q) : Q :=
  match s.stored 0x82 c 0 with
  | none => 0
  | some b =>
    let lo := s.bcurP c 20
    let hi := s.bcurP c 24
    let x := (u - lo) * 16 / (hi - lo)
    let i := min 15 x.floor.toNat
    bufQ b (4 * i) + (x - (i : Q)) * (bufQ b (4 * (i + 1)) - bufQ b (4 * i))

/-- The duty as applied (R282): the duty, extrapolation active, shortfall accepted. -/
def State.bldcApply (s : State) (c : Nat) (d : Q) : Q × Bool × Bool :=
  let d := clampQ 0 1 d
  let cap := 1 - (s.bldcP c 40 + s.bldcP c 44) * s.auxP c 20
  if d ≤ cap then (d, false, false) else if d ≤ cap + s.bldcP c 48 then (cap, false, true) else (d, true, false)

/-- The curve input of a step and whether it is lost (R285). -/
def State.bldcInput (s : State) (c : Nat) : Q × Bool :=
  let lo := s.bcurP c 20
  let hi := s.bcurP c 24
  if s.bcurP c 16 = 1 then
    let v := Tab.get s.sd 0 (s.bcurP c 17).floor.toNat
    let slack := 5 / 100 * (hi - lo)
    (clampQ lo hi v, decide (v < lo - slack) || decide (hi + slack < v))
  else
    let x := s.auxOf c
    (clampQ lo hi x.uIn, match x.inAt with
      | some u => decide (u + nsOf (s.bcurP c 56) ≤ s.now)
      | none => true)

/-- Duty last used at a speed reference. -/
def Aux.ffAt (x : Aux) (w : Q) : Q := match x.ff.find? fun e => e.1 = w with
  | some e => e.2
  | none => 0

/-- The speed loop of an outer-loop step (R285); the reference is w. -/
def State.bldcLoop (s : State) (c : Nat) (w : Q) : State :=
  let x := s.auxOf c
  let e := w - x.wm
  let i := x.integ + s.bcurP c 52 * e / 1000
  let d := x.ffAt w + s.bcurP c 48 * e + i
  let a := s.bldcApply c d
  s.setAux c { x with wRef := w, integ := i, duty := a.1, extrap := a.2.1, capped := a.2.2,
                      ff := (x.ff.filter fun e => e.1 ≠ w) ++ [(w, clampQ 0 1 d)], lastRun := some (x.wm, a.1) }

/-- STOPPING (R286): the reference falls while the supply allows it; the gates go off at low speed; the supervisor brakes on a high
supply or a long stop. -/
def State.bldcStopping (s : State) (c : Nat) : State :=
  let x := s.auxOf c
  let sup := Tab.get s.sd 0 (s.auxByte c 18 0xFF)
  let high := decide (s.bldcP c 56 * s.auxP c 32 < sup)
  let since : Option Time := if high then some (x.highSince.getD s.now) else none
  let dec := s.bcurP c 44
  let long := decide (2 * x.wStop / dec + 1 < secOf (s.now - x.stAt))
  let high20 := match since with
    | some u => decide (u + 20000000 ≤ s.now)
    | none => false
  let s := s.setAux c { x with highSince := since }
  if high20 || long then s.auxScBrake c false
  else if x.wm < s.bldcSpeed c (s.bldcP c 28 / 4) then
    let run := x.run
    let s := s.auxHalt c
    s.setAux c { s.auxOf c with run := run, wm := 0 }
  else s.bldcLoop c (if high then x.wRef else maxQ 0 (x.wRef - dec / 1000))

/-- `AUX_OUTER_LOOP` (R274, R285): the 1 ms step of a motor channel in BLDC mode. -/
def execAuxOuterLoop (t : Time) (m : Nat) (s : State) : Res :=
  within m 16 s fun s => s.live t fun s =>
    if s.auxMode m ≠ 1 ∨ s.claimed m ∨ (s.region (auxRegion m)).fenced then s
    else
      let inp := s.bldcInput m
      let x := s.auxOf m
      let on := if ¬ x.curveOn ∧ s.bcurP m 28 ≤ inp.1 then true else if x.curveOn ∧ inp.1 < s.bcurP m 32 then false else x.curveOn
      let s := s.setAux m { x with curveOn := on, inLost := inp.2 }
      let s := if inp.2 ∧ ¬ x.inLost then s.auxEmit m 6 0x0A0C [] else s
      let target := if inp.2 then s.bcurP m 36 else if on then s.bldcCurve m inp.1 else 0
      let step := fun (s : State) =>
        let x := s.auxOf m
        let w := if x.wRef < target then minQ target (x.wRef + s.bcurP m 40 / 1000) else maxQ target (x.wRef - s.bcurP m 44 / 1000)
        s.bldcLoop m w
      if x.st = 0 then (if x.run ∧ 0 < target then s.auxStart m else s)
      else if x.st = 6 then s.bldcStopping m
      else if (x.st = 2 ∨ x.st = 3 ∨ x.st = 4 ∨ x.st = 5) ∧ target = 0 ∧ ¬ on ∧ s.given 0x82 m 0 then s.bldcStop m
      else if x.st = 5 then step s
      else s

/-- `SC_HOLD_END` (R280, R286): after `sc_hold` all gates go off. -/
def execScHoldEnd (t : Time) (m : Nat) (s : State) : Res :=
  motorEvent t m 1 s fun s =>
    let x := s.auxOf m
    if x.st = 7 ∧ x.stAt + nsOf (s.bldcP m 60) ≤ s.now then
      if x.scCheck then (s.setAux m { x with scCheck := false, waitSince := none, retryAt := none, wm := 0 }).auxGo m 2
      else
        let s := s.auxHalt m
        s.setAux m { s.auxOf m with run := x.run, wm := 0 }
    else s

/-! ### Stepper (R287 to R290) -/

/-- The shortest step interval in ns (R288). -/
def State.stepFloor (s : State) (c : Nat) : Nat := nsOf (1 / (s.stepP c 52 * (2 ^ s.stepByte c 16 5 : Nat)))

/-- Position units of one output step. -/
def State.stepUnit (s : State) (c : Nat) : Int := ((256 / 2 ^ s.stepByte c 16 5 : Nat) : Int)

/-- The next output step: direction and interval, by the step source (R288). -/
def State.stepNext (s : State) (c : Nat) : Option (Int × Nat) :=
  let x := s.auxOf c
  if s.srcByte c 16 = 2 then x.gearIv.map fun iv => (x.gearDir, max iv (s.stepFloor c))
  else match x.coarse with
    | [] => none
    | [(d, _, iv)] => some (d, max iv (s.stepFloor c))
    | (d, _, _) :: _ => some (d, s.stepFloor c)

/-- One output step taken off the coarse steps. -/
def spend : List (Int × Nat × Nat) → List (Int × Nat × Nat)
  | [] => []
  | (d, n, iv) :: r => if n ≤ 1 then r else (d, n - 1, iv) :: r

/-- A coil current is 0 at this position (R289). -/
def coilZero (p : Int) : Bool := p % 256 = 0

/-- The load measurement at a commanded zero with the coil voltage e (R289). -/
def State.stepMeasure (s : State) (c : Nat) (rate e : Q) : State :=
  let x := s.auxOf c
  let cs := minQ 1 (absQ e / (s.stepP c 40 * rate))
  let sn := Config.sqrt (1 - cs * cs)
  let delta := Config.atan2 sn cs
  let goal := clampQ (s.stepP c 32) 1 (x.f * sn / Config.sin (Config.pi / 4))
  let f := if x.f < goal then minQ goal (x.f + 1 / 16) else maxQ goal (x.f - 1 / 64)
  let row := if x.f = 1 ∧ s.stepP c 44 < delta then x.stallRow + 1 else 0
  let s := s.setAux c { x with f := f, delta := delta, stallRow := row }
  if 2 ≤ row then
    let s := s.setAux c { s.auxOf c with stallRow := 0 }
    if s.stepByte c 18 0 = 0 then
      let s := s.auxFault c 0x0A08 []
      s.setAux c { s.auxOf c with shorted := s.stepByte c 17 1 = 1 }
    else s.auxEmit c 6 0x0A08 []
  else s

/-- `STEP_TIMER` (R288 to R290): one output step, never within the interval loaded, and the reload with the next interval; e is the coil voltage found where the step
makes a coil current 0. -/
def execStepTimer (t : Time) (m : Nat) (e : Q) (s : State) : Res :=
  motorEvent t m 2 s fun s =>
    let x := s.auxOf m
    match s.stepNext m with
    | none => s.setAux m { x with timer := none }
    | some (d, iv) =>
      if x.st = 8 ∧ x.wakeAt = none then
        s.setAux m { x with wakeAt := some s.now, seenA := false, seenB := false, f := 1, shorted := false }
      else if x.st = 8 ∧ ¬ ((x.seenA ∧ x.seenB) ∨ (x.wakeAt.getD s.now) + 2000000 ≤ s.now) then s
      else if x.st ≠ 5 ∧ x.st ≠ 8 then s
      else if x.st = 5 ∧ (x.timer.any fun u => decide (s.now < x.stepAt + u)) = true then s
      else
        let pos := x.pos + d * s.stepUnit m
        let rate : Q := if iv = 0 then 0 else 1 / (secOf iv * (2 ^ s.stepByte m 16 5 : Nat))
        let fast := decide (s.stepP m 36 ≤ rate)
        let s := s.setAux m { x with
          pos := pos, st := 5, stAt := if x.st = 5 then x.stAt else s.now, stepAt := s.now, wakeAt := none, shorted := false,
          coarse := if s.srcByte m 16 = 2 then x.coarse else spend x.coarse, timer := some iv, f := if fast then x.f else 1 }
        if fast ∧ coilZero pos then s.stepMeasure m rate e else s

/-- `STEP_INPUT_EDGE` (R288): a rising edge on a STEP input with the level of DIR. -/
def execStepInputEdge (t : Time) (sw : Nat) (dirHigh : Bool) (s : State) : Res :=
  within sw 32 s fun s => s.awake t fun s =>
    (List.range 16).foldl (fun s m =>
      let x := s.auxOf m
      if s.auxMode m = 2 ∧ s.srcByte m 16 = 1 ∧ s.srcByte m 17 = 0x20 + sw ∧ (x.st = 5 ∨ x.st = 8) then
        let n := 2 ^ (s.stepByte m 16 5 - s.srcByte m 19)
        let iv := match x.coarseAt with
          | some u => if x.st = 8 then s.stepFloor m else (min (s.now - u) 100000000) / n
          | none => s.stepFloor m
        s.setAux m { x with coarse := x.coarse ++ [(if dirHigh then 1 else -1, n, iv)], coarseAt := some s.now }
      else s) s

/-- `STEPPER_STANDSTILL` (R290): no output step for `stand_time`. -/
def execStepperStandstill (t : Time) (m : Nat) (s : State) : Res :=
  motorEvent t m 2 s fun s =>
    let x := s.auxOf m
    if x.st = 5 ∧ x.stepAt + nsOf (s.stepP m 48) ≤ s.now then
      s.setAux m { x with st := 8, stAt := s.now, shorted := s.stepByte m 17 1 = 1, coarseAt := none, timer := none }
    else s

/-- The off-time that an assertion begins (R287): none while one runs, and not before `t_blank_s` after the on edge. -/
def State.chopFrom (s : State) (m : Nat) (last : Option Time) : Option Time :=
  match last with
  | none => some s.now
  | some u =>
    let edge := u + nsOf (s.stepP m 20)
    if s.now < edge then last else some (max s.now (edge + nsOf (s.stepP m 24)))

/-- `STEPPER_CHOP_COMPARATOR` (R287, R290): a coil comparator ends the drive time and begins `t_off`. -/
def execStepperChopComparator (t : Time) (m : Nat) (coilB : Bool) (s : State) : Res :=
  motorEvent t m 2 s fun s =>
    let x := s.auxOf m
    if x.st = 5 ∨ x.wakeAt.isSome then
      s.setAux m (if coilB then { x with seenB := true, chopB := s.chopFrom m x.chopB }
        else { x with seenA := true, chopA := s.chopFrom m x.chopA })
    else s

/-- Drum gearing at a speed step of a partition (R288). -/
def State.gearOne (s : State) (p m : Nat) : State :=
  let x := s.auxOf m
  let mo := s.motOf p
  if ¬ mo.calibrated then s.setAux m { x with gearIv := none, gearLast := none }
  else
    let l := s.layerOf p mo.phi
    let tau := mo.phi - l.2.2.1
    let n := l.2.2.2.1 - l.2.2.1
    let y := s.srcP m 32 + s.srcP m 24 * (if l.1 % 2 = 0 then tau else n - tau)
    let target := y * s.srcP m 28 * 256
    let rate := match x.gearLast with
      | some (u, z) => if s.now = u then 0 else (target - z) / secOf (s.now - u)
      | none => 0
    let v := rate + 20 * (target - (x.pos : Q))
    let iv := if v = 0 then none else
      let q := ((s.stepUnit m : Int) : Q) / absQ v
      if 1 / 10 < q then none else some (nsOf q)
    s.setAux m { x with gearIv := iv, gearDir := if v < 0 then -1 else 1, gearLast := some (s.now, target) }

/-- Every stepper geared to a partition. -/
def State.gearStep (s : State) (p : Nat) : State :=
  ((List.range 16).filter fun m => s.auxMode m = 2 ∧ s.srcByte m 16 = 2 ∧ s.srcByte m 20 = p).foldl (fun s m => s.gearOne p m) s

/-! ### Switch channels and sag groups (R292, R293) -/

/-- An event of switch channel S0 to S31. -/
def switchEvent (t : Time) (n : Nat) (s : State) (f : State → Nat → State) : Res :=
  within n 32 s fun s => s.awake t fun s => f s (0x20 + n)

/-- The channel is claimed as an input (Table 2 of R275). -/
def State.claimedInput (s : State) (c : Nat) : Bool := !isMotor c && s.claims.any fun e => e.1 = c && e.2.1 ≠ 0x71

/-- `SWITCH_COMPARATOR_ASSERT` (R292): with the on-time in ns for which the comparator was asserted within the last 1 ms; of a
channel in input mode it tells whether the input is active. -/
def execSwitchComparatorAssert (t : Time) (n acc : Nat) (s : State) : Res :=
  switchEvent t n s fun s c =>
    let x := s.auxOf c
    let late := decide (x.onAt + nsOf (s.swP c 28) < s.now)
    let y := { x with trips := holdAt 0xFFFF (x.trips + 1) }
    if x.st = 4 ∨ s.claimedInput c then s.setAux c { x with sense := decide (0 < acc) }
    else if (x.st = 2 ∨ (x.st = 3 ∧ s.sagActive c)) then
      (if late then (s.setAux c y).auxFault c 0x0A03 [] else s)
    else if x.st = 3 ∧ nsOf (s.swP c 32) ≤ acc then (s.setAux c y).auxFault c 0x0A04 []
    else s

/-- `SWITCH_INRUSH_END` (R292): `inrush_t` has passed, without the time paused by a sag. -/
def execSwitchInrushEnd (t : Time) (n : Nat) (s : State) : Res :=
  switchEvent t n s fun s c =>
    let x := s.auxOf c
    if x.st = 2 ∧ ¬ s.sagActive c ∧ x.stAt + x.paused + nsOf (s.swP c 16) ≤ s.now then
      s.setAux c { x with st := 3, stAt := s.now, pulled := decide (x.onAt + nsOf (s.swP c 36) ≤ s.now) }
    else s

/-- `SWITCH_PULL_END` (R292): `pull_time` after turn-on the duty becomes `hold_duty`. -/
def execSwitchPullEnd (t : Time) (n : Nat) (s : State) : Res :=
  switchEvent t n s fun s c =>
    let x := s.auxOf c
    if x.st = 3 ∧ x.onAt + nsOf (s.swP c 36) ≤ s.now then s.setAux c { x with pulled := true } else s

/-- The duty of a switch output: 1 until `pull_time` after turn-on, then `hold_duty` (R292). -/
def State.switchDuty (s : State) (c : Nat) : Q :=
  let x := s.auxOf c
  if x.st = 2 then 1 else if x.st = 3 then (if x.pulled then s.swP c 40 else 1) else 0

/-- The switch channels of a sag group k = 4 × region + group. -/
def State.sagMembers (s : State) (k : Nat) : List Nat := auxCodes.filter fun c => s.sagOf c = some k

/-- The supply input of a sag group, 0xFF none (R293). -/
def State.sagInput (s : State) (k : Nat) : Nat := ((s.stored 0x86 (0x40 + k) 0).map fun b => byteAt b 0).getD 0xFF

/-- `SAG_GROUP_ACTIVE` (R293). -/
def execSagGroupActive (t : Time) (region group : Nat) (s : State) : Res :=
  within (if group < 4 then 4 * region + group else 32) 32 s fun s => s.awake t fun s =>
    let k := 4 * region + group
    if s.sag.testBit k ∨ s.sagInput k = 0xFF then s
    else
      let s := { s with sag := setBit s.sag k true }
      let ms := s.sagMembers k
      let s := ms.foldl (fun s c =>
        let x := s.auxOf c
        s.setAux c { x with sags := holdAt 0xFFFF (x.sags + 1), pauseAt := if x.st = 2 then some s.now else none }) s
      s.emitTo (ms.head?.bind fun c => (s.auxOf c).owner) 4 (srcAux (0x40 + k)) 0x0A0B []

/-- `SAG_GROUP_INACTIVE` (R293): `sag_ext` after the supply has returned. -/
def execSagGroupInactive (t : Time) (region group : Nat) (s : State) : Res :=
  within (if group < 4 then 4 * region + group else 32) 32 s fun s => s.awake t fun s =>
    let k := 4 * region + group
    if ¬ s.sag.testBit k then s
    else
      (s.sagMembers k).foldl (fun s c =>
        let x := s.auxOf c
        match x.pauseAt with
        | some u => s.setAux c { x with paused := x.paused + (s.now - u), pauseAt := none }
        | none => s) { s with sag := setBit s.sag k false }

/-! ### Load checks (R294) -/

/-- Nodes a motor check drives one at a time: three phases, or two legs of two bridges. -/
def State.diagNodes (s : State) (c : Nat) : Nat := if ¬ isMotor c then 0 else if s.auxMode c = 2 then 4 else 3

/-- The first pin of a list that a test finds bad. -/
def firstPin (bad : Q → Bool) : Nat → List Q → Option Nat
  | _, [] => none
  | k, v :: r => if bad v then some k else firstPin bad (k + 1) r

/-- A check step's finding: class bits and pin (Table 5); none where no fault is found. The voltages are those of the sense pins;
in a step that sources one node, the voltage of that node's pin. -/
def State.diagFinding (s : State) (c : Nat) (volts : List Q) : Option Nat :=
  let k := (s.auxOf c).dStep
  let lo := s.diagP c 20
  let hi := s.diagP c 24
  let pin := fun (cls : Nat) (o : Option Nat) => o.map fun j => cls + 8 * j
  if k = 0 then pin 1 (firstPin (fun v => decide (hi ≤ v)) 0 volts)
  else if k = 1 then
    if isMotor c then pin 2 (firstPin (fun v => decide (v < lo)) 0 volts)
    else match firstPin (fun v => decide (v < lo)) 0 volts with
      | some j => some (2 + 8 * j)
      | none => pin 4 (firstPin (fun v => decide (hi ≤ v)) 0 volts)
  else if (volts.any fun v => decide (hi ≤ v)) then some (4 + 8 * (k - 2)) else none

/-- A brake channel's check is decided for the `PRECHARGE` that asked for it (R294). -/
def State.brakeCheckFailed (s : State) (c : Nat) : State :=
  (List.range 8).foldl (fun s p =>
    if (s.brakeCodes p).contains c then
      match Tab.get s.precWait none p with
      | some (n, series, seq) => ({ s with precWait := Tab.set s.precWait none p none }).finish n series seq 0x0A05 []
      | none => s
    else s) s

/-- The step a check takes (R294), up to what follows a pass; that a waiting `PRECHARGE` goes on is the caller's. -/
def State.diagStep (s : State) (c : Nat) (volts : List Q) : State :=
  let x := s.auxOf c
  if x.st ≠ 1 then s
  else match s.diagFinding c volts with
    | some b =>
      let s := s.setAux c { x with diag := b }
      let s := s.auxFault c 0x0A05 (evd 0x0A05 [((b / 8 : Nat) : Q), ((b % 8 : Nat) : Q)])
      s.brakeCheckFailed c
    | none =>
      if x.dStep + 1 < 2 + s.diagNodes c then s.setAux c { x with dStep := x.dStep + 1, stAt := s.now }
      else
        let s := (s.setAux c { x with passed := true, diag := 0, dStep := 0 }).auxGo c 0
        if x.dThen = 1 then s.auxStartNow c else s

/-! ### Descriptors (R296, R297) -/

def auxInfo (op : Nat) (lay : List Fld) (kept : Bool) : OpInfo :=
  { op := op, tgt := .channel, need := .aux, kept := kept, lay := lay }

/-- What every descriptor of the chapter is held to (R275): the status of the first that fails. -/
def State.auxBar (s : State) (d : Desc) (claimOk : Bool) : Nat :=
  let x := s.auxOf d.target
  if s.claimed d.target ∧ ¬ claimOk then 0x0A00
  else if x.owner.isSome ∧ x.owner ≠ some d.page then 0x0005
  else 0

/-- As auxBar, with the channel kind and the states OFF and FAULT of a configuration descriptor (R296). -/
def State.auxConfBar (s : State) (d : Desc) (motor : Bool) (claimOk : Bool) : Nat :=
  let x := s.auxOf d.target
  if s.auxBar d claimOk ≠ 0 then s.auxBar d claimOk
  else if isMotor d.target ≠ motor then 0x0A01
  else if x.st ≠ 0 ∧ x.st ≠ 9 ∧ x.st ≠ 4 then 0x0004
  else if x.st = 4 ∧ motor then 0x0004
  else 0

/-- A current level's comparator code lies outside 1 to 255 (R277). -/
def badLevel (gain l : Q) : Bool :=
  let n := nearest (l * gain / (5 / 1000))
  decide (n < 1) || decide (255 < n)

/-- The levels of a channel's stored configuration that its `sense_gain` does not reach, and `i_run` above `i_rated` (R277, R297). -/
def State.auxLevels (s : State) (c : Nat) : Bool :=
  let g := s.auxP c 24
  let r := s.auxP c 28
  let gm := s.given 0x80 c 0
  (gm && s.given 0x81 c 0 && badLevel g (s.bldcP c 52 * r)) ||
    (gm && s.given 0x83 c 0 && (badLevel g (s.stepP c 28) || decide (r < s.stepP c 28))) ||
    (gm && s.given 0x85 c 0 && (badLevel g (s.swP c 20) || badLevel g (s.swP c 24))) ||
    (s.given 0x85 c 0 && decide (s.swP c 20 ≤ s.swP c 24)) ||
    (s.given 0x84 c 0 && s.given 0x83 c 0 && decide (s.stepByte c 16 5 < s.srcByte c 19))

/-- A stored configuration descriptor of a channel. -/
def auxStore (op : Nat) (motor claimOk : Bool) (d : Desc) (s : State) : Reply :=
  let c := s.auxConfBar d motor claimOk
  if c ≠ 0 then Reply.no s c
  else if (s.withStored op d 0).auxLevels d.target then Reply.no s 0x0003
  else { st := s }

/-- The effect of `AUX_MODE` (R275, R276): ownership goes to the sender, and ends with mode 0. -/
def auxModeEffect (d : Desc) (s : State) : Reply :=
  let c := d.target
  let m := d.u8 16
  let r := auxStore 0x80 (isMotor c) false d s
  if r.status ≠ 0 then r
  else if (isMotor c ∧ d.u8 17 ≠ 0xFF) ∨ (¬ isMotor c ∧ d.u8 18 ≠ 0xFF) ∨ (isMotor c ∧ m = 1 ∧ d.u8 18 = 0xFF) then Reply.no s 0x0A01
  else
    let s := s.auxHalt c
    let x := s.auxOf c
    let st := if x.st = 9 then 9 else if m = 2 ∧ ¬ isMotor c then 4 else 0
    { st := s.setAux c { x with owner := if m = 0 then none else some d.page, st := st, stAt := s.now, lastRun := none, ff := [],
                                stopAt := if m = 0 then some s.now else x.stopAt } }

/-- `AUX_MODE`. -/
def execAuxMode (d : Desc) (s : State) : Res := serveRes (auxInfo 0x80 layAuxMode true) d none (auxModeEffect d) s

/-- `BLDC_CONFIG`. -/
def execBldcConfig (d : Desc) (s : State) : Res := serveRes (auxInfo 0x81 layBldc true) d none (auxStore 0x81 true false d) s

/-- The effect of `BLDC_CURVE` (R285). -/
def bldcCurveEffect (d : Desc) (s : State) : Reply :=
  let ys := (List.range 17).map fun i => bufQ (d.payload ++ d.host) (4 * i)
  let codes := (List.range 17).map fun i => f32 (leNat d.host (4 * i) 4)
  let r := auxStore 0x82 true false d s
  if r.status ≠ 0 then r
  else if d.f32 24 ≤ d.f32 20 ∨ d.f32 28 ≤ d.f32 32 ∨ codes.contains none ∨ ys.any (fun y => decide (y < 0 ∨ 1000 < y)) then
    Reply.no s 0x0003
  else { st := s.setAux d.target { s.auxOf d.target with curveOn := false, inLost := false } }

/-- `BLDC_CURVE`. -/
def execBldcCurve (d : Desc) (s : State) : Res := serveRes (auxInfo 0x82 layBldcCurve true) d (some 68) (bldcCurveEffect d) s

/-- `STEP_CONFIG`. -/
def execStepConfig (d : Desc) (s : State) : Res := serveRes (auxInfo 0x83 layStep true) d none (auxStore 0x83 true false d) s

/-- The effect of `STEP_SOURCE` (R275, R288): inputs are claimed, and lie in the channel's region like the partition. -/
def stepSourceEffect (d : Desc) (s : State) : Reply :=
  let r := auxRegion d.target
  let ins := [d.u8 17, d.u8 18]
  let e := auxStore 0x84 true false d s
  if e.status ≠ 0 then e
  else if d.u8 16 = 1 then
    if ins.any fun c => switchRegion c ≠ r then Reply.no s 0x0003
    else if d.u8 17 = d.u8 18 ∨ ins.any (fun c => !s.claimFree c 0x84 d.target) then Reply.no s 0x0A00
    else { st := s.setAux d.target { s.auxOf d.target with coarse := [], coarseAt := none } }
  else if ¬ (s.partRegions (d.u8 20)).contains r then Reply.no s 0x0003
  else { st := s.setAux d.target { s.auxOf d.target with gearIv := none, gearLast := none } }

/-- `STEP_SOURCE`. -/
def execStepSource (d : Desc) (s : State) : Res := serveRes (auxInfo 0x84 layStepSource true) d none (stepSourceEffect d) s

/-- `SWITCH_CONFIG`. -/
def execSwitchConfig (d : Desc) (s : State) : Res := serveRes (auxInfo 0x85 laySwitch true) d none (auxStore 0x85 false false d) s

/-- The effect of `SAG_CONFIG` (R293, R296): every switch channel of the group belongs to the sender. -/
def sagEffect (d : Desc) (s : State) : Reply :=
  let k := d.target - 0x40
  let ms := s.sagMembers k
  if ms.any fun c => (s.auxOf c).owner ≠ some d.page then Reply.no s 0x0005
  else if ms.any fun c => (s.auxOf c).st ≠ 0 ∧ (s.auxOf c).st ≠ 9 ∧ (s.auxOf c).st ≠ 4 then Reply.no s 0x0004
  else if d.u8 16 ≠ 0xFF ∧ d.u8 16 / 16 ≠ k / 4 then Reply.no s 0x0003
  else { st := { s with sag := setBit s.sag k false } }

/-- `SAG_CONFIG`. -/
def execSagConfig (d : Desc) (s : State) : Res :=
  serveRes { op := 0x86, tgt := .sag, need := .users, kept := true, lay := laySag } d none (sagEffect d) s

/-- The effect of `AUX_DIAG` (R294, R296): stored, and with `run` 1 the check starts in OFF. -/
def auxDiagEffect (d : Desc) (s : State) : Reply :=
  let c := d.target
  let b := s.auxConfBar d (isMotor c) true
  if b ≠ 0 then Reply.no s b
  else if d.f32 24 ≤ d.f32 20 then Reply.no s 0x0003
  else if d.u8 17 = 1 ∧ (s.auxOf c).st = 0 then { st := s.auxCheck c 0 }
  else { st := s }

/-- `AUX_DIAG`. -/
def execAuxDiag (d : Desc) (s : State) : Res := serveRes (auxInfo 0x87 layDiag true) d none (auxDiagEffect d) s

/-- A cause of rank 5 on the channel in this round, given already or still waiting: `run` = 0 or mode 0 (Table 6 of R295). -/
def State.auxStopInRound (s : State) (c : Nat) : Bool :=
  decide ((s.auxOf c).stopAt = some s.now) || s.pending.any fun i =>
    match i with
    | .auxRunStop d => decide (d.target = c) && s.meets (auxInfo 0x88 layRun false) d
    | .auxMode d => decide (d.target = c ∧ d.u8 16 = 0) && s.meets (auxInfo 0x80 layAuxMode true) d
    | _ => false

/-- The effect of `AUX_RUN` with `run` = 1 (R279, R292, R295). -/
def auxRunEffect (d : Desc) (s : State) : Reply :=
  let c := d.target
  let x := s.auxOf c
  let b := s.auxBar d false
  if b ≠ 0 then Reply.no s b
  else if x.st = 9 then Reply.no s 0x0A02
  else if ¬ isMotor c ∧ s.auxMode c = 2 then Reply.no s 0x0A01
  else if s.auxMode c = 0 ∨ s.auxStopInRound c ∨ (isMotor c ∧ (x.st = 6 ∨ x.st = 7)) then Reply.no s 0x0004
  else
    let s := s.setAux c { x with run := true }
    if x.st = 0 then { st := s.auxStart c } else { st := s }

/-- `AUX_RUN` with `run` = 1. -/
def execAuxRunStart (d : Desc) (s : State) : Res := serveRes (auxInfo 0x88 layRun false) d none (auxRunEffect d) s

/-- The effect of `AUX_RUN` with `run` = 0 (R279, R292, R295). -/
def auxStopEffect (d : Desc) (s : State) : Reply :=
  let c := d.target
  let x : Aux := { s.auxOf c with stopAt := some s.now }
  let b := s.auxBar d false
  if b ≠ 0 then Reply.no s b
  else if x.st = 0 ∨ x.st = 9 ∨ x.st = 4 ∨ x.st = 6 then { st := s.setAux c { x with run := false, startWaits := false } }
  else if isMotor c ∧ x.st = 7 ∧ s.auxMode c = 1 then Reply.no s 0x0004
  else
    let s := s.setAux c { x with run := false, startWaits := false }
    if isMotor c ∧ s.auxMode c = 1 then { st := s.bldcStop c }
    else { st := s.auxHalt c }

/-- `AUX_RUN` with `run` = 0. -/
def execAuxRunStop (d : Desc) (s : State) : Res := serveRes (auxInfo 0x88 layRun false) d none (auxStopEffect d) s

/-- `AUX_INPUT` (R285). -/
def execAuxInput (d : Desc) (s : State) : Res :=
  serveRes (auxInfo 0x89 layAuxInput false) d none (fun s =>
    let b := s.auxBar d false
    if b ≠ 0 then Reply.no s b
    else if ¬ isMotor d.target then Reply.no s 0x0A01
    else { st := s.setAux d.target { s.auxOf d.target with uIn := d.f32 16, inAt := some s.now } }) s

/-- `AUX_RESET` (R296): FAULT to OFF; in another state nothing is latched. -/
def execAuxReset (d : Desc) (s : State) : Res :=
  serveRes (auxInfo 0x8A [] false) d none (fun s =>
    let b := s.auxBar d false
    let x := s.auxOf d.target
    if b ≠ 0 then Reply.no s b
    else if x.st ≠ 9 then Reply.no s 0x0004
    else { st := (s.setAux d.target { x with st := 0, fault := 0, run := false, shorted := false, tries := 0, lossAt := [] }) }) s

/-- The input of a switch channel is active: its comparator, or the debounced limit that names it (R169). -/
def State.inputActive (s : State) (c : Nat) : Bool :=
  (s.auxOf c).sense || (List.range 8).any fun p =>
    (s.limByte p 16 0xFF = c && (s.fbOf p).limits.testBit 0) || (s.limByte p 17 0xFF = c && (s.fbOf p).limits.testBit 1)

/-- The result of `AUX_STATUS` (Table 9). -/
def State.auxResult (s : State) (c : Nat) : List Byte :=
  let x := s.auxOf c
  let flag := fun (k : Nat) (b : Bool) => if b then 2 ^ k else 0
  let v : Q := if ¬ isMotor c then 0 else if s.claimed c then x.duty
    else if s.auxMode c = 1 then x.wm
    else match x.timer with
      | some iv => if iv = 0 ∨ x.st ≠ 5 then 0 else 1 / (secOf iv * (2 ^ s.stepByte c 16 5 : Nat))
      | none => 0
  let act := !isMotor c && s.inputActive c
  leBytes 1 (if s.claimedInput c then 4 else x.st) ++ leBytes 1 (x.fault % 256) ++
    leBytes 1 (flag 0 (s.claimed c) + flag 1 x.extrap + flag 2 x.capped + flag 3 (s.sagActive c) + flag 4 x.shorted + flag 5 x.passed +
      flag 6 act) ++ zeros 1 ++ f32Bytes v
/-- The record of `AUX_STATUS` (Table 10). -/
def State.auxRecord (s : State) (c : Nat) : List Byte :=
  let x := s.auxOf c
  leBytes 2 x.restarts ++ leBytes 2 x.missed ++ leBytes 2 x.trips ++ leBytes 2 x.sags ++ f32Bytes x.delta ++
    leBytes 1 (holdAt 255 (x.f * 255).floor.toNat) ++ leBytes 1 x.diag ++ zeros 2

def infoAuxStatus : OpInfo := { op := 0x8F, tgt := .channel, need := .aux, gives := true }

/-- `AUX_STATUS` (R298). -/
def execAuxStatus (d : Desc) (s : State) : Res :=
  serveRes infoAuxStatus d (statusBuf d 16) (fun s =>
    if d.buffer = 0xFFFFFFFF then { st := s, result := s.auxResult d.target }
    else
      { st := s.setAux d.target { s.auxOf d.target with restarts := 0, missed := 0, trips := 0, sags := 0 },
        result := s.auxResult d.target, write := some (s.auxRecord d.target) }) s

end Sys2Proof.Machine
end

