-- ==== Sys2Proof/Machine/AuxGates.lean ====
section
/-!
DEFINITION. The gate outputs of the auxiliary channels (R274, R276, R278 to R291): what each is ordered to do in a state, and the coil
currents that a stepper's comparators are set to. The phases of a sector and the signs of the bridges are log entry 161.
-/
namespace Sys2Proof.Machine
open Sys2Proof

/-- What a gate output does: high impedance, its off level, its on level, or pulse width modulation at a duty (R276, R278). -/
inductive Gate where
  | hiZ
  | off
  | on
  | pwm (duty : Q)
deriving DecidableEq, Repr

/-- The off level of gate output k of a channel, high or low, in the auxiliary static block (R276, R485). -/
def State.gateOffHigh (s : State) (c k : Nat) : Bool :=
  if isMotor c then (s.regWord (0xB000 + 4 * (c / 4)) 0).testBit ((8 * c + k) % 32) else (s.regWord 0xB010 0).testBit (c - 0x20)

/-- The positive and the negative phase of a BLDC sector (R278). -/
def sectorPair (k : Nat) : Nat × Nat :=
  match k with
  | 0 => (0, 1)
  | 1 => (0, 2)
  | 2 => (1, 2)
  | 3 => (1, 0)
  | 4 => (2, 0)
  | _ => (2, 1)

/-- The phase that floats in a sector. -/
def floatingPhase (k : Nat) : Nat := 3 - (sectorPair k).1 - (sectorPair k).2

/-- The duty of the PWM period at an instant: under extrapolation it is `d_cap` near the predicted crossing (R282). -/
def State.bldcDutyAt (s : State) (c : Nat) (t : Time) : Q :=
  let x := s.auxOf c
  if x.extrap ∧ x.nearCrossing t x.meanIval (x.meanIval / 8) then 1 - (s.bldcP c 40 + s.bldcP c 44) * s.auxP c 20 else x.duty

/-- The eight gates of a BLDC channel: upper and lower switches of U, V and W, and two that stay off (R278, R279, R286). -/
def State.bldcGates (s : State) (c : Nat) : List Gate :=
  let x := s.auxOf c
  let k := if x.st = 3 then 0 else x.sector
  if x.st = 3 ∨ x.st = 4 ∨ x.st = 5 ∨ x.st = 6 then
    (List.range 8).map fun g =>
      if g = 2 * (sectorPair k).1 then .pwm (s.bldcDutyAt c s.now) else if g = 2 * (sectorPair k).2 + 1 then .on else .off
  else if x.st = 7 then
    let cut := match x.cutAt with
      | some u => decide (secOf (s.now - u) * s.auxP c 20 < 1)
      | none => false
    (List.range 8).map fun g => if g = 1 ∨ g = 3 ∨ g = 5 then (if cut then .off else .on) else .off
  else List.replicate 8 .off

/-- The coil currents of a stepper in A (R287). -/
def State.coilCurrents (s : State) (c : Nat) : Q × Q :=
  let x := s.auxOf c
  let a := 2 * Config.pi * (x.pos : Q) / 1024
  (x.f * s.stepP c 28 * Config.cos a, x.f * s.stepP c 28 * Config.sin a)

/-- One bridge of a stepper: leg a upper and lower, leg b upper and lower. It drives in the sign of the current; in the off-time it
decays fast with all switches off and then slowly with both lower ones on (R287). -/
def State.bridgeGates (s : State) (c : Nat) (i : Q) (chop : Option Time) : List Gate :=
  let drive : List Gate := if i < 0 then [.off, .on, .on, .off] else [.on, .off, .off, .on]
  match chop with
  | none => drive
  | some u =>
    if s.now < u + nsOf (s.stepP c 20 * (s.stepByte c 19 4 : Q) / 16) then [.off, .off, .off, .off]
    else if s.now < u + nsOf (s.stepP c 20) then [.off, .on, .off, .on]
    else drive

/-- The eight gates of a stepper channel, bridge A and bridge B (R287, R290). -/
def State.stepperGates (s : State) (c : Nat) : List Gate :=
  let x := s.auxOf c
  if x.st = 5 ∨ x.wakeAt.isSome then
    s.bridgeGates c (s.coilCurrents c).1 x.chopA ++ s.bridgeGates c (s.coilCurrents c).2 x.chopB
  else if x.shorted then [.off, .on, .off, .on, .off, .on, .off, .on]
  else List.replicate 8 .off

/-- The eight gates of an exciter channel: an H-bridge on the first four (R291). -/
def State.exciterGates (s : State) (c : Nat) : List Gate :=
  let x := s.auxOf c
  if x.st = 9 ∨ x.duty = 0 then List.replicate 8 .off
  else (if x.duty < 0 then [.off, .on, .pwm (-x.duty), .off] else [.pwm x.duty, .off, .off, .on]) ++ List.replicate 4 .off

/-- The gate of a switch channel (R292). -/
def State.switchGates (s : State) (c : Nat) : List Gate :=
  let d := s.switchDuty c
  [if d = 0 then .off else if d = 1 then .on else .pwm d]

/-- The gate outputs of a channel: high impedance until the boot has restored the auxiliary static block (R276, R462, R469). -/
def State.gates (s : State) (c : Nat) : List Gate :=
  if s.power = .held ∨ s.power = .warm ∨ s.power = .recovery then List.replicate (if isMotor c then 8 else 1) .hiZ
  else if ¬ isMotor c then s.switchGates c
  else if s.claimed c then s.exciterGates c
  else if s.auxMode c = 1 then s.bldcGates c
  else if s.auxMode c = 2 then s.stepperGates c
  else List.replicate 8 .off

end Sys2Proof.Machine
end

