-- ==== Sys2Proof/Machine/Rings.lean ====
section
/-!
DEFINITION. The ring-control descriptors (R332, R333), the lease operations (R345 to R347), the doorbell page (R319, R327),
ring set-up (R318), interrupts (R337), the loss of the PCIe link (R315), host-memory accesses (R317) and the records of
coalescing and shedding (R445, R447).
-/
namespace Sys2Proof.Machine
open Sys2Proof

/-! ### Ring control -/

def infoNop : OpInfo := { op := 0x00, tgt := .none, need := .all }
/-- `NOP` (R333): completes at once with `OK`. -/
def execNop (d : Desc) (s : State) : Res := serveRes infoNop d none (fun s => { st := s }) s

/-- The outcome of a `CANCEL` (Table 10 of R332) and its effect. -/
def cancelEffect (d : Desc) (s : State) : Reply :=
  let n := d.page
  let series := d.u8 16
  let seq := d.u32 20
  let p := s.page n
  match p.find series seq with
  | some a =>
    if a.started ∨ (series = d.series ∧ seq = d.seq) then { st := s, result := leBytes 1 1 }
    else
      let s := { s with leaseQ := s.leaseQ.filter fun r => ¬ (r.tenant = n ∧ r.series = series ∧ r.seq = seq) }
      { st := (s.finish n series seq 1 []).scanLeases, result := leBytes 1 0 }
  | none =>
    let e := Tab.get p.expect 0 series
    if p.crossed.contains (series, seq) then
      { st := s.setPage n { p with crossed := p.crossed.filter fun c => c ≠ (series, seq) }, result := leBytes 1 3 }
    else
    if seq = e ∨ newer seq e then
      if p.pendCancel.contains (series, seq) then { st := s, result := leBytes 1 3 }
      else if 4 ≤ p.pendCancel.length then Reply.no s 0x0003
      else { st := s.setPage n { p with pendCancel := p.pendCancel ++ [(series, seq)] }, result := leBytes 1 3 }
    else { st := s, result := leBytes 1 2 }

/-- `CANCEL` (R332). -/
def execCancel (d : Desc) (s : State) : Res := serveRes infoCancel d none (cancelEffect d) s

/-- `FENCE` (R333): completes once every descriptor accepted before it has completed. -/
def execFence (d : Desc) (s : State) : Res :=
  let t := serve infoFence d none (fun s => { st := s, await := some .earlier }) s
  .next (if s.serving d then t.fencesDone d.page (t.page d.page).acc else s)

/-! ### Leases -/

/-- The length of the buffer a `LEASE` names, if any (R347). -/
def leaseBuf (d : Desc) : Option Nat := if d.buffer = 0xFFFFFFFF then none else some 32

/-- Acquire (op 0 of Table 2, R345): a set with a reserved partition is `PLANT_RESERVED` (R192), whoever holds a lease in it. -/
def acquireEffect (d : Desc) (s : State) : Reply :=
  let n := d.page
  let set := d.u8 17
  let parts := maskList 8 set
  if set = 0 then Reply.no s 0x0003
  else if (n ≠ 0 ∧ ¬ parts.all fun p => (s.tenant n).cmdParts.testBit p) ∨ ¬ s.leaseStates n set then Reply.no s 0x0005
  else if s.leaseFree n set then
    let g := s.grant n set
    { st := g.1.leaseDone n d.series d.seq d.buffer g.2, handled := true }
  else if d.u8 18 = 0 then
    Reply.no s (if parts.any fun p => s.reserved.testBit p then 0x0704 else 0x0F02)
  else if 64 ≤ s.leaseQ.length then Reply.no s 0x0F02
  else
    let r : LeaseReq := { tenant := n, series := d.series, seq := d.seq, parts := set, buffer := d.buffer, began := s.now,
                          timeout := nsOf (d.f32 24) }
    { st := { s with leaseQ := s.leaseQ ++ [r] }, queued := true }

/-- `LEASE` op 0, acquire (R345, R346). -/
def execLeaseAcquire (d : Desc) (s : State) : Res := serveRes (infoLease .leaseTake true) d (leaseBuf d) (acquireEffect d) s

/-- The tenant holds every partition of a set that is not empty. -/
def State.holdsAll (s : State) (n set : Nat) : Bool :=
  set ≠ 0 && (maskList 8 set).all fun p => decide ((s.lease p).holder = some n)

/-- Release (op 1). -/
def releaseEffect (d : Desc) (s : State) : Reply :=
  let set := d.u8 17
  if set = 0 then Reply.no s 0x0003
  else if ¬ s.holdsAll d.page set then Reply.no s 0x0002
  else
    let s := s.leaseDrop (maskList 8 set)
    { st := (s.leaseDone d.page d.series d.seq d.buffer set).scanLeases, handled := true }

/-- `LEASE` op 1, release (R345). -/
def execLeaseRelease (d : Desc) (s : State) : Res := serveRes (infoLease .leaseHold true) d (leaseBuf d) (releaseEffect d) s

/-- Transfer (op 2): the set is released and the waiting request of the named tenant granted in one step, which advances each epoch once
(R344, R345). -/
def transferEffect (d : Desc) (s : State) : Reply :=
  let set := d.u8 17
  let taker := d.u16 20
  if set = 0 then Reply.no s 0x0003
  else if ¬ s.holdsAll d.page set then Reply.no s 0x0002
  else
    let free := s.leaseDrop (maskList 8 set)
    let takes := fun (r : LeaseReq) => decide (r.tenant = taker ∧ r.parts &&& set = set) && free.leaseFree taker r.parts && free.leaseStates taker r.parts
    match s.leaseQ.find? takes with
    | none => Reply.no s 0x0F04
    | some r =>
      let s := { s with leaseQ := s.leaseQ.filter fun x => x ≠ r }
      let g := s.grant taker r.parts
      let s := (g.1.leaseDone d.page d.series d.seq d.buffer set).leaseDone taker r.series r.seq r.buffer g.2
      { st := (s.audit taker 0x03 0xFFFF 0 []).scanLeases, handled := true }

/-- `LEASE` op 2, transfer (R345). -/
def execLeaseTransfer (d : Desc) (s : State) : Res := serveRes (infoLease .leaseHold true) d (leaseBuf d) (transferEffect d) s

/-- Revoke (op 3), by T0. -/
def revokeEffect (d : Desc) (s : State) : Reply :=
  let set := d.u8 17
  if set = 0 then Reply.no s 0x0003
  else if ¬ s.holdsAll (d.u16 20) set then Reply.no s 0x0002
  else
    let s := s.leaseRevoke (d.u16 20) (maskList 8 set)
    { st := (s.leaseDone d.page d.series d.seq d.buffer set).scanLeases, handled := true }

/-- `LEASE` op 3, revoke (R345). -/
def execLeaseRevoke (d : Desc) (s : State) : Res := serveRes (infoLease .owner true) d (leaseBuf d) (revokeEffect d) s

/-- `LEASE` op 4, query (R347). -/
def execLeaseQuery (d : Desc) (s : State) : Res :=
  serveRes (infoLease .leaseAsk false) d (leaseBuf d)
    (fun s => { st := s.leaseDone d.page d.series d.seq d.buffer 0, handled := true }) s

/-- A waiting acquire past its timeout completes with `LEASE_TIMEOUT` and holds nothing (R346). -/
def execLeaseTimeout (t : Time) (page series seq : Nat) (s : State) : Res :=
  .next (s.live t fun s =>
    match s.leaseQ.find? fun r => r.tenant = page ∧ r.series = series ∧ r.seq = seq with
    | some r =>
      if r.began + r.timeout ≤ s.now then
        let s := { s with leaseQ := s.leaseQ.filter fun x => x ≠ r }
        (s.audit page 0x03 0xFFFF 0x0F03 []).finish page series seq 0x0F03 []
      else s
    | none => s)

/-! ### Rings stopped, enabled and disabled -/

/-- A ring disabled: it is fetched or written no more, and its series' pending cancels are dropped (R318, R332). -/
def Page.disable (p : Page) (r : Nat) : Page :=
  let g := p.ring r
  { p.setRing r { g with enable := false, head := 0, tail := 0, wr := 0, ack := 0 } with
    pendCancel := p.pendCancel.filter fun c => c.1 ≠ r }

/-- A ring stopped by an error, or refused at its enabling, with the ALARM `RING_ERROR` (R317, R318). -/
def State.ringError (s : State) (n r cause : Nat) : State :=
  let p := (s.page n).disable r
  let s := s.setPage n (p.setRing r { p.ring r with error := true, cause := cause })
  s.alarm (srcTenant n) 0x0010 (leBytes 1 r ++ leBytes 1 cause ++ leBytes 2 n)

/-- Bytes of an entry of ring r (R316). -/
def entrySize (r : Nat) : Nat := if r < 4 then 64 else if r = 4 then 16 else 32

/-- The first check of R318 that a ring fails; 0 when it may be enabled. -/
def State.ringFault (s : State) (n r : Nat) : Nat :=
  let p := s.page n
  let g := p.ring r
  let t := s.tenant n
  if g.logSize < (if r < 4 then 4 else 5) ∨ 12 < g.logSize then 1
  else if g.base % 4096 ≠ 0 then 2
  else if g.base < t.winBase ∨ t.winBase + t.winLen < g.base + g.size * entrySize r then 3
  else if r < 4 ∧ ¬ ((p.ring 4).enable ∧ (p.ring 5).enable) then 7
  else 0

/-- The trial image is committed when T0 enables its completion ring within 60 s of the reset (R354). -/
def State.trialCommit (s : State) : State :=
  if s.sec.trialRun ∧ s.now ≤ s.sec.trialUntil then
    let slot := Tab.get s.stor.medium.boot {} s.sec.running
    let raised := if slot.raises ∧ s.sec.arbCounter < slot.svn then min 64 slot.svn else s.sec.arbCounter
    let s := { s with
      sec := { s.sec with trialRun := false, arbCounter := raised },
      stor := { s.stor with medium := { s.stor.medium with bootActive := s.sec.running, bootTrial := none } } }
    s.audit 0 0xCD 0xFFFF 0 []
  else s

/-- Writing 1 to an enable bit that reads 0 (R318): the checks, then the ring from slot 0 with the records held for it. -/
def State.enableRing (s : State) (n r : Nat) : State :=
  let p := s.page n
  let g := p.ring r
  if g.enable then s
  else
    let c := s.ringFault n r
    if c ≠ 0 then s.ringError n r c
    else
      let g := { g with enable := true, error := false, cause := 0, head := 0, tail := 0, wr := 0, ack := 0, irqPend := 0 }
      let s := s.setPage n (p.setRing r g)
      if r = 4 then
        let all := p.retained ++ p.lost ++ p.held
        let s := s.setPage n { (s.page n) with retained := [], lost := [], held := [] }
        let s := all.foldl (fun s c => s.postCompletion n c) s
        if n = 0 then s.trialCommit else s
      else if r = 5 then
        let s := s.setPage n { (s.page n) with evWritten := [] }
        s.drainStaging n (s.page n).staging
      else s

/-- The 1 bits of a write to `RING_CTRL` (R318): the rings are acted on in the order 4, 5, 0, 1, 2, 3. -/
def State.ringsOnBy (s : State) (v : Nat) : State :=
  let n := s.regField 0x4000 0 9 0
  [4, 5, 0, 1, 2, 3].foldl (fun s r => if v.testBit r then s.enableRing n r else s) s

/-- The 0 bits of a write to `RING_CTRL` (R318). -/
def State.ringsOffBy (s : State) (v : Nat) : State :=
  let n := s.regField 0x4000 0 9 0
  (List.range 6).foldl (fun s r =>
    if ¬ v.testBit r ∧ ((s.page n).ring r).enable then s.setPage n ((s.page n).disable r) else s) s

/-- A write of 1 bits to `RING_CTRL` (R318). -/
def execRingEnable (t : Time) (v : Nat) (s : State) : Res := .next (s.live t fun s => s.ringsOnBy v)

/-- A write of 0 bits to `RING_CTRL` (R318). -/
def execRingDisable (t : Time) (v : Nat) (s : State) : Res := .next (s.live t fun s => s.ringsOffBy v)

/-! ### Doorbells -/

/-- A doorbell write ignored and counted (R319). -/
def State.ignoredWrite (s : State) (n : Nat) : State := s.setPage n { s.page n with ignored := (s.page n).ignored + 1 }

/-- A write to a doorbell register of an existing page: sizes other than an aligned 32-bit write, and values with bits
[31:16] set, are ignored and counted (R319). -/
def State.doorbell (s : State) (n v : Nat) (whole : Bool) (f : State → State) : State :=
  if ¬ (s.tenant n).active then s
  else if ¬ whole ∨ 0x10000 ≤ v then s.ignoredWrite n
  else f s

/-- `SQ_TAIL[r]` (R319). -/
def execSqTail (t : Time) (page ring v : Nat) (whole : Bool) (s : State) : Res :=
  within page 1024 s fun s => s.live t fun s => s.doorbell page v whole fun s =>
    let g := (s.page page).ring ring
    if ¬ g.enable ∨ 4 ≤ ring then s
    else if g.size ≤ v then s.ringError page ring 4
    else s.setPage page ((s.page page).setRing ring { g with tail := v })

/-- Urgent commits that found the window full complete with `URGENT_REFUSED` as slots free (R327). -/
def State.refuseWaiting (s : State) (n : Nat) : List Nat → State
  | [] => s
  | q :: rest =>
    if 16 ≤ (s.page n).window then s
    else
      let s := s.setPage n { s.page n with refused := rest }
      (s.postCompletion n { seq := q, status := 0x000B, op := 0, flags := 2, series := 4, result := [] }).refuseWaiting n rest

/-- Slots acknowledged by a head value: those from the last acknowledged slot up to it. -/
def Ring.acked (g : Ring) (v : Nat) : Nat := (v + g.size - g.ack % g.size) % g.size

/-- `CQ_HEAD` (R319): completion records acknowledged. -/
def execCqHead (t : Time) (page v : Nat) (whole : Bool) (s : State) : Res :=
  within page 1024 s fun s => s.live t fun s => s.doorbell page v whole fun s =>
    let p := s.page page
    let g := p.ring 4
    let k := g.acked v
    if ¬ g.enable then s
    else if g.size ≤ v ∨ g.wr - g.ack < k then s.ringError page 4 4
    else
      let s := s.setPage page ({ p with retained := p.retained.drop k }.setRing 4 { g with ack := g.ack + k, tail := v })
      s.refuseWaiting page (s.page page).refused

/-- `EQ_HEAD` (R319): event records acknowledged, staged records written into the freed slots (R326). -/
def execEqHead (t : Time) (page v : Nat) (whole : Bool) (s : State) : Res :=
  within page 1024 s fun s => s.live t fun s => s.doorbell page v whole fun s =>
    let p := s.page page
    let g := p.ring 5
    let k := g.acked v
    if ¬ g.enable then s
    else if g.size ≤ v ∨ g.wr - g.ack < k then s.ringError page 5 4
    else
      let last := if k = 0 then p.evAcked else (p.evWritten.getD (k - 1) p.evAcked)
      let p := { p with evAcked := last, evWritten := p.evWritten.drop k }
      let s := s.setPage page (p.setRing 5 { g with ack := g.ack + k, tail := v })
      s.drainStaging page (s.page page).staging

/-- Bytes written over a byte string from an offset. -/
def overwrite (bs : List Byte) (off : Nat) (new : List Byte) : List Byte :=
  bs.take off ++ new ++ bs.drop (off + new.length)

/-- `URGENT_STAGE` (R327): bytes staged, in writes of any size. -/
def execUrgentStage (t : Time) (page off : Nat) (bytes : List Byte) (s : State) : Res :=
  within page 1024 s fun s => s.live t fun s =>
    if ¬ (s.tenant page).active then s
    else
      let p := s.page page
      s.setPage page { p with stage := (overwrite (fitTo 64 p.stage) off (bytes.take (64 - off))).take 64 }

/-- The descriptor that 64 bytes hold (Table 5 of R320). -/
def descOf (page series : Nat) (b : List Byte) (t : Time) : Desc :=
  { page := page, series := series, seq := leNat b 0 4, flags := leNat b 5 1, target := leNat b 6 2, tenant := leNat b 8 2,
    epoch := leNat b 10 2, buffer := leNat b 12 4, payload := (fitTo 64 b).drop 16, host := [], dmaOk := true, t := t }

/-- Opcodes that some chapter defines; every other is reserved (R13). -/
def opDefined (op : Nat) : Bool :=
  op ≤ 0x03 || (0x10 ≤ op && op ≤ 0x26) || (0x2F ≤ op && op ≤ 0x3B) || (0x3F ≤ op && op ≤ 0x4C) ||
    (0x4F ≤ op && op ≤ 0x5B) || (0x5F ≤ op && op ≤ 0x6B) || (0x6F ≤ op && op ≤ 0x7D) || (0x7F ≤ op && op ≤ 0x8A) ||
    (0x8F ≤ op && op ≤ 0x93) || op = 0x95 || op = 0x96 || (0x9F ≤ op && op ≤ 0xAD) || (0xAF ≤ op && op ≤ 0xB8) ||
    (0xBF ≤ op && op ≤ 0xC5) || (0xC7 ≤ op && op ≤ 0xD2) || (0xF0 ≤ op && op ≤ 0xF2)

/-- An accepted descriptor of a reserved opcode ends at step 2 or 3 of Table 6 (R13, R321). -/
def State.refuseReserved (s : State) (op : Nat) (d : Desc) : State :=
  if opDefined op then s
  else if d.tenant ≠ d.page then (s.auditRefusal d.page op d.target).finish d.page d.series d.seq 0x0005 []
  else s.finish d.page d.series d.seq 0x0009 []

/-- A descriptor that arrives from a ring or the urgent doorbell: another copy of one that stands accepted is stale (R322). -/
def State.receive (s : State) (op : Nat) (d : Desc) : State × Bool :=
  if ((s.page d.page).find d.series d.seq).isSome then (s.postCompletion d.page (recordOf d op 0x000A), false) else s.accept op d

/-- `URGENT_COMMIT` (R327): the staged descriptor is accepted ahead of all fetching, unless its sequence differs from the
committed one. Its own command then serves it. -/
def execUrgentCommit (t : Time) (page v : Nat) (whole : Bool) (s : State) : Res :=
  within page 1024 s fun s => s.live t fun s =>
    if ¬ (s.tenant page).active then s
    else if ¬ whole then s.ignoredWrite page
    else
      let p := s.page page
      let b := fitTo 64 p.stage
      let d := descOf page 4 b s.now
      let op := byteAt b 4
      let refusal : CRec := { seq := v, status := 0x000B, op := op, flags := d.flags % 16, series := 4, result := [] }
      if 16 ≤ p.window then s.setPage page { p with refused := p.refused ++ [v] }
      else if d.seq ≠ v then s.postCompletion page refusal
      else
        let x := s.receive op d
        if x.2 then
          let s := { x.1 with sys := { x.1.sys with urgentBusy := x.1.sys.urgentBusy ++ [(page, d.seq)] } }
          s.refuseReserved op d
        else x.1

/-- A tenant's rings are fetched now: its slot and budget in certified mode (R30, R350), and no urgent commit in service
(R329). -/
def State.mayFetch (s : State) (n : Nat) : Bool :=
  s.sys.urgentBusy.isEmpty &&
    (!s.sec.certified || (decide (s.slotTenant = n) && decide (0 < s.sec.fetchesLeft) && decide (0 < s.sec.bytesLeft)))

/-- A ready descriptor is fetched and its sequence checked (R322, R324). -/
def execDescriptorFetch (t : Time) (page ring : Nat) (bytes : List Byte) (s : State) : Res :=
  within page 1024 s fun s => s.live t fun s =>
    let p := s.page page
    let g := p.ring ring
    if ¬ (s.tenant page).active ∨ 4 ≤ ring ∨ ¬ g.enable ∨ g.head = g.tail ∨ 12 ≤ p.window ∨ ¬ s.mayFetch page then s
    else
      let s := s.setPage page (p.setRing ring { g with head := (g.head + 1) % g.size })
      let s := { s with sec := { s.sec with fetchesLeft := s.sec.fetchesLeft - 1 } }
      let d := descOf page ring bytes s.now
      let x := s.receive (byteAt bytes 4) d
      if x.2 then x.1.refuseReserved (byteAt bytes 4) d else x.1

/-- The holdoff of ring 4 or 5 elapses with a record pending (R337). -/
def execIrqHoldoffExpiry (t : Time) (page ring : Nat) (s : State) : Res :=
  within page 1024 s fun s => s.live t fun s =>
    let p := s.page page
    let g := p.ring ring
    let lapsed := match g.irqLast with
      | none => true
      | some u => decide (u + g.holdoff * 1000 ≤ s.now)
    if lapsed && decide (0 < g.irqPend) then
      (s.setPage page (p.setRing ring { g with irqPend := 0, irqLast := some s.now })).fireVector g.vector
    else s

/-! ### Link and host memory -/

/-- Every ring of a page disabled. -/
def Page.disableAll (p : Page) : Page := (List.range 6).foldl (fun p r => if (p.ring r).enable then p.disable r else p) p

/-- Link down, hot reset, D3hot or bus mastering cleared (R315): every ring of every tenant is disabled. -/
def execPcieLinkLoss (t : Time) (s : State) : Res :=
  if s.power = .held then .next s
  else
    let s := s.at t
    let s := (Tab.keys s.pages).foldl (fun s n => s.setPage n (s.page n).disableAll) s
    .next { s with sys := { s.sys with linkUp := false, linkWord := 0 } }

/-- The oldest write of a kind for a ring leaves the outbox. -/
def takePost (kind : PostKind) (page ring : Nat) : List Post → Option (Post × List Post)
  | [] => none
  | p :: r =>
    if p.kind = kind ∧ p.page = page ∧ p.ring = ring then some (p, r)
    else match takePost kind page ring r with
      | some x => some (x.1, p :: x.2)
      | none => none

/-! ### Coalescing and shedding -/

/-- A coalescing window ends: one record with the repeat count for the further occurrences (R445). -/
def execCoalesceWindowEnd (t : Time) (page src code : Nat) (s : State) : Res :=
  within page 1024 s fun s => s.live t fun s =>
    let p := s.page page
    match p.coal.find? fun c => c.src = src ∧ c.code = code ∧ c.ends ≤ s.now with
    | none => s
    | some c =>
      let s := s.setPage page { p with coal := p.coal.filter fun x => x ≠ c }
      if c.count = 0 then s else s.recordEvent page c.cls (severityOf c.cls) src code c.count c.time c.data

/-- The data of a COUNT record (R447). -/
def Shed.data (x : Shed) : List Byte :=
  leBytes 1 x.cls ++ leBytes 1 x.path ++ zeros 2 ++ leBytes 4 (holdAt 0xFFFFFFFF x.count) ++
    leBytes 4 (holdAt 0xFFFFFFFF ((x.last - x.first) / 1000))

/-- A COUNT record reports what was shed of a class on a path, at the end of the shedding or every 100 ms (R447). -/
def execShedCount (t : Time) (page cls path : Nat) (ended : Bool) (s : State) : Res :=
  within page 1024 s fun s => s.live t fun s =>
    let p := s.page page
    match p.shed.find? fun x => x.cls = cls ∧ x.path = path ∧ x.count ≠ 0 with
    | none => s
    | some x =>
      let upd := p.shed.map fun y => if y.cls = cls ∧ y.path = path then { y with count := 0, open_ := !ended } else y
      (s.setPage page { p with shed := upd }).recordEvent page 8 (severityOf cls) (srcTenant page) 0x0016 1 x.last x.data

end Sys2Proof.Machine
end

