-- ==== Sys2Proof/Machine/Brake.lean ====
section
/-!
DEFINITION. Braking, regeneration and emergency modes (R197 to R225): the chopper, the regeneration ceiling, short-circuit
braking, the stopping actions, ride-through, limp-home, STO and SS1, with the chapter's descriptors.
-/
namespace Sys2Proof.Machine
open Sys2Proof

/-- The DC-link voltage of a partition: the mean of its input over the previous cycle (R78). -/
def State.vdc (s : State) (p : Nat) : Q := Tab.get s.sdMean 0 (s.sdVdc p)

/-! ### Brake chopper (R200 to R203) -/

/-- Output `BRK[n]` is high (R201); the comparator's own state is `Brk.high`. -/
def State.brkPin (s : State) (p : Nat) : Bool :=
  (s.brkOf p).high && (s.brkByte p 16 3).testBit 0 && decide ((s.part p).st ≠ .unconfigured) && !s.bondPartner p &&
    !(s.power = .failed || s.power = .frozen || s.power = .held || s.power = .recovery)

/-- What counts as chopper on-time: `BRK[n]` high, or the string's time when bit 0 is clear (R203). -/
def State.chopperOn (s : State) (p : Nat) : Bool := if (s.brkByte p 16 3).testBit 0 then s.brkPin p else (s.brkOf p).string && (s.part p).st.energised

/-- The on-time fraction of the last 60 s (R203). -/
def State.brkDuty (s : State) (p : Nat) : Q :=
  let b := s.brkOf p
  let start := s.now - 60000000000
  let span := fun (a z : Time) => secOf (z - max a start)
  (sumQ (b.ons.map fun e => span e.1 e.2) + (match b.onAt with | some a => span a s.now | none => 0)) / 60

/-- The on-time intervals follow the chopper. -/
def State.countChopper (s : State) (p : Nat) : State :=
  let b := s.brkOf p
  match b.onAt with
  | none => if s.chopperOn p then s.setBrk p { b with onAt := some s.now } else s
  | some a =>
    if s.chopperOn p then s
    else s.setBrk p { b with onAt := none, ons := (b.ons.filter fun e => decide (s.now < e.2 + 60000000000)) ++ [(a, s.now)] }

/-- `BRAKE_OVERLOAD` (R203): once per excursion above `brk_duty_max`, ended below 0.9 of it. -/
def State.brakeOverload (s : State) (p : Nat) : State :=
  let b := s.brkOf p
  let f := s.brkDuty p
  if ¬ b.overload ∧ s.brkP p 44 < f then (s.setBrk p { b with overload := true }).alarm (srcPart p) 0x0803 []
  else if b.overload ∧ f < 9 / 10 * s.brkP p 44 then s.setBrk p { b with overload := false }
  else s

/-- The DC-link window comparator follows a fast filter output v of the DC-link input (R201). -/
def State.brkWindow (s : State) (p : Nat) (v : Q) : State :=
  let b := s.brkOf p
  let n := s.vdcNom p
  let h := if s.brkP p 20 * n < v then true else if v < s.brkP p 24 * n then false else b.high
  ((s.setBrk p { b with high := h }).countChopper p).brakeOverload p

/-- The chopper string is on for the cycle being planned (R202). -/
def State.stringActive (s : State) (p : Nat) : Bool :=
  let st := (s.part p).st
  (s.brkOf p).high && (s.brkByte p 16 3).testBit 1 && (st = .precharge || st = .ready || st = .running || st = .braking)

/-- The string's cells are on or off from this cycle on. -/
def State.stringSet (s : State) (p : Nat) (on : Bool) : State :=
  ((s.setBrk p { s.brkOf p with string := on }).countChopper p).brakeOverload p

/-! ### Regeneration ceiling (R199, R203) -/

/-- The factor k of rank 4. -/
def State.ceilK (s : State) (p : Nat) : Q :=
  let b := s.brkOf p
  let top := if b.overload then s.brkP p 24 else s.brkP p 28
  let band := if b.overload then 1 / 100 else s.brkP p 32
  clampQ 0 1 ((top * s.vdcNom p - s.vdc p) / (band * s.vdcNom p))

/-! ### Modes and their ranks (R221) -/

/-- The rank of the active mode in Table 4, 0 for none; BLOCKED is no mode (R224). -/
def State.modeRank (s : State) (p : Nat) : Nat :=
  let b := s.brkOf p
  let st := (s.part p).st
  if st = .safeOff then 1
  else if st = .tripped then 2
  else if b.ss1.isSome then 4
  else if b.sc.isSome then 5
  else if b.estop ≠ 0 then (if b.qr then 7 else 6)
  else if b.qr then 7
  else if b.rt ≠ 0 then 8
  else if b.crash.isSome then 9
  else if b.render then 10
  else 0

def emergInfo (op : Nat) (lay : List Fld) (st : List PState) : OpInfo :=
  { op := op, tgt := .part, need := .part, lease := true, urgent := true, states := some st, lay := lay }

/-- Short-circuit braking is available (R204). -/
def State.scAvail (s : State) (p : Nat) : Bool :=
  (s.machine p = 2 || s.machine p = 3) && s.brkByte p 17 0 = 1 && !s.scInfeasible p

/-- The rank of a waiting command among the causes of one round for a partition (Table 7 of R59, Table 4 of R221): 1 STO, 2 chip failure,
3 trip, 4 BLOCK, 5 SS1, 6 short-circuit braking, 7 emergency stop, 8 quick release, 10 crash stop, 11 render; 0 where it brings none. -/
def State.causeRank (s : State) (p : Nat) (i : Instr) : Nat :=
  let st := (s.part p).st
  let moves := st = .running ∨ st = .braking
  let at_ := fun (t : Time) (c : Bool) (k : Nat) => if s.thisRound t && c then k else 0
  let order := fun (d : Desc) (info : OpInfo) (c : Bool) (k : Nat) => if d.target = p ∧ c ∧ s.meets info d then k else 0
  match i with
  | .stoAssert t g _ => at_ t ((s.stoMap g).testBit p) (if s.stoSs1 g ∧ moves then 5 else 1)
  | .ss1Request t g _ => at_ t ((s.stoMap g).testBit p) (if s.stoSs1 g ∧ moves then 5 else 1)
  | .tripNetDisagree t _ => at_ t true 2
  | .hostCoreWatchdogExpiry t => at_ t true 2
  | .timeBaseFailure t => at_ t true 2
  | .supervisorWatchdogExpiry t r => at_ t ((s.partRegions p).contains r && s.watchdogOut r) 3
  | .tripinAssert t k => at_ t ((s.tripinParts k).contains p) 3
  | .protTrip d => order d infoProtTrip true 3
  | .block d => order d infoBlock st.energised 4
  | .estopShortCircuit d => order d (emergInfo 0x75 layEstop [.ready, .running, .braking]) (moves && s.scAvail p) 6
  | .estopControlled d => order d (emergInfo 0x75 layEstop [.ready, .running, .braking]) moves 7
  | .winchEmergQuickRelease d =>
    order d (emergInfo 0x76 layWinch [.running]) (decide (s.emByte p 18 0 = 1) && decide ((s.tenant d.page).role ≤ 1) &&
      decide (2 ≤ (s.motOf p).source)) 8
  | .crashStopStart d => order d (emergInfo 0x74 layCrash [.running]) true 10
  | .winchEmergRender d => order d (emergInfo 0x76 layWinch [.running]) (s.motOf p).calibrated 11
  | _ => 0

/-- A cause of a rank above this one meets a descriptor in its round (R59, R221). -/
def State.beaten (s : State) (p rank : Nat) : Bool :=
  s.pending.any fun i => decide (0 < s.causeRank p i) && decide (s.causeRank p i < rank)

/-- A descriptor whose mode ranks below an active one is refused (R221). -/
def State.outranked (s : State) (p rank : Nat) : Bool := 0 < s.modeRank p && s.modeRank p < rank

/-- A stopping action starts from the measured speed, rope speed and payout (R209). -/
def State.brakeFrom (s : State) (p : Nat) : State :=
  let s := s.setMot p { s.motOf p with vRef := s.ropeV p, aRef := 0, pRef := s.payout p }
  s.setCtl p { s.ctlOf p with ramp := s.speed p }

/-- The partition enters BRAKING; its motion starts from the measured rope speed (R57, R209). -/
def State.toBraking (s : State) (p : Nat) : State :=
  if (s.part p).st = .braking then s
  else (((s.leaveRunning p).dropWaits p).setPState p .braking).brakeFrom p

/-- The partition enters READY: its machine arms block, its brakes are de-energised, carries return to 0 (R56, R83, R208). -/
def State.toReady (s : State) (p : Nat) : State :=
  let s := ((s.leaveRunning p).dropWaits p).endControl p
  (s.clearCarry p).setPState p .ready

/-- Machine current below 2 % of rated; a BC partition has no machine current (R57). -/
def State.currentLow (s : State) (p : Nat) : Bool :=
  let c := s.ctlOf p
  let m := 2 / 100 * s.iMachMax p
  s.shape p = 6 || decide (c.id * c.id + c.iq * c.iq < m * m) || decide (c.id = 0 ∧ c.iq = 0)

/-- The machine current ramps to 0 on the way to READY, which a current already low enters at once (R209, R215). -/
def State.windDown (s : State) (p : Nat) : State :=
  if s.currentLow p then s.toReady p else s.setBrk p { s.brkOf p with rampDown := true }

/-! ### Short-circuit braking (R204 to R207) -/

/-- The data of `SC_BRAKING`: the trigger in the open layout, bit 7 set where the braking is not available (R205). -/
def scData (trigger : Nat) (denied : Bool) : List Byte :=
  leBytes 1 (byteAt (evd 0x0804 [(trigger : Q)]) 0 % 128 + (if denied then 128 else 0)) ++ (evd 0x0804 [(trigger : Q)]).drop 1

/-- A trigger of short-circuit braking: 0 `v_sc`, 1 clipping, 2 `ESTOP` (R205). -/
def State.orderSc (s : State) (p trigger : Nat) : State :=
  if ¬ s.scAvail p then
    (s.setBrk p { s.brkOf p with scDenied := true }).alarm (srcPart p) 0x0804 (scData trigger true)
  else
    let s := s.toBraking p
    let b := s.brkOf p
    let g := if s.brkByte p 18 2 = 1 then 1 else 0
    let s := s.setBrk p { b with sc := some s.now, scGroup := g, scSwapAt := s.now, still := none, estop := 0, qr := false, qrSlow := none,
                                 rampDown := false, ceilCut := false }
    s.alarm (srcPart p) 0x0804 (scData trigger false)

/-- `SC_BRAKING_ORDER` (R205): `v_sc` exceeded, or the controller clipped, for `sc_t`. -/
def execScBrakingOrder (t : Time) (p : Nat) (s : State) : Res :=
  within p 8 s fun s => s.live t fun s =>
    let b := s.brkOf p
    let st := (s.part p).st
    let due := fun (o : Option Time) => match o with
      | some u => decide (u + nsOf (s.brkP p 48) ≤ s.now)
      | none => false
    if (st ≠ .running ∧ st ≠ .braking) ∨ b.sc.isSome ∨ b.ss1.isSome ∨ b.scDenied then s
    else if due b.vScAt then s.orderSc p 0
    else if due b.clipAt then s.orderSc p 1
    else s

/-- Standstill has lasted `still_time` (R207, R209). -/
def State.stillLong (s : State) (p : Nat) : Bool :=
  match (s.brkOf p).still with
  | some u => decide (u + nsOf (s.rsP p 28) ≤ s.now)
  | none => false

/-- `SC_BRAKING_END` (R207). -/
def execScBrakingEnd (t : Time) (p : Nat) (s : State) : Res :=
  within p 8 s fun s => s.live t fun s => if (s.brkOf p).sc.isSome ∧ s.stillLong p then s.toReady p else s

/-- `SC_ARMS_ALTERNATE` (R206): every 100 ms the groups swap. -/
def execScArmsAlternate (t : Time) (p : Nat) (s : State) : Res :=
  within p 8 s fun s => s.live t fun s =>
    let b := s.brkOf p
    if b.sc.isSome ∧ s.brkByte p 18 2 = 2 ∧ b.scSwapAt + 100000000 ≤ s.now then
      s.setBrk p { b with scGroup := 1 - b.scGroup, scSwapAt := s.now }
    else s

/-! ### Emergency stop and holding brakes (R208, R209) -/

/-- The brakes are de-energised and the speed is held at 0 for `brake_t_set` (R209). -/
def State.setBrakes (s : State) (p : Nat) : State :=
  let s := s.driveBrakes p false
  s.setBrk p { s.brkOf p with estop := 2, setAt := s.now, qr := false, qrSlow := none, relAt := none, relWait := false }

/-- The emergency stop begins (R209). -/
def State.startEstop (s : State) (p : Nat) : State :=
  let s := if (s.part p).st = .braking then s.brakeFrom p else s.toBraking p
  s.setBrk p { s.brkOf p with estop := 1, still := none, qr := false, qrSlow := none, rampDown := false }

/-- STO stands asserted for a partition: it enters SAFE_OFF, with its record and event; in UNCONFIGURED it is recorded
(R57, R58, R217, R229). -/
def State.assertSto (s : State) (p group : Nat) : State :=
  let st := (s.part p).st
  if (s.part p).sto then s
  else
    let s := s.setPart p { s.part p with sto := true }
    let x := s.protOf p
    let r : TripRec := { t := s.now, cause := 0x0909, source := group, before := st.code, order := 0, more := 0, value := 0,
                         cycle := s.cycleNo p % 2 ^ 32, tenant := 0xFFFF }
    let first := { x.record r with firstAt := some s.now, firstCause := 0x0909, firstSource := group, later := 0 }
    if st = .unconfigured then s.setProt p first
    else if st = .safeOff then s
    else if st = .tripped then ((s.quiet p).setPState p .safeOff).nextCause p r
    else (((s.setProt p first).quiet p).setPState p .safeOff).emit 7 (srcPart p) 0x0909 (tripData group p st.code 0 0 0xFFFF 0)

def State.stoOf (s : State) (g : Nat) : Sto := Tab.get s.sto {} g
def State.setSto (s : State) (g : Nat) (x : Sto) : State := { s with sto := Tab.set s.sto {} g x }

/-- The STO group whose SS1 request a partition follows; the request may have been released (R219). -/
def State.ss1Group (s : State) (p : Nat) : Nat :=
  let gs := (List.range 2).filter fun g => s.stoSs1 g && (s.stoMap g).testBit p
  ((gs.filter fun g => (s.stoOf g).ss1.isSome) ++ gs).headD 0

/-- An SS1 request reaches a partition (R219): the ramp runs from the speed measured now, whatever stopping action it replaces. -/
def State.requestSs1 (s : State) (g p : Nat) : State :=
  let st := (s.part p).st
  if st = .running ∨ st = .braking then
    if (s.brkOf p).ss1.isSome then s
    else
      let w := absQ (s.speed p)
      let s := if st = .braking then s.brakeFrom p else s.toBraking p
      s.setBrk p { s.brkOf p with ss1 := some (s.now, w), sc := none, estop := 0, qr := false, qrSlow := none, still := none, rampDown := false }
  else s.assertSto p g

/-- A channel of an STO group is asserted beyond its filter (R218, R219). While no partition is served, the level is recorded. -/
def State.stoChannel (s : State) (g : Nat) (b : Bool) : State :=
  let x := s.stoOf g
  let x := if b then { x with lowB := true } else { x with lowA := true }
  let x := { x with active := true, bothSeen := x.bothSeen || (x.lowA && x.lowB), ss1 := some (x.ss1.getD s.now) }
  let s := s.setSto g x
  let parts := maskList 8 (s.stoMap g)
  if s.power = .running ∨ s.power = .pfail ∨ s.power = .entering then
    if s.stoSs1 g then parts.foldl (fun s p => s.requestSs1 g p) s else parts.foldl (fun s p => s.assertSto p g) s
  else if s.power = .frozen then
    { s with frz := { s.frz with latched := s.frz.latched ++ [(s.stoMap g, 0x0909, g)] } }
  else s

/-- `STO_ASSERT` (R57, R218): channel A or B of a group in STO mode. -/
def execStoAssert (t : Time) (group : Nat) (chanB : Bool) (s : State) : Res :=
  within group 2 s fun s => (s.at t).stoChannel group chanB

/-- `SS1_REQUEST` (R219): a channel of a group in SS1 mode. -/
def execSs1Request (t : Time) (group : Nat) (chanB : Bool) (s : State) : Res :=
  within group 2 s fun s => (s.at t).stoChannel group chanB

/-- A partition stays under STO while another asserted group maps it. -/
def State.stoHolds (s : State) (p : Nat) : Bool :=
  (List.range 2).any fun g => (s.stoOf g).active && (s.stoMap g).testBit p

/-- The partitions whose groups have been released leave SAFE_OFF for BLOCKED (R57). -/
def State.leaveSafeOff (s : State) : State :=
  if s.power = .running ∨ s.power = .pfail ∨ s.power = .entering then
    (List.range 8).foldl (fun s p =>
      if (s.part p).sto ∧ ¬ s.stoHolds p then
        let s := s.setPart p { s.part p with sto := false }
        if (s.part p).st = .safeOff ∧ s.power = .running then s.setPState p .blocked else s
      else s) s
  else s

/-- `STO_RELEASE` (R57, R220): both channels have been released for 10 ms; after a discrepancy they must have been asserted
together first. -/
def execStoRelease (t : Time) (group : Nat) (s : State) : Res :=
  within group 2 s fun s =>
    let s := s.at t
    let x := s.stoOf group
    if x.needBoth ∧ ¬ x.bothSeen then s.setSto group { x with lowA := false, lowB := false }
    else (s.setSto group {}).leaveSafeOff

/-- `STO_DISCREPANCY` (R220, R506): the channels have disagreed for longer than 50 ms; their pin levels and the time in µs. -/
def execStoDiscrepancy (t : Time) (group : Nat) (lowA lowB : Bool) (us : Nat) (s : State) : Res :=
  within group 2 s fun s =>
    let s := s.at t
    let s := s.setSto group { s.stoOf group with lowA := lowA, lowB := lowB, needBoth := true, bothSeen := false }
    if s.power = .running ∨ s.power = .pfail ∨ s.power = .entering then
      s.alarm srcChip 0x0808 (leBytes 1 group ++ leBytes 1 ((if lowA then 1 else 0) + (if lowB then 2 else 0)) ++ zeros 2 ++
        leBytes 1 (s.stoMap group) ++ zeros 3 ++ leBytes 4 (holdAt 0xFFFFFFFF us))
    else s

/-- `SS1_TIMEOUT` (R219): `ss1_time` after the request the trip network asserts STO; it needs neither supervisor nor core. -/
def execSs1Timeout (t : Time) (p : Nat) (s : State) : Res :=
  within p 8 s fun s => s.awake t fun s =>
    match (s.brkOf p).ss1 with
    | some (u, _) => if u + nsOf (s.emP p 52) ≤ s.now then s.assertSto p (s.ss1Group p) else s
    | none => s

/-- The monitored envelope of SS1 (R219): a breach raises `SS1_VIOLATION` and asserts STO. -/
def State.ss1Watch (s : State) (p : Nat) : State :=
  match (s.brkOf p).ss1 with
  | none => s
  | some (u, w) =>
    if absQ w - s.emP p 48 * secOf (s.now - u) + s.emP p 56 * s.nMax p < absQ (s.speed p) then
      (s.alarm (srcPart p) 0x0809 []).assertSto p (s.ss1Group p)
    else s

/-- `ESTOP_STANDSTILL` (R209): the brakes are de-energised; under SS1 standstill asserts STO (R219). -/
def execEstopStandstill (t : Time) (p : Nat) (s : State) : Res :=
  within p 8 s fun s => s.live t fun s =>
    let b := s.brkOf p
    if ¬ s.stillLong p then s
    else if b.ss1.isSome then s.assertSto p (s.ss1Group p)
    else if b.estop = 1 then s.setBrakes p
    else s

/-- `BRAKE_SET_HOLD_END` (R209): after `brake_t_set` the current ramps to 0 and the partition enters READY. -/
def execBrakeSetHoldEnd (t : Time) (p : Nat) (s : State) : Res :=
  within p 8 s fun s => s.live t fun s =>
    let b := s.brkOf p
    if b.estop = 2 ∧ b.setAt + nsOf (s.emP p 28) ≤ s.now then (s.setBrk p { b with estop := 3 }).windDown p else s

/-- `BRAKE_RELEASE` (R208): the machine's current has been built at `ENABLE`; the speed reference stays 0. -/
def execBrakeRelease (t : Time) (p : Nat) (s : State) : Res :=
  within p 8 s fun s => s.live t fun s =>
    let b := s.brkOf p
    if (s.part p).st = .running ∧ b.relWait ∧ b.relAt = none then
      let s := s.driveBrakes p true
      s.setBrk p { s.brkOf p with relAt := some s.now }
    else s

/-- `BRAKE_RELEASE_HOLD_END` (R208): after `brake_t_rel` the reference source acts. -/
def execBrakeReleaseHoldEnd (t : Time) (p : Nat) (s : State) : Res :=
  within p 8 s fun s => s.live t fun s =>
    let b := s.brkOf p
    match b.relAt with
    | some u => if u + nsOf (s.emP p 32) ≤ s.now then s.setBrk p { b with relAt := none, relWait := false } else s
    | none => s

/-- `QUICK_RELEASE_END` (R210): slow rope for 1 s, or the payout at `rope_len`; then as at the stop's standstill step. -/
def execQuickReleaseEnd (t : Time) (p : Nat) (s : State) : Res :=
  within p 8 s fun s => s.live t fun s =>
    let b := s.brkOf p
    let slow : Bool := match b.qrSlow with
      | some u => decide (u + 1000000000 ≤ s.now)
      | none => false
    if b.qr ∧ (slow ∨ s.ropeLen p ≤ s.payout p) then s.setBrakes p else s

/-! ### Ride-through (R213 to R215) -/

/-- A ride-through starts in phase 1 or 2 with its STATE event; winch sources make the emergency stop instead (R213). -/
def State.startRide (s : State) (p phase : Nat) : State :=
  if 2 ≤ (s.motOf p).source then s.startEstop p
  else
    let b := s.brkOf p
    let s := s.setBrk p { b with rt := phase, rtAt := if phase = 2 then some s.now else none, retSince := none }
    s.inform (srcPart p) 0x0805 []

/-- The speed loop resumes from the measured speed, with `RIDE_THROUGH_END` and its outcome (R214, R215). -/
def State.endRide (s : State) (p outcome : Nat) : State :=
  let s := s.setBrk p { s.brkOf p with rt := 0, rtAt := none, retSince := none }
  let s := s.bumpless p
  s.inform (srcPart p) 0x0806 (evd 0x0806 [(outcome : Q)])

/-- Nominal grid voltage, peak: half of `vdc_nom` (R115; log entry 20). -/
def State.gridNom (s : State) (p : Nat) : Q := s.vdcNom p / 2
/-- The square of the grid voltage magnitude. -/
def State.gridSq (s : State) (p : Nat) : Q := (s.ctlOf p).ugd * (s.ctlOf p).ugd + (s.ctlOf p).ugq * (s.ctlOf p).ugq
/-- The grid magnitude is at least k of nominal. -/
def State.gridAbove (s : State) (p : Nat) (k : Q) : Bool := decide (k * s.gridNom p * (k * s.gridNom p) ≤ s.gridSq p)

/-- The supply has returned (phase 3 of Table 2). -/
def State.supplyBack (s : State) (p : Nat) : Bool :=
  if s.shape p = 2 then s.gridAbove p (s.rideP p 24) && (s.ctlOf p).locked
  else match (s.brkOf p).retSince with
    | some u => decide (u + 20000000 ≤ s.now)
    | none => false

/-- `RIDE_THROUGH_RESYNC_DONE` (R214): phase 3 is complete and phase 4 begins. -/
def execRideThroughResyncDone (t : Time) (p : Nat) (s : State) : Res :=
  within p 8 s fun s => s.live t fun s =>
    let b := s.brkOf p
    if (b.rt = 2 ∨ b.rt = 3) ∧ s.supplyBack p then s.setBrk p { b with rt := 4, rtWait := s.now } else s

/-- `RIDE_THROUGH_DELAY_END` (R214): `rt_delay` has passed in phase 4. -/
def execRideThroughDelayEnd (t : Time) (p : Nat) (s : State) : Res :=
  within p 8 s fun s => s.live t fun s =>
    let b := s.brkOf p
    if b.rt = 4 ∧ b.rtWait + nsOf (s.shaftDelay p) ≤ s.now then s.endRide p 0 else s

/-- `RIDE_THROUGH_EXPIRY` (R215): phases 2 to 4 have lasted `rt_max`, or the shaft is below `rt_n_min`. -/
def execRideThroughExpiry (t : Time) (p : Nat) (s : State) : Res :=
  within p 8 s fun s => s.live t fun s =>
    let b := s.brkOf p
    let late : Bool := match b.rtAt with
      | some u => decide (u + nsOf (s.rideP p 32) ≤ s.now)
      | none => false
    if b.rt ≠ 0 ∧ (late ∨ absQ (s.speed p) < s.rideP p 40 * s.nMax p) then
      let s := (s.setBrk p { b with crash := none, render := false }).endRide p 1
      s.windDown p
    else s

/-! ### Descriptors (R222, R223) -/

/-- `BRAKE_CONFIG` (R200, R204). -/
def execBrakeConfig (d : Desc) (s : State) : Res := serveRes (confInfo 0x70 layBrake) d none (storeEffect 0x70 d 0) s

/-- A T0 field carries a value other than the one in force (R222). -/
def State.t0Changed (s : State) (d : Desc) : Bool :=
  let p := d.target
  d.page ≠ 0 && (decide (s.emByte p 18 0 ≠ d.u8 18) || decide (s.emP p 48 ≠ d.f32 48) || decide (s.emP p 52 ≠ d.f32 52) ||
    decide (s.emP p 56 ≠ d.f32 56))

/-- The effect of `EMERG_CONFIG` (R208, R222): brake channels are claimed (R275). -/
def emergEffect (d : Desc) (s : State) : Reply :=
  let p := d.target
  let chans := ([d.u8 16, d.u8 17]).filter fun c => c ≠ 0xFF
  if s.t0Changed d then Reply.no s 0x0005
  else if chans.any fun c => !(s.confRegions p).contains (c / 4) then Reply.no s 0x0003
  else if (d.u8 16 = d.u8 17 ∧ d.u8 16 ≠ 0xFF) ∨ chans.any fun c => !s.claimFree (0x20 + c) 0x71 p then Reply.no s 0x0A00
  else storeEffect 0x71 d 0 s

/-- `EMERG_CONFIG`. -/
def execEmergConfig (d : Desc) (s : State) : Res := serveRes (confInfo 0x71 layEmerg) d none (emergEffect d) s

/-- `RIDE_CONFIG`. -/
def execRideConfig (d : Desc) (s : State) : Res := serveRes (motInfo 0x72 layRide st013 true) d none (storeEffect 0x72 d 0) s

/-- The effect of `LIMP` (R216): every machine arm must take the value. -/
def limpEffect (d : Desc) (s : State) : Reply :=
  let p := d.target
  let n := d.u16 16
  let arms := (s.armsOf p).filter fun a => s.limpArm p a
  let fits := fun (a : Nat) => decide (3 * s.required p a ≤ 5 * n) && decide (n + 1 ≤ s.required p a)
  if arms = [] then Reply.no s 0x080B
  else if n = 0 ∨ arms.all fits then { st := s } else Reply.no s 0x080B

/-- `LIMP`. -/
def execLimp (d : Desc) (s : State) : Res := serveRes (motInfo 0x73 layLimp [.blocked] true) d none (limpEffect d) s

/-- The effect of `CRASH_STOP` op 0 (R212): source 0 in speed mode, bumplessly, under replaced limits. -/
def crashStart (d : Desc) (s : State) : Reply :=
  let p := d.target
  if s.nMax p < absQ (d.f32 20) then Reply.no s 0x0003
  else if s.outranked p 9 ∨ s.beaten p 10 then Reply.no s 0x0004
  else
    let fresh := (s.brkOf p).crash.isNone
    let s := s.setBrk p { s.brkOf p with crash := some (d.f32 20, d.f32 24, d.f32 28, d.f32 32), render := false }
    let s := if fresh then
        let m := s.motOf p
        let s := s.setMot p { m with source := 0, srcNew := none, moving := false, follow := none }
        (s.setCtl p { s.ctlOf p with mode := 0 }).bumpless p
      else s
    { st := s }

/-- `CRASH_STOP` op 0. -/
def execCrashStopStart (d : Desc) (s : State) : Res :=
  serveRes (emergInfo 0x74 layCrash [.running]) d none (crashStart d) s

/-- The crash stop ends: the setpoint is its target (R212). -/
def State.endCrash (s : State) (p : Nat) : State :=
  match (s.brkOf p).crash with
  | some (w, _) =>
    let s := s.setBrk p { s.brkOf p with crash := none }
    s.setCtl p { s.ctlOf p with sp := w, spNew := none, mode := 0, spAt := some s.now, spTimedOut := false }
  | none => s

/-- `CRASH_STOP` op 1. -/
def execCrashStopEnd (d : Desc) (s : State) : Res :=
  serveRes (emergInfo 0x74 layCrash [.running]) d none (fun s =>
    if s.nMax d.target < absQ (d.f32 20) then Reply.no s 0x0003
    else if s.outranked d.target 9 then Reply.no s 0x0004
    else { st := s.endCrash d.target }) s

/-- The effect of `ESTOP` method 0 (R209). -/
def estopEffect (d : Desc) (s : State) : Reply :=
  let p := d.target
  if (s.part p).st = .ready then { st := s }
  else if s.outranked p 6 ∨ s.beaten p 7 then Reply.no s 0x0004
  else if (s.brkOf p).estop ≠ 0 ∧ ¬ (s.brkOf p).qr then { st := s }
  else { st := s.startEstop p }

/-- `ESTOP` method 0. -/
def execEstopControlled (d : Desc) (s : State) : Res :=
  serveRes (emergInfo 0x75 layEstop [.ready, .running, .braking]) d none (estopEffect d) s

/-- The effect of `ESTOP` method 1 (R205, R225): where the braking is not available it raises the ALARM and completes with
`SC_INFEASIBLE`. -/
def estopScEffect (d : Desc) (s : State) : Reply :=
  let p := d.target
  if (s.part p).st = .ready then { st := s }
  else if s.outranked p 5 ∨ s.beaten p 6 then Reply.no s 0x0004
  else if (s.brkOf p).sc.isSome then { st := s }
  else if s.scAvail p then { st := s.orderSc p 2 }
  else { st := s.alarm (srcPart p) 0x0804 (scData 2 true), status := 0x0801 }

/-- `ESTOP` method 1. -/
def execEstopShortCircuit (d : Desc) (s : State) : Res :=
  serveRes (emergInfo 0x75 layEstop [.ready, .running, .braking]) d none (estopScEffect d) s

/-- Render ends: source 0 in speed mode with the reference at 0, the ramp from the measured speed (R211). -/
def State.endRender (s : State) (p : Nat) : State :=
  if (s.brkOf p).render then
    let s := s.setBrk p { s.brkOf p with render := false }
    let s := s.setMot p { s.motOf p with source := 0, srcNew := none }
    (s.setCtl p { s.ctlOf p with mode := 0, sp := 0, spNew := none, spAt := some s.now }).bumpless p
  else s

/-- `WINCH_EMERG` action 0. -/
def execWinchEmergEndRender (d : Desc) (s : State) : Res :=
  serveRes (emergInfo 0x76 layWinch [.running]) d none (fun s =>
    if s.outranked d.target 10 then Reply.no s 0x0004 else { st := s.endRender d.target }) s

/-- The effect of `WINCH_EMERG` action 1 (R211). -/
def renderEffect (d : Desc) (s : State) : Reply :=
  let p := d.target
  if s.outranked p 10 ∨ s.beaten p 11 then Reply.no s 0x0004
  else if ¬ (s.motOf p).calibrated then Reply.no s 0x0406
  else if (s.brkOf p).render then { st := s }
  else
    let m := s.motOf p
    let f := if s.drumNow p = 0 then 0 else (s.ctlOf p).te * 2 * s.gear p / s.drumNow p
    let s := s.setMot p { m with moving := false, follow := none, fRamp := s.emP p 40, fInt := f }
    { st := s.setBrk p { s.brkOf p with render := true } }

/-- `WINCH_EMERG` action 1. -/
def execWinchEmergRender (d : Desc) (s : State) : Res :=
  serveRes (emergInfo 0x76 layWinch [.running]) d none (renderEffect d) s

/-- The effect of `WINCH_EMERG` action 2 (R210). -/
def quickReleaseEffect (d : Desc) (s : State) : Reply :=
  let p := d.target
  let role := (s.tenant d.page).role
  if ¬ ((role = 0 ∨ role = 1) ∧ s.emByte p 18 0 = 1) then Reply.no s 0x0005
  else if s.outranked p 7 ∨ s.beaten p 8 then Reply.no s 0x0004
  else if (s.motOf p).source < 2 then Reply.no s 0x0004
  else
    let s := (s.toBraking p).driveBrakes p true
    { st := s.setBrk p { s.brkOf p with qr := true, qrSlow := none, estop := 0, relAt := none, relWait := false, rampDown := false } }

/-- `WINCH_EMERG` action 2. -/
def execWinchEmergQuickRelease (d : Desc) (s : State) : Res :=
  serveRes (emergInfo 0x76 layWinch [.running]) d none (quickReleaseEffect d) s

/-- The result of `BRAKE_STATUS` (Table 7). -/
def State.brakeResult (s : State) (p : Nat) : List Byte :=
  let b := s.brkOf p
  let flag := fun (k : Nat) (x : Bool) => if x then 2 ^ k else 0
  let groups := (List.range 2).filter fun g => (s.stoMap g).testBit p
  let fl := flag 0 (s.brkPin p) + flag 1 b.string + flag 2 b.ceilCut + flag 3 b.overload + flag 4 (s.limp p ≠ 0) + flag 5 b.released +
    flag 6 (groups.any fun g => (s.stoOf g).lowA) + flag 7 (groups.any fun g => (s.stoOf g).lowB)
  leBytes 1 (s.modeRank p) ++ leBytes 1 fl ++ leBytes 1 b.rt ++ zeros 1 ++ f32Bytes (s.brkDuty p)

def infoBrakeStatus : OpInfo := { op := 0x77, tgt := .part, need := .read, gives := true }

/-- `BRAKE_STATUS` (R224). -/
def execBrakeStatus (d : Desc) (s : State) : Res :=
  serveRes infoBrakeStatus d none (fun s => { st := s, result := s.brakeResult d.target }) s

end Sys2Proof.Machine
end

