-- ==== Sys2Proof/Machine/Tandem.lean ====
section
/-!
DEFINITION. Tandems (R175 to R180): membership, the division of the shaft's torque, tandem messages, loss of the master and
handover, with the chapter's tandem descriptors and events.
-/
namespace Sys2Proof.Machine
open Sys2Proof

/-! ### Members' states -/

/-- What a partition on this chip replies (R176). -/
def State.memberNow (s : State) (q : Nat) : TMem :=
  { st := (s.part q).st.code, cap := (s.ctlOf q).cap, torque := (s.ctlOf q).te, w := s.speed q, bits := (s.ctlOf q).limits, at_ := some s.now }

/-- What the master knows of member k: of a partition on its own chip its present state, of another its last reply. -/
def State.memberState (s : State) (p k : Nat) : TMem :=
  match (s.members p)[k]? with
  | none => {}
  | some m => if m.node = s.node then s.memberNow m.part else Tab.get (s.tanOf p).mem {} k

/-- A member is in RUNNING or BRAKING. -/
def TMem.active (m : TMem) : Bool := m.at_.isSome && (m.st = 4 || m.st = 5)

/-- Places of the active members (R176): those in RUNNING or BRAKING, of which each but the master counts from its first reply as such
and drops out with its state (R180). -/
def State.activePlaces (s : State) (p : Nat) : List Nat :=
  (List.range (s.members p).length).filter fun k =>
    (s.memberState p k).active && (s.myPlace p = some k || (Tab.get (s.tanOf p).mem {} k).active)

def ratioAt (ms : List Member) (k : Nat) : Q := (ms[k]?.map Member.ratio).getD 0
def ratioSum (ms : List Member) (l : List Nat) : Q := sumQ (l.map fun k => ratioAt ms k)

/-- The active members as a member knows them: the master by their replies, another by the master's last message. -/
def State.shaftActive (s : State) (p : Nat) : List Nat := if s.isMaster p then s.activePlaces p else ((s.tanOf p).active).getD []

/-- The fraction of the shaft that a member carries: its ratio over the active members' ratios (R176, R186). -/
def State.shareFraction (s : State) (p : Nat) : Q :=
  match s.myPlace p with
  | none => 1
  | some k =>
    let l := s.shaftActive p
    let l := if l.contains k then l else k :: l
    let sum := ratioSum (s.members p) l
    if sum = 0 then 1 else ratioAt (s.members p) k / sum

/-! ### Division (R176) -/

/-- The excess handed to the members with headroom, in list order, in proportion to ratio and up to each one's cap. -/
def spread (ms : List Member) : Q → List (Nat × Q × Q) → List (Nat × Q)
  | _, [] => []
  | excess, (k, x, room) :: r =>
    let weights := ratioSum ms (((k, x, room) :: r).filter (fun e => decide (0 < e.2.2)) |>.map fun e => e.1)
    let give := if room ≤ 0 ∨ weights = 0 then 0 else minQ room (excess * ratioAt ms k / weights)
    (k, x + give) :: spread ms (excess - give) r

/-- The shares of the active members for a total torque: place and share. -/
def State.divide (s : State) (p : Nat) (total : Q) : List (Nat × Q) :=
  let ms := s.members p
  let l := s.activePlaces p
  let sum := ratioSum ms l
  if sum = 0 then []
  else
    let sg := signQ total
    let want := l.map fun k => (k, absQ total * ratioAt ms k / sum, (s.memberState p k).cap)
    let excess := sumQ (want.map fun e => maxQ 0 (e.2.1 - e.2.2))
    let base := want.map fun e => (e.1, minQ e.2.1 e.2.2, maxQ 0 (e.2.2 - e.2.1))
    (spread ms excess base).map fun e => (e.1, sg * e.2)

/-- Torque that fits nowhere (R176). -/
def State.unfit (s : State) (p : Nat) (total : Q) : Q := absQ total - sumQ ((s.divide p total).map fun e => absQ e.2)

/-- The limit bits 3 to 5 that the tightest member reports: the member with the least cap for its ratio. -/
def State.tightestBits (s : State) (p : Nat) : Nat :=
  let ms := s.members p
  match sortByQ (fun k => if ratioAt ms k = 0 then 0 else (s.memberState p k).cap / ratioAt ms k) (s.activePlaces p) with
  | [] => 0
  | k :: _ => (s.memberState p k).bits &&& 0x38

/-! ### Messages -/

/-- A tandem message (R176), with the place of its sender. -/
structure TMsg where
  src : Nat
  epoch : Nat
  /-- the speed step B it belongs to -/
  step : Time
  share : Q
  tY : Q
  nC : Q
  ramp : Q
  target : Q
  total : Q
  /-- places of the active members, and the master's `rt_delay` (R176, R214) -/
  active : List Nat
  delay : Q
deriving DecidableEq, Repr

/-- An 8-bit epoch is newer than another (R38). -/
def epochNewer (a b : Nat) : Bool :=
  let k := (a + 256 - b % 256) % 256
  1 ≤ k && k < 128

/-- A member takes a tandem message (R176, R178, R179): an older epoch is discarded; of two claimants of one epoch the earlier
in list order is obeyed. A newer epoch of a master on another chip is `MASTER_CHANGED` for this member (R178). -/
def State.takeTandem (s : State) (p : Nat) (m : TMsg) : State :=
  let x := s.tanOf p
  if ¬ s.inTandem p ∨ s.myPlace p = some m.src then s
  else
    let known := x.msgAt.isSome || x.master.isSome
    let newer := !known || epochNewer m.epoch x.epoch
    let rank := x.master.getD 0xFF
    let away : Bool := match (s.members p)[m.src]? with
      | some y => decide (y.node ≠ s.node)
      | none => false
    if ¬ newer ∧ (m.epoch ≠ x.epoch ∨ (x.master ≠ some m.src ∧ rank < m.src)) then s
    else if ¬ newer ∧ s.isMaster p then s.setTan p { x with yieldTo := some m.src }
    else
      let ends := x.lost && newer
      let changed := x.master.isSome && newer && away
      let x := { x with epoch := m.epoch, master := some m.src, total := m.total, share := m.share, tY := m.tY, nC := m.nC, ramp := m.ramp,
                        target := m.target, active := some m.active, delay := m.delay, msgAt := some s.now, lost := x.lost && !ends,
                        taking := false, yieldTo := none }
      let s := s.setTan p x
      let s := if changed then s.inform (srcPart p) 0x0706 [] else s
      if x.lost then s else s.setCtl p { s.ctlOf p with tNext := some (m.step + 20000, m.share) }

/-- The bytes of a tandem message on the fabric. -/
def TMsg.bytes (m : TMsg) (part : Nat) : List Byte :=
  leBytes 1 part ++ leBytes 1 m.src ++ leBytes 1 m.epoch ++ zeros 1 ++ leBytes 8 m.step ++
    ([m.share, m.tY, m.nC, m.ramp, m.target, m.total, m.delay].map f32Bytes).flatten ++ leBytes 1 (maskOf m.active)

/-- The master's last word of a member is replaced. -/
def State.setMem (s : State) (p k : Nat) (m : TMem) : State :=
  s.setTan p { s.tanOf p with mem := Tab.set (s.tanOf p).mem {} k m }

/-- The master sends each other member its message (R176); a member on this chip replies at once. -/
def State.sendTandem (s : State) (p : Nat) (shares : List (Nat × Q)) (m : TMsg) : State :=
  ((s.members p).mapIdx fun k x => (k, x)).foldl (fun s (e : Nat × Member) =>
    if e.1 = m.src then s
    else
      let msg := { m with share := ((shares.find? fun y => y.1 = e.1).map fun y => y.2).getD 0 }
      if e.2.node = s.node then (s.takeTandem e.2.part msg).setMem p e.1 (s.memberNow e.2.part) else s.partSend p 1 e.2.node 3 (msg.bytes e.2.part)) s

/-- Replies of members on other chips, by place: state, cap, torque, speed and limit bits. -/
def State.takeReplies (s : State) (p : Nat) (who : List Nat) (caps torques speeds : List Q) (states bits_ : List Nat) : State :=
  let m := (who.mapIdx fun i k => (i, k)).foldl (fun (t : Tab TMem) (e : Nat × Nat) =>
    Tab.set t {} e.2 { st := states.getD e.1 0, cap := caps.getD e.1 0, torque := torques.getD e.1 0, w := speeds.getD e.1 0,
                       bits := bits_.getD e.1 0, at_ := some s.now }) (s.tanOf p).mem
  if who = [] then s else s.setTan p { s.tanOf p with mem := m }

/-- The reply a member on this chip sends to a master on another (R176). -/
def State.sendReply (s : State) (p : Nat) : State :=
  match (s.members p)[(s.tanOf p).master.getD 0xFF]?, s.myPlace p with
  | some m, some k =>
    if m.node = s.node then s
    else
      let c := s.ctlOf p
      s.partSend p 1 m.node 4 (leBytes 1 m.part ++ leBytes 1 k ++ leBytes 1 (s.part p).st.code ++ leBytes 1 (c.limits % 256) ++ f32Bytes c.cap ++
        f32Bytes c.te ++ f32Bytes (s.speed p))
  | _, _ => s

/-! ### Master lost, handover (R178, R180) -/

/-- The members of a tandem that lie on this chip. -/
def State.localMembers (s : State) (p : Nat) : List Nat := ((s.members p).filter fun m => m.node = s.node).map Member.part

/-- Mastership is taken (R178 steps 1 to 3 and 5): the next epoch, the ramp from the measured speed, the integrator at the last
total, source 0 in speed mode at the last target. The members of this chip that the last message counts go on being counted. -/
def State.takeMaster (s : State) (p : Nat) : State :=
  let x := s.tanOf p
  let fresh := x.msgAt.isSome
  let total := if fresh then x.total else (s.ctlOf p).tRef
  let target := if fresh then x.target else (s.ctlOf p).sp
  let mem := ((s.members p).mapIdx fun k m => (k, m)).foldl (fun (t : Tab TMem) (e : Nat × Member) =>
    if e.2.node = s.node ∧ (x.active.getD []).contains e.1 then Tab.set t {} e.1 (s.memberNow e.2.part) else t) x.mem
  let s := s.setTan p { x with epoch := (x.epoch + 1) % 256, master := s.myPlace p, taking := false, yieldTo := none, lost := false, mem := mem }
  let m := s.motOf p
  let s := s.setMot p { m with source := 0, srcNew := none, moving := false, follow := none, vRef := 0, aRef := 0 }
  let s := (s.setCtl p { s.ctlOf p with mode := 0, sp := target, spNew := none, spAt := some s.now }).resumeAt p total
  (s.localMembers p).foldl (fun s q => s.inform (srcPart q) 0x0706 []) s

/-- A change of mastership due at this speed step. -/
def State.mastership (s : State) (p : Nat) : State :=
  let x := s.tanOf p
  if x.taking then s.takeMaster p
  else match x.yieldTo with
    | some k => s.setTan p { x with master := some k, yieldTo := none }
    | none => s

/-- A tandem without a master gets one when its first member reaches RUNNING (R175). -/
def State.firstMaster (s : State) (p : Nat) : State :=
  let x := s.tanOf p
  if s.inTandem p ∧ x.master.isNone then
    (s.localMembers p).foldl (fun s q => s.setTan q { s.tanOf q with master := s.myPlace p, epoch := 0 }) s
  else s

/-- The first active member in list order after a place, going on from the list's start. -/
def successorOf (n lost : Nat) (active : List Nat) : Option Nat :=
  ((List.range n).map fun i => (lost + 1 + i) % n).find? fun k => k ≠ lost && active.contains k

/-- The master is lost to this member by what the chip itself knows (R178). -/
def State.masterGone (s : State) (p : Nat) : Bool :=
  let x := s.tanOf p
  match (s.members p)[x.master.getD 0xFF]? with
  | none => false
  | some m =>
    if m.node = s.node then
      let st := (s.part m.part).st
      st = .tripped || st = .safeOff || st = .blocked || s.fencedPart m.part ||
        (match x.msgAt with
          | some u => decide (u + 400000 ≤ s.now)
          | none => false)
    else match x.msgAt with
      | some u => decide (u + 400000 ≤ s.now)
      | none => true

/-- The members of a partition's tandem find their master lost: the successor takes over at its next speed step, another
member's torque ramps to 0 (R178, R179). -/
def State.loseMaster (s : State) (p : Nat) (active : List Nat) : State :=
  let x := s.tanOf p
  match x.master with
  | none => s
  | some k =>
    if successorOf (s.members p).length k active = s.myPlace p then s.setTan p { x with taking := true }
    else s.setTan p { x with lost := true }

/-- `TANDEM_MESSAGE_RECEIVED` (R176): sender's place, epoch, speed step, share, yield torque, ceiling speed, ramp output and
target, and what the message says of the whole shaft. -/
def execTandemMessageReceived (t : Time) (p src epoch : Nat) (step : Time) (share ty nc ramp target : Q) (shaft : TandemShaft) (s : State) : Res :=
  within p 8 s fun s => s.live t fun s =>
    (s.takeTandem p { src := src, epoch := epoch, step := step, share := share, tY := ty, nC := nc, ramp := ramp, target := target,
                      total := shaft.total, active := shaft.active, delay := shaft.delay }).sendReply p

/-- `TANDEM_MASTER_LOST` (R178): the places of the members that are active, and whether the loss was announced (the master's
chip failed, or a master on another chip reports that it stopped). -/
def execTandemMasterLost (t : Time) (p : Nat) (active : List Nat) (announced : Bool) (s : State) : Res :=
  within p 8 s fun s => s.live t fun s =>
    if s.follows p ∧ (announced ∨ s.masterGone p) then s.loseMaster p active else s

/-! ### Descriptors -/

/-- The member entries of a payload: ratios in range, unused entries 0. -/
def tandemRange (d : Desc) : Bool :=
  (List.range 4).all fun k =>
    if k < d.u8 16 then
      d.u8 (22 + 8 * k) < 8 && decide (f32Near (5 / 100) ≤ d.f32 (24 + 8 * k) ∧ d.f32 (24 + 8 * k) ≤ 1)
    else true

/-- A member on another chip is held under a plant reservation (R175): one that this chip asked for and still holds, or the one under
which a member's chip holds the partition configured here, which chip and third chips this one takes at that chip's word (log entry 154). -/
def State.memberHeld (s : State) (p : Nat) (ms : List Member) (m : Member) : Bool :=
  m.node = s.node || (s.plant.reqs.any fun r => r.done && r.parts.any fun e => e.1 = m.node && e.2.1 = m.part && e.2.2) ||
    s.plant.holds.any fun h => h.part = p && ms.any fun x => x.node = h.node

/-- The effect of `TANDEM_CONFIG` (R175). -/
def tandemEffect (d : Desc) (s : State) : Reply :=
  let p := d.target
  let ms := membersOf d.payload
  if ¬ tandemRange d then Reply.no s 0x0003
  else if (p :: (ms.filter fun m => m.node = s.node).map Member.part).any fun q => s.inTandem q && decide ((s.stored 0x60 q 0).map (fun b => leNat b 2 2) ≠ some (d.u16 18)) then
    Reply.no s 0x070B
  else if (ms.filter fun m => m.node = s.node).any fun m => (s.part m.part).st ≠ .unconfigured && (s.part m.part).st ≠ .blocked then
    Reply.no s 0x0004
  else if ms.any fun m => !s.memberHeld p ms m then Reply.no s 0x0004
  else { st := { s with cfg := Tab.set s.cfg [] (cfgKey 0x61 p 0) [] }.setTan p {} }

/-- `TANDEM_CONFIG`. -/
def execTandemConfig (d : Desc) (s : State) : Res :=
  serveRes { motInfo 0x60 layTandem st01 true with conf := true } d none (tandemEffect d) s

/-- `TANDEM_RATIO` (R180). -/
def execTandemRatio (d : Desc) (s : State) : Res :=
  serveRes (motInfo 0x61 layRatio st15 true) d none (fun s => { st := s }) s

/-- `TANDEM_MASTER` (R180): the target becomes master at its next speed step. -/
def execTandemMaster (d : Desc) (s : State) : Res :=
  serveRes (motInfo 0x62 [] [.running, .braking] false) d none (fun s =>
    if ¬ s.inTandem d.target ∨ s.isMaster d.target then { st := s }
    else { st := s.setTan d.target { s.tanOf d.target with taking := true } }) s

end Sys2Proof.Machine
end

