-- ==== Sys2Proof/Machine/Loops.lean ====
section
/-!
DEFINITION. The loops of machine control (R97 to R117) as one current-loop step runs them: measurements, observers, torque
limits, conversion to current, current control, the supply side and the circulating current. Angles are in radians.
-/
namespace Sys2Proof.Machine
open Sys2Proof

/-- Period of the current-loop step and of the speed step, in seconds (R97). -/
def tsQ : Q := 1 / 50000
def hQ : Q := 1 / 5000

/-- Machine loops run: RUNNING and BRAKING, without short-circuit braking (R56, R206). -/
def State.machineRuns (s : State) (p : Nat) : Bool :=
  ((s.part p).st = .running || (s.part p).st = .braking) && (s.brkOf p).sc.isNone

/-! ### Measurements (R100) -/

/-- An arm's current after polarity. -/
def State.armI (s : State) (p a : Nat) : Q := s.polarity p a * Tab.get s.sd 0 (s.sdArm p a)
/-- Machine phase currents U, V, W. -/
def State.phaseI (s : State) (p : Nat) : List Q :=
  (List.range 3).map fun k => if isMmc (s.shape p) then s.armI p (2 * k) - s.armI p (2 * k + 1) else s.armI p (2 * k)
/-- Supply phase currents. -/
def State.supplyI (s : State) (p : Nat) : List Q := (List.range 3).map fun k => s.armI p (6 + 2 * k) - s.armI p (7 + 2 * k)
/-- Grid phase voltages (R100). -/
def State.gridV (s : State) (p : Nat) : List Q := (List.range 3).map fun k => Tab.get s.sd 0 (s.sdGrid p k)

/-- An arm current input is invalid by a relock (R435). -/
def State.relocking (s : State) (p : Nat) : Bool :=
  (s.armsOf p).any fun a => (Tab.get s.sdFlags 0 (s.sdArm p a)).testBit 1

/-- The angle of phase k of a frame at angle θ; `dir` is −1 where U-W-V is forward. -/
def phaseAngle (dir th : Q) (k : Nat) : Q := th - dir * 2 * Config.pi * (k : Q) / 3

/-- Phase quantities without their zero-sequence sum in the frame at θ, amplitude-invariant. -/
def park (dir th : Q) (x : List Q) : Q × Q :=
  let m := sumQ x / 3
  let at_ := fun (k : Nat) => x.getD k 0 - m
  (2 / 3 * sumQ ((List.range 3).map fun k => at_ k * Config.cos (phaseAngle dir th k)),
   -(2 / 3) * sumQ ((List.range 3).map fun k => at_ k * Config.sin (phaseAngle dir th k)))

/-- The inverse of park. -/
def unpark (dir th d q : Q) : List Q :=
  (List.range 3).map fun k => d * Config.cos (phaseAngle dir th k) - q * Config.sin (phaseAngle dir th k)

/-! ### Flux and torque -/

/-- The field current of a wound-field machine. -/
def State.fieldI (s : State) (p : Nat) : Q := if s.machine p = 4 then Tab.get s.sd 0 (s.excByte p 18) else 0

/-- The flux term ψ of R101. -/
def State.psi (s : State) (p : Nat) : Q :=
  if s.machine p = 1 then quot (s.lm p) (s.lr p) * (s.ctlOf p).psiR
  else if s.machine p = 4 then s.lm p * s.fieldI p
  else s.psiPm p

/-- Torque per ampere of i_q at a d-axis current (R106). -/
def State.torquePer (s : State) (p : Nat) (id : Q) : Q :=
  3 / 2 * s.polePairs p * (if s.machine p = 3 then s.psi p + (s.ld p - s.lq p) * id else s.psi p)

/-- The side's capability: the least of its arms (R79, R103). -/
def State.sideCap (s : State) (p : Nat) (arms : List Nat) : Q :=
  match arms.map fun a => s.capability p a with
  | [] => 0
  | x :: r => r.foldl minQ x

/-- Low-frequency mode applies (R92). -/
def State.lfMode (s : State) (p : Nat) : Bool :=
  isMmc (s.shape p) && decide (0 < s.circP p 32) && decide (absQ (s.ctlOf p).we < 2 * Config.pi * s.circP p 32)

/-- u_max of a side (R103). The low-frequency mode, which the machine side runs, lowers the machine side's alone (log entry 142). -/
def State.uMax (s : State) (p : Nat) (supply : Bool) : Q :=
  let v := s.vdc p
  let lin :=
    if isMmc (s.shape p) then
      minQ (s.sideCap p (if supply then [6, 7, 8, 9, 10, 11] else [0, 1, 2, 3, 4, 5]) - v / 2) (v / 2) -
        (if s.lfMode p ∧ ¬ supply then s.circP p 40 * s.vdcNom p else 0)
    else if s.shape p = 5 then s.modLimit p * v / Config.sqrt 3
    else s.sideCap p [0, 2, 4]
  s.uMargin p * lin

/-- `vlimit` (R103). -/
def vlimit (ud uq top : Q) : Q × Q :=
  if ud * ud + uq * uq ≤ top * top ∧ 0 ≤ top then (ud, uq)
  else if top < absQ ud then (signQ ud * top, 0)
  else (ud, signQ uq * Config.sqrt (top * top - ud * ud))

/-! ### Steps 1 and 2: measurements and observers -/

/-- The number of the current-loop step in hand, plus 1. -/
def State.stepNo (s : State) : Nat := s.now / 20000 + 1

/-- The partner partition's data of its previous step (R116): i_d, i_q and torque, of a fabric-paired one when new data has arrived; none
once it is in TRIPPED, SAFE_OFF or BLOCKED. -/
def State.takePartner (s : State) (p : Nat) (fresh : Bool) (pd pq pt : Q) : State :=
  let c := s.ctlOf p
  if s.winding p = 0 then s
  else
    let q := s.partner p
    let same := s.partnerNode p = 0xFFFF
    let st := (s.part q).st
    let gone := if same then st = .tripped || st = .safeOff || st = .blocked else c.parSt = 1 || c.parSt = 6 || c.parSt = 7
    if gone then s.setCtl p { c with parAge := 5 }
    else if same then
      let x := s.ctlOf q
      let stepped := decide (x.stepNo = s.stepNo)
      s.setCtl p { c with parD := if stepped then x.idPrev else x.id, parQ := if stepped then x.iqPrev else x.iq,
                          parT := if stepped then x.tePrev else x.te, parAge := 0, parLost := false }
    else if fresh then s.setCtl p { c with parD := pd, parQ := pq, parT := pt, parAge := 0, parLost := false }
    else s.setCtl p { c with parAge := holdAt 255 (c.parAge + 1) }

/-- Partner data is current (R116). -/
def State.parCurrent (s : State) (p : Nat) : Bool := s.winding p ≠ 0 && (s.ctlOf p).parAge < 5 && !(s.ctlOf p).parLost

/-- The frame's angle and electrical speed for the step: of an induction machine the rotor flux's, moved on at the speed with which the observer
last turned it (R101, log entry 146). -/
def State.frame (s : State) (p : Nat) : Q × Q :=
  let c := s.ctlOf p
  let x := s.fbOf p
  if x.restart = 2 ∧ s.machine p = 1 then (c.thetaE + x.searchDir * x.searchW * tsQ, x.searchDir * x.searchW)
  else if s.machine p = 1 ∧ x.st ≠ 3 then (c.thetaR + c.wR * tsQ, c.wR)
  else if x.st = 0 then (c.thetaE + c.we * tsQ, c.we)
  else if x.st = 3 then (s.elecAngle p, s.polePairs p * c.ramp)
  else (s.elecAngle p, s.polePairs p * s.speed p)

/-- Step 1 of R98: currents, angle, zero sequence, the open-loop angle and the mean of the speed. -/
def State.measure (s : State) (p : Nat) : State :=
  let x := s.fbOf p
  let s := if x.st = 3 then s.setFb p { x with olTh := x.olTh + s.polePairs p * (s.ctlOf p).ramp * tsQ } else s
  let f := s.frame p
  let c := s.ctlOf p
  let i := s.phaseI p
  let z := absQ (sumQ i)
  let dq := if s.relocking p then (c.predD, c.predQ) else park (s.forward p) f.1 i
  s.setCtl p { c with thetaE := f.1, we := f.2, id := dq.1, iq := dq.2, iz := if s.iMachMax p / 10 < z then c.iz + 1 else 0,
                      wSum := if s.speedValid p then c.wSum + s.speed p else c.wSum, wNum := if s.speedValid p then c.wNum + 1 else c.wNum,
                      iF := s.fieldI p, idPrev := c.id, iqPrev := c.iq, tePrev := c.te, stepNo := s.stepNo }

/-- The weight of the current model at an electrical frequency in Hz (R104). -/
def State.modelWeight (s : State) (p : Nat) : Q :=
  let f := absQ (s.ctlOf p).we / (2 * Config.pi)
  let b := s.obsP p 24
  clampQ 0 1 ((3 * b - f) / (2 * b))

/-- The mechanical speed of the current model: the feedback's, else the sensorless estimator's (R104). -/
def State.modelSpeed (s : State) (p : Nat) (est : Q) : Q := if (s.fbOf p).st = 1 ∨ (s.fbOf p).st = 4 then s.speed p else est

/-- The flux observers (R104). -/
def State.observe (s : State) (p : Nat) : State :=
  let c := s.ctlOf p
  let al := fun (d q : Q) => d * Config.cos c.thetaE - q * Config.sin c.thetaE
  let be := fun (d q : Q) => d * Config.sin c.thetaE + q * Config.cos c.thetaE
  let est := Config.estimator [(s.machine p : Q), s.rs p, s.ld p, s.lq p, s.psi p, c.thObs, s.polePairs p * c.wObs, c.psiAct, c.ud, c.uq, c.id, c.iq]
  let c := { c with thObs := est.1, wObs := est.2.1 / s.polePairs p, psiAct := est.2.2 }
  if s.machine p = 1 then
    let cm := Config.fluxCurrent [s.rr p, s.lr p, s.lm p, c.cmA, c.cmB, al c.id c.iq, be c.id c.iq, s.polePairs p * s.modelSpeed p c.wObs]
    let vm := Config.fluxVoltage [s.rs p, s.ld p, s.lr p, s.lm p, c.vmA, c.vmB, al c.ud c.uq, be c.ud c.uq, al c.id c.iq, be c.id c.iq]
    let k := s.modelWeight p
    let a := k * cm.1 + (1 - k) * vm.1
    let b := k * cm.2 + (1 - k) * vm.2
    let th := Config.atan2 b a
    s.setCtl p { c with cmA := cm.1, cmB := cm.2, vmA := vm.1, vmB := vm.2, psiA := a, psiB := b, psiR := Config.sqrt (a * a + b * b),
                        thetaR := th, wR := wrapPi (th - c.thetaR) / tsQ }
  else s.setCtl p c

/-- The electrical torque of both sets: the partner's is counted while its data is current, else this set's twice (R116). -/
def State.teTotal (s : State) (p : Nat) (te : Q) : Q :=
  if s.winding p = 0 then te else if s.parCurrent p then te + (s.ctlOf p).parT else 2 * te

/-- The load-torque observer (R105) with the torque of both sets (R116). -/
def State.loadObserver (s : State) (p : Nat) : State :=
  let c := s.ctlOf p
  let te := s.torquePer p c.id * c.iq
  let total := s.teTotal p te
  let w := s.speed p
  let ok := s.speedValid p
  let c := { c with te := te }
  let c :=
    if s.relocking p ∨ ¬ ok then { c with spdValid := ok }
    else if ¬ c.spdValid then { c with spdValid := true, tl := total, wHat := w }
    else
      let bw := s.obsP p 16
      let hat := c.wHat + tsQ * (total - c.tl - s.bVisc p * c.wHat) / s.jTotal p + tsQ * (2 * (8 / 10) * bw) * (w - c.wHat)
      { c with wHat := hat, tl := c.tl - tsQ * bw * bw * s.jTotal p * (w - hat) }
  let keep := nsOf (s.shockP p 20) + 40000
  s.setCtl p { c with tlHist := (s.now, c.tl) :: c.tlHist.filter fun e => decide (s.now < e.1 + keep) }

/-! ### Limits (R111 to R113) -/

/-- A limit of ranks 5 to 7 moved on by one step: a decrease at once, an increase over 50 ms (R113). -/
def Ramp.next (r : Ramp) (want : Q) : Ramp :=
  if want ≤ r.cur then { cur := want, goal := want, rate := 0 }
  else
    let r := if want = r.goal then r else { r with goal := want, rate := (want - r.cur) / (5 / 100) }
    { r with cur := minQ r.goal (r.cur + r.rate * tsQ) }

/-- The limits of ranks 5 to 7 follow `LIMITS`, the crash stop's values (R212) and the grants (R186). -/
def State.followLimits (s : State) (p : Nat) : State :=
  let c := s.ctlOf p
  let k := if s.inTandem p then s.shareFraction p else 1
  let g := Tab.get s.cons {} p
  let lim := match s.crashNow p with
    | some (_, _, t, pw) => (t, t, pw, pw)
    | none => (s.limP p 16, s.limP p 20, s.limP p 24, s.limP p 28)
  s.setCtl p { c with tMot := c.tMot.next lim.1, tGen := c.tGen.next lim.2.1, pMot := c.pMot.next lim.2.2.1, pGen := c.pGen.next lim.2.2.2,
                      gMot := c.gMot.next (k * g.mot), gGen := c.gGen.next (k * g.regen) }

/-- The direction in which a torque counts as motoring: that of the speed, at standstill its own. -/
def motoringSign (w tq : Q) : Q := if w = 0 then (if tq < 0 then -1 else 1) else signQ w

/-- A torque kept to `mot` in the motoring and `gen` in the regenerating direction. -/
def boundTorque (w mot gen tq : Q) : Q :=
  let sg := motoringSign w tq
  sg * clampQ (-gen) mot (sg * tq)

/-- A power limit as a torque (R112). -/
def State.powerTorque (s : State) (p : Nat) (pw : Q) : Q := quot pw (maxQ (absQ (s.speed p)) (2 / 100 * s.nMax p))

/-- The converter's current limit (R112, R50). -/
def State.iConv (s : State) (p : Nat) : Q :=
  if isMmc (s.shape p) then 2 * (s.iRated p * (1 - s.circP p 28) - quot (absQ (s.ctlOf p).pMach) (3 * s.vdc p))
  else if s.shape p = 5 then
    s.iRated p * (([0, 2, 4].map fun a => quot (s.availCount p a : Q) (s.armCells p a : Q)).foldl minQ 1)
  else s.iRated p

/-- i_lim of rank 2. -/
def State.iLim (s : State) (p : Nat) : Q := maxQ 0 ((Tab.get s.therm {} p).kth * minQ (s.iMachMax p) (s.iConv p))

/-- The greatest |i_q| that the voltage ellipse at `id_min` leaves a PM machine (MTPV, R107); none where there is no bound, and with
`fw_enable` = 0 there is none (log entry 143). -/
def State.iqMtpv (s : State) (p : Nat) : Option Q :=
  let c := s.ctlOf p
  if (s.machine p = 2 ∨ s.machine p = 3) ∧ c.we ≠ 0 ∧ s.fieldP p 16 = 1 then
    let u := s.uMax p false / c.we
    let d := s.ld p * s.fieldP p 28 + s.psiPm p
    let rest := u * u - d * d
    some (if rest ≤ 0 then 0 else Config.sqrt rest / s.lq p)
  else none

/-- The greatest |torque| that ranks 2 and 3 leave at the d-axis reference in force. -/
def State.torque23 (s : State) (p : Nat) : Q :=
  let c := s.ctlOf p
  let i := s.iLim p
  let d := clampQ (-i) i c.idRef
  let top := Config.sqrt (i * i - d * d)
  let q := match s.iqMtpv p with
    | some m => minQ m top
    | none => top
  absQ (s.torquePer p d) * q

/-- The field-weakening term moves on (R107). -/
def State.weaken (s : State) (p : Nat) : State :=
  let c := s.ctlOf p
  let top := if s.machine p = 2 ∨ s.machine p = 3 then -(s.fieldP p 28) else 8 / 10
  if s.fieldP p 16 = 1 then
    s.setCtl p { c with fw := clampQ 0 top (c.fw + s.fieldP p 24 * tsQ * (c.uRaw - s.fieldP p 20 * s.uMax p false)) }
  else s.setCtl p { c with fw := 0 }

/-- Rank 9 for a tandem member's share: the ceiling of the last message, or its own as master, and its fraction of the load
(R176). -/
def State.ceilShare (s : State) (p : Nat) (tq : Q) : Q × Bool :=
  let w := s.speed p
  let sg := signQ w
  let nC := if s.isMaster p then s.ceilSpeed p else (s.tanOf p).nC
  let top := s.shareFraction p * sg * (s.ctlOf p).tl + s.shockP p 52 * s.jTotal p * (nC - absQ w)
  if s.shockP p 17 = 1 ∧ sg ≠ 0 ∧ top < sg * tq then (sg * top, true) else (tq, false)

/-- The power that ride-through's sag phase leaves for motoring (R214). -/
def State.sagPower (s : State) (p : Nat) : Option Q :=
  let c := s.ctlOf p
  if (s.brkOf p).rt = 1 then some (maxQ 0 (3 / 2 * c.ugd * s.supP p 36 - s.supP p 44 * c.sid * c.sid)) else none

/-- Ranks 9 to 4 of Table 4 on a torque reference, from the lowest rank upward, with the bits of the limits that cut and
whether rank 4 does. In buffering only ranks 2 to 4 and 7 act (R214). -/
def State.limitTorque (s : State) (p : Nat) (tq : Q) : Q × Nat × Bool :=
  let c := s.ctlOf p
  let w := s.speed p
  let buffering := decide (2 ≤ (s.brkOf p).rt)
  let openLoop := decide ((s.fbOf p).st = 3)
  let r9 := if buffering || openLoop then (tq, false) else if s.inTandem p then s.ceilShare p tq else s.ceilLimit p tq
  let t8 := if buffering || openLoop || s.inTandem p || !s.speedSource p then r9.1 else s.yieldLimit p r9.1
  let t7 := boundTorque w c.tMot.cur c.tGen.cur t8
  let t6 := if buffering then t7 else boundTorque w (s.powerTorque p c.pMot.cur) (s.powerTorque p c.pGen.cur) t7
  let consumer := s.given 0x63 p 0
  let local_ := ((s.stored 0x63 p 0).map fun b => byteAt b 4).getD 0 = 1
  let top : Option Q := match s.sagPower p with
    | some v => some (if consumer then minQ v c.gMot.cur else v)
    | none => if consumer then some c.gMot.cur else none
  let far := absQ t6
  let m5 := match top with
    | some v => s.powerTorque p v
    | none => far
  let g5 := if consumer ∧ ¬ local_ then s.powerTorque p c.gGen.cur else far
  let t5 := if buffering then t6 else boundTorque w m5 g5 t6
  let k := s.ceilK p
  let t4 := boundTorque w (absQ t5) (k * s.torque23 p) t5
  let bit := fun (n : Nat) (b : Bool) => if b then 2 ^ n else 0
  (t4, bit 7 r9.2 + bit 6 (t8 ≠ r9.1) + bit 5 (t7 ≠ t8) + bit 4 (t6 ≠ t7) + bit 3 (t5 ≠ t6) + bit 2 (decide (k < 1)),
   decide (t4 ≠ t5) && decide (k < 1))

/-! ### Torque to current (R106) -/

/-- The MTPA pair by two fixed-point iterations from the previous i_q (R106). -/
def State.mtpa (s : State) (p : Nat) (tq : Q) : Q :=
  let dl := s.lq p - s.ld p
  let ps := s.psiPm p
  let dOf := fun (q : Q) => ps / (2 * dl) - Config.sqrt (ps * ps / (4 * dl * dl) + q * q)
  let qOf := fun (d : Q) => quot tq (3 / 2 * s.polePairs p * (ps + (s.ld p - s.lq p) * d))
  let d1 := dOf (s.ctlOf p).iqRef
  dOf (qOf d1)

/-- The d-axis current reference (R106, R107). -/
def State.idRefOf (s : State) (p : Nat) (tq : Q) : Q :=
  let c := s.ctlOf p
  if s.machine p = 1 then quot (s.fieldP p 32 * (1 - c.fw)) (s.lm p)
  else if s.machine p = 4 then 0
  else if s.machine p = 3 ∧ s.fieldP p 17 = 1 then minQ (s.mtpa p tq) (-c.fw)
  else -c.fw

/-- Ranks 3 and 2 and the current references for a torque: i_d, i_q, the torque left and the bits (R106, R107). -/
def State.currentRefs (s : State) (p : Nat) (tq : Q) : Q × Q × Q × Nat :=
  let c := s.ctlOf p
  let sat := s.fieldP p 16 = 0 ∧ c.clip
  let tq := if sat then tq * clampQ 0 1 (Config.satTorque [tq, c.uRaw, s.uMax p false, c.we]) else tq
  let i := s.iLim p
  let d := s.idRefOf p tq
  let per := s.torquePer p d
  let q := if tq = 0 then 0 else quot tq per
  let v := match s.iqMtpv p with
    | some m => if m < absQ q then (signQ q * m, true) else (q, false)
    | none => (q, false)
  let over_ := decide (i * i < d * d + v.1 * v.1)
  let d2 := if over_ then clampQ (-i) i d else d
  let q2 := if over_ then signQ v.1 * minQ (absQ v.1) (Config.sqrt (i * i - d2 * d2)) else v.1
  let left := if v.2 ∨ over_ then s.torquePer p d2 * q2 else tq
  (d2, q2, left, (if over_ then 1 else 0) + (if v.2 ∨ sat then 2 else 0))

/-! ### Current control (R101, R102) -/

/-- The decoupled PI controller's or the deadbeat controller's voltage before its limit. -/
def State.voltages (s : State) (p : Nat) : Q × Q :=
  let c := s.ctlOf p
  let par := s.parCurrent p
  let pd := if par then c.parD else 0
  let pq := if par then c.parQ else 0
  let ps := s.psi p
  if s.deadbeat p then
    let g := s.curP p 24
    let ffD := -(c.we * s.lq p * c.predQ) - c.we * s.mDq p * pq
    let ffQ := c.we * (s.ld p * c.predD + ps) + c.we * s.mDq p * pd
    (s.rs p * c.predD + s.ld p * g * (c.idRef - c.predD) / tsQ + ffD, s.rs p * c.predQ + s.lq p * g * (c.iqRef - c.predQ) / tsQ + ffQ)
  else
    let bw := s.curP p 20
    (bw * s.ld p * (c.idRef - c.id) + c.xd - c.we * s.lq p * c.iq - c.we * s.mDq p * pq,
     bw * s.lq p * (c.iqRef - c.iq) + c.xq + c.we * (s.ld p * c.id + ps) + c.we * s.mDq p * pd)

/-- The predicted current at the start of the next step under the voltage in use (R102). -/
def State.predict (s : State) (p : Nat) (ud uq : Q) : Q × Q :=
  let c := s.ctlOf p
  (c.id + tsQ * (ud - s.rs p * c.id + c.we * s.lq p * c.iq) / s.ld p,
   c.iq + tsQ * (uq - s.rs p * c.iq - c.we * (s.ld p * c.id + s.psi p)) / s.lq p)

/-- Step 3 of R98 on the machine side. -/
def State.controlStep (s : State) (p : Nat) : State :=
  let c0 := s.ctlOf p
  let held := s.relocking p
  let pr := s.predict p c0.ud c0.uq
  let c := { c0 with errD := if held then c0.errD else c0.errD + 1 / 10 * (c0.id - c0.predD),
                     errQ := if held then c0.errQ else c0.errQ + 1 / 10 * (c0.iq - c0.predQ), predD := pr.1, predQ := pr.2 }
  let s := s.setCtl p c
  let u := s.voltages p
  let top := s.uMax p false
  let v := vlimit u.1 u.2 top
  let w : Q × Q := if s.deadbeat p then (v.1 + s.rs p * c.errD, v.2 + s.rs p * c.errQ) else v
  let eD := c.idRef - c.id
  let eQ := c.iqRef - c.iq
  let arms := (s.modOf p).clipped
  let cutD := arms || decide (0 < (u.1 - v.1) * eD)
  let cutQ := arms || decide (0 < (u.2 - v.2) * eQ)
  let ki := s.curP p 20 * s.rs p
  let mag := Config.sqrt (w.1 * w.1 + w.2 * w.2)
  let clip := arms || decide (u ≠ v)
  s.setCtl p { c with ud := w.1, uq := w.2, xd := if cutD || held then c.xd else c.xd + ki * tsQ * eD,
                      xq := if cutQ || held then c.xq else c.xq + ki * tsQ * eQ, uRaw := Config.sqrt (u.1 * u.1 + u.2 * u.2),
                      uUse := quot mag top, clip := clip, satSince := if clip then some (c.satSince.getD s.now) else none,
                      satAlarm := clip && c.satAlarm }

/-- The machine's phase voltage references for a time after the start of the cycle in hand (s). -/
def State.machineE (s : State) (p : Nat) (dt : Q) : List Q :=
  let c := s.ctlOf p
  unpark (s.forward p) (c.thetaE + c.we * dt) c.ud c.uq

/-! ### Supply side (R114, R115) -/

/-- The PLL of an MMC-B2B partition moves on; lock is lost at a step that breaks its conditions (R115). -/
def State.pllStep (s : State) (p : Nat) : State :=
  let c := s.ctlOf p
  let th := c.pllTh + c.pllW * tsQ
  let g := park 1 th (s.gridV p)
  let int := c.pllInt + g.2 * tsQ
  let w := 2 * Config.pi * s.supP p 20 + Config.pllKp (s.supP p 24) * g.2 + Config.pllKi (s.supP p 24) * int
  let f := w / (2 * Config.pi)
  let low := !s.gridAbove p (s.calveP 40)
  let good := decide (absQ g.2 < 5 / 100 * g.1) && decide (95 / 100 * s.supP p 20 ≤ f) && decide (f ≤ 105 / 100 * s.supP p 20)
  let s := s.setCtl p { c with ugd := g.1, ugq := g.2, pllInt := int, pllW := w, pllTh := th, locked := c.locked && good,
                               pllBefore := c.pllW, lockBefore := c.locked, gridLowAt := if low then some (c.gridLowAt.getD s.now) else none,
                               pllGood := if good then some (c.pllGood.getD s.now) else none }
  let c := s.ctlOf p
  let bad := !c.locked && s.gridAbove p (1 / 2)
  s.setCtl p { c with pllBad := if bad then some (c.pllBad.getD s.now) else none }

/-- `vdc_ref` in force (R114). -/
def State.vdcRef (s : State) (p : Nat) : Q := ((s.ctlOf p).vdcRef).getD (s.vdcNom p)

/-- The energy loop of the DC link: its output without the feed-forward terms (R114). -/
def State.energyLoop (s : State) (p : Nat) : State × Q :=
  let c := s.ctlOf p
  let ramp := slewQ c.vdcRamp (s.vdcRef p) (s.supP p 32 * tsQ)
  let v := s.vdc p
  let e := ramp * ramp - v * v
  let int := if s.relocking p then c.vdcInt else c.vdcInt + e * tsQ
  (s.setCtl p { c with vdcRamp := ramp, vdcInt := int }, Config.vdcKp (s.supP p 28) * e + Config.vdcKi (s.supP p 28) * int)

/-- The supply side modulates: MMC-B2B in READY, RUNNING and BRAKING, not blocked by ride-through (R56, R213, R214). -/
def State.supplyRuns (s : State) (p : Nat) : Bool :=
  s.shape p = 2 && !(s.ctlOf p).sBlocked && ((s.part p).st = .ready || (s.part p).st = .running || (s.part p).st = .braking)

/-- Step 3 of R98 on the supply side: the current reference from the DC-link loop's output, and the current controller. -/
def State.supplyStep (s : State) (p : Nat) (loop : Q) : State :=
  let c := s.ctlOf p
  let i := park 1 c.pllTh (s.supplyI p)
  let top := s.supP p 36
  let g := Tab.get s.cons {} p
  let want := quot (loop + c.pMach + s.supP p 44 * c.sid * c.sid) (3 / 2 * c.ugd)
  let low := if s.given 0x63 p 0 then maxQ (-top) (-(quot g.regen (3 / 2 * c.ugd))) else -top
  let dRef := clampQ low top want
  let qTop := Config.sqrt (top * top - dRef * dRef)
  let qRef := clampQ (-qTop) qTop (-(quot c.qRef (3 / 2 * c.ugd)))
  let bw := s.curP p 28
  let l := s.supP p 40
  let w := c.pllW
  let eD := dRef - i.1
  let eQ := qRef - i.2
  let mag := Config.sqrt (c.ugd * c.ugd + c.ugq * c.ugq)
  let u := (bw * l * eD + c.sxd - w * l * i.2, bw * l * eQ + c.sxq + w * l * i.1 + mag)
  let v := vlimit u.1 u.2 (s.uMax p true)
  let arms := (s.modOf p).clipped
  let held := s.relocking p
  let ki := Config.supplyKi bw
  s.setCtl p { c with sid := i.1, siq := i.2, sud := v.1, suq := v.2,
                      sxd := if arms || held || decide (0 < (u.1 - v.1) * eD) then c.sxd else c.sxd + ki * tsQ * eD,
                      sxq := if arms || held || decide (0 < (u.2 - v.2) * eQ) then c.sxq else c.sxq + ki * tsQ * eQ,
                      pSup := 3 / 2 * (c.ugd * i.1 + c.ugq * i.2) }

/-- The supply's phase voltage references. -/
def State.supplyE (s : State) (p : Nat) (dt : Q) : List Q :=
  let c := s.ctlOf p
  unpark 1 (c.pllTh + c.pllW * dt) c.sud c.suq

/-! ### Exciter (R108) -/

/-- The field current reference. -/
def State.fieldRef (s : State) (p : Nat) : Q :=
  clampQ 0 (s.excP p 20) (quot (s.fieldP p 32 * (1 - (s.ctlOf p).fw)) (s.lm p))

/-- The field current controller runs in RUNNING and BRAKING and while an `ENABLE` waits for it. -/
def State.excite (s : State) (p : Nat) : State :=
  let c := s.ctlOf p
  if s.machine p ≠ 4 then s
  else if ¬ s.machineRuns p ∧ c.enWait.isNone then s.setCtl p { c with ifRef := 0, xF := 0, uF := 0, excSince := none }
  else
    let ref := s.fieldRef p
    let i := s.fieldI p
    let bw := s.excP p 24
    let x := c.xF + Config.fieldKi bw * tsQ * (ref - i)
    let low := decide (i < ref / 2) && s.machineRuns p
    s.setCtl p { c with ifRef := ref, xF := x, uF := Config.fieldKp bw * (ref - i) + x, excSince := if low then some (c.excSince.getD s.now) else none }

/-! ### Circulating current and arm references (R78, R91, R92) -/

/-- The energy of an arm's available cells. -/
def State.armEnergy (s : State) (p a : Nat) : Q :=
  sumQ (((s.cellsOf p a).filter fun e => e.2.st = .available).map fun e => s.cCell p a * e.2.vcap * e.2.vcap / 2)

/-- The common-mode voltage of low-frequency mode at device time t. -/
def State.vcmAt (s : State) (p : Nat) (t : Time) : Q :=
  if s.lfMode p then s.circP p 40 * s.vdcNom p * Config.sin (2 * Config.pi * s.circP p 36 * secOf t) else 0

/-- The arm references of one side at its first arm code: upper and lower of each phase (R78). -/
def armRefs (vdc vcm : Q) (e circ : List Q) : List Q :=
  ((List.range 3).map fun k =>
    [vdc / 2 - e.getD k 0 - vcm - circ.getD k 0, vdc / 2 + e.getD k 0 + vcm - circ.getD k 0]).flatten

/-- A new period of `f_cm` begins: the amplitude of each phase's component is the one whose exchange 2 v_cm i between the upper and lower arms
equals, over a period, the ripple energy (v_dc/2) i − 2 e i_dc of the period before (R92, log entry 141). -/
def State.lfPeriod (s : State) (p : Nat) : State :=
  let m := s.modOf p
  let no := (s.circP p 36 * secOf s.now).floor.toNat
  let amp := fun (k : Nat) => quot (Tab.get m.lfSum 0 k * s.circP p 36) (s.circP p 40 * s.vdcNom p)
  if m.lfNo = no + 1 then s
  else
    let old := decide (m.lfNo = no)
    s.setMod p { m with lfNo := no + 1, lfSum := [],
                        lfAmp := if old then (List.range 3).foldl (fun l k => Tab.set l 0 k (amp k)) [] else [] }

/-- The circulating-current loop of one side for one step: v_circ of its three phases (R91). -/
def State.circStep (s : State) (p base : Nat) (e i : List Q) (we : Q) : State × List Q :=
  let v := s.vdc p
  let top := s.circP p 28 * s.iRated p
  let eMag := Config.sqrt (vecSq (e.getD 0 0) (e.getD 1 0) (e.getD 2 0))
  let up := fun (k : Nat) => s.armEnergy p (base + 2 * k)
  let lo := fun (k : Nat) => s.armEnergy p (base + 2 * k + 1)
  let mean := sumQ ((List.range 3).map fun k => up k + lo k) / 3
  let lf := s.lfMode p && base = 0
  let s := if lf then s.lfPeriod p else s
  let one := fun (s : State) (k : Nat) =>
    let m := s.modOf p
    let key := base / 2 + k
    let dc := quot (e.getD k 0 * i.getD k 0) v
    let bal := s.circP p 44 * (up k + lo k - mean) + s.circP p 44 * (up k - lo k) * quot (e.getD k 0) eMag
    let lfI := if lf then clampQ (-top) top (Tab.get m.lfAmp 0 k) * Config.sin (2 * Config.pi * s.circP p 36 * secOf s.now) else 0
    let m := if lf then { m with lfSum := Tab.set m.lfSum 0 k (Tab.get m.lfSum 0 k + (v / 2 * i.getD k 0 - 2 * e.getD k 0 * dc) * tsQ) } else m
    let ref := clampQ (dc - top) (dc + top) (dc + bal + lfI)
    let err := ref - (s.armI p (base + 2 * k) + s.armI p (base + 2 * k + 1)) / 2
    let int := Tab.get m.circInt 0 key
    let res := Config.resonant [Tab.get m.circRes 0 key, Tab.get m.circRes2 0 key, err, 2 * we, s.circP p 24]
    let raw := s.circP p 16 * err + int + res.1
    let refs := armRefs v (if lf then s.vcmAt p s.now else 0) [e.getD k 0] [raw]
    let hi := decide (s.clipRef p (base + 2 * k) (refs.getD 0 0) < refs.getD 0 0) || decide (s.clipRef p (base + 2 * k + 1) (refs.getD 1 0) < refs.getD 1 0)
    let low := decide (refs.getD 0 0 < s.clipRef p (base + 2 * k) (refs.getD 0 0)) || decide (refs.getD 1 0 < s.clipRef p (base + 2 * k + 1) (refs.getD 1 0))
    let int := if (hi ∧ err < 0) ∨ (low ∧ 0 < err) then int else int + s.circP p 20 * err * tsQ
    (s.setMod p { m with circInt := Tab.set m.circInt 0 key int, circRes := Tab.set m.circRes 0 key res.1, circRes2 := Tab.set m.circRes2 0 key res.2 },
     s.circP p 16 * err + int + res.1)
  (List.range 3).foldl (fun (r : State × List Q) k => let x := one r.1 k; (x.1, r.2 ++ [x.2])) (s, [])

end Sys2Proof.Machine
end

