-- ==== Sys2Proof/Machine/Capture.lean ====
section
/-!
DEFINITION. Moraine's active buffers (R376, R377): the samples of a partition's signal groups, the pages of capture memory, and
what a buffer keeps. The telemetry streams take the same groups (R443). The format of a group within its bytes is the model's own:
binary32 values, capacitor voltages in 0.1 V, one entry for each arm code 0 to 11.
-/
namespace Sys2Proof.Machine
open Sys2Proof

/-- Bytes of the groups of a mask (R376). -/
def State.sampleSize (s : State) (p mask arm : Nat) : Nat :=
  (([48, 4, 12, 16, 16, 48, 2 * s.armCells p arm, 8].mapIdx fun k n => if mask.testBit k then n else 0)).foldl (· + ·) 0

/-- One group of a sample (R376). -/
def State.sampleGroup (s : State) (p arm k : Nat) : List Byte :=
  let c := s.ctlOf p
  let m := s.modOf p
  if k = 0 then ((List.range 12).map fun a => f32Bytes (s.armI p a)).flatten
  else if k = 1 then f32Bytes (Tab.get s.sd 0 (s.sdVdc p))
  else if k = 2 then ((s.gridV p).map f32Bytes).flatten
  else if k = 3 then f32Bytes c.id ++ f32Bytes c.iq ++ f32Bytes c.ud ++ f32Bytes c.uq
  else if k = 4 then f32Bytes (s.speed p) ++ f32Bytes c.ramp ++ f32Bytes c.tRef ++ f32Bytes c.tl
  else if k = 5 then
    let r := (m.refs.getLast?.map fun e => e.2).getD []
    ((List.range 12).map fun a => f32Bytes (r.getD a 0)).flatten
  else if k = 6 then ((s.cellsOf p arm).map fun e => leBytes 2 (ucodeOf 16 (1/10) e.2.vcap)).flatten
  else leBytes 2 c.limits ++ leBytes 1 (s.part p).st.code ++ leBytes 1 (if c.clip then 1 else 0) ++ zeros 4

/-- A sample of the groups of a mask, in bit order. -/
def State.sample (s : State) (p mask arm : Nat) : List Byte := ((maskList 8 mask).map fun k => s.sampleGroup p arm k).flatten

/-- Samples in one second of a rate of `MORAINE_CONFIG`: the cell cycle, the current-loop step, the speed step (R376). -/
def State.sampleRate (s : State) (p rate : Nat) : Q := if rate = 0 then 1000000000 / (s.cycleNs p : Q) else if rate = 1 then 50000 else 5000

/-- Samples that a buffer holds. -/
def MorBuf.depth (s : State) (p : Nat) (b : MorBuf) : Nat := (s.sampleRate p b.rate * (b.pre + b.post)).ceil.toNat

/-- Pages of 64 KiB of a buffer (R376). -/
def MorBuf.need (s : State) (p : Nat) (b : MorBuf) : Nat := (s.sampleSize p b.mask b.cellArm * b.depth s p + 65535) / 65536

/-- Capture pages in all: 16,320 KiB (R376). -/
def capturePages : Nat := 255

def State.bufOf (s : State) (p : Nat) : Option MorBuf := Tab.get s.stor.bufs none p
def State.setBuf (s : State) (p : Nat) (b : MorBuf) : State := { s with stor := { s.stor with bufs := Tab.set s.stor.bufs none p (some b) } }

/-- Pages not in use. -/
def State.freePages (s : State) : Nat :=
  capturePages - (((s.stor.captures.filter fun c => c.inMemory).map fun c => c.pages).foldl (· + ·) 0 +
    ((s.stor.bufs.filterMap fun e => e.2).map fun b => b.pages).foldl (· + ·) 0)

/-- The capture whose pages are reused first: flushed, not protected, of the lowest priority, then the oldest (R377). -/
def State.reusable (s : State) : Option Capture :=
  (sortBy (fun c => c.priority * 2 ^ 64 + c.t) (s.stor.captures.filter fun c => c.inMemory && c.flushed && !c.prot)).head?

/-- Pages for a partition's buffer: free ones, else those of captures that may go (R377). The fuel bounds the captures given up. -/
def State.takePages (s : State) (p n : Nat) : Nat → State
  | 0 => s
  | k + 1 =>
    if n ≤ s.freePages then
      match s.bufOf p with
      | some b => s.setBuf p { b with pages := n }
      | none => s
    else match s.reusable with
      | some c => ({ s with stor := { s.stor with captures := s.stor.captures.filter fun x => x ≠ c } }).takePages p n k
      | none => s

/-- Nothing is recorded for want of pages: a WARNING once per second (R377). -/
def State.dropSample (s : State) (p : Nat) : State :=
  let due := match Tab.get s.stor.droppedAt none p with
    | some u => decide (u + 1000000000 ≤ s.now)
    | none => true
  if due then ({ s with stor := { s.stor with droppedAt := Tab.set s.stor.droppedAt none p (some s.now) } }).warn (srcPart p) 0x0C0C [] else s

/-- A step of a rate records a sample in the partition's active buffer (R376). -/
def State.record (s : State) (p rate : Nat) : State :=
  match s.bufOf p with
  | none => s
  | some b =>
    if b.rate ≠ rate then s
    else
      let s := if b.pages = 0 then s.takePages p (b.need s p) 256 else s
      match s.bufOf p with
      | none => s
      | some b =>
        if b.pages = 0 then s.dropSample p
        else
          let l := b.samples ++ [(s.now, s.sample p b.mask b.cellArm)]
          s.setBuf p { b with samples := l.drop (l.length - b.depth s p) }

end Sys2Proof.Machine
end

