-- ==== Sys2Proof/Machine/Control.lean ====
section
/-!
DEFINITION. One current-loop step and one speed step of a partition (R97 to R119, R127, R163 to R168), migrations (R21, R118),
how a partition takes up a turning shaft, and the events of machine control.
-/
namespace Sys2Proof.Machine
open Sys2Proof

/-! ### Conditions watched in every current-loop step -/

/-- A time since which a condition stands: kept while it does. -/
def since? (cond : Bool) (old : Option Time) (now : Time) : Option Time := if cond then some (old.getD now) else none

/-- Ride-through: its start, its phases and the blocking of the supply side (R213, R214). -/
def State.rideWatch (s : State) (p : Nat) : State :=
  let b := s.brkOf p
  let b2b := s.shape p = 2
  let sag := if b2b then !s.gridAbove p (1 / 2) else decide (s.vdc p < s.rideP p 28 * s.vdcNom p)
  let deep := !s.gridAbove p (s.rideP p 20) || !(s.ctlOf p).locked
  let s :=
    if b.rt = 0 then
      (if (s.part p).st = .running ∧ ¬ b.rampDown ∧ s.rtEnable p ∧ sag then s.startRide p (if b2b ∧ ¬ deep then 1 else 2) else s)
    else if b.rt = 1 then
      (if ¬ sag then s.endRide p 0 else if deep then s.setBrk p { b with rt := 2, rtAt := some s.now } else s)
    else
      let b := { b with retSince := since? (decide ((s.rideP p 28 + 5 / 100) * s.vdcNom p ≤ s.vdc p)) b.retSince s.now }
      let s := s.setBrk p b
      if b.rt = 2 ∧ s.supplyBack p then s.setBrk p { b with rt := 3 }
      else if 3 ≤ b.rt ∧ (if b2b then deep else sag) then s.setBrk p { b with rt := 2 }
      else s
  if ¬ b2b then s
  else
    let c := s.ctlOf p
    let b := s.brkOf p
    let blocked := decide (b.rt = 2) || (decide ((s.part p).st = .braking) && !s.gridAbove p (s.rideP p 20)) ||
      (c.sBlocked && decide (b.rt = 0) && decide ((s.part p).st ≠ .braking) && !c.locked)
    if c.sBlocked ∧ ¬ blocked then s.setCtl p { c with sBlocked := false, vdcRamp := s.vdc p, vdcInt := 0, sxd := 0, sxq := 0 }
    else s.setCtl p { c with sBlocked := blocked }

/-- The triggers of short-circuit braking (R205), standstill (R207, R209), slow rope (R210), and the conditions of Table 6. -/
def State.stepWatch (s : State) (p : Nat) : State :=
  let c := s.ctlOf p
  let b := s.brkOf p
  let w := absQ (s.speed p)
  let high := decide (s.brkP p 36 * s.vdcNom p < s.vdc p)
  let lostGrip := c.clip && decide (c.te * s.speed p < 0) && decide (s.uMax p false < absQ (c.we * s.psi p))
  let still := s.speedValid p && decide (w < s.stillThr p)
  let s := s.setBrk p { b with vScAt := since? high b.vScAt s.now, clipAt := since? lostGrip b.clipAt s.now,
                               scDenied := b.scDenied && (high || lostGrip), still := since? still b.still s.now,
                               lowSince := since? (b.rampDown && s.currentLow p) b.lowSince s.now,
                               qrSlow := since? (decide (absQ (s.ropeV p) < 5 / 100)) b.qrSlow s.now }
  let x := s.fbOf p
  let s := s.setFb p { x with stillAt := since? still x.stillAt s.now, noneAt := since? (decide (x.st = 0)) x.noneAt s.now }
  let c := s.ctlOf p
  let apart := s.speedValid p && decide (s.nMax p / 10 < absQ (c.wHat - s.speed p))
  let s := s.setCtl p { c with divSince := since? apart c.divSince s.now,
                               ffOff := match c.ffOff with
                                 | some u => if u + 1000000000 ≤ s.now then none else some u
                                 | none => none }
  ((s.ss1Watch p).countChopper p).brakeOverload p

/-- A tandem master's yield torque counts from the total it divides (R131, R176). -/
def State.shockMaster (s : State) (p : Nat) : State :=
  let was := (s.motOf p).yst
  let s := s.shockStep p
  let m := s.motOf p
  if s.isMaster p ∧ was ≠ 1 ∧ m.yst = 1 then
    s.setMot p { m with tY := absQ (s.tanOf p).total + s.shockP p 28 * s.tRated p }
  else s

/-- A trip of machine control: a momentary source (Table 6 of R117), recorded in every state (R228). -/
def State.machineTrip (s : State) (p cause : Nat) (value : Q) : State := s.assertSource p cause 0xFFFF value 0xFFFF

/-- Overspeed (R117): it asserts in an energised state, elsewhere when it begins. -/
def State.watchSpeed (s : State) (p : Nat) : State :=
  let fast := decide (s.overspeedTrip p < absQ (s.speed p))
  let begins := fast && ((s.part p).st.energised || !(s.ctlOf p).overAt)
  let s := s.setCtl p { s.ctlOf p with overAt := fast }
  if begins then s.machineTrip p 0x0302 (s.speed p) else s

/-! ### One current-loop step -/

/-- The torque reference before the limits. -/
def State.baseTorque (s : State) (p : Nat) (loop : Q) : State × Q :=
  let c := s.ctlOf p
  let b := s.brkOf p
  let c := match c.tNext with
    | some (u, x) => if u ≤ s.now then { c with tSpd := x, tNext := none } else c
    | none => c
  let c := if b.rampDown ∨ b.estop = 3 ∨ (s.tanOf p).lost then { c with tSpd := slewQ c.tSpd 0 (s.spdP p 28 * tsQ), tNext := none } else c
  let flux : Bool := match c.fluxUntil with
    | some u => decide (s.now < u)
    | none => false
  (s.setCtl p c,
   if 2 ≤ b.rt then quot (-loop) (s.speed p) else if b.qr ∨ flux then 0 else c.tSpd)

/-- The torque that ranks 2 to 7 leave this partition in the direction of a torque (R176). -/
def State.capNow (s : State) (p : Nat) (tq : Q) : Q :=
  let w := s.speed p
  let big : Q := 1000000000
  let sg := if motoringSign w tq * tq < 0 then -1 else 1
  let c := s.ctlOf p
  let x := sg * motoringSign w tq * big
  let a := boundTorque w c.tMot.cur c.tGen.cur x
  let a := boundTorque w (s.powerTorque p c.pMot.cur) (s.powerTorque p c.pGen.cur) a
  let consumer := s.given 0x63 p 0
  let a := if consumer then boundTorque w (s.powerTorque p c.gMot.cur) (s.powerTorque p c.gGen.cur) a else a
  minQ (absQ (boundTorque w (absQ a) (s.ceilK p * s.torque23 p) a)) (s.torque23 p)

/-- The imposed current of OPEN_LOOP: it ramps to `ol_current` within 20 ms of entry (R163). -/
def State.openLoopI (s : State) (p : Nat) : Q :=
  let x := s.fbOf p
  let goal := s.slP p 28 * s.iMachMax p
  let rest : Q := 20 / 1000 - secOf (s.now - x.olAt.getD s.now)
  if rest ≤ tsQ then goal else x.olI + (goal - x.olI) * tsQ / rest

/-- The current that ranks 2 to 7 leave the imposed vector in OPEN_LOOP, and their bits (R163): a torque or power limit bounds the current by the
torque that the vector can give. -/
def State.openLoopRefs (s : State) (p : Nat) : Q × Nat :=
  let c := s.ctlOf p
  let w := s.speed p
  let per := absQ (s.torquePer p 0)
  let regen := decide (c.te * w < 0)
  let cut := fun (i t : Q) => if per = 0 then i else minQ i (t / per)
  let i0 := s.openLoopI p
  let i7 := cut i0 (if regen then c.tGen.cur else c.tMot.cur)
  let i6 := cut i7 (s.powerTorque p (if regen then c.pGen.cur else c.pMot.cur))
  let i5 := if s.given 0x63 p 0 then cut i6 (s.powerTorque p (if regen then c.gGen.cur else c.gMot.cur)) else i6
  let i4 := if regen then minQ i5 (s.ceilK p * s.iLim p) else i5
  let sat := s.fieldP p 16 = 0 ∧ c.clip
  let i3 := if sat then i4 * clampQ 0 1 (Config.satTorque [i4 * per, c.uRaw, s.uMax p false, c.we]) else i4
  let i2 := minQ (s.iLim p) i3
  let bit := fun (n : Nat) (b : Bool) => if b then 2 ^ n else 0
  (maxQ 0 i2, bit 5 (i7 ≠ i0) + bit 4 (i6 ≠ i7) + bit 3 (i5 ≠ i6) + bit 2 (decide (s.ceilK p < 1)) + bit 1 sat + bit 0 (i2 ≠ i3))

/-- The speed target of sources 0 and 1, before the ramp (R109, R110, R128, R166). -/
def State.speedTarget (s : State) (p : Nat) : State × Q :=
  let c := s.ctlOf p
  match s.crashNow p with
  | some (w, _, _, _) => (s, w)
  | none =>
    if (s.motOf p).source = 1 then (s.readLever p).curveOut p
    else (s, if c.spTimedOut then 0 else c.sp)

/-- The first speed target of a start: a setpoint that waits for the next speed step counts (R166, R168). -/
def State.firstTarget (s : State) (p : Nat) : Q :=
  let s := match (s.ctlOf p).spNew with
    | some (mode, v) => s.setCtl p { s.ctlOf p with mode := mode, sp := v }
    | none => s
  if (s.motOf p).source < 2 ∧ s.speedSource p then (s.speedTarget p).2 else 0

/-- The reverse check (R166): the shaft turns against the first speed target. -/
def State.reverseCheck (s : State) (p : Nat) : State :=
  let w := s.speed p
  let target := s.firstTarget p
  if w * target < 0 ∧ s.rsP p 20 * s.nMax p < absQ w then
    let s := s.inform (srcPart p) 0x0505 []
    if s.rsP p 16 = 1 then s.setFb p { s.fbOf p with stopFirst := true, restart := 3, stillAt := none } else s
  else s

/-- The current search moves on by one step: where the imposed power changes sign, if only through 0, the speed is found (R168). -/
def State.searchStep (s : State) (p : Nat) : State :=
  let x := s.fbOf p
  let c := s.ctlOf p
  let pw := c.ud * c.id + c.uq * c.iq
  let top := s.polePairs p * s.nMax p * (105 / 100)
  if x.searchP * pw < 0 then
    let s := s.setFb p { x with restart := 4, searchP := 0 }
    let w := x.searchDir * x.searchW / s.polePairs p
    let s := s.setCtl p { s.ctlOf p with wObs := w, ramp := w, wHat := w, spdValid := true,
                                         fluxUntil := some (s.now + nsOf (quot (3 * s.lr p) (s.rr p))) }
    (s.fbEnter p 2).reverseCheck p
  else
    let nx := x.searchW - s.rsP p 36 * s.polePairs p * s.nMax p * tsQ
    if nx ≤ 0 then
      if x.searchLeft = 0 then
        let s := s.setFb p { x with restart := 4, searchP := 0 }
        let s := (s.setCtl p { s.ctlOf p with ramp := 0 }).inform (srcPart p) 0x0508 []
        s.fbEnter p 3
      else s.setFb p { x with searchW := top, searchDir := -x.searchDir, searchLeft := 0, searchP := 0 }
    else s.setFb p { x with searchW := nx, searchP := if pw = 0 then x.searchP else pw }

/-- The machine side of an active step: limits, current references, controllers. -/
def State.machineStep (s : State) (p : Nat) (loop : Q) : State :=
  let r := s.baseTorque p loop
  let s := r.1
  let x := s.fbOf p
  let searching := decide (x.restart = 2) && decide (s.machine p = 1)
  let ol := s.openLoopRefs p
  let lim := if x.st = 3 ∧ ¬ searching then (0, ol.2, false) else s.limitTorque p r.2
  let refs :=
    if searching then (s.rsP p 32 * s.iMachMax p, 0, 0, 0)
    else if x.st = 3 then (ol.1, 0, 0, 0)
    else s.currentRefs p lim.1
  let s := if x.st = 3 then s.setFb p { x with olI := s.openLoopI p } else s
  let c := s.ctlOf p
  let tan := if s.isMaster p ∧ 0 < s.unfit p (s.tanOf p).total then s.tightestBits p else 0
  let bits_ := (lim.2.1 ||| refs.2.2.2) ||| (c.limits &&& 0x100) ||| tan
  let s := s.setCtl p { c with idRef := refs.1, iqRef := refs.2.1, tRef := refs.2.2.1, limits := bits_, cap := s.capNow p r.2 }
  let s := s.setBrk p { s.brkOf p with ceilCut := lim.2.2 }
  let s := s.setMot p { s.motOf p with ceil := bits_.testBit 7 }
  let s := (s.weaken p).controlStep p
  let e := s.machineE p (secOf (s.cycleNs p) / 2)
  let i := s.phaseI p
  let s := s.setCtl p { s.ctlOf p with pMach := sumQ ((e.zip i).map fun z => z.1 * z.2) }
  let s := if searching then s.searchStep p else s
  if s.machine p = 1 ∧ x.st = 0 ∧ ¬ searching ∧ s.fbMode p ≠ 2 then s.windDown p else s

/-- The signed drive of an exciter channel, and the exciter partition, follow the main partition (R108, R291): the exciter partition is BLOCKED
while the main one is not energised, and RUNNING while that one runs or waits for the field current. -/
def State.driveExciter (s : State) (p : Nat) : State :=
  let s := s.excite p
  if s.machine p ≠ 4 then s
  else
    let on := s.machineRuns p || (s.ctlOf p).enWait.isSome
    let n := s.excByte p 17
    if s.excByte p 16 = 1 then
      let x := s.auxOf n
      if x.st = 9 then s
      else if on then s.setAux n { x with st := 5, duty := clampQ (-1) 1 (s.ctlOf p).uF }
      else if x.st = 5 then s.auxHalt n else s
    else if ¬ (s.part p).st.energised ∧ (s.part n).st.energised then (s.quiet n).setPState n .blocked
    else if on ∧ (s.part n).st = .ready then s.setPState n .running
    else if ¬ on ∧ (s.part n).st = .running then s.toReady n
    else s

/-- The partition that a TL exciter serves. -/
def State.excites (s : State) (q : Nat) : Option Nat :=
  (List.range 8).find? fun p => s.given 0x3A p 0 && s.excByte p 16 = 2 && s.excByte p 17 = q

/-- The power that a consumer's means over the allocator round are taken of (R182). -/
def State.countPower (s : State) (p : Nat) : State :=
  let c := s.consOf p
  let w := (s.ctlOf p).pMach
  if s.isConsumer p then
    s.setCons p { c with motSum := c.motSum + maxQ 0 w, regSum := c.regSum + maxQ 0 (-w), steps := c.steps + 1 }
  else s

/-- Steps 1 to 3 of R98. -/
def State.loopStep (s : State) (p : Nat) (fresh : Bool) (pd pq pt : Q) : State :=
  let s := ((s.takePartner p fresh pd pq pt).fbFollow p).fbCross p
  let s := ((s.measure p).followDrum p).followLimits p
  let s := if s.shape p = 2 ∧ s.given 0x37 p 0 then s.pllStep p else s
  let s := s.stepWatch p
  let s := (s.watchSpeed p).rideWatch p
  let act := s.machineRuns p
  let looped := s.supplyRuns p || decide (2 ≤ (s.brkOf p).rt)
  let r := if looped then s.energyLoop p
    else (s.setCtl p { s.ctlOf p with vdcRamp := if act then slewQ (s.ctlOf p).vdcRamp (s.vdcRef p) (s.supP p 32 * tsQ) else s.vdc p }, 0)
  let s := r.1
  let s := if act then ((((s.observe p).loadObserver p).shockMaster p).machineStep p r.2)
    else s.setCtl p { s.ctlOf p with te := 0, pMach := 0, cap := 0 }
  let s := if s.supplyRuns p then s.supplyStep p r.2 else s
  (s.driveExciter p).countPower p

/-- Step 4 of R98: the reference sets of the next m cycles, twelve arm values each, by arm code. -/
def State.referenceSets (s : State) (p c m : Nat) : State × List (Nat × List Q) :=
  let T := secOf (s.cycleNs p)
  let sh := s.shape p
  let act := s.machineRuns p
  let mid := s.machineE p (T / 2)
  let a := if isMmc sh ∧ act then s.circStep p 0 mid (s.phaseI p) (s.ctlOf p).we else (s, [0, 0, 0])
  let b := if a.1.supplyRuns p then a.1.circStep p 6 (a.1.supplyE p (T / 2)) (a.1.supplyI p) (a.1.ctlOf p).pllW else (a.1, [0, 0, 0])
  let s := b.1
  let v := s.vdc p
  let set := fun (j : Nat) =>
    let dt := (j : Q) * T - T / 2
    let at_ := (c + j) * s.cycleNs p
    let e := s.machineE p dt
    if isMmc sh then
      (if act then armRefs v (s.vcmAt p at_) e a.2 else [0, 0, 0, 0, 0, 0]) ++
        (if s.supplyRuns p then armRefs v 0 (s.supplyE p dt) b.2 else [0, 0, 0, 0, 0, 0])
    else
      let x := match s.excites p with
        | some q => [(s.ctlOf q).uF / 2, -((s.ctlOf q).uF / 2), 0]
        | none => if act then e else [0, 0, 0]
      [x.getD 0 0, 0, x.getD 1 0, 0, x.getD 2 0, 0]
  (s, (List.range m).map fun k => (c + k + 1, set (k + 1)))

/-- t_place in ns (R76). -/
def placeNs (T : Nat) : Nat := if T = 5000 then 250 else 500

/-- The margin of a published step is kept (R21, R427). -/
def State.noteMargin (s : State) (p : Nat) (margin : Nat) : State :=
  let x := s.part p
  let least := max (s.regField 0x0810 0 11 0) (placeNs (s.cycleNs p))
  let n := if margin < least then x.lowMargin + 1 else 0
  let s := s.setPart p { x with lowMargin := n, migrating := x.migrating || (decide (16 ≤ n) && !x.core1 && !x.core1Failed) }
  let a := s.avs
  let ms := s.now / 1000000
  let a := if ms = a.msNow then a else { a with msNow := ms, leastMs := none, lastMs := a.leastMs.getD (0, 0) }
  let lower := match a.leastMs with
    | some (m, _) => decide (margin < m)
    | none => true
  { s with avs := { a with least := some (min margin (a.least.getD margin)), leastMs := if lower then some (margin, p) else a.leastMs } }

/-- The descriptors that wait for the first step under a new epoch are completed (R119). -/
def State.migrationDone (s : State) (p status : Nat) : State :=
  let x := s.part p
  x.migWait.foldl (fun s (d : Nat × Nat × Nat) => s.finish d.1 d.2.1 d.2.2 status []) (s.setPart p { x with migWait := [] })

/-- The reference sets are published at the present device time: in time, late (R76), or an overrun whose sets are discarded
(R33, R98). -/
def State.publish (s : State) (p : Nat) : State :=
  let T := s.cycleNs p
  let m := 20000 / T
  let now' := s.cycleNo p
  let c := now' - now' % m
  let o := s.now % T
  let w := downWindowStart T
  let r := s.referenceSets p c m
  let s := r.1
  let s := s.setMod p { s.modOf p with clipped := false }
  if now' ≠ c ∨ w ≤ o then s
  else
    let late := decide (w - placeNs T < o)
    let sets := if late then r.2.filter fun e => e.1 ≠ c + 1 else r.2
    let x := s.modOf p
    let keep := (x.refs.filter fun e => e.1 ≤ c + 1).drop ((x.refs.filter fun e => e.1 ≤ c + 1).length - 2)
    let s := s.setMod p { x with refs := keep.filter (fun e => !(sets.any fun z => z.1 = e.1)) ++ sets,
                                 lateRefs := if late then holdAt 0xFFFF (x.lateRefs + 1) else x.lateRefs }
    let s := s.setPart p { s.part p with published := true }
    (s.noteMargin p (w - o)).migrationDone p 0

/-- The step data a fabric-paired partner takes, with the partition's state: after every step that runs, and once when the state becomes
TRIPPED, SAFE_OFF or BLOCKED (R116). -/
def State.sendPartner (s : State) (p : Nat) : State :=
  let n := s.partnerNode p
  let c := s.ctlOf p
  let st := (s.part p).st.code
  if s.winding p = 0 ∨ n = 0xFFFF ∨ ¬ (s.machineRuns p ∨ ((st = 1 ∨ st = 6 ∨ st = 7) ∧ st ≠ c.parSent)) then s
  else (s.setCtl p { c with parSent := st }).partSend p 1 n 5
    (leBytes 1 (s.partner p) ++ leBytes 1 st ++ zeros 2 ++ f32Bytes c.id ++ f32Bytes c.iq ++ f32Bytes c.te)

/-- `CURRENT_LOOP_STEP` (R98): the step publishes at device time t; of a fabric-paired partner, whether new data has arrived and
its i_d, i_q and torque. -/
def execCurrentLoopStep (t : Time) (p : Nat) (fresh : Bool) (pd pq pt : Q) (s : State) : Res :=
  within p 8 s fun s => s.live t fun s =>
    if (s.part p).st = .unconfigured ∨ s.bondPartner p ∨ s.shape p = 6 ∨ (s.fencedPart p ∧ (s.part p).st ≠ .tripped) then s
    else (((((s.stepBoundary p).loopStep p fresh pd pq pt).publish p).sendPartner p).sendMirror p).record p 1

/-! ### Speed step (R99, R109, R110, R127) -/

/-- A stored change of source takes effect (R126); one to the source in force changes nothing. -/
def State.applySource (s : State) (p : Nat) : State :=
  let m := s.motOf p
  match m.srcNew with
  | none => s
  | some k =>
    if k = m.source then s.setMot p { m with srcNew := none }
    else
    let tq := (s.ctlOf p).tRef
    let s := s.setMot p { m with source := k, srcNew := none, moving := false, follow := none, curveOn := m.curveOn && decide (k ≠ 1),
                                 fRamp := if k = 3 then quot (tq * 2 * s.gear p) (s.drumNow p) else m.fRamp,
                                 fInt := if k = 3 then 0 else m.fInt, vlimHit := false }
    let s := if k = 2 ∨ k = 4 then s.genTrack p else s
    let s := s.setCtl p { s.ctlOf p with tRamp := tq }
    s.bumpless p

/-- A stored setpoint takes effect, but not in BRAKING (R110); a change of mode is bumpless (R109). -/
def State.applySetpoint (s : State) (p : Nat) : State :=
  let c := s.ctlOf p
  match c.spNew with
  | none => s
  | some (mode, v) =>
    if (s.part p).st = .braking then s
    else
    let s := s.setCtl p { c with mode := mode, sp := v, spNew := none, tRamp := if mode = 1 ∧ c.mode = 0 then c.tRef else c.tRamp }
    if mode = 0 ∧ c.mode = 1 then s.bumpless p else s

/-- The ramp of R109 for one speed step: `up` while |reference| grows, `down` while it shrinks; a step that would pass 0 ends at 0 (log
entry 144). -/
def rampSpeed (cur target up down : Q) : Q :=
  let h := hQ
  if cur * target < 0 then slewQ cur 0 (down * h)
  else if absQ target < absQ cur then slewQ cur target (down * h)
  else slewQ cur target (up * h)

/-- The partition stands at speed 0 by its brakes: a release under way, or a fault latched on a brake channel (R208, R275). -/
def State.brakeHold (s : State) (p : Nat) : Bool :=
  (s.brkOf p).relWait || (s.brkOf p).relAt.isSome || s.brakeFaulted p

/-- The speed reference of a ramped source, with hard limits (R127 steps 1 to 3). -/
def State.rampRef (s : State) (p : Nat) (target up down : Q) : State × Q :=
  let c := s.ctlOf p
  let r := rampSpeed c.ramp target up down
  let h := s.hardClamp p r
  (s.setCtl p { c with ramp := h, rampCut := decide (r ≠ target) }, h)

/-- The rope's deceleration of an emergency stop under `j_max` (R209). -/
def State.ropeStop (s : State) (p : Nat) : State × Q :=
  let m := s.motOf p
  let a := slewQ m.aRef (clampQ (-(s.emP p 24)) (s.emP p 24) (-m.vRef / hQ)) (s.plimP p 28 * hQ)
  let v := m.vRef + a * hQ
  let v := if v * m.vRef ≤ 0 then 0 else v
  let v := s.vclamp p (s.payout p) v
  let w := s.hardClamp p (s.motorW p v)
  ((s.setMot p { m with aRef := if v = 0 then 0 else a, vRef := v }).setCtl p { s.ctlOf p with ramp := w }, w)

/-- The motor speed reference of a winch profile, with heave under source 4 (R127, R137, R139, R142). -/
def State.ropeRef (s : State) (p : Nat) : State × Q :=
  let s := if (s.motOf p).moving ∧ ¬ (s.motOf p).calibrated then s.profileStop p else s
  let s := if (s.motOf p).yst = 1 then s else s.genTick p
  let s := if (s.motOf p).source = 4 then s.heaveStep p else s
  let m := s.motOf p
  let heave := decide (m.source = 4)
  let l := s.vlimits p
  let pr := if heave then clampQ l.1 l.2 (m.pRef + m.hOff) else m.pRef
  let vr := if heave then m.vRef + m.hV else m.vRef
  let v := s.vclamp p (s.payout p) (vr + s.drumP p 32 * (pr - s.payout p))
  let w := s.hardClamp p (s.motorW p v)
  (s.setCtl p { s.ctlOf p with ramp := w }, w)

/-- Rendering or recovering has stopped at a virtual limit (R139). -/
def State.vlimitReached (s : State) (p : Nat) : State :=
  let m := s.motOf p
  let l := s.vlimits p
  let hit := decide (l.2 - s.vlimP p 28 ≤ s.payout p) || decide (s.payout p ≤ l.1 + s.vlimP p 28)
  let s := s.setMot p { m with vlimHit := hit }
  if hit ∧ ¬ m.vlimHit then s.inform (srcPart p) 0x040C [] else s

/-- Rank 10 on a speed reference, with its bit, which the speed ramp sets too (R111). -/
def State.rank10 (s : State) (p : Nat) (w : Q) : State × Q :=
  let r := clampQ (-(s.limP p 36)) (s.limP p 32) w
  let c := s.ctlOf p
  (s.setCtl p { c with limits := setBit c.limits 8 (decide (r ≠ w) || c.rampCut) }, r)

/-- The speed PI with the load-torque feed-forward (R105, R109); the integrator holds while its output lies beyond an active limit
(the worked example of chapter 4). -/
def State.speedPi (s : State) (p : Nat) (ref : Q) : State × Q :=
  let c := s.ctlOf p
  let kp := s.jTotal p * s.spdP p 16
  let e := ref - c.wMean
  let held := decide (c.limits % 256 ≠ 0) && decide (0 < (c.tSpd - c.tRef) * e)
  let i := if held then c.spdInt else c.spdInt + kp * s.spdP p 16 / 4 * e * hQ
  (s.setCtl p { c with spdInt := i }, kp * e + i + s.ltoFf p)

/-- The speed loop as the limit of a torque reference (R109, rank 10): towards an active hard limit it holds speed 0 (R140). -/
def State.torqueBySpeed (s : State) (p : Nat) (tq : Q) : State × Q :=
  let c := s.ctlOf p
  let kp := s.jTotal p * s.spdP p 16
  let top := kp * (s.hardClamp p (s.limP p 32) - c.wMean) + s.ltoFf p
  let low := kp * (s.hardClamp p (-(s.limP p 36)) - c.wMean) + s.ltoFf p
  let r := minQ (maxQ tq low) top
  (s.setCtl p { c with limits := setBit c.limits 8 (decide (r ≠ tq)) }, r)

/-- Yield and recovery at a speed step (R132). -/
def State.yieldTrack (s : State) (p : Nat) : State :=
  let m := s.motOf p
  let c := s.ctlOf p
  let w := c.wMean
  if m.yst = 1 then
    let s := s.setMot p { m with hold := if absQ w < absQ m.lastW then 0 else m.hold + 200000, lastW := w }
    let s := if m.source = 2 ∨ m.source = 4 then s.genYield p else s
    s.setCtl p { c with ramp := w, spdInt := c.tRef - s.ltoFf p }
  else s.setMot p { m with lastW := w }

/-- Rank 4 cuts: a ramp that has run ahead in the decelerating direction goes back to the measured speed (R199). -/
def State.ceilTrack (s : State) (p : Nat) : State :=
  let c := s.ctlOf p
  let m := s.motOf p
  if (s.brkOf p).ceilCut ∧ (absQ c.ramp < absQ c.wMean ∨ c.ramp * c.wMean < 0) then
    let s := if (s.part p).st = .braking then s.setMot p { m with vRef := s.ropeV p, aRef := 0 }
      else if m.source = 2 ∨ m.source = 4 then s.genYield p else s
    s.setCtl p { c with ramp := c.wMean, spdInt := c.tRef - s.ltoFf p }
  else s

/-- A recovery ends when the ramp reaches its target (R132). -/
def State.recovered (s : State) (p : Nat) (target : Q) : State :=
  let m := s.motOf p
  if m.yst = 2 ∧ m.source < 2 ∧ (s.ctlOf p).ramp = target then s.setMot p { m with yst := 0 } else s

/-- The crash stop is done within 1 % of `n_max` of its target (R212). -/
def State.crashDone (s : State) (p : Nat) : State :=
  match s.crashNow p with
  | some (w, _) =>
    if absQ ((s.ctlOf p).wMean - w) < s.nMax p / 100 then (s.endCrash p).inform (srcPart p) 0x0807 [] else s
  | none => s

/-- The ramp's rates, while |reference| grows and while it shrinks: those of the stopping action, the crash stop, the recovery, or
`SPEED_CONFIG` (R109, R132, R209, R212, R219). -/
def State.speedRates (s : State) (p : Nat) : Q × Q :=
  let b := s.brkOf p
  if (s.part p).st = .braking then
    let r := if b.ss1.isSome then s.emP p 48 else s.emP p 20
    (r, r)
  else match s.crashNow p with
    | some (_, r, _, _) => (r, r)
    | none => (if (s.motOf p).yst = 2 then s.shockP p 40 else s.spdP p 20, s.spdP p 24)

/-- What the ramp runs to: 0 in BRAKING, in the hold of R166, and where the source has no speed of its own. -/
def State.speedGoal (s : State) (p : Nat) : State × Q :=
  if (s.part p).st = .braking ∨ (s.fbOf p).stopFirst ∨ (2 ≤ (s.motOf p).source ∧ (s.crashNow p).isNone) then (s, 0) else s.speedTarget p

/-- The speed reference by PI, after rank 10. -/
def State.bySpeed (s : State) (p : Nat) (ref : Q) : State × Q :=
  let r := s.rank10 p ref
  r.1.speedPi p r.2

/-- The torque reference of RUNNING (R127). -/
def State.runningTorque (s : State) (p : Nat) : State × Q :=
  let m := s.motOf p
  let c := s.ctlOf p
  let b := s.brkOf p
  if s.brakeHold p then ((s.setCtl p { c with ramp := 0 }).bySpeed p 0)
  else if m.source = 3 ∧ ¬ m.calibrated ∧ ¬ s.renderNow p ∧ (s.crashNow p).isNone then
    let down := absQ (s.motorW p (s.plimP p 24))
    let r := s.rampRef p 0 down down
    r.1.bySpeed p r.2
  else if s.renderNow p ∨ (m.source = 3 ∧ (s.crashNow p).isNone) then
    let s := s.setCtl p { c with ramp := c.wMean, spdInt := c.tRef - s.ltoFf p }
    let r := s.tensionStep p
    (r.1.vlimitReached p).torqueBySpeed p r.2
  else if (m.source = 2 ∨ m.source = 4) ∧ (s.crashNow p).isNone then
    let r := s.ropeRef p
    r.1.bySpeed p r.2
  else if (s.crashNow p).isNone ∧ ((m.source = 0 ∧ c.mode = 1) ∨ (m.source = 1 ∧ s.curveByte p 16 = 1)) then
    let g := if m.source = 1 then (s.readLever p).curveOut p else (s, c.sp)
    let s := g.1
    let t := slewQ (s.ctlOf p).tRamp g.2 (s.spdP p 28 * hQ)
    (s.setCtl p { s.ctlOf p with tRamp := t }).torqueBySpeed p t
  else
    let g := s.speedGoal p
    let rates := g.1.speedRates p
    let target := if m.yst = 1 then (g.1.ctlOf p).ramp else g.2
    let r := g.1.rampRef p target rates.1 rates.2
    (r.1.recovered p target).bySpeed p r.2

/-- The torque reference of BRAKING (R209, R210, R219). -/
def State.brakingTorque (s : State) (p : Nat) : State × Q :=
  let b := s.brkOf p
  if b.qr then (s, 0)
  else if b.estop = 2 then ((s.setCtl p { s.ctlOf p with ramp := 0 }).bySpeed p 0)
  else if b.ss1.isNone ∧ 2 ≤ (s.motOf p).source then
    let r := s.ropeStop p
    r.1.bySpeed p r.2
  else
    let rates := s.speedRates p
    let r := s.rampRef p 0 rates.1 rates.2
    r.1.bySpeed p r.2

/-- OPEN_LOOP: the ramp alone, under rank 10; the brakes' hold and the stopping actions act on it as on the speed loop (R163, R208, R209). -/
def State.openLoopRamp (s : State) (p : Nat) : State :=
  let r := if s.brakeHold p ∨ (s.brkOf p).estop = 2 then (s, 0)
    else
      let g := s.speedGoal p
      let rates := g.1.speedRates p
      g.1.rampRef p g.2 rates.1 rates.2
  let v := r.1.rank10 p r.2
  v.1.setCtl p { v.1.ctlOf p with ramp := v.2 }

/-- A total torque handed to the current-loop steps: alone from B + 20 µs, as master divided and sent (R99, R176). -/
def State.handTorque (s : State) (p : Nat) (tq : Q) : State :=
  let at_ := s.now - s.now % 200000 + 20000
  if ¬ s.inTandem p then s.setCtl p { s.ctlOf p with tNext := some (at_, tq) }
  else
    let a := s.ceilLimit p tq
    let total := if s.speedSource p then s.yieldLimit p a.1 else a.1
    let shares := s.divide p total
    let k := (s.myPlace p).getD 0
    let own := ((shares.find? fun e => e.1 = k).map fun e => e.2).getD 0
    let c := s.ctlOf p
    let m := s.motOf p
    let x := s.tanOf p
    let s := s.setTan p { x with total := total, share := own, ramp := c.ramp, target := c.sp }
    let s := s.setCtl p { s.ctlOf p with tNext := some (at_, own) }
    s.sendTandem p shares { src := k, epoch := x.epoch, step := at_ - 20000, share := own, tY := if m.yst = 1 then m.tY else 0,
                            nC := s.ceilSpeed p, ramp := c.ramp, target := (s.speedTarget p).2, total := total,
                            active := s.activePlaces p, delay := s.rideP p 36 }

/-- The mean speed of the 200 µs before the step (R99). -/
def State.meanSpeed (s : State) (p : Nat) : State :=
  let c := s.ctlOf p
  s.setCtl p { c with wMean := if c.wNum = 0 then (if s.speedValid p then s.speed p else c.wMean) else c.wSum / (c.wNum : Q), wSum := 0, wNum := 0 }

/-- A direction to which `LIMIT_CONFIG` names no input any more has no active limit (R169). -/
def State.dropLimits (s : State) (p : Nat) : State :=
  let x := s.fbOf p
  s.setFb p { x with limits := maskOf ((maskList 2 x.limits).filter fun k => s.limByte p (16 + k) 0xFF ≠ 0xFF) }

/-- One speed step. Without a valid speed the torque reference stands (R161). -/
def State.speedStep (s : State) (p : Nat) : State :=
  let s := ((((s.settle [0x34, 0x56] p).dropLimits p).meanSpeed p).applySource p).applySetpoint p
  let s := (s.setCtl p { s.ctlOf p with rampCut := false }).mastership p
  let st := (s.part p).st
  let s := if st = .running then s.crashDone p else s
  let b := s.brkOf p
  if ¬ (st = .running ∨ st = .braking) ∨ b.sc.isSome ∨ ¬ s.leads p then s
  else if 2 ≤ b.rt then s.setCtl p { s.ctlOf p with ramp := (s.ctlOf p).wMean, tNext := none }
  else if b.rampDown ∨ b.estop = 3 ∨ (s.fbOf p).restart = 2 then s.setCtl p { s.ctlOf p with tNext := none }
  else if ¬ s.speedValid p then s
  else if (s.fbOf p).st = 3 then s.openLoopRamp p
  else
    let s := (s.yieldTrack p).ceilTrack p
    let r := if st = .running then s.runningTorque p else s.brakingTorque p
    r.1.handTorque p r.2

/-- `SPEED_STEP` (R99): of a tandem's members on other chips, the replies that have arrived: places, caps, torques, speeds, state
codes and limit bits. -/
def execSpeedStep (t : Time) (p : Nat) (who : List Nat) (caps torques speeds : List Q) (states limits : List Nat) (s : State) : Res :=
  within p 8 s fun s => s.live t fun s =>
    if (s.part p).st = .unconfigured ∨ s.bondPartner p ∨ s.shape p = 6 then s
    else (((s.takeReplies p who caps torques speeds states limits).speedStep p).gearStep p).record p 2

/-! ### Taking up the shaft (R164 to R168) -/

/-- Catching (R165): the integrators at the back-EMF, the current references from 0, the ramp from the measured speed; an
induction machine builds its flux first. -/
def State.catchShaft (s : State) (p : Nat) : State :=
  let w := s.speed p
  let we := s.polePairs p * w
  let c := s.ctlOf p
  let s := s.setCtl p { c with ramp := w, spdInt := 0, xd := 0, xq := if s.synchronous p then we * s.psi p else 0, idRef := 0, iqRef := 0,
                               spdValid := false, predD := 0, predQ := 0, tRamp := 0, wHat := w, thetaE := s.elecAngle p, we := we,
                               fluxUntil := if s.machine p = 1 then some (s.now + nsOf (quot (3 * s.lr p) (s.rr p))) else none }
  let s := s.setFb p { s.fbOf p with restart := 4 }
  if s.inTandem p ∧ ¬ s.isMaster p then s else s.reverseCheck p

/-- The partition enters RUNNING and its shaft is taken up (R57, R110, R164, R175, R208, R216). In a tandem the master decides: another member
takes its set up at once and follows the torque split, with no search and no reverse check of its own (R164). -/
def State.enterRunning (s : State) (p : Nat) : State :=
  let s := ((s.clearCarry p).setPState p .running).firstMaster p
  let c := s.ctlOf p
  let s := s.setCtl p { c with spAt := some s.now, spTimedOut := false, enWait := none }
  let s := s.setBrk p { s.brkOf p with relWait := s.brakeChans p ≠ [], relAt := none }
  let s := if s.limp p ≠ 0 then s.inform (srcPart p) 0x080A [] else s
  let s := if (s.motOf p).source = 2 ∨ (s.motOf p).source = 4 then s.genTrack p else s
  if s.shape p = 6 then s
  else
    let x := s.fbOf p
    let sensor := x.st = 1 || (x.st = 4 && s.machine p = 1)
    if s.machine p = 1 ∧ ¬ sensor ∧ (¬ s.inTandem p ∨ s.isMaster p) then
      s.setFb p { x with restart := 2, searchW := s.polePairs p * s.nMax p * (105 / 100),
                         searchDir := if s.firstTarget p < 0 then -1 else 1, searchLeft := 1, searchP := 0 }
    else s.catchShaft p

/-- A synchronous machine without a valid angle needs zero-voltage pulses before it runs (R164, R167). -/
def State.needsPulses (s : State) (p : Nat) : Bool := s.shape p ≠ 6 && s.synchronous p && (s.fbOf p).st ≠ 1

/-- The partition runs, or begins its pulses, and the `ENABLE` that waits completes when it runs. -/
def State.begin (s : State) (p : Nat) : State :=
  if s.needsPulses p then s.setFb p { s.fbOf p with restart := 2, zvFirst := none, zvAt := some s.now }
  else
    let w := (s.ctlOf p).enWait
    let s := s.enterRunning p
    match w with
    | some (n, series, seq, _) => s.finish n series seq 0 []
    | none => s

/-- `ZERO_VOLTAGE_PULSE_END` (R167): the phase currents at the end of a pulse, which lasts `zv_time` or ends early at half of `i_mach_max`. -/
def execZeroVoltagePulseEnd (t : Time) (p : Nat) (iu iv iw : Q) (s : State) : Res :=
  within p 8 s fun s => s.live t fun s =>
    let x := s.fbOf p
    let early := decide (1 / 2 * s.iMachMax p ≤ maxQ (absQ iu) (maxQ (absQ iv) (absQ iw)))
    let ended : Bool := match x.zvAt with
      | some u => decide (u ≤ s.now) && (early || decide (u + nsOf (s.rsP p 40) ≤ s.now))
      | none => false
    if (s.part p).st ≠ .ready ∨ x.restart ≠ 2 ∨ (s.ctlOf p).enWait.isNone ∨ ¬ ended then s
    else
      let ab := park (s.forward p) 0 [iu, iv, iw]
      let peak := maxQ (absQ iu) (maxQ (absQ iv) (absQ iw))
      let a := Config.atan2 ab.2 ab.1
      let run := fun (s : State) (st : Nat) =>
        let w := (s.ctlOf p).enWait
        let s := (s.fbEnter p st).enterRunning p
        match w with
        | some (n, series, seq, _) => s.finish n series seq 0 []
        | none => s
      match x.zvFirst with
      | none =>
        if peak < 2 / 100 * s.iMachMax p then run (s.setCtl p { s.ctlOf p with wObs := 0 }) 3
        else s.setFb p { x with zvFirst := some (s.now, a), zvAt := some (s.now + 2000000) }
      | some (u, a0) =>
        let dt := secOf (s.now - u)
        let w := quot (wrapPi (a - a0)) dt / s.polePairs p
        let th := if w < 0 then a + Config.pi else a
        let s := (s.setFb p { x with zvFirst := none, zvAt := none }).setCtl p { s.ctlOf p with thObs := th, wObs := w }
        run s (if absQ w < s.stillThr p then 3 else 2)

/-- `STANDSTILL_HOLD_END` (R166). -/
def execStandstillHoldEnd (t : Time) (p : Nat) (s : State) : Res :=
  within p 8 s fun s => s.live t fun s =>
    let x := s.fbOf p
    match x.stillAt with
    | some u => if x.stopFirst ∧ u + nsOf (s.rsP p 28) ≤ s.now then s.setFb p { x with stopFirst := false, restart := 4 } else s
    | none => s

/-! ### Events of Table 6 and others -/

/-- A condition has stood for a time. -/
def stoodFor (o : Option Time) (now ns : Time) : Bool := match o with
  | some u => decide (u + ns ≤ now)
  | none => false

/-- `EARTH_CURRENT` (R100). -/
def execEarthCurrent (t : Time) (p : Nat) (s : State) : Res :=
  within p 8 s fun s => s.live t fun s => if 5 ≤ (s.ctlOf p).iz then s.machineTrip p 0x0303 (sumQ (s.phaseI p)) else s

/-- `POSITION_LOST` (R117, R162): a synchronous machine has run 1 ms on an extrapolated angle. -/
def execPositionLost (t : Time) (p : Nat) (s : State) : Res :=
  within p 8 s fun s => s.live t fun s =>
    if s.machineRuns p ∧ s.synchronous p ∧ (s.fbOf p).st = 0 ∧ stoodFor (s.fbOf p).noneAt s.now 1000000 then s.machineTrip p 0x0304 0 else s

/-- `PLL_LOCKED` (R115). -/
def execPllLocked (t : Time) (p : Nat) (s : State) : Res :=
  within p 8 s fun s => s.live t fun s =>
    if s.shape p = 2 ∧ stoodFor (s.ctlOf p).pllGood s.now 20000000 then s.setCtl p { s.ctlOf p with locked := true, pllBad := none } else s

/-- `PLL_LOST` (R115). -/
def execPllLost (t : Time) (p : Nat) (s : State) : Res :=
  within p 8 s fun s => s.live t fun s =>
    if s.shape p = 2 ∧ ¬ (s.ctlOf p).locked ∧ stoodFor (s.ctlOf p).pllBad s.now 100000000 then
      s.machineTrip p 0x0305 0
    else s

/-- `EXCITER_FAULT` (R117). -/
def execExciterFault (t : Time) (p : Nat) (s : State) : Res :=
  within p 8 s fun s => s.live t fun s =>
    if s.machine p = 4 ∧ stoodFor (s.ctlOf p).excSince s.now 20000000 then s.machineTrip p 0x0301 (s.ctlOf p).iF else s

/-- `EXCITER_READY` (R108): the field current lies within 5 % of its reference. -/
def execExciterReady (t : Time) (p : Nat) (s : State) : Res :=
  within p 8 s fun s => s.live t fun s =>
    let c := s.ctlOf p
    if (s.part p).st = .ready ∧ c.enWait.isSome ∧ s.machine p = 4 ∧ (s.fbOf p).restart ≠ 2 ∧ absQ (s.fieldI p - s.fieldRef p) ≤ 5 / 100 * s.fieldRef p then
      s.begin p
    else s

/-- `EXCITER_ENABLE_TIMEOUT` (R108): after 2 s the waiting `ENABLE` completes with `EXCITER_FAULT`. -/
def execExciterEnableTimeout (t : Time) (p : Nat) (s : State) : Res :=
  within p 8 s fun s => s.live t fun s =>
    match (s.ctlOf p).enWait with
    | some (n, series, seq, u) =>
      if s.machine p = 4 ∧ (s.fbOf p).restart ≠ 2 ∧ u + 2000000000 ≤ s.now then
        ((s.setCtl p { s.ctlOf p with enWait := none }).setFb p { s.fbOf p with restart := 0 }).finish n series seq 0x0301 []
      else s
    | none => s

/-- `CURRENT_SATURATION_ALARM` (R117): clipped in every step for 100 ms; the rule gives the ALARM no code. -/
def execCurrentSaturationAlarm (t : Time) (p : Nat) (s : State) : Res :=
  within p 8 s fun s => s.live t fun s =>
    let c := s.ctlOf p
    if stoodFor c.satSince s.now 100000000 ∧ ¬ c.satAlarm then
      (s.setCtl p { c with satAlarm := true }).alarm (srcPart p) (Config.eventCode 1) []
    else s

/-- `OBSERVER_DIVERGENCE` (R117): T_L restarts from T_e and the feed-forward is off; the rule gives the ALARM no code. -/
def execObserverDivergence (t : Time) (p : Nat) (s : State) : Res :=
  within p 8 s fun s => s.live t fun s =>
    let c := s.ctlOf p
    if stoodFor c.divSince s.now 20000000 then
      (s.setCtl p { c with tl := s.teTotal p c.te, wHat := s.speed p, ffOff := some s.now, divSince := none }).alarm (srcPart p) (Config.eventCode 2) []
    else s

/-- `PARTNER_LOST` (R116). -/
def execPartnerLost (t : Time) (p : Nat) (s : State) : Res :=
  within p 8 s fun s => s.live t fun s =>
    let c := s.ctlOf p
    if s.winding p ≠ 0 ∧ 5 ≤ c.parAge ∧ ¬ c.parLost then
      (s.setCtl p { c with parLost := true, parD := 0, parQ := 0, parT := 0 }).inform (srcPart p) 0x0307 []
    else s

/-- `SETPOINT_TIMEOUT` (R110). -/
def execSetpointTimeout (t : Time) (p : Nat) (s : State) : Res :=
  within p 8 s fun s => s.live t fun s =>
    let c := s.ctlOf p
    let w := s.spdP p 32
    if (s.part p).st = .running ∧ c.mode = 0 ∧ (s.motOf p).source = 0 ∧ w ≠ 0 ∧ ¬ c.spTimedOut ∧ stoodFor c.spAt s.now (nsOf w) then
      (s.setCtl p { c with spTimedOut := true }).inform (srcPart p) 0x0306 []
    else s

/-! ### Migration (R21, R118, R119) -/

/-- `MIGRATION` (R21, R118): a decided migration takes effect under the next epoch. A BC partition, which has no current-loop steps, has no
first step to wait for. -/
def execMigration (t : Time) (p : Nat) (s : State) : Res :=
  within p 8 s fun s => s.live t fun s =>
    let x := s.part p
    if x.migrating then
      let s := (s.setPart p { x with migrating := false, core1 := !x.core1, epoch := (x.epoch + 1) % 256, epochAt := s.now, lowMargin := 0,
                                     migDesc := [], migWait := x.migWait ++ x.migDesc }).inform (srcPart p) 0x0309 []
      if s.shape p = 6 then s.migrationDone p 0 else s
    else s

/-- `MACHINE_CORE_SELFTEST` (R21): core 0 or 1 of the region that owns partition p, and whether it passed. -/
def execMachineCoreSelftest (t : Time) (p core : Nat) (ok : Bool) (s : State) : Res :=
  within p 8 s fun s => s.live t fun s =>
    let x := s.part p
    if core = 0 then
      s.setPart p { x with core0Failed := !ok,
                           migrating := x.migrating || (!ok && !x.core1 && !x.core1Failed && decide (x.st ≠ .unconfigured)) }
    else if core = 1 then s.setPart p { x with core1Failed := !ok }
    else s

/-- The effect of `CORE_MIGRATE` (R119). -/
def coreMigrateEffect (d : Desc) (s : State) : Reply :=
  let p := d.target
  let x := s.part p
  let want := d.u8 16 = 1
  if want = x.core1 then { st := s }
  else if (if want then x.core1Failed else x.core0Failed) then Reply.no s 0x0308
  else { st := s.setPart p { x with migrating := true, migDesc := x.migDesc ++ [(d.page, d.series, d.seq)] }, await := some .own }

/-- `CORE_MIGRATE`. -/
def execCoreMigrate (d : Desc) (s : State) : Res :=
  serveRes { op := 0x3B, tgt := .part, need := .owner, lay := layMigrate, states := some st15 } d none (coreMigrateEffect d) s

/-! ### Descriptors -/

/-- The effect of `SETPOINT` (R109, R110, R125, R177, R212). -/
def setpointEffect (d : Desc) (s : State) : Reply :=
  let p := d.target
  let c := s.ctlOf p
  if s.emergActive p then Reply.no s 0x0802
  else if (s.motOf p).source ≠ 0 then Reply.no s 0x0401
  else if d.u8 16 = 0 ∧ s.nMax p < absQ (d.f32 20) then Reply.no s 0x0003
  else { st := s.setCtl p { c with spNew := some (d.u8 16, d.f32 20), spAt := some s.now, spTimedOut := false } }

/-- `SETPOINT`. -/
def execSetpoint (d : Desc) (s : State) : Res :=
  serveRes { op := 0x38, tgt := .part, need := .part, lease := true, lay := laySetpoint, states := some [.ready, .running, .braking] } d none
    (masterOnly d (setpointEffect d)) s

/-- `SUPPLY_SETPOINT` (R114): `vdc_ref` from 0.8 to 1.1 of `vdc_nom`. -/
def execSupplySetpoint (d : Desc) (s : State) : Res :=
  serveRes { op := 0x39, tgt := .part, need := .part, lease := true, lay := laySupplySetpoint, states := some st15 } d none (fun s =>
    let p := d.target
    let v := d.f32 16
    if v < 8 / 10 * s.vdcNom p ∨ 11 / 10 * s.vdcNom p < v then Reply.no s 0x0003
    else { st := s.setCtl p { s.ctlOf p with vdcRef := some v, qRef := d.f32 20 } }) s

/-- The result of `MACH_STATUS` (Table 9). -/
def State.machResult (s : State) (p : Nat) : List Byte :=
  let c := s.ctlOf p
  let flag := fun (k : Nat) (b : Bool) => if b then 2 ^ k else 0
  leBytes 2 c.limits ++
    leBytes 2 (flag 0 (decide (0 < c.fw)) + flag 1 c.clip + flag 2 (s.parCurrent p) + flag 3 c.spTimedOut + flag 4 c.locked +
      flag 5 (decide ((s.fbOf p).st = 2))) ++ f32Bytes (s.speed p)

/-- The record of Table 10. -/
def State.machRecord (s : State) (p : Nat) : List Byte :=
  let c := s.ctlOf p
  f32Bytes c.te ++ f32Bytes c.id ++ f32Bytes c.iq ++ f32Bytes c.uUse ++ f32Bytes c.tl ++ f32Bytes c.tRef ++
    f32Bytes (if s.shape p = 2 then c.pSup else 0) ++ f32Bytes (if s.machine p = 4 then c.iF else 0)

def infoMachStatus : OpInfo := { op := 0x3F, tgt := .part, need := .read, gives := true }

/-- `MACH_STATUS` (R123). -/
def execMachStatus (d : Desc) (s : State) : Res :=
  serveRes infoMachStatus d (statusBuf d 32) (fun s =>
    { st := s, result := s.machResult d.target,
      write := if d.buffer = 0xFFFFFFFF then none else some (s.machRecord d.target) }) s

end Sys2Proof.Machine
end

