-- ==== Sys2Proof/Machine/Protection.lean ====
section
/-!
DEFINITION. Protection (R226 to R250) and the errors of a region and of the chip (R31 to R36): fences, chip failure, isolation
of lanes, `TRIPIN`, the fast windows, the comparator self-test, trip records and the restart of a region.
-/
namespace Sys2Proof.Machine
open Sys2Proof

/-! ### Region and chip (R31 to R36) -/

/-- A lane is isolated until its region restarts; its cell is lost (R32). -/
def State.isolateLane (s : State) (l : Nat) : State :=
  if (s.lane l).lstate = 5 then s
  else
    let s := s.loseCell l 6
    s.setLane l { s.lane l with lstate := 5, queue := [], sent := none, down := false, silentUntil := none }

/-- A region closes its fence (R34): its auxiliary gates go off, the fabric transactions it originated are abandoned (R39), and its
partitions trip. -/
def State.closeFence (s : State) (r : Nat) : State :=
  if (s.region r).fenced then s
  else
    let s := (s.setRegion r { s.region r with fenced := true }).auxRegionOff r
    let s := { s with fab := { s.fab with ctl := s.fab.ctl.filter fun m => !(m.origin.any fun p => (s.regionParts r).contains p) } }
    (s.regionParts r).foldl (fun s p =>
      s.assertSource p 0x0907 r 0 0xFFFF) s

/-- A partition at chip failure (R36 step 1, R245): TRIPPED, with a record where it is configured, unless it stands in SAFE_OFF. -/
def State.failPart (s : State) (p : Nat) : State :=
  let st := (s.part p).st
  if st = .unconfigured then ((s.setProt p ((s.protOf p).drive (0x0908, 0xFFFF))).quiet p).setPState p .tripped
  else
    let s := s.assertSource p 0x0908 0xFFFF 0 0xFFFF
    if st = .blocked then (s.quiet p).setPState p .tripped else s

/-- Every lane sends the block sequence. -/
def State.blockAll (s : State) : State :=
  { s with lanes := s.lanes.map fun e => (e.1, if e.2.lstate = 0 ∨ e.2.lstate = 5 then e.2 else e.2.blocked) }

/-- Chip failure (R36): the partitions trip, auxiliary outputs and `BRK[n]` go off, the plant is told, capture stops and a fault
record is staged where storage works. -/
def State.chipFail (s : State) (cause : Nat) : State :=
  if s.sys.chipDown then s
  else
    let s := ((List.range 8).foldl (fun s p => s.failPart p) s).blockAll.auxAllOff.canAllOff
    let s := s.announceFailure
    let keeps := s.stor.keeps
    let s := s.stageDevice 4 0 (leBytes 8 s.now ++ leBytes 2 cause)
    let s := { s with stor := { s.stor with bufs := [] }, sys := { s.sys with failRecordAt := if keeps then none else some s.now, chipDown := true } }
    if s.power = .entering then { s with frz := { s.frz with chipFailed := true } } else { s with power := .failed }

/-- `SUPERVISOR_WATCHDOG_EXPIRY` (R31, R33): where a test has stopped the service (R491), 200 µs later. -/
def execSupervisorWatchdogExpiry (t : Time) (r : Nat) (s : State) : Res :=
  within r 8 s fun s => s.awake t fun s =>
    if s.watchdogOut r then s.closeFence r else s

/-- `HOST_CORE_WATCHDOG_EXPIRY` (R31). -/
def execHostCoreWatchdogExpiry (t : Time) (s : State) : Res := .next (s.awake t fun s => s.chipFail 1)

/-- `TIME_BASE_FAILURE` (R429). -/
def execTimeBaseFailure (t : Time) (s : State) : Res := .next (s.awake t fun s => s.chipFail 2)

/-- A TRIP event of the chip (R506). -/
def State.chipTrip (s : State) (code source : Nat) : State := s.emit 7 srcChip code (tripData source 0xFF 0 0 0 0xFFFF 0)

/-- `TRIP_NET_DISAGREE` (R226): the halves have disagreed on a signal for 10 µs. -/
def execTripNetDisagree (t : Time) (signal : Nat) (s : State) : Res :=
  .next (s.awake t fun s => ({ s with sys := { s.sys with netDisagree := some signal } }.chipTrip 0x090E signal).chipFail 3)

/-- A single-bit error of a cluster counted (R32): above 16 in 1 s, once per crossing, the ALARM `SRAM_CORRECTED`. -/
def State.countSingle (s : State) (cluster : Nat) : State :=
  let r := cluster / 8
  let x := s.region r
  let young := x.singles.filter fun e => decide (s.now < e.2 + 1000000000)
  let was := (young.filter fun e => e.1 = cluster).length
  let s := s.setRegion r { x with singles := (cluster, s.now) :: young }
  if was = 16 then s.alarm (srcRegion r) 0x0013 (leBytes 1 cluster ++ zeros 3 ++ leBytes 4 17) else s

/-- The tenant's rings stop and its leases are released after a double-bit error in its context (R35). -/
def State.loseContext (s : State) (n off : Nat) : State :=
  let held := (List.range 8).filter fun p => (s.lease p).holder = some n
  let p := s.page n
  let rings := (List.range 6).foldl (fun (q : Page) k => q.setRing k { q.ring k with enable := false, error := false }) p
  let s := (s.setPage n { rings with acc := [], refused := [], stage := [] }).urgentDrop n
  let s := { s with leaseQ := s.leaseQ.filter fun r => r.tenant ≠ n }
  let s := (s.leaseDrop held).scanLeases
  (s.logEvent 6 (srcTenant n) 0x0014 (leBytes 4 off)).deliver 0 6 (srcTenant n) 0x0014 (fitTo 12 (leBytes 4 off))

/-- A double-bit error in the staging areas (R35, R507): the record whose bytes hold the word. Which descriptor lies in slot i the spec
does not say: the i-th of the tenant's list of accepted ones (DESIGN CHOICE, log entry 18). -/
def State.loseStaged (s : State) (off : Nat) : State :=
  if off < 0x1500000 then
    let n := (off - 0x1400000) / 0x400
    let slot := ((off - 0x1400000) % 0x400) / 64
    match (s.page n).acc[slot]? with
    | some a => s.finish n a.series a.seq 0x0008 []
    | none => s
  else
    let n := (off - 0x1500000) / 0x200
    let k := (off - 0x1500000) % 0x200
    let p := s.page n
    if k < 256 then
      let bad := fun (l : List CRec) (j : Nat) => l.mapIdx fun i c => if i = j then { c with status := 0x0008, result := [] } else c
      if p.retained.length ≤ k / 16 then s.setPage n { p with held := bad p.held (k / 16 - p.retained.length) }
      else s.setPage n { p with retained := bad p.retained (k / 16) }
    else
      match p.staging[(k - 256) / 32]? with
      | some e =>
        let s := s.setPage n { p with staging := p.staging.filter fun x => x.seq ≠ e.seq }
        s.recordEvent n 9 6 (srcTenant n) 0x0011 1 s.now (leBytes 4 5 ++ leBytes 4 e.seq ++ leBytes 4 e.seq)
      | none => s

/-- The operations that own buffers of the chip: of storage, of the fabric and of the CAN controllers' transmit buffers, each with its
descriptor, the error of its subject, and what takes it out (R35). -/
def State.bufferOwners (s : State) : List (Nat × Nat × Nat × Nat × State) :=
  (s.stor.ops.map fun o => (o.page, o.series, o.seq, 0x0C02, { s with stor := { s.stor with ops := s.stor.ops.filter fun x => x ≠ o } })) ++
    (s.fab.sends.map fun x => (x.page, x.series, x.seq, 0x0D00, { s with fab := { s.fab with sends := s.fab.sends.filter fun y => y ≠ x } })) ++
    ((List.range 4).map fun c => (List.range 3).filterMap fun k =>
      (Tab.get (s.can c).tx none k).map fun f =>
        (f.page, f.series, f.seq, 0x0E02, s.setCan c { s.can c with tx := Tab.set (s.can c).tx none k none })).flatten

/-- The owning operation of a buffer fails with its subject's error (R35); which one owns the word is the implementation's (log entry 18). -/
def State.loseBuffer (s : State) (off : Nat) : State :=
  let l := s.bufferOwners
  match l[Config.bufferOwner off % l.length]? with
  | some o => o.2.2.2.2.finish o.1 o.2.1 o.2.2.1 o.2.2.2.1 []
  | none => s

/-- A double-bit error in shared SRAM meets the fate of its area (R35, R507). -/
def State.sharedDouble (s : State) (off : Nat) : State :=
  if off < 0x1000000 then { s with frz := { s.frz with poison := if s.frz.poison.contains off then s.frz.poison else s.frz.poison ++ [off] } }
  else if off < 0x1400000 then s.loseContext ((off - 0x1000000) / 0x1000) (off % 0x1000)
  else if off < 0x1580000 then s.loseStaged off
  else if off < 0x1600000 then s.chipFail 4
  else s.loseBuffer off

/-- A word read with errors (Table 5 of R31): area 0 region code SRAM, 1 cluster slice, 2 shared SRAM, with the region, the cluster
or 0 as index. -/
def State.wordErrors (s : State) (area index off bits : Nat) : State :=
  if bits = 0 then s
  else if bits = 1 then (if area = 1 then s.countSingle (index % 64) else s)
  else if area = 0 then s.closeFence (index % 8)
  else if area = 1 then
    let c := index % 64
    if off < 0x10000 then s.isolateLane (16 * c + off / 0x1000)
    else (List.range 16).foldl (fun s k => s.isolateLane (16 * c + k)) s
  else s.sharedDouble off

/-- `SCRUB_WORD` (R22): the scrubber reads, corrects and rewrites a word; the bits in error are those observed and those a test
has flipped (R491). -/
def execScrubWord (t : Time) (area index off bits : Nat) (s : State) : Res :=
  .next (s.awake t fun s =>
    let mine := s.ecc.filter fun e => e.1 = area ∧ e.2.1 = index ∧ e.2.2.1 = off
    let n := bits + (mine.map fun e => e.2.2.2).foldl (· + ·) 0
    let s := { s with ecc := s.ecc.filter fun e => ¬ (e.1 = area ∧ e.2.1 = index ∧ e.2.2.1 = off) }
    s.wordErrors area index off n)

/-! ### TRIPIN (R231, R232) -/

/-- A cause that asserts while the chip is frozen is kept for the time after Thaw (R452). -/
def State.latch (s : State) (parts cause source : Nat) : State :=
  let e := (parts, cause, source)
  if s.frz.latched.contains e then s else { s with frz := { s.frz with latched := s.frz.latched ++ [e] } }

/-- `TRIPIN_ASSERT` (R231). -/
def execTripinAssert (t : Time) (i : Nat) (s : State) : Res :=
  within i 4 s fun s =>
    let s := { s.at t with tripin := setBit s.tripin i true }
    if s.power = .running ∨ s.power = .pfail ∨ s.power = .entering then
      (s.tripinParts i).foldl (fun s p => s.assertSource p 0x0900 i 0 0xFFFF) s
    else if s.power = .frozen ∧ s.tripinParts i ≠ [] then s.latch (maskOf (s.tripinParts i)) 0x0900 i
    else s

/-- `TRIPIN_RELEASE` (R229, R232): the pin is high again and the source no longer active. -/
def execTripinRelease (t : Time) (i : Nat) (s : State) : Res :=
  within i 4 s fun s =>
    let s := { s.at t with tripin := setBit s.tripin i false }
    if s.power = .running ∨ s.power = .pfail ∨ s.power = .entering then
      (List.range 8).foldl (fun s p => if (s.protOf p).active.contains (0x0900, i) then s.releaseSource p 0x0900 i else s) s
    else s

/-! ### Fast windows (R236) -/

/-- Modules per leg of a TL partition: the cells of its first arm. -/
def State.modulesPerLeg (s : State) (p : Nat) : Nat := s.armCells p 0

/-- The current level of an input for a partition; none where it is no current input of it (R236). -/
def State.ocLevel (s : State) (p d : Nat) : Option Q :=
  let full := s.protP p 20 * s.iRated p
  let arm := (List.range 13).any fun k => s.senseByte p k = d
  let mods := s.given 0x25 p 0 && (List.range 24).any fun k => s.sdModule p (k / 8) (k % 8) = d
  if d = 0xFF then none
  else if arm then some full
  else if mods then some (if s.modulesPerLeg p = 0 then full else full / (s.modulesPerLeg p : Q))
  else none

/-- The fast window of a current input (R229): crossed beyond the level, active beyond 0.9 of it. -/
def State.currentWindow (s : State) (p d : Nat) (v : Q) : State :=
  match s.ocLevel p d with
  | none => s
  | some l =>
    if l < absQ v then s.assertSource p 0x0901 d v 0xFFFF
    else if absQ v ≤ 9 / 10 * l then s.releaseSource p 0x0901 d
    else s

/-- The DC-link window of a partition (R201, R229). -/
def State.dcWindow (s : State) (p d : Nat) (v : Q) : State :=
  let n := s.vdcNom p
  let s := s.brkWindow p v
  let ov := s.protP p 24
  let uv := s.protP p 28
  let s := if ov * n < v then s.assertSource p 0x0902 d v 0xFFFF
    else if v ≤ (ov - 2 / 100) * n then s.releaseSource p 0x0902 d else s
  let st := (s.part p).st
  if uv ≠ 0 ∧ v < uv * n ∧ (st = .running ∨ st = .braking) ∧ ¬ s.rtEnable p then s.assertSource p 0x0903 d v 0xFFFF
  else if (uv + 2 / 100) * n ≤ v then s.releaseSource p 0x0903 d else s

/-- `FAST_WINDOW_CROSS` (R236): the fast filter output of an input, in its unit, after `oc_count` outputs. -/
def execFastWindowCross (t : Time) (d : Nat) (v : Q) (s : State) : Res :=
  within d 128 s fun s => s.awake t fun s =>
    (List.range 8).foldl (fun s p =>
      if (s.part p).st = .unconfigured then s
      else
        let s := s.currentWindow p d v
        if s.given 0x10 p 0 ∧ s.sdVdc p = d then s.dcWindow p d v else s) s

/-! ### Self-test (R243, R244) -/

/-- The last passing self-test lies within `st_interval` (R244). -/
def State.selftestCurrent (s : State) (p : Nat) : Bool :=
  match (s.protOf p).passedAt with
  | some u => s.protP p 32 = 0 || decide (s.now ≤ u + nsOf (s.protP p 32))
  | none => false

/-- The self-test bars an energising command: 0, `SELFTEST_FAIL` or `SELFTEST_DUE` (R244). -/
def State.selftestBar (s : State) (p : Nat) : Nat :=
  if s.protP p 32 ≠ 0 ∧ ¬ s.selftestCurrent p then 0x090C else 0

/-- The result of `PROT_STATUS` (Table 9). -/
def State.protResult (s : State) (p : Nat) : List Byte :=
  let x := s.protOf p
  let has := fun (k c : Nat) => if x.active.any fun a => a.1 = c then 2 ^ k else 0
  let flag := fun (k : Nat) (b : Bool) => if b then 2 ^ k else 0
  leBytes 2 (has 0 0x0900 + has 1 0x0901 + has 2 0x0902 + has 3 0x0903 + has 4 0x0904 + has 5 0x0907 + has 6 0x0908 + has 7 0x0105) ++
    leBytes 2 x.firstCause ++ leBytes 2 x.firstSource ++
    leBytes 1 (flag 0 (s.selftestCurrent p && x.failed = 0) + flag 1 (x.failed ≠ 0) + flag 2 s.sys.tripLock + flag 3 s.sys.netDisagree.isNone) ++ leBytes 1 (holdAt 255 x.failed)

def protInfo (op : Nat) (lay : List Fld) (st : Option (List PState)) : OpInfo :=
  { op := op, tgt := .part, need := .part, lease := true, states := st, lay := lay }

/-- `PROT_CONFIG` (R237, R239). -/
def execProtConfig (d : Desc) (s : State) : Res := serveRes (confInfo 0x78 layProt) d none (storeEffect 0x78 d 0) s

/-- `TRIP_LINK` (R240). -/
def execTripLink (d : Desc) (s : State) : Res := serveRes (confInfo 0x79 layTripLink) d none (storeEffect 0x79 d 0) s

/-- The effect of `PROT_SELFTEST` (R243): it completes with its result. -/
def selftestEffect (d : Desc) (s : State) : Reply :=
  let x := s.protOf d.target
  if x.testing.isSome then Reply.no s 0x0004
  else { st := s.setProt d.target { x with testing := some (d.page, d.series, d.seq, d.u8 16) }, await := some .own }

/-- `PROT_SELFTEST`. -/
def execProtSelftest (d : Desc) (s : State) : Res :=
  serveRes { protInfo 0x7A laySelftest (some [.blocked, .tripped, .safeOff]) with gives := true } d none (selftestEffect d) s

/-- A start held back by the self-test goes on (R277). -/
def State.auxResume (s : State) (p : Nat) : State :=
  (auxCodes.filter fun c => (s.partRegions p).contains (auxRegion c)).foldl (fun s c =>
    if (s.auxOf c).startWaits ∧ ¬ s.auxTested c then (s.setAux c { s.auxOf c with startWaits := false }).auxStart c else s) s

/-- `PROT_SELFTEST_DONE` (R243, R244): the comparators that failed, by number. -/
def execProtSelftestDone (t : Time) (p : Nat) (failed : List Nat) (s : State) : Res :=
  within p 8 s fun s => s.awake t fun s =>
    let x := s.protOf p
    match x.testing with
    | none => s
    | some (n, series, seq, scope) =>
      let s := s.setProt p { x with testing := none, failed := failed.length,
                                    passedAt := if failed = [] ∧ scope.testBit 0 then some s.now else x.passedAt }
      let s := failed.foldl (fun s k => s.alarm (srcPart p) 0x090B (evd 0x090B [(k : Q)])) s
      (s.finish n series seq 0 (s.protResult p)).auxResume p

/-- `PROT_TRIP` (R229): the source COMMANDED_TRIP. -/
def execProtTrip (d : Desc) (s : State) : Res :=
  serveRes infoProtTrip d none
    (fun s => { st := s.assertSource d.target 0x0906 0xFFFF 0 d.page }) s

/-- A trip record (Table 5 of R245). -/
def TripRec.bytes (r : TripRec) (p : Nat) : List Byte :=
  leBytes 8 r.t ++ leBytes 2 r.cause ++ leBytes 2 r.source ++ leBytes 1 p ++ leBytes 1 r.before ++ leBytes 1 r.order ++ leBytes 1 r.more ++
    f32Bytes r.value ++ leBytes 4 r.cycle ++ leBytes 2 r.tenant ++ zeros 6

def infoProtRecord : OpInfo := { op := 0x7C, tgt := .part, need := .read, gives := true, lay := layRecord }
def infoProtStatus : OpInfo := { op := 0x7F, tgt := .part, need := .read, gives := true }

/-- `PROT_RECORD` (R246): the newest records, newest first; the rest of the buffer is 0. -/
def execProtRecord (d : Desc) (s : State) : Res :=
  let n := d.u8 16
  serveRes infoProtRecord d (some (32 * n)) (fun s =>
    let rs := ((s.protOf d.target).recs.reverse.take n).map fun r => r.bytes d.target
    { st := s, write := some (fitTo (32 * n) rs.flatten) }) s

/-- `PROT_STATUS` (R248). -/
def execProtStatus (d : Desc) (s : State) : Res :=
  serveRes infoProtStatus d none (fun s => { st := s, result := s.protResult d.target }) s

/-! ### Region restart (R34, R249) -/

/-- A partition of a restarted region comes up in the state it holds; its loops start anew (R34, R249 step 3). -/
def State.restartPart (s : State) (p : Nat) : State :=
  let cal := s.multiTurn p && (s.motOf p).calibrated
  let phi := (s.motOf p).phi
  let th := (s.motOf p).thLast
  let s := (((s.setCtl p {}).setFb p {}).setMot p { calibrated := cal, phi := if cal then phi else 0, thLast := if cal then th else 0 }).setMod p {}
  s.setPart p { s.part p with core0Failed := false, core1 := false, overruns := [], lowMargin := 0, migrating := false }

/-- A lane of a restarted region: out of isolation; the lane of a committed partition enters ACQUIRE (R249, R269). -/
def State.restartLane (s : State) (l : Nat) : State :=
  let c := s.cell l
  if ¬ c.used then s.setLane l {}
  else
    let c := if c.st = .isolated then { c with st := .absent, reason := 0 } else if c.st = .bypassed then c else { c with st := .absent, admitting := false }
    (s.setCell l c).setLane l ({ s.lane l with lstate := 0 }.acquire s.now)

/-- The region restarts with every self-test passed (R249 steps 3 to 5). -/
def State.restartRegion (s : State) (r : Nat) : State :=
  let s := { s.setRegion r {} with sys := { s.sys with rstKind := 2 } }
  let s := { s with ecc := s.ecc.filter fun e => ¬ ((e.1 = 0 ∧ e.2.1 = r) ∨ (e.1 = 1 ∧ e.2.1 / 8 = r)) }
  let s := (s.regionParts r).foldl (fun s p =>
    let s := s.releaseSource p 0x0907 r
    s.restartPart p) s
  let s := (List.range 128).foldl (fun s k => s.restartLane (128 * r + k)) s
  (auxCodes.filter fun c => auxRegion c = r).foldl (fun s c =>
    let x := s.auxOf c
    s.setAux c { owner := x.owner, st := if ¬ isMotor c ∧ s.auxMode c = 2 then 4 else 0 }) s

/-- The effect of `REGION_RESTART`; the block that fails its self-test is given as 1 + 16 × block + index, 0 where none does. -/
def regionRestartEffect (d : Desc) (fails : Nat) (s : State) : Reply :=
  let r := d.target
  if ¬ (s.region r).fenced then Reply.no s 0x0004
  else if fails ≠ 0 then
    { st := s.alarm (srcRegion r) 0x0910 (leBytes 1 ((fails - 1) / 16) ++ leBytes 1 ((fails - 1) % 16)), status := 0x0910 }
  else { st := s.restartRegion r }

def infoRegionRestart : OpInfo := { op := 0x7D, tgt := .upTo 8, need := .owner }

/-- `REGION_RESTART` (R249). -/
def execRegionRestart (d : Desc) (fails : Nat) (s : State) : Res := serveRes infoRegionRestart d none (regionRestartEffect d fails) s

end Sys2Proof.Machine
end

