-- ==== Sys2Proof/Machine/Relock.lean ====
section
/-!
DEFINITION. Relocks of the MCLK outputs (R434, R435): how one starts, at a new `mclk_div` or a step of device time, and how it ends.
-/
namespace Sys2Proof.Machine
open Sys2Proof

/-- A sigma-delta input is in use (R487). -/
def State.sdOn (s : State) (k : Nat) : Bool := (s.regWord 0xD004 k).testBit 0

/-- Bit i of an input's flags (R487): 1 relock, 2 stuck, 3 `cf_refused`. -/
def State.setSdFlag (s : State) (k i : Nat) (b : Bool) : State :=
  { s with sdFlags := Tab.set s.sdFlags 0 k (setBit (Tab.get s.sdFlags 0 k) i b) }

/-- The eight inputs of an output (R433). -/
def inputsOf (k : Nat) : List Nat := (List.range 8).map fun i => 8 * k + i

/-- An output relocks. -/
def State.isRelocking (s : State) (k : Nat) : Bool := Tab.get s.mclkOld 0 k ≠ 0

/-- The data of `MCLK_RELOCK` (R506): start or end, and the new `mclk_div`. -/
def State.relockData (s : State) (ends k : Nat) : List Byte := leBytes 1 ends ++ zeros 1 ++ leBytes 2 (s.regWord (0x0C10 + 4 * k) 0 % 256)

/-- A relock starts, or goes on towards a new period (R434, R435): old is the period until now. -/
def State.startRelock (s : State) (k old : Nat) : State :=
  let was := Tab.get s.mclkOld 0 k
  let s := { s with mclkOld := Tab.set s.mclkOld 0 k (max was old) }
  let s := (inputsOf k).foldl (fun (s : State) i => if s.sdOn i then s.setSdFlag i 1 true else s) s
  if was = 0 then s.inform (srcChip + k) 0x1101 (s.relockData 0 k) else s

/-- A relock ends: the samples are valid (R435). -/
def State.endRelock (s : State) (k : Nat) : State :=
  if ¬ s.isRelocking k then s
  else
    let s := { s with mclkOld := Tab.set s.mclkOld 0 k 0 }
    let s := (inputsOf k).foldl (fun (s : State) i => s.setSdFlag i 1 false) s
    s.inform (srcChip + k) 0x1101 (s.relockData 1 k)

/-- A step of device time relocks every output that runs (R434). -/
def State.relockAll (s : State) : State :=
  (List.range 16).foldl (fun (s : State) k => if s.mclkNs (8 * k) = 0 then s else s.startRelock k (s.mclkNs (8 * k))) s

end Sys2Proof.Machine
end

