-- ==== Sys2Proof/Machine/Cycle.lean ====
section
/-!
DEFINITION. The cell cycle (R72 to R95): the latch at its start, the compute window, the placement of each arm's edges and the
down-frames, with the overruns of R33.
-/
namespace Sys2Proof.Machine
open Sys2Proof

/-! ### Offset 0 (R74, R78, R81, R151) -/

/-- The scaled value of a density (R487). -/
def State.sdScale (s : State) (k : Nat) (rho : Q) : Q :=
  (f32 (s.regWord 0xD008 k)).getD 0 * rho + (f32 (s.regWord 0xD00C k)).getD 0

/-- One input latched: 0 where it is disabled; its last valid value while a relock flags it (R435) or its MCLK is held low. A stream that
has left its level is no longer stuck (R487). -/
def State.latchInput (s : State) (k : Nat) (now mean : Q) : State :=
  if ¬ s.sdOn k then { s with sd := Tab.set s.sd 0 k 0, sdMean := Tab.set s.sdMean 0 k 0 }
  else if s.mclkNs k = 0 ∨ (Tab.get s.sdFlags 0 k).testBit 1 then s
  else
    let s := if now = 1 ∨ now = -1 then s else s.setSdFlag k 2 false
    { s with sd := Tab.set s.sd 0 k (s.sdScale k now), sdMean := Tab.set s.sdMean 0 k (s.sdScale k mean) }

/-- The inputs from number k on. -/
def State.latchFrom (s : State) (k : Nat) : List Q → List Q → State
  | x :: r, y :: q => (s.latchInput k x y).latchFrom (k + 1) r q
  | _, _ => s

/-- An arm's current at the start of the cycle, and the current that its plans of this cycle and the one before delivered their
charge with: the forecast, and the measured mean (R81). -/
def State.latchArm (s : State) (p c a : Nat) : State :=
  let m := s.modOf p
  let m := if s.relocking p then m
    else { m with iPrev := Tab.set m.iPrev 0 a (Tab.get m.iNow 0 a), iNow := Tab.set m.iNow 0 a (s.armI p a) }
  let s := s.setMod p m
  let mean := s.polarity p a * Tab.get s.sdMean 0 (s.sdArm p a)
  let fore := m.forecast a
  (s.cellsOf p a).foldl (fun s e =>
    let x := s.cell e.1
    let plans := x.plans.map fun y => if y.1 = c then (y.1, y.2.1, fore) else if y.1 + 1 = c then (y.1, y.2.1, mean) else y
    s.setCell e.1 { x with plans := plans.take 32 }) s

/-- `CELL_CYCLE_START` (R74): densities of the inputs of the partition's regions at offset 0 and their means over the cycle
before; of an incremental encoder the latched count, and its latest edges, newest first, by their ages in ns and the counts after them. -/
def execCellCycleStart (t : Time) (p : Nat) (now mean : List Q) (count : Int) (ages : List Nat) (counts : List Int) (s : State) : Res :=
  within p 8 s fun s => s.awake t fun s =>
    if s.bondPartner p then s
    else
      let s := s.settle [0x16] p
      let n := if (s.part p).bonded then 32 else 16
      let s := s.latchFrom (16 * p) (now.take n) (mean.take n)
      if (s.part p).st = .unconfigured then s
      else
        let c := s.cycleNo p
        let s := (s.armsOf p).foldl (fun s a => s.latchArm p c a) s
        let s := { s with cycle := c }
        let s := s.setPart p { s.part p with published := false }
        (s.latchFeedback p count (ages.zip counts)).record p 0

/-! ### Compute window (R74, R81) -/

/-- Every capacitor voltage of an arm predicted to the end of the cycle (R81), under the parameters in force (R77). -/
def State.predictArm (s : State) (p : Nat) (cells : List (Nat × Cell)) : State :=
  cells.foldl (fun s e => s.setCell e.1 { s.cell e.1 with vpred := s.predictCell p (s.cell e.1) }) s

/-- `COMPUTE_WINDOW_START`: the arm engines predict every capacitor voltage to the end of the cycle (R81). -/
def execComputeWindowStart (t : Time) (p : Nat) (s : State) : Res :=
  within p 8 s fun s => s.live t fun s =>
    s.predictArm p (s.partCells p)

/-! ### Placement (R76 to R90) -/

/-- t_min of an arm in ns (R83). -/
def State.tMinArm (s : State) (p a : Nat) : Nat := ((s.cellsOf p a).map fun e => e.2.tMin).foldl max (s.tMinPulse p)

/-- The level a cell holds at the end of cycle c: that of the plan it carries out, else 0. -/
def Cell.heldAt (x : Cell) (c : Nat) : Int := if x.plans.any (fun e => e.1 = c) then x.level else 0

/-- A cell's last transition, in ns from a device time. -/
def Cell.lastFrom (x : Cell) (t0 : Nat) : Int := x.lastTr - (t0 : Int)

/-- One timed cell command written to a lane's queue: it replaces an earlier one of its cycle (R39); a full queue loses the
cell (R37). -/
def State.queuePlan (s : State) (l c : Nat) (plan : Plan) : State :=
  let x := s.cell l
  let ln := s.lane l
  let q := ln.queue.filter fun e => e.1 ≠ c
  if 16 ≤ q.length then s.loseCell l 7
  else
    let t0 : Int := c * s.cycleNs x.part
    let s := s.setLane l { ln with queue := q ++ [(c, (s.part x.part).epoch, plan)] }
    s.setCell l { x with level := plan.last, plans := ((c, plan, 0) :: x.plans.filter fun e => e.1 ≠ c)
                         lastTr := match plan.lastTime with
                          | some e => t0 + e
                          | none => x.lastTr }

def State.queuePlans (s : State) (c : Nat) (l : List (Nat × Plan)) : State :=
  let s := l.foldl (fun s e => s.queuePlan e.1 c e.2) s
  s.mark 0 16384 ((s.lanes.map fun e => e.2.queue.length).foldl (· + ·) 0)

/-- A cycle in which a reference was clipped (R79, R95). -/
def State.countClip (s : State) (p c : Nat) (clip : Bool) : State :=
  let m := s.modOf p
  if ¬ clip then s
  else s.setMod p { m with clipped := true, satAt := c + 1, satCycles := if m.satAt = c + 1 then m.satCycles else holdAt 0xFFFF (m.satCycles + 1) }

/-- The carry an arm is left with, as `max_carry` counts it (R95). -/
def State.noteCarry (s : State) (p a deferred : Nat) (carry : Q) : State :=
  let m := s.modOf p
  let ns := (nearest (quot (absQ carry) (s.vCellNom p a) * 1000000000)).toNat
  s.setMod p { m with deferred := holdAt 0xFFFF (m.deferred + deferred), maxCarry := max m.maxCarry (holdAt 0xFFFF ns) }

/-- The arm's available cells, with those in CHARGING where it is wanted. -/
def State.workCells (s : State) (p a : Nat) (charging : Bool) : List (Nat × Cell) :=
  (s.cellsOf p a).filter fun e => e.2.st = .available || (charging && e.2.st = .charging)

/-- Last transitions of the arm's cells that the placement in hand leaves out, a cell just removed among them (R86). -/
def State.otherLast (s : State) (p a t0 : Nat) (lanes : List Nat) : List Int :=
  ((s.cellsOf p a).filter fun e => !lanes.contains e.1).map fun e => e.2.lastFrom t0

/-- Nearest-level control of an arm for cycle c (R82). -/
def State.placeNlc (s : State) (p a c : Nat) (v : Q) : State :=
  let T := s.cycleNs p
  let m := s.modOf p
  let cells := (s.workCells p a true).map fun e =>
    ({ lane := e.1, v := e.2.vpred, held := e.2.heldAt (c - 1), last := e.2.lastFrom (c * T), charging := decide (e.2.st = .charging) } : NCell)
  let r := nlc { T := T, tmin := s.tMinArm p a, tminPulse := s.tMinPulse p, gap := s.tStagger p, maxSwaps := s.maxSwaps p,
                 limit := s.balP p 16 * s.vCellNom p a, charges := decide (0 ≤ m.forecast a),
                 target := v * secOf T + Tab.get m.carry 0 a, half := unipolar (s.armType p a) } cells
    (s.otherLast p a (c * T) (cells.map NCell.lane))
  let s := s.setMod p { m with carry := Tab.set m.carry 0 a r.carry }
  (s.noteCarry p a r.deferred r.carry).queuePlans c r.plans

/-- The charging cells of a PSC arm that stand in for an available cell while the arm current charges them (R64): each for the available cell
of the highest voltage left (log entry 139). -/
def State.pscStandIns (s : State) (p a : Nat) : List (Nat × Nat) :=
  if (s.modOf p).forecast a < 0 then []
  else
    let rest := sortByQ (fun (e : Nat × Cell) => -e.2.vpred) (s.workCells p a false)
    (((s.cellsOf p a).filter fun e => e.2.st = .charging).map Prod.fst).zip (rest.map Prod.fst)

/-- The correction that balancing adds to a cell's modulation index in an MMC arm (R88). -/
def State.pscBalance (s : State) (p a : Nat) (mean v : Q) : Q :=
  if isMmc (s.shape p) then
    clampQ (-(s.balP p 16)) (s.balP p 16) (quot (mean - v) (s.vCellNom p a)) * (if (s.modOf p).forecast a < 0 then -1 else 1)
  else 0

/-- Phase-shifted carriers of an arm or string for cycle c (R88). The arm's |carry| is the sum of its available cells' (R95, log entry
140). -/
def State.placePsc (s : State) (p a c : Nat) (v : Q) : State :=
  let T := s.cycleNs p
  let t0 := c * T
  let tmin := s.tMinArm p a
  let cells := s.workCells p a false
  let n := cells.length
  let sum := sumQ (cells.map fun e => e.2.vpred)
  let x : PscIn := { half := unipolar (s.armType p a), fc := s.modP p 20, shift := s.interleave p, rot := s.modP p 24, T := T, t0 := t0,
                     n := n, index := quot v sum }
  let runs := ((List.range n).zip cells).map fun (j, e) =>
    (e.1, x.run j (s.pscBalance p a (quot sum n) e.2.vpred) e.2.vpred { carry := e.2.carry, due := e.2.due, halfNo := e.2.halfNo })
  let steps := fun (l : Nat) => ((runs.find? fun r => r.1 = l).map fun r => roundSteps r.2.steps).getD []
  let subs := s.pscStandIns p a
  let asks := fun (l : Nat) => match subs.find? fun e => e.1 = l with
    | some e => steps e.2
    | none => if subs.any fun e => e.2 = l then [] else steps l
  let all := s.workCells p a true
  let pcells := all.map fun e =>
    let start : Int := ((asks e.1).head?.map Prod.snd).getD 0
    ({ lane := e.1, held := e.2.heldAt (c - 1), last := e.2.lastFrom t0, start := start,
       steps := dropShort tmin start (tidySteps start ((asks e.1).drop 1)) } : PCell)
  let r := arrange T (s.tStagger p) tmin pcells (s.otherLast p a t0 (all.map Prod.fst))
  let got := fun (l : Nat) => ((r.1.find? fun z => z.1 = l).map fun z => z.2.area T).getD 0
  let s := runs.foldl (fun s e =>
    let y := s.cell e.1
    let doer := ((subs.find? fun z => z.2 = e.1).map Prod.fst).getD e.1
    s.setCell e.1 { y with carry := e.2.carry + e.2.owed - y.vpred * ((got doer : Int) : Q) / 1000000000, due := e.2.due,
                           halfNo := e.2.halfNo }) s
  let left := sumQ ((s.workCells p a false).map fun e => absQ e.2.carry)
  (s.noteCarry p a r.2 left).queuePlans c r.1

/-- The duty of a leg in half-period k of the carrier: the reference is taken at the half's start (R89). -/
def State.legDuty (s : State) (p a k : Nat) (d vdc : Q) (half : Nat) : State × Q :=
  let m := s.modOf p
  match Tab.get m.svmDuty (0, 0) a with
  | (j, x) =>
    if j = k + 1 then (s, x)
    else
      let unit := vdc * secOf half
      let want := d + quot (Tab.get m.svmCarry 0 a) unit
      let got := halfDuty (k % 2 = 0) (s.tMinArm p a) half (if j = k then x else clampQ 0 1 want) want
      (s.setMod p { m with svmDuty := Tab.set m.svmDuty (0, 0) a (k + 1, got), svmCarry := Tab.set m.svmCarry 0 a ((want - got) * unit) }, got)

/-- The sharing trim of a module in ns (R90). -/
def State.shareTrim (s : State) (p leg pos : Nat) (cells : List (Nat × Cell)) : Q :=
  let all := (List.range (s.armCells p (2 * leg))).all fun m => s.sdModule p leg m ≠ 0xFF
  if ¬ all then 0
  else
    let i := fun (m : Nat) => Tab.get s.sd 0 (s.sdModule p leg m)
    let avg := quot (sumQ (cells.map fun e => i e.2.pos)) cells.length
    clampQ (-(s.shareP p 44)) (s.shareP p 44) (s.shareP p 40 * (i pos - avg) * 1000000000)

/-- Space-vector PWM of one leg for cycle c (R89, R90): what rounding and the edge rules cost its modules enters the leg's carry (R84, R85). -/
def State.placeSvm (s : State) (p a c : Nat) (r : List Q) : State :=
  let T := s.cycleNs p
  let t0 := c * T
  let vdc := s.vdc p
  let half := (s.modP p 18).floor.toNat * T / 2
  let off := (nearest (s.interleave p * ((2 * half : Nat) : Q))).toNat
  let u := r.getD 0 0
  let v := r.getD 1 0
  let w := r.getD 2 0
  let v0 := svmZero (decide (s.modP p 17 = 1)) vdc u v w
  let leg := a / 2
  let d := svmDuty vdc (r.getD leg 0) v0
  let k0 := (t0 + off) / half
  let k1 := (t0 + off + T - 1) / half
  let a0 := s.legDuty p a k0 d vdc half
  let a1 := if k1 = k0 then a0 else a0.1.legDuty p a k1 d vdc half
  let s := a1.1
  let i := (s.phaseI p).getD leg 0
  let wt := clampQ 0 1 (1 / 2 + quot i (2 * s.modP p 32 * s.iRated p))
  let dead := s.modP p 28 * 1000000000
  let cells := s.workCells p a false
  let start := fun (k : Nat) => ((k * half : Nat) : Int) - off - t0
  let edge := fun (k : Nat) (x : Q) (trim : Q) =>
    svmEdge (k % 2 = 0) (start k) half x (if k % 2 = 0 then dead * wt else dead * (1 - wt)) trim
  let level := fun (k : Nat) (x : Q) (trim : Q) (at_ : Q) =>
    let e := edge k x trim
    if x = 0 then (0 : Int) else if x = 1 then 1 else if k % 2 = 0 then (if e ≤ at_ then 1 else 0) else if at_ < e then 1 else 0
  let after := fun (k : Nat) => if k % 2 = 0 then (1 : Int) else 0
  let exact := cells.map fun e =>
    let trim := s.shareTrim p leg e.2.pos cells
    let e0 := edge k0 a0.2 trim
    let b : Q := start k1
    let first := if 0 < a0.2 ∧ a0.2 < 1 ∧ 0 ≤ e0 ∧ e0 < (if k1 = k0 then (T : Q) else b) then [(e0, after k0)] else []
    let e1 := edge k1 a1.2 trim
    let second := if k1 = k0 then []
      else (b, level k1 a1.2 trim b) :: (if 0 < a1.2 ∧ a1.2 < 1 ∧ b < e1 ∧ e1 < T then [(e1, after k1)] else [])
    let l0 := level k0 a0.2 trim 0
    (e, l0, tidySteps l0 (first ++ second))
  let pcells := exact.map fun x =>
    ({ lane := x.1.1, held := x.1.2.heldAt (c - 1), last := x.1.2.lastFrom t0, start := x.2.1, steps := roundSteps x.2.2 } : PCell)
  let r := arrange T 0 (s.tMinArm p a) pcells []
  let lost := sumQ (exact.map fun x =>
    stepsArea T 0 x.2.1 x.2.2 - ((((r.1.find? fun z => z.1 = x.1.1).map fun z => z.2.area T).getD 0 : Int) : Q))
  let m := s.modOf p
  let carry := Tab.get m.svmCarry 0 a + quot lost exact.length * vdc / 1000000000
  let s := s.setMod p { m with svmCarry := Tab.set m.svmCarry 0 a carry }
  (s.noteCarry p a 0 carry).queuePlans c r.1

/-- Arranged plans are queued; transitions beyond the arm's limit are counted (R87, R95). -/
def State.queueArranged (s : State) (p a c : Nat) (r : List (Nat × Plan) × Nat) : State := (s.noteCarry p a r.2 0).queuePlans c r.1

/-- Cells brought to fixed levels for cycle c, as the edge rules allow (R85, R86). -/
def State.placeLevels (s : State) (p a c : Nat) (cells : List (Nat × Cell)) (level : Nat × Cell → Int) : State :=
  let T := s.cycleNs p
  let pc := cells.map fun e =>
    ({ lane := e.1, held := e.2.heldAt (c - 1), last := e.2.lastFrom (c * T), start := level e, steps := [] } : PCell)
  s.queueArranged p a c (arrange T (s.tStagger p) (s.tMinArm p a) pc (s.otherLast p a (c * T) (cells.map Prod.fst)))

/-- The active phase of a precharge for one arm (R60 step 3): the cells below the arm average are inserted while the current charges them, no
longer than `charge_rate` allows; the rest are bypassed. A cell whose self-test runs counts in the average and stays out (log entry 129). -/
def State.placeCharge (s : State) (p a c : Nat) : State :=
  let T := s.cycleNs p
  let cells := (s.cellsOf p a).filter fun e => e.2.st = .qualifying || e.2.st = .available
  let mean := quot (sumQ (cells.map fun e => e.2.vpred)) cells.length
  let i := (s.modOf p).forecast a
  let most := s.chargeRate p * s.vCellNom p a * s.cCell p a
  let tmin := s.tMinArm p a
  let on : Nat := if i ≤ 0 then 0 else if i ≤ most then T else (most * T / i).floor.toNat
  let on := if on < tmin then 0 else if T < on + tmin then T else on
  let pc := cells.map fun e =>
    let charge := decide (e.2.vpred < mean) && decide (0 < on) && !(decide (e.2.st = .qualifying) && decide (e.2.test = 1))
    ({ lane := e.1, held := e.2.heldAt (c - 1), last := e.2.lastFrom (c * T), start := if charge then 1 else 0,
       steps := if charge ∧ on < T then [(on, 0)] else [] } : PCell)
  s.queueArranged p a c (arrange T (s.tStagger p) tmin pc (s.otherLast p a (c * T) (cells.map Prod.fst)))

/-- The chopper string for cycle c (R202). -/
def State.placeString (s : State) (p c : Nat) : State :=
  let st := (s.part p).st
  if ¬ (st = .precharge ∨ st = .ready ∨ st = .running ∨ st = .braking) then s
  else
    let on := s.stringActive p
    let cells := s.workCells p 15 false
    let mean := quot (sumQ (cells.map fun e => e.2.vpred)) cells.length
    let s := s.stringSet p on
    s.placeLevels p 15 c cells fun e => if on ∧ mean - s.balP p 16 * s.vCellNom p 15 ≤ e.2.vpred then 1 else 0

/-- An arm under short-circuit braking (R206). -/
def State.placeShort (s : State) (p a c : Nat) (since_ : Time) : State :=
  let b := s.brkOf p
  let cells := s.workCells p a false
  if isMmc (s.shape p) then
    let swapping := decide (b.scSwapAt ≠ since_) && decide (s.now < b.scSwapAt + s.cycleNs p)
    if ¬ swapping ∧ a % 2 = b.scGroup then s.placeLevels p a c cells fun _ => 0 else s
  else
    let l : Int := if s.shape p = 5 ∧ s.brkByte p 18 2 = 2 ∧ b.scGroup = 1 then 1 else 0
    s.placeLevels p a c cells fun _ => l

/-- A zero-voltage pulse is on (R167): it lasts `zv_time` from its start. -/
def State.pulseOn (s : State) (p : Nat) : Bool :=
  let x := s.fbOf p
  (s.part p).st = .ready && x.restart = 2 && s.synchronous p && (s.ctlOf p).enWait.isSome &&
    (match x.zvAt with
     | some u => decide (u ≤ s.now) && decide (s.now < u + nsOf (s.rsP p 40))
     | none => false)

/-- The cells of an arm for cycle c under its method, from its references by arm code. -/
def State.placeMethod (s : State) (p a c : Nat) (ref : Nat → Q) : State :=
  if s.shape p = 5 then
    let r := [ref 0, ref 2, ref 4]
    let k := svmScale (s.modLimit p) (s.vdc p) r
    (s.countClip p c (decide (k ≠ 1))).placeSvm p a c (r.map fun x => k * x)
  else
    let v := s.clipRef p a (ref a)
    let s := s.countClip p c (decide (v ≠ ref a))
    if s.method p = 1 then s.placeNlc p a c v else s.placePsc p a c v

/-- One arm's placement for cycle c. Leg W of an exciter partition stays blocked (R108). -/
def State.placeArm (s : State) (p a c : Nat) : State :=
  let st := (s.part p).st
  let m := s.modOf p
  if a = 15 then s.placeString p c
  else if a = 4 ∧ s.shape p = 5 ∧ (s.excites p).isSome then s
  else if st = .precharge then (if (s.part p).phase = 3 ∧ isMmc (s.shape p) then s.placeCharge p a c else s)
  else if 6 ≤ a then (if s.supplyRuns p then s.placeMethod p a c (m.refFor c) else s)
  else if s.pulseOn p then
    (if s.shape p = 5 then s.placeLevels p a c (s.workCells p a false) fun _ => 0
     else s.placeMethod p a c fun _ => if isMmc (s.shape p) then s.vdc p / 2 else 0)
  else if st = .running ∨ st = .braking then
    match (s.brkOf p).sc with
    | some u => s.placeShort p a c u
    | none => s.placeMethod p a c (m.refFor c)
  else s

/-- The reference set that an arm needs for cycle c may still be published in the cycle in hand: the placement waits for it (R75, R76). -/
def State.awaitsRefs (s : State) (p a c : Nat) : Bool :=
  let st := (s.part p).st
  let needs := if 6 ≤ a then s.supplyRuns p else (st = .running || st = .braking) && (s.brkOf p).sc.isNone
  decide (a ≠ 15) && needs && decide (s.cycleNo p % (20000 / s.cycleNs p) = 0) && !(s.part p).published &&
    !(s.modOf p).refs.any fun e => e.1 = c

/-- `ARM_PLACEMENT` (R76, R82): the engine of arm `arm` places its edges for cycle c + 1, from the start of the compute window to the
placement cut-off, at which it takes the last reference of the set before where its own is not there. -/
def execArmPlacement (t : Time) (p arm : Nat) (s : State) : Res :=
  within p 8 s fun s => s.live t fun s =>
    let T := s.cycleNs p
    let o := s.now % T
    let cut := downWindowStart T - placeNs T
    if s.bondPartner p ∨ s.fencedPart p ∨ ¬ s.armGiven p arm ∨ o < upWindowEnd T ∨ cut < o ∨
      (o < cut ∧ s.awaitsRefs p arm (s.cycleNo p + 1)) then s
    else (s.predictArm p (s.cellsOf p arm)).placeArm p arm (s.cycleNo p + 1)

/-! ### Down-frames (R257 to R261, R263, R269) -/

/-- The command of a lane's next down-frame and its plan: 1 BLOCK, 2 BYPASS, 3 PLAN, 4 SELFTEST, 5 IDENTIFY (R259). -/
def State.downCommand (s : State) (l c : Nat) : Nat × Plan :=
  let x := s.cell l
  let ln := s.lane l
  let st := (s.part x.part).st
  if ln.lstate = 3 then (5, {})
  else if ln.tooLong ∨ st = .blocked ∨ st = .tripped ∨ st = .safeOff ∨ st = .unconfigured then (1, {})
  else if x.st = .bypassed then (2, {})
  else if (x.st = .qualifying ∨ x.admitting) ∧ x.test = 1 then (4, {})
  else
    match ln.queue.find? fun e => e.1 = c ∧ e.2.1 = (s.part x.part).epoch with
    | some e => if x.st = .available ∨ x.st = .charging ∨ x.st = .qualifying then (3, e.2.2) else (1, {})
    | none => (1, {})

/-- The fields of a lane's down-frame for cycle c (Tables 2, 3 and 7). -/
def State.downFrame (s : State) (l c : Nat) : Down :=
  let x := s.cell l
  let ln := s.lane l
  let p := x.part
  let T := s.cycleNs p
  let dc := s.downCommand l c
  let pl := dc.2
  let plan := decide (dc.1 = 3)
  let mask := fun (v : Int) => if plan then maskOfLevel x.kind v else 0
  let after0 := match pl.e0 with
    | some (_, v) => v
    | none => pl.start
  { seq := c % 65536, epoch := (s.part p).epoch, cmd := dc.1, mask0 := mask pl.start, mask1 := mask after0, mask2 := mask pl.last,
    e0 := (pl.e0.map Prod.fst).getD 0xFFFF, e1 := (pl.e1.map Prod.fst).getD 0xFFFF, tSync := tSyncOf T (ln.delay T),
    uOff := uOffOf T (ln.delay T), cycle := s.partByte p 17, hold := s.linkHold p, flags := if ln.standby then 1 else 0 }

/-- The longest cell cycle of any configured partition in ns, or 10 µs (R450). -/
def State.tMaxNs (s : State) : Nat :=
  match (List.range 8).filter fun p => (s.part p).st ≠ .unconfigured with
  | [] => 10000
  | p :: r => (r.map fun q => s.cycleNs q).foldl max (s.cycleNs p)

/-- Trained lanes that have not confirmed (R451). -/
def State.unconfirmedLanes (s : State) : List Nat := s.frz.trained.filter fun l => !s.frz.confirmed.contains l

/-- A lane that has not confirmed transmits nothing from 2 × T_max after the trigger of freeze on (R451). -/
def State.freezeSilent (s : State) (l : Nat) : Bool :=
  decide (s.power = .entering) && decide (s.frz.tFreeze + 2 * s.tMaxNs ≤ s.now) && s.unconfirmedLanes.contains l

/-- A lane sends its down-frame, or none while it is off, acquires, searches, is silent or isolated. -/
def State.sendDown (s : State) (l c : Nat) : State :=
  let ln := s.lane l
  let keep := ln.queue.filter fun e => decide (c < e.1) && decide (e.2.1 = (s.part (s.cell l).part).epoch)
  if (ln.lstate = 3 ∨ ln.lstate = 4) ∧ ln.silentUntil.isNone ∧ ¬ ln.silenced ∧ ¬ s.freezeSilent l then
    s.setLane l { ln with sent := some (s.downFrame l c), blockSeq := false, queue := keep }
  else s.setLane l { ln with sent := none, queue := keep }

/-- The references of a step cycle were not published in time (R33): an ALARM; two in a row or three in 16 close the fence. A first step under
a new epoch that was not published overruns in every state (R119). -/
def State.countOverrun (s : State) (p : Nat) : State :=
  let T := s.cycleNs p
  let x := s.part p
  if s.cycleNo p % (20000 / T) ≠ 0 ∨ s.shape p = 6 then s
  else if ¬ (s.machineRuns p || s.supplyRuns p) then (if x.published then s else s.migrationDone p 0x0008)
  else
    let o := !x.published
    let h := (o :: x.overruns).take 16
    let s := s.setPart p { x with overruns := h }
    if ¬ o then s
    else
      let s := (s.migrationDone p 0x0008).alarm (srcPart p) (Config.eventCode 3) []
      if h.take 2 = [true, true] ∨ 3 ≤ (h.filter id).length then s.closeFence p else s

/-- `DOWN_FRAME_WINDOW_START` (R33, R261). -/
def execDownFrameWindowStart (t : Time) (p : Nat) (s : State) : Res :=
  within p 8 s fun s => s.awake t fun s =>
    if s.bondPartner p ∨ (s.part p).st = .unconfigured then s
    else
      let s := s.countOverrun p
      (s.lanesOf p).foldl (fun s l => s.sendDown l (s.cycleNo p + 1)) s

end Sys2Proof.Machine
end

