-- ==== Sys2Proof/Machine/Thermal.lean ====
section
/-!
DEFINITION. Temperature sensing and thermal management (R300 to R312): evaluation, the neighbour cross-check, levels and their
actions, the derating factor, and the chapter's descriptors.
-/
namespace Sys2Proof.Machine
open Sys2Proof

def layCoolant : List Fld :=
  ((List.range 4).map fun k => fsd (16 + k)) ++ ((List.range 4).map fun k => fu8 (20 + k) 0 3) ++
    [fq 24 0 120 45, fq 28 0 120 50, fq 32 0 130 60, fq 36 (1/2) 10 2]
def layGroups : List Fld := [fenum 16 [0, 1, 2, 3, 4, 5, 6, 7, 8, 9, 10, 11, 15], { off := 17, ty := .u8 }]
def laySensorReset : List Fld := [fu8 16 0 1, { off := 17, ty := .u8 }, { off := 18, ty := .u8 }]

def State.coolP (s : State) (p off : Nat) : Q := paramOf layCoolant (s.stored 0x59 p 0) off
def State.coolByte (s : State) (p off dflt : Nat) : Nat := ((s.stored 0x59 p 0).map fun b => byteAt b (off - 16)).getD dflt
def State.thermOf (s : State) (p : Nat) : Therm := Tab.get s.therm {} p
def State.setTherm (s : State) (p : Nat) (x : Therm) : State := { s with therm := Tab.set s.therm {} p x }

/-- The three thresholds, the hysteresis, the deviation limit and its time in ms (Table 1 of R304, Table 5); the die's are its
fuse's, with the default deviation limit (log entry 30). -/
structure Limits where
  warn : Q
  thr : Q
  sd : Q
  hyst : Q
  dev : Q
  ms : Q

def dieLimits : Limits := { warn := 115, thr := 120, sd := 135, hyst := 5, dev := 15, ms := 5000 }
def State.cellLimits (s : State) (p : Nat) : Limits :=
  { warn := s.thermP p 16, thr := s.thermP p 20, sd := s.thermP p 24, hyst := s.thermP p 28, dev := s.thermP p 36, ms := s.thermP p 40 * 1000 }
def State.coolLimits (s : State) (p : Nat) : Limits :=
  { warn := s.coolP p 24, thr := s.coolP p 28, sd := s.coolP p 32, hyst := s.coolP p 36, dev := s.thermP p 36, ms := s.thermP p 40 * 1000 }

/-- Which sensor a number of the sensor table names. -/
inductive Site where
  | die (k : Nat)
  | cell (lane x : Nat)
  | cool (p i : Nat)
deriving DecidableEq, Repr

def Site.key : Site → Nat
  | .die k => k
  | .cell l x => cellSensor l x
  | .cool p i => coolSensor p i

def State.limitsOf (s : State) : Site → Limits
  | .die _ => dieLimits
  | .cell l _ => s.cellLimits (s.cell l).part
  | .cool p _ => s.coolLimits p

/-- The cooling group of a position (R302). -/
def State.coolGroup (s : State) (p a pos : Nat) : Nat := ((s.stored 0x5A p a).map fun b => byteAt b (48 + pos)).getD 0

/-- Coolant sensors that a partition names. -/
def State.coolSites (s : State) (p : Nat) : List Nat := (List.range 4).filter fun i => s.coolByte p (16 + i) 0xFF ≠ 0xFF

/-- The other sensors of a sensor's class around it, failed or not. -/
def State.peersOf (s : State) : Site → List Nat
  | .die k => ((List.range 8).map fun i => 8 * (k / 8) + i).filter fun i => i ≠ k
  | .cell l x =>
    let c := s.cell l
    let g := s.coolGroup c.part c.arm c.pos
    ((s.cellsOf c.part c.arm).filter fun e =>
      e.1 ≠ l && s.coolGroup c.part c.arm e.2.pos = g && (e.2.st = .available || e.2.st = .charging || e.2.st = .bypassed) &&
        (s.lane e.1).lstate = 4).map fun e => cellSensor e.1 x
  | .cool p i => ((s.coolSites p).filter fun k => k ≠ i && s.coolByte p (20 + k) 0 = s.coolByte p (20 + i) 0).map fun k => coolSensor p k

/-- The neighbours' readings (R302): failed sensors are never neighbours. -/
def State.neighbours (s : State) (x : Site) : List Q :=
  ((s.peersOf x).map fun k => s.sensor k).filter (fun y => y.seen && !y.failed) |>.map fun y => y.t

/-- The median of three or more readings: the middle one, or the mean of the middle two. -/
def median (l : List Q) : Option Q :=
  let o := sortByQ (fun x => x) l
  let n := o.length
  if n < 3 then none
  else if n % 2 = 1 then o[n / 2]? else some ((o.getD (n / 2 - 1) 0 + o.getD (n / 2) 0) / 2)

/-- A reading within the plausible range of its class (R301). -/
def plausible : Site → Q → Bool
  | .die _, t => decide (-60 ≤ t ∧ t ≤ 160)
  | .cell _ _, t => decide (-55 ≤ t ∧ t ≤ 200)
  | .cool _ _, t => decide (-40 ≤ t ∧ t ≤ 150)

/-- The source of a sensor's events. -/
def siteSource : Site → Nat
  | .die k => srcRegion (k / 8)
  | .cell l _ => srcLane l
  | .cool p _ => srcPart p

/-- A sensor is declared failed, with its ALARM (R301, R303). -/
def State.failSensor (s : State) (x : Site) : State :=
  if (s.sensor x.key).failed then s else (s.markSensor x.key true).alarm (siteSource x) 0x0602 []

/-- A reading taken at an evaluation (R300, R301). -/
def State.readSensor (s : State) (x : Site) (t : Q) : State :=
  let s := s.setSensor x.key { s.sensor x.key with seen := true, t := t }
  if plausible x t then s else s.failSensor x

/-- The highest valid reading of a sensor's class in its arm, partition or region (R303). -/
def State.highestValid (s : State) (x : Site) : Option Q :=
  let all : List Nat := match x with
    | .die k => (List.range 8).map fun i => 8 * (k / 8) + i
    | .cell l _ => ((s.cellsOf (s.cell l).part (s.cell l).arm).map fun e => [cellSensor e.1 0, cellSensor e.1 1]).flatten
    | .cool p _ => (s.coolSites p).map fun i => coolSensor p i
  match (all.map fun k => s.sensor k).filter (fun y => y.seen && !y.failed) with
  | [] => none
  | y :: r => some (r.foldl (fun m z => maxQ m z.t) y.t)

/-- The reading that counts (R303), and whether the sensor has neither its own reading nor a median. -/
def State.effOf (s : State) (x : Site) : Q × Bool :=
  let y := s.sensor x.key
  if ¬ y.failed then (y.t, false)
  else
    match median (s.neighbours x) with
    | some m => (m, false)
    | none => ((s.highestValid x).getD y.eff, true)

/-- Deviation from the median of the neighbours (R303): the time for which the sensor has been suspect. -/
def State.checkSensor (s : State) (x : Site) : State :=
  let y := s.sensor x.key
  let l := s.limitsOf x
  let other : Bool := match x with
    | .cell n k => let z := s.sensor (cellSensor n (1 - k)); z.seen && !z.failed && decide (absQ (y.t - z.t) ≤ l.dev)
    | _ => false
  match median (s.neighbours x) with
  | some m =>
    let sus := !y.failed && decide (l.dev < absQ (y.t - m)) && !other
    s.setSensor x.key { y with suspect := sus, susp := if sus then y.susp + 1 else 0 }
  | none => s.setSensor x.key { y with suspect := false, susp := 0 }

/-- A count of consecutive evaluations at a threshold, up to 4. -/
def countUp (n : Nat) (b : Bool) : Nat := if b then min 4 (n + 1) else 0

/-- The level a sensor falls to (R304): the highest, up to its own, whose threshold less the hysteresis the reading reaches. -/
def fallTo (l : Limits) (level : Nat) (t : Q) : Nat :=
  if 3 ≤ level ∧ l.sd - l.hyst ≤ t then 3
  else if 2 ≤ level ∧ l.thr - l.hyst ≤ t then 2
  else if 1 ≤ level ∧ l.warn - l.hyst ≤ t then 1
  else 0

/-- Counts and falling levels of one sensor at an evaluation (R304). -/
def State.levelSensor (s : State) (x : Site) : State :=
  let y := s.sensor x.key
  let l := s.limitsOf x
  let t := (s.effOf x).1
  s.setSensor x.key { y with eff := t, level := fallTo l y.level t, n1 := countUp y.n1 (decide (l.warn ≤ t)),
                             n2 := countUp y.n2 (decide (l.thr ≤ t)), n3 := countUp y.n3 (decide (l.sd ≤ t)) }

/-- The cell sensors of a partition that have given a reading. -/
def State.cellSites (s : State) (p : Nat) : List Site :=
  (((s.partCells p).filter fun e => (s.lane e.1).lastFrame ≠ []).map fun e => [Site.cell e.1 0, Site.cell e.1 1]).flatten

def State.partSites (s : State) (p : Nat) : List Site := s.cellSites p ++ (s.coolSites p).map fun i => Site.cool p i

/-- k(s) of R307. -/
def State.derate (s : State) (p : Nat) (x : Site) : Q :=
  let l := s.limitsOf x
  let m := s.thermP p 32
  clampQ m 1 (1 - (1 - m) * quot ((s.sensor x.key).eff - l.thr) (l.sd - l.thr))

/-- The factor k_th moves on by one evaluation (R307). -/
def State.derateStep (s : State) (p : Nat) : State :=
  let hot := (s.partSites p).filter fun x => 2 ≤ (s.sensor x.key).level
  let goal := hot.foldl (fun m x => minQ m (s.derate p x)) 1
  let k := (s.thermOf p).kth
  s.setTherm p { s.thermOf p with kth := if goal < k then goal else minQ goal (k + 1 / 10000) }

/-- `THERMAL_BLIND` raised once while some failed sensor has no median (R303). -/
def State.watchBlind (s : State) (r : Nat) : State :=
  let dies := (List.range 8).any fun i => (s.effOf (.die (8 * r + i))).2
  let cells := (s.partSites r).any fun x => (s.effOf x).2
  let x := s.region r
  let y := s.thermOf r
  let s := (s.setRegion r { x with blind := dies }).setTherm r { y with blind := cells }
  let s := if dies ∧ ¬ x.blind then s.alarm (srcRegion r) 0x0603 [] else s
  if cells ∧ ¬ y.blind then s.alarm (srcPart r) 0x0603 [] else s

/-- `THERMAL_EVALUATION` (R300 to R307): the supervisor of region r evaluates its die sensors, given in °C, and the sensors of
the partition it owns; the coolant inputs are given as densities averaged over the last 1 ms. -/
def execThermalEvaluation (t : Time) (r : Nat) (die cool : List Q) (s : State) : Res :=
  within r 8 s fun s => s.live t fun s =>
    if (s.region r).fenced then s
    else
      let s := (List.range 8).foldl (fun s i => s.readSensor (.die (8 * r + i)) (die.getD i 0)) s
      let s := (s.cellSites r).foldl (fun s x => match x with
        | .cell l k => s.readSensor x (if k = 0 then (s.cell l).tempA else (s.cell l).tempB)
        | _ => s) s
      let s := (s.coolSites r).foldl (fun s i =>
        let k := s.coolByte r (16 + i) 0xFF
        if (Tab.get s.sdFlags 0 k).testBit 1 then s
        else s.readSensor (.cool r i) (if s.sdOn k then s.sdScale k (cool.getD i 0) else 0)) s
      let all := ((List.range 8).map fun i => Site.die (8 * r + i)) ++ s.partSites r
      let s := all.foldl (fun s x => s.checkSensor x) s
      let s := all.foldl (fun s x => s.levelSensor x) s
      ((s.derateStep r).watchBlind r).releaseBulk

/-- An event about one sensor: class 0 die, 1 cell (2 × lane + sensor), 2 coolant (4 × partition + sensor). -/
def siteEvent (t : Time) (cls idx : Nat) (s : State) (f : State → Site → State) : Res :=
  within cls 3 s fun s =>
    let x : Site := if cls = 0 then .die (idx % 64) else if cls = 1 then .cell (idx / 2 % 1024) (idx % 2) else .cool (idx / 4 % 8) (idx % 4)
    s.live t fun s => f s x

/-- `SENSOR_FAILED` (R303): the sensor has been suspect for `xc_time`; a level that its own reading was about to reach is left
(R305). -/
def execSensorFailed (t : Time) (cls idx : Nat) (s : State) : Res :=
  siteEvent t cls idx s fun s x =>
    let y := s.sensor x.key
    let l := s.limitsOf x
    if ¬ y.suspect ∨ y.failed ∨ y.susp < l.ms then s
    else
      let s := s.failSensor x
      let e := (s.effOf x).1
      let z := s.sensor x.key
      (s.setSensor x.key { z with eff := e, level := fallTo l z.level e, n1 := if l.warn ≤ e then z.n1 else 0,
                                  n2 := if l.thr ≤ e then z.n2 else 0, n3 := if l.sd ≤ e then z.n3 else 0 }).releaseBulk

/-- A suspect sensor's shut-down level is confirmed (R305). -/
def State.confirmed (s : State) : Site → Bool
  | .die k => (List.range 64).any fun i => i ≠ k && 2 ≤ (s.sensor i).level
  | .cell l x => 2 ≤ (s.sensor (cellSensor l (1 - x))).level
  | .cool _ _ => true

/-- The action of a level reached (Table 2 of R306). -/
def State.levelAction (s : State) (x : Site) (level : Nat) (was : Bool) : State :=
  match x with
  | .die k =>
    if level = 1 then s.warn (siteSource x) 0x0604 []
    else if level = 2 then (if was then s else s.alarm (siteSource x) 0x0605 [])
    else ({ s with sys := { s.sys with dieShutdown := true } }.chipTrip 0x0606 k).chipFail 6
  | .cell l _ =>
    let c := s.cell l
    if level = 1 then s.warn (siteSource x) 0x0604 (evd 0x0604 [(c.arm : Q), (c.pos : Q)])
    else if level = 3 then s.loseCell l 3
    else s
  | .cool p _ =>
    if level = 1 then s.warn (siteSource x) 0x0604 []
    else if level = 3 then
      let s := s.alarm (siteSource x) 0x0607 []
      let st := (s.part p).st
      if st = .running then s.startEstop p
      else if st = .precharge ∨ st = .ready then (s.quiet p).setPState p .blocked
      else s
    else s

/-- `THERMAL_LEVEL_RISE` (R304 to R306): 4 evaluations at a threshold. -/
def execThermalLevelRise (t : Time) (cls idx : Nat) (s : State) : Res :=
  siteEvent t cls idx s fun s x =>
    let y := s.sensor x.key
    let top := if 4 ≤ y.n3 then 3 else if 4 ≤ y.n2 then 2 else if 4 ≤ y.n1 then 1 else 0
    let top := if top = 3 ∧ y.suspect ∧ ¬ y.failed ∧ ¬ s.confirmed x then 2 else top
    if top ≤ y.level then s
    else
      let was := s.dieThrottle
      (s.setSensor x.key { y with level := top }).levelAction x top was

/-! ### What a temperature bars (R308) -/

/-- Energising commands are refused. -/
def State.tooHot (s : State) (p : Nat) : Bool :=
  (List.range 64).any (fun k => (s.sensor k).seen && decide (130 ≤ (s.sensor k).eff)) ||
    (s.coolSites p).any fun i => (s.sensor (coolSensor p i)).level = 3

/-! ### Descriptors (R310, R311) -/

/-- Thresholds rise by more than their hysteresis (R304). -/
def orderOk (warn thr sd hyst : Q) : Bool := decide (hyst < thr - warn) && decide (hyst < sd - thr)

/-- `THERM_CONFIG`. -/
def execThermConfig (d : Desc) (s : State) : Res :=
  serveRes (confInfo 0x58 layTherm) d none
    (fun s => if orderOk (d.f32 16) (d.f32 20) (d.f32 24) (d.f32 28) then { st := s } else Reply.no s 0x0600) s

/-- `COOLANT_CONFIG`. -/
def execCoolantConfig (d : Desc) (s : State) : Res :=
  serveRes (confInfo 0x59 layCoolant) d none
    (fun s => if orderOk (d.f32 24) (d.f32 28) (d.f32 32) (d.f32 36) then { st := s } else Reply.no s 0x0600) s

/-- `THERM_GROUPS`: one group byte for each position from the host buffer. -/
def execThermGroups (d : Desc) (s : State) : Res :=
  serveRes (confInfo 0x5A layGroups) d (some (d.u8 17)) (fun s => { st := s, keyC := d.u8 16 }) s

/-- The effect of `THERM_SENSOR_RESET`: the failed marks are cleared (R303). -/
def sensorResetEffect (d : Desc) (s : State) : Reply :=
  let p := d.target
  if d.u8 16 = 1 then
    (if d.u8 18 < 4 then { st := s.markSensor (coolSensor p (d.u8 18)) false } else Reply.no s 0x0003)
  else
    match s.laneAt p (d.u8 17) (d.u8 18) with
    | none => Reply.no s 0x0003
    | some l => { st := (s.markSensor (cellSensor l 0) false).markSensor (cellSensor l 1) false }

/-- `THERM_SENSOR_RESET`. -/
def execThermSensorReset (d : Desc) (s : State) : Res :=
  serveRes { op := 0x5B, tgt := .part, need := .part, lease := true, lay := laySensorReset,
             states := some [.blocked, .precharge, .ready, .running, .braking, .tripped, .safeOff] } d none (sensorResetEffect d) s

/-- The hottest sensor of a list by its effective reading. -/
def State.hottest (s : State) : List Site → Option Site
  | [] => none
  | x :: r => some (r.foldl (fun m y => if (s.sensor m.key).eff < (s.sensor y.key).eff then y else m) x)

/-- The result of `THERM_STATUS` (Table 6). -/
def State.thermResult (s : State) (p : Nat) : List Byte :=
  let sites := (s.partSites p).filter fun x => (s.sensor x.key).seen
  let level := (sites.map fun x => (s.sensor x.key).level).foldl max 0
  let failed := (sites.filter fun x => (s.sensor x.key).failed).length
  let hot := s.hottest sites
  let lane := match hot with
    | some (.cell l _) => l
    | _ => 0xFFFF
  let top := (hot.map fun x => (s.sensor x.key).eff).getD 0
  let stop := (s.coolSites p).any fun i => (s.sensor (coolSensor p i)).level = 3
  let flag := fun (k : Nat) (b : Bool) => if b then 2 ^ k else 0
  leBytes 1 level ++ leBytes 1 (holdAt 255 failed) ++ leBytes 2 lane ++ leBytesInt 2 (codeOf 16 (1 / 4) top) ++
    leBytes 1 (ucodeOf 8 (1 / 255) (s.thermOf p).kth) ++
    leBytes 1 (flag 0 s.dieThrottle + flag 1 (s.thermOf p).blind + flag 2 stop)

/-- `THERM_STATUS`. -/
def execThermStatus (d : Desc) (s : State) : Res :=
  serveRes { op := 0x5F, tgt := .part, need := .read, gives := true } d none (fun s => { st := s, result := s.thermResult d.target }) s

end Sys2Proof.Machine
end

