-- ==== Sys2Proof/Machine/Setup.lean ====
section
/-!
DEFINITION. Configuration descriptors of partitions, modulation, machine control and feedback (R67 to R70, R93 to R95, R120 to
R122, R169, R171, R172): each stores its parameters after its own checks and those of R505.
-/
namespace Sys2Proof.Machine
open Sys2Proof

/-! ### Partitions and cells (R67 to R69) -/

/-- The effect of `PART_CONFIG`: `sd_vdc` lies within the partition's regions, as the descriptor itself bonds them (Table 9 of R68). -/
def partConfigEffect (d : Desc) (s : State) : Reply :=
  if ¬ ((s.withStored 0x10 d 0).confRegions d.target).contains (sdRegion (d.u16 28)) then Reply.no s 0x0003
  else reformEffect allChecks 0x10 d 0 s

/-- `PART_CONFIG` (R68). -/
def execPartConfig (d : Desc) (s : State) : Res := serveRes (confInfo 0x10 layPartConfig) d none (partConfigEffect d) s

/-- The effect of `ARM_CONFIG` (R68): r from 0 to N − 1. -/
def armConfigEffect (d : Desc) (s : State) : Reply :=
  if d.u16 18 ≤ d.u16 20 then Reply.no s 0x0003 else reformEffect allChecks 0x11 d (d.u8 16) s

/-- `ARM_CONFIG`. -/
def execArmConfig (d : Desc) (s : State) : Res := serveRes (confInfo 0x11 layArmConfig) d none (armConfigEffect d) s

/-- `LANE_ASSIGN` (R68): 4 bytes for each entry in the host buffer. -/
def execLaneAssign (d : Desc) (s : State) : Res :=
  serveRes (confInfo 0x12 layLaneAssign) d (some (4 * d.u16 16)) (laneAssignEffect allChecks d) s

/-- The effect of `PART_COMMIT` (R61, R505). -/
def partCommitEffect (d : Desc) (s : State) : Reply :=
  let c := s.commitStatus d.target
  if c ≠ 0 then Reply.no s c else { st := s.commit d.target }

/-- `PART_COMMIT`. -/
def execPartCommit (d : Desc) (s : State) : Res :=
  serveRes { confInfo 0x13 [] with states := some [.unconfigured], conf := false } d none (partCommitEffect d) s

/-- `PRECHARGE_CONFIG` (R69). -/
def execPrechargeConfig (d : Desc) (s : State) : Res := serveRes (confInfo 0x15 layPrecharge) d none (storeEffect 0x15 d 0) s

/-- A stored configuration descriptor of a partition, allowed in the states listed. -/
def setInfo (op : Nat) (lay : List Fld) (st : List PState) : OpInfo := { confInfo op lay with states := some st }

/-- `CELL_POLICY` (R69). -/
def execCellPolicy (d : Desc) (s : State) : Res := serveRes (setInfo 0x16 layPolicy st05) d none (storeEffect 0x16 d 0) s

/-! ### Modulation (R93 to R95) -/

/-- `MOD_CONFIG`. -/
def execModConfig (d : Desc) (s : State) : Res := serveRes (confInfo 0x20 layMod) d none (storeEffect 0x20 d 0) s

/-- `EDGE_CONFIG`. -/
def execEdgeConfig (d : Desc) (s : State) : Res := serveRes (confInfo 0x21 layEdge) d none (storeEffect 0x21 d 0) s

/-- `BALANCE_CONFIG`. -/
def execBalanceConfig (d : Desc) (s : State) : Res := serveRes (setInfo 0x22 layBalance st05) d none (storeEffect 0x22 d 0) s

/-- `CIRC_CONFIG`. -/
def execCircConfig (d : Desc) (s : State) : Res := serveRes (setInfo 0x23 layCirc st05) d none (storeEffect 0x23 d 0) s

/-- `ARM_SENSE`. -/
def execArmSense (d : Desc) (s : State) : Res := serveRes (confInfo 0x24 laySense) d none (storeEffect 0x24 d 0) s

/-- `SHARE_CONFIG`. -/
def execShareConfig (d : Desc) (s : State) : Res := serveRes (confInfo 0x25 layShare) d none (storeEffect 0x25 d 0) s

/-- `MOD_LIMIT`. -/
def execModLimit (d : Desc) (s : State) : Res := serveRes (setInfo 0x26 layModLimit st15) d none (storeEffect 0x26 d 0) s

/-- The result of `MOD_STATUS` (Table 6). -/
def Mod.result (m : Mod) : List Byte :=
  leBytes 2 (holdAt 0xFFFF m.satCycles) ++ leBytes 2 (holdAt 0xFFFF m.deferred) ++ leBytes 2 (holdAt 0xFFFF m.lateRefs) ++
    leBytes 2 (holdAt 0xFFFF m.maxCarry)

/-- `MOD_STATUS` (R95): the read clears the counters. -/
def execModStatus (d : Desc) (s : State) : Res :=
  serveRes { op := 0x2F, tgt := .part, need := .read, gives := true } d none (fun s =>
    let m := s.modOf d.target
    { st := s.setMod d.target { m with satCycles := 0, deferred := 0, lateRefs := 0, maxCarry := 0 }, result := m.result }) s

/-! ### Machine control (R120 to R122) -/

/-- `MACH_CONFIG`. -/
def execMachConfig (d : Desc) (s : State) : Res := serveRes (confInfo 0x30 layMach) d none (storeEffect 0x30 d 0) s

/-- `MACH_PARAMS`. -/
def execMachParams (d : Desc) (s : State) : Res := serveRes (confInfo 0x31 layMachParams) d none (storeEffect 0x31 d 0) s

/-- `CURRENT_CONFIG`. -/
def execCurrentConfig (d : Desc) (s : State) : Res := serveRes (setInfo 0x32 layCurrent st05) d none (storeEffect 0x32 d 0) s

/-- `OBSERVER_CONFIG`. -/
def execObserverConfig (d : Desc) (s : State) : Res := serveRes (setInfo 0x33 layObserver st05) d none (storeEffect 0x33 d 0) s

/-- `SPEED_CONFIG`. -/
def execSpeedConfig (d : Desc) (s : State) : Res := serveRes (setInfo 0x34 laySpeed st05) d none (storeEffect 0x34 d 0) s

/-- `LIMITS`. -/
def execLimits (d : Desc) (s : State) : Res := serveRes (setInfo 0x35 layLimits st05) d none (storeEffect 0x35 d 0) s

/-- `FIELD_CONFIG`. -/
def execFieldConfig (d : Desc) (s : State) : Res := serveRes (setInfo 0x36 layField st05) d none (storeEffect 0x36 d 0) s

/-- `SUPPLY_CONFIG`. -/
def execSupplyConfig (d : Desc) (s : State) : Res := serveRes (confInfo 0x37 laySupply) d none (storeEffect 0x37 d 0) s

/-- The effect of `EXCITER_CONFIG` (R108, R275): a motor channel in the partition's region, free of other use, or a partition. -/
def exciterEffect (d : Desc) (s : State) : Reply :=
  let p := d.target
  let n := d.u8 17
  if d.u8 16 = 1 then
    if ¬ (s.confRegions p).contains (auxRegion n) then Reply.no s 0x0003
    else if ¬ s.claimFree (motorClaim n) 0x3A p then Reply.no s 0x0A00
    else storeEffect 0x3A d 0 s
  else if 8 ≤ n then Reply.no s 0x0003
  else storeEffect 0x3A d 0 s

/-- `EXCITER_CONFIG`. -/
def execExciterConfig (d : Desc) (s : State) : Res := serveRes (confInfo 0x3A layExciter) d none (exciterEffect d) s

/-! ### Feedback (R148, R169, R171, R172) -/

/-- The effect of `FB_CONFIG`: `fb_if` = 0xFF goes with mode 2 only (R171), and an interface serves one partition (R148). -/
def fbConfigEffect (d : Desc) (s : State) : Reply :=
  if d.u8 16 = 0xFF ∧ d.u8 18 ≠ 2 then Reply.no s 0x0003
  else if d.u8 16 ≠ 0xFF ∧ s.fbTaken d.target (d.u8 16) then Reply.no s 0x0500
  else storeEffect 0x50 d 0 s

/-- `FB_CONFIG`. -/
def execFbConfig (d : Desc) (s : State) : Res := serveRes (confInfo 0x50 layFb) d none (fbConfigEffect d) s

/-- `ENC_CONFIG`. -/
def execEncConfig (d : Desc) (s : State) : Res := serveRes (confInfo 0x51 layEnc) d none (storeEffect 0x51 d 0) s

/-- `RES_CONFIG`. -/
def execResConfig (d : Desc) (s : State) : Res := serveRes (confInfo 0x52 layRes) d none (storeEffect 0x52 d 0) s

/-- `BISS_CONFIG`: single-turn and multi-turn bits together at most 48 (R159). -/
def execBissConfig (d : Desc) (s : State) : Res :=
  serveRes (confInfo 0x53 layBiss) d none (fun s => if d.u8 17 + d.u8 18 ≤ 48 then storeEffect 0x53 d 0 s else Reply.no s 0x0003) s

/-- `SENSORLESS_CONFIG`: `sl_off` up to `sl_on` (Table 6). -/
def execSensorlessConfig (d : Desc) (s : State) : Res :=
  serveRes (setInfo 0x54 laySensorless st013) d none
    (fun s => if slRange (d.f32 16) (d.f32 20) then storeEffect 0x54 d 0 s else Reply.no s 0x0003) s

/-- `RESTART_CONFIG`. -/
def execRestartConfig (d : Desc) (s : State) : Res := serveRes (setInfo 0x55 layRestart st013) d none (storeEffect 0x55 d 0) s

/-- The index of interface e is in use: an incremental encoder of some partition takes it (R153, R169). -/
def State.indexUsed (s : State) (e : Nat) : Bool :=
  (List.range 8).any fun q => s.given 0x50 q 0 && s.fbIf q = e && s.fbType q = 1 && s.useIndex q

/-- The status of one limit source (R169): 0, a range outside the partition's regions, or a pin or channel in use. -/
def State.limitSource (s : State) (p c : Nat) : Nat :=
  if c = 0xFF then 0
  else if ¬ (s.confRegions p).contains (if c < 8 then c else switchRegion c) then 0x0003
  else if (c < 8 ∧ s.indexUsed c) ∨ ¬ s.claimFree c 0x56 p then 0x0500
  else 0

/-- `LIMIT_CONFIG` (R169). -/
def execLimitConfig (d : Desc) (s : State) : Res :=
  serveRes (setInfo 0x56 layLimitIn st05) d none (fun s =>
    let c := firstStatus [s.limitSource d.target (d.u8 16), s.limitSource d.target (d.u8 17)]
    if c ≠ 0 then Reply.no s c else storeEffect 0x56 d 0 s) s

end Sys2Proof.Machine
end

