-- ==== Sys2Proof/Machine/Start.lean ====
section
/-!
DEFINITION. The commands that move a partition between its states (R57 to R60, R64) and the events that complete them, with
what bars an energising command (R115, R175, R228, R233, R244, R308) and the checks of the brake channels (R294).
-/
namespace Sys2Proof.Machine
open Sys2Proof

/-- The stored payloads of a tandem's members on this chip differ from the partition's own (R175). -/
def State.tandemDiffers (s : State) (p : Nat) : Bool :=
  s.inTandem p && (s.members p).any fun m => m.node = s.node && decide (s.stored 0x60 m.part 0 ≠ s.stored 0x60 p 0)

/-- The status that bars `PRECHARGE`, 0 for none; the payload of a member on another chip differs or not. -/
def State.prechargeBar (s : State) (p : Nat) (differs : Bool) : Nat :=
  if (s.part p).st ≠ .blocked then 0x0004
  else if s.shape p = 2 ∧ ¬ (s.ctlOf p).locked then 0x0305
  else if s.inTandem p ∧ (differs ∨ s.tandemDiffers p) then 0x0700
  else if s.sourceActive p then 0x0106
  else if s.stoHolds p then 0x0107
  else if s.sec.certified ∧ ¬ s.sys.tripLock then 0x090D
  else if (s.protOf p).failed ≠ 0 then 0x090B
  else if s.selftestBar p ≠ 0 then s.selftestBar p
  else if s.tooHot p then 0x0601
  else 0

/-- The partition enters PRECHARGE: every IDENTIFIED cell enters QUALIFYING (R60 step 1), and its arms are judged (R49). -/
def State.enterPrecharge (s : State) (p : Nat) : State :=
  let s := s.setPState p .precharge
  let s := s.setPart p { s.part p with phase := 1 }
  let s := (s.partCells p).foldl (fun s e => if e.2.st = .identified then s.qualify e.1 else s) s
  (s.precharge1 p).judgeArms p

/-- The TL partition that excites a partition's machine enters PRECHARGE with it where nothing bars that (R108). -/
def State.prechargeAll (s : State) (p : Nat) : State :=
  let s := s.enterPrecharge p
  let n := s.excByte p 17
  if s.machine p = 4 ∧ s.given 0x3A p 0 ∧ s.excByte p 16 = 2 ∧ s.prechargeBar n false = 0 then s.enterPrecharge n else s

/-- The effect of `PRECHARGE`: a claimed brake channel that is off is checked first (R294). -/
def prechargeEffect (differs : Bool) (d : Desc) (s : State) : Reply :=
  let p := d.target
  let c := s.prechargeBar p differs
  let chans := (s.brakeCodes p).filter fun c => (s.auxOf c).st = 0
  if s.beaten p 9 then Reply.no s 0x0004
  else if c ≠ 0 then Reply.no s c
  else if (Tab.get s.precWait none p).isSome then Reply.no s 0x0004
  else if chans = [] then { st := s.prechargeAll p }
  else
    let s := chans.foldl (fun s c => s.auxCheck c 0) s
    { st := { s with precWait := Tab.set s.precWait none p (some (d.page, d.series, d.seq)) }, await := some .own }

/-- `PRECHARGE` (R60, R67); whether the payload of a tandem member on another chip differs. -/
def execPrecharge (d : Desc) (differs : Bool) (s : State) : Res :=
  serveRes (stateInfo 0x17 [.blocked]) d none (prechargeEffect differs d) s

/-- A `PRECHARGE` whose brake channels have all been checked goes on. -/
def State.prechargeGoes (s : State) (p : Nat) : State :=
  match Tab.get s.precWait none p with
  | none => s
  | some (n, series, seq) =>
    if (s.brakeCodes p).any fun c => (s.auxOf c).st = 1 then s
    else
      let s := { s with precWait := Tab.set s.precWait none p none }
      let c := if s.fencedPart p then 0x0004 else s.prechargeBar p false
      if c ≠ 0 then s.finish n series seq c [] else (s.prechargeAll p).finish n series seq 0 []

/-- `AUX_DIAG_STEP` (R294): `t_settle` has passed on a channel under check; the voltages at its pins. -/
def execAuxDiagStep (t : Time) (chan : Nat) (volts : List Q) (s : State) : Res :=
  if ¬ auxCodes.contains chan then .fault .noSuchElement
  else .next (s.live t fun s =>
    let x := s.auxOf chan
    let s := if x.st = 1 ∧ x.stAt + nsOf (s.diagP chan 28) ≤ s.now then s.diagStep chan volts else s
    (List.range 8).foldl (fun s p => s.prechargeGoes p) s)

/-- The cells that phase 4 left are decided, and the partition enters READY when it is complete (R60, R115). -/
def State.prechargeEnds (s : State) (p : Nat) : State :=
  if (s.partCells p).any fun e => e.2.st = .qualifying && e.2.test = 1 then s
  else
    let s := (s.decideCells p).judgeArms p
    if (s.part p).st = .precharge ∧ s.precharged p ∧ (s.shape p ≠ 2 ∨ (s.ctlOf p).locked) then s.setPState p .ready else s

/-- `PRECHARGE_COMPLETE` (R60 steps 3 to 5): the active phase has brought every arm average to nominal, or enough cells have
qualified. -/
def execPrechargeComplete (t : Time) (p : Nat) (s : State) : Res :=
  within p 8 s fun s => s.live t fun s =>
    let x := s.part p
    let near := (s.armsOf p).all fun a => decide (absQ (s.armAverage p a - s.vCellNom p a) ≤ s.qualBand p * s.vCellNom p a)
    if x.st ≠ .precharge then s
    else if x.phase = 3 ∧ near then
      let s := (s.setPart p { x with phase := 4 }).decideCells p
      if (s.part p).st = .precharge then
        let s := (s.setPart p { s.part p with phase := 5 }).judgeArms p
        if (s.part p).st = .precharge then s.prechargeEnds p else s
      else s
    else if x.phase = 5 then s.prechargeEnds p
    else s

/-- The effect of `ENABLE` (R57, R108, R164, R244, R308). -/
def enableEffect (d : Desc) (s : State) : Reply :=
  let p := d.target
  let waits := (s.ctlOf p).enWait.isSome
  let wait := fun (s : State) => (s.setCtl p { s.ctlOf p with enWait := some (d.page, d.series, d.seq, s.now) }).setFb p
    { s.fbOf p with restart := 1 }
  if s.beaten p 9 then Reply.no s 0x0004
  else if s.selftestBar p ≠ 0 then Reply.no s (s.selftestBar p)
  else if s.tooHot p then Reply.no s 0x0601
  else if waits then Reply.no s 0x0004
  else if s.shape p ≠ 6 ∧ s.machine p = 4 then { st := wait s, await := some .own }
  else if s.needsPulses p then { st := (wait s).begin p, await := some .own }
  else { st := s.enterRunning p }

/-- `ENABLE`. -/
def execEnable (d : Desc) (s : State) : Res := serveRes (stateInfo 0x18 [.ready]) d none (enableEffect d) s

/-- The effect of `DISABLE` (R57): the machine current ramps to 0, and it completes in READY. -/
def disableEffect (d : Desc) (s : State) : Reply :=
  let p := d.target
  if s.beaten p 9 then Reply.no s 0x0004
  else
  let s := s.setBrk p { s.brkOf p with rampDown := true }
  { st := s.setPart p { s.part p with disabling := (s.part p).disabling ++ [(d.page, d.series, d.seq)] }, await := some .own }

/-- `DISABLE`. -/
def execDisable (d : Desc) (s : State) : Res := serveRes (stateInfo 0x19 [.running]) d none (disableEffect d) s

/-- `DISABLE_COMPLETE` (R57, R209, R215): machine current below 2 % of rated for 1 ms; a BC partition has none. -/
def execDisableComplete (t : Time) (p : Nat) (s : State) : Res :=
  within p 8 s fun s => s.live t fun s =>
    let x := s.part p
    let b := s.brkOf p
    if b.rampDown ∧ (x.st = .running ∨ x.st = .braking) ∧ (s.shape p = 6 ∨ stoodFor b.lowSince s.now 1000000) then
      let s := (s.setPart p { x with disabling := [] }).toReady p
      x.disabling.foldl (fun s (e : Nat × Nat × Nat) => s.finish e.1 e.2.1 e.2.2 0 []) s
    else s

/-- The effect of `BLOCK` (R57): BLOCKED from PRECHARGE to BRAKING; elsewhere, or where a higher cause of its round decides (R59),
nothing. -/
def blockEffect (d : Desc) (s : State) : Reply :=
  let p := d.target
  if (s.part p).st.energised ∧ ¬ s.beaten p 4 then { st := (s.quiet p).setPState p .blocked } else { st := s }

/-- `BLOCK`, also on the urgent doorbell (R67). -/
def execBlock (d : Desc) (s : State) : Res :=
  serveRes infoBlock d none (blockEffect d) s

/-- The effect of `TRIP_RESET` (R57, R229); a source of its own round defeats it (R59). -/
def tripResetEffect (d : Desc) (s : State) : Reply :=
  let p := d.target
  if s.beaten p 9 ∨ (s.protOf p).recs.any (fun r => r.t = s.now) then Reply.no s 0x0004
  else if s.sourceActive p then Reply.no s 0x0106
  else if s.stoHolds p then Reply.no s 0x0107
  else { st := s.setPState p .blocked }

/-- `TRIP_RESET`. -/
def execTripReset (d : Desc) (s : State) : Res := serveRes (stateInfo 0x1B [.tripped]) d none (tripResetEffect d) s

/-- `CELL_ADMIT` (R64, R308). -/
def execCellAdmit (d : Desc) (s : State) : Res := serveRes (infoCell 0x1D) d none (cellAdmitEffect State.cellHot d) s

end Sys2Proof.Machine
end

