-- ==== Sys2Proof/Machine/Plant.lean ====
section
/-!
DEFINITION. Load sharing and plant coordination (R181 to R196): consumers and supply records, the allocator, Calving, carrier
interleaving and cross-chip reservations; and the remote trip of R240.
-/
namespace Sys2Proof.Machine
open Sys2Proof

def State.setPlant (s : State) (x : Plant) : State := { s with plant := x }
def State.calveOf (s : State) (k : Nat) : Calve := Tab.get s.plant.calves {} k
def nodeInfo (op : Nat) (need : Need) (lay : List Fld) : OpInfo := { op := op, tgt := .none, need := need, lay := lay }

/-- The bus section of a partition's consumer. -/
def State.section_ (s : State) (p : Nat) : Nat := s.consN p 19 1
/-- The local partitions that are consumers. -/
def State.consumers (s : State) : List Nat := (List.range 8).filter fun p => s.isConsumer p

/-! ### Consumers and supply records -/

/-- `CONSUMER_CONFIG` (R181). -/
def execConsumerConfig (d : Desc) (s : State) : Res := serveRes (motInfo 0x63 layConsumer st05 true) d none (storeEffect 0x63 d 0) s

/-- `DEMAND_LIMIT` (R182). -/
def execDemandLimit (d : Desc) (s : State) : Res := serveRes (motInfo 0x64 layDemand st15 true) d none (storeEffect 0x64 d 0) s

/-- A supply record is taken where its stamp is the latest of its section (R183). -/
def State.takeSupply (s : State) (r : SupplyRec) : State :=
  let x := s.plant
  let newer := match Tab.get x.supplies none r.sec with
    | some o => decide (o.stamp < r.stamp)
    | none => true
  if newer then
    s.setPlant { x with supplies := Tab.set x.supplies none r.sec (some r), arrived := Tab.set x.arrived 0 r.sec s.now,
                        stale := Tab.set x.stale 0 r.sec 0 }
  else s

/-- `SUPPLY_RECORD` (R183): the next round record forwards it in the SHARE class. -/
def execSupplyRecord (d : Desc) (s : State) : Res :=
  serveRes { op := 0x65, tgt := .section_, need := .fabric 2, lay := laySupplyRecord } d none (fun s =>
    { st := s.takeSupply { sec := d.target, cap := d.f32 16, load := d.f32 20, reserve := d.f32 24, absorb := d.f32 28, ties := d.u8 32,
                           stamp := d.u64 36 } }) s

/-- `SUPPLY_STALE` (R183): no record of a section for 100 ms, or for 1 s, where a record or a consumer makes it a section in use. -/
def execSupplyStale (t : Time) (sec : Nat) (s : State) : Res :=
  within sec 8 s fun s => s.live t fun s =>
    let x := s.plant
    let used := (Tab.get x.supplies none sec).isSome || s.consumers.any fun p => s.section_ p = sec
    let since_ := Tab.get x.arrived 0 sec
    let level := Tab.get x.stale 0 sec
    if ¬ used ∨ s.now < since_ + 100000000 then s
    else
      let next := if since_ + 1000000000 ≤ s.now then 2 else 1
      let s := s.setPlant { x with stale := Tab.set x.stale 0 sec (max level next) }
      if level = 0 then s.alarm srcChip 0x070A [] else s

/-! ### The allocator (R182, R184 to R186) -/

/-- A rank 5 motoring limit of a partition is active: rank 5 cuts its torque in the motoring direction. -/
def State.rank5Mot (s : State) (p : Nat) : Bool :=
  let c := s.ctlOf p
  c.limits.testBit 3 && decide (0 ≤ motoringSign (s.speed p) c.tRef * c.tRef)

/-- Demand and offer of a consumer for a round (R182); what members on other chips add to p_mot_max and to the means. -/
def State.demandOf (s : State) (p : Nat) (pmax mot gen : Q) : Q × Q :=
  let mine := if s.inTandem p then s.localMembers p else [p]
  let mean := fun (f : Cons → Q) (q : Nat) => let c := s.consOf q; if c.steps = 0 then 0 else f c / (c.steps : Q)
  let m := sumQ (mine.map fun q => mean Cons.motSum q) + mot
  let g := sumQ (mine.map fun q => mean Cons.regSum q) + gen
  let k := 1 + s.consP p 28
  let want := if mine.any fun q => s.rank5Mot q then sumQ (mine.map fun q => s.limP q 24) + pmax else m * k
  let want := maxQ want (s.consP p 24)
  let top := s.demandMax p
  (if top = 0 then want else minQ top want, if g < m then 0 else g * k)

/-- The consumers this node publishes: a tandem's by its master, a pair's by its active node (R181). -/
def State.publishes (s : State) (p : Nat) : Bool :=
  s.isConsumer p && s.leads p && decide ((s.part p).st ≠ .unconfigured) && !(s.fab.role = 2 && s.sbParts.testBit p)

/-- The carrier of an interleaved partition (R190). -/
def State.ilRec (s : State) (p : Nat) : Option IlRec :=
  match s.stored 0x69 p 0 with
  | some b =>
    let period : Q := if s.method p = 3 then s.modP p 18 * s.cycleNs p else 1000000000 / s.modP p 20
    if s.isConsumer p then some { sec := s.section_ p, count := byteAt b 0, slot := byteAt b 1, period := period } else none
  | none => none

/-- Two members of one interleave group disagree (R190): another period, or an equal slot. -/
def IlRec.clashes (m r : IlRec) : Bool := m.sec = r.sec && m.count = r.count && (m.period ≠ r.period || m.slot = r.slot)

/-- Partitions of this chip that disagree with another partition of it in their interleave group (R190). -/
def State.clashing (s : State) : List Nat :=
  (List.range 8).filter fun p => (List.range 8).any fun q => p ≠ q &&
    (match s.ilRec p, s.ilRec q with
      | some m, some r => m.clashes r
      | _, _ => false)

/-- The bytes of a round record, in the model's own layout. -/
def RoundRec.bytes (r : RoundRec) : List Byte :=
  leBytes 4 r.round ++ leBytes 4 r.digest ++ leBytes 1 r.epoch ++ leBytes 1 r.cons.length ++ leBytes 1 r.sups.length ++ leBytes 1 r.ils.length ++
    (r.cons.map fun c => leBytes 2 c.id ++ leBytes 1 c.cls ++ leBytes 1 c.sec ++ f32Bytes c.floor ++ f32Bytes c.demand ++ f32Bytes c.offer ++
      leBytes 1 c.absorb).flatten ++
    (r.sups.map fun x => leBytes 1 x.sec ++ f32Bytes x.cap ++ f32Bytes x.load ++ f32Bytes x.reserve ++ f32Bytes x.absorb ++ leBytes 1 x.ties ++
      leBytes 8 x.stamp).flatten ++
    (r.ils.map fun x => leBytes 1 x.sec ++ leBytes 1 x.count ++ leBytes 1 x.slot ++ f32Bytes x.period).flatten

/-- `ALLOC_ROUND_PUBLISH` (R184 step 1): round r begins; of a tandem's master partitions, what the members on other chips add to
p_mot_max, mean motoring and mean regenerated power. What this chip's own partitions show of one consumer published twice (R181) and of
an interleave group at odds (R190) is raised here. -/
def execAllocRoundPublish (t : Time) (round : Nat) (who : List Nat) (pmax mot gen : List Q) (s : State) : Res :=
  .next (s.live t fun s =>
    let parts := (List.range 8).filter fun p => s.publishes p
    let s := parts.foldl (fun (s : State) p =>
      let k := who.idxOf p
      let x := s.demandOf p (pmax.getD k 0) (mot.getD k 0) (gen.getD k 0)
      s.setCons p { s.consOf p with demand := x.1, offer := x.2 }) s
    let s := s.consumers.foldl (fun (s : State) p => s.setCons p { s.consOf p with motSum := 0, regSum := 0, steps := 0 }) s
    let x := s.plant
    let r : RoundRec := { node := s.node, epoch := s.sys.nodeEpoch, round := round, cons := parts.filterMap fun p => s.consRec p,
                          sups := x.supplies.filterMap fun e => e.2, ils := (List.range 8).filterMap fun p => s.ilRec p, digest := x.digest }
    let s := s.setPlant { x with rounds := Tab.set x.rounds none s.node (some r) }
    let ids := r.cons.map fun c => c.id
    let s := if nubNat [] ids = ids then s else s.alarm srcChip 0x0702 []
    let s := s.clashing.foldl (fun s p => s.alarm (srcPart p) 0x0703 []) s
    if s.locked then s.fabSend 2 0xFFFF 1 r.bytes else s)

/-- A record with this consumer id outranks another publisher's (R181): the newer node epoch, then the lower node number. -/
def outranks (e n e' n' : Nat) : Bool := epochNewer e e' || (e = e' && n < n')

/-- An interleave group member of this node disagrees with one it sees (R190). -/
def State.checkInterleave (s : State) (r : IlRec) : State :=
  (List.range 8).foldl (fun s p =>
    match s.ilRec p with
    | some m => if m.clashes r then s.alarm (srcPart p) 0x0703 [] else s
    | none => s) s

/-- `ROUND_RECORD_RECEIVED` (R181, R184, R186, R190). -/
def execRoundRecordReceived (t : Time) (r : RoundRec) (s : State) : Res :=
  .next (s.live t fun s =>
    if r.node = s.node ∨ s.fab.failed.contains r.node then s
    else
      let x := s.plant
      let diff := decide (x.round + 1 = r.round) && decide (x.digest ≠ r.digest)
      let due := match x.divergeAt with
        | some u => decide (u + 1000000000 ≤ s.now)
        | none => true
      let s := s.setPlant { x with rounds := Tab.set x.rounds none r.node (some r), differs := x.differs || diff,
                                   divergeAt := if diff && due then some s.now else x.divergeAt }
      let s := if diff && due then s.alarm srcChip 0x0709 [] else s
      let s := r.sups.foldl (fun s u => s.takeSupply u) s
      let s := r.ils.foldl (fun s u => s.checkInterleave u) s
      let others := (x.rounds.filterMap fun e => e.2).filter fun o => o.node ≠ r.node && o.epoch = r.epoch
      let clash := r.cons.any fun c => others.any fun o => o.cons.any fun z => z.id = c.id
      if clash then s.alarm srcChip 0x0702 [] else s)

/-- The records that a round uses (R184): of each publisher not failed, its record of the round or of up to 3 rounds before. -/
def State.roundSet (s : State) (round : Nat) : List RoundRec :=
  (s.plant.rounds.filterMap fun e => e.2).filter fun r => round ≤ r.round + 3 && !s.fab.failed.contains r.node

/-- The consumers of a set of records, by id, each with its publisher; of several records of one id the highest stays, and of one
publisher's the first (log entry 155). -/
def consumersOf (rs : List RoundRec) : List (ConsRec × Nat) :=
  let all := (rs.map fun r => r.cons.map fun c => (c, r.node, r.epoch)).flatten
  let best := all.filter fun a => !(all.any fun b => b.1.id = a.1.id && outranks b.2.2 b.2.1 a.2.2 a.2.1)
  let once := best.foldl (fun (l : List (ConsRec × Nat × Nat)) e => if l.any fun o => o.1.id = e.1.id then l else l ++ [e]) []
  sortBy (fun e => e.1.id) (once.map fun e => (e.1, e.2.1))

/-- Sections joined with a section by closed ties in any record (R183). -/
def State.island (s : State) (sec : Nat) : List Nat :=
  let tie := fun (a b : Nat) => (s.plant.supplies.filterMap fun e => e.2).any fun r =>
    (r.sec = a && r.ties.testBit b) || (r.sec = b && r.ties.testBit a)
  (List.range 8).foldl (fun l _ => (List.range 8).filter fun b => l.contains b || l.any fun a => tie a b) [sec]

/-- What a section gives its island: available power and `gen_absorb`; after 1 s without a record the floors of its consumers. -/
def State.sectionPower (s : State) (cs : List (ConsRec × Nat)) (sec : Nat) : Q × Q :=
  let floors := sumF ((cs.filter fun e => e.1.sec = sec).map fun e => e.1.floor)
  match Tab.get s.plant.supplies none sec with
  | some r => (if Tab.get s.plant.stale 0 sec = 2 then floors else f64Near (f64Near (r.cap - r.load) - r.reserve), r.absorb)
  | none => (if Tab.get s.plant.stale 0 sec = 2 then floors else 0, 0)

/-- One pass of R185 over the classes: each consumer's part of what is available, and what is left; in binary64, operation by operation
as the text reads (R184, log entry 57). -/
def classPass (part : ConsRec → Q) (cs : List ConsRec) (avail : Q) : List (Nat × Q) × Q :=
  [0, 1, 2, 3].foldl (fun (acc : List (Nat × Q) × Q) k =>
    let l := cs.filter fun c => c.cls = k
    let f := sumF (l.map part)
    let ratio := if f = 0 then 0 else minQ 1 (f64Near (maxQ acc.2 0 / f))
    let given := l.map fun c => (c.id, f64Near (part c * ratio))
    (acc.1 ++ given, f64Near (acc.2 - sumF (given.map fun e => e.2)))) ([], avail)

/-- A quantity rounded down to 1 W (R184). -/
def wholeWatts (x : Q) : Q := (x.floor : Q)

/-- Demands, offers and the regenerated power accepted in an island, in binary64 (R185). -/
def islandSums (absorb : Q) (cs : List (ConsRec × Nat)) : Q × Q × Q :=
  let motor := sumF (cs.map fun e => e.1.demand)
  let offer := sumF (cs.map fun e => e.1.offer)
  (motor, offer, minQ offer (f64Near (motor + absorb)))

/-- The power available in an island before the floors: what its sections give and what its motoring consumers take back (R185). -/
def islandAvail (avail absorb : Q) (cs : List (ConsRec × Nat)) : Q :=
  let x := islandSums absorb cs
  f64Near (avail + minQ x.2.2 x.1)

/-- The grants of an island (R185). -/
def islandGrants (avail absorb : Q) (cs : List (ConsRec × Nat)) : List Grant :=
  let l := cs.map Prod.fst
  let x := islandSums absorb cs
  let floors := classPass (fun c => c.floor) l (islandAvail avail absorb cs)
  let above := classPass (fun c => maxQ 0 (f64Near (c.demand - c.floor))) l floors.2
  let part := fun (t : List (Nat × Q)) (id : Nat) => sumF ((t.filter fun e => e.1 = id).map fun e => e.2)
  cs.map fun e =>
    { id := e.1.id, node := e.2, mot := wholeWatts (f64Near (part floors.1 e.1.id + part above.1 e.1.id)),
      regen := wholeWatts (if x.2.1 = 0 then 0 else f64Near (f64Near (x.2.2 * e.1.offer) / x.2.1)) }

/-- The input set of a round as numbers, for its digest. -/
def setNumbers (rs : List RoundRec) : List Q :=
  (rs.map fun r => [(r.node : Q), (r.epoch : Q)] ++
    (r.cons.map fun c => [(c.id : Q), (c.cls : Q), (c.sec : Q), c.floor, c.demand, c.offer, (c.absorb : Q)]).flatten ++
    (r.sups.map fun x => [(x.sec : Q), x.cap, x.load, x.reserve, x.absorb, (x.ties : Q), (x.stamp : Q)]).flatten).flatten

/-- Calving on a section ends, with its event (R189). -/
def State.endCalve (s : State) (sec : Nat) : State :=
  if (s.calveOf sec).level = 0 then s
  else (s.setPlant { s.plant with calves := Tab.set s.plant.calves {} sec {} }).inform srcChip 0x0708 []

/-- Calving ends at the first round at least `calve_hold` after the last event with a supply record stamped after it (R189). -/
def State.calveRound (s : State) (round : Nat) : State :=
  (List.range 8).foldl (fun s k =>
    let x := s.calveOf k
    let fresh : Bool := match Tab.get s.plant.supplies none k with
      | some r => decide (x.at_ < r.stamp)
      | none => false
    if x.level ≠ 0 ∧ fresh ∧ x.at_ + nsOf (s.calveP 48) ≤ round * 1000000 then s.endCalve k else s) s

/-- `ALLOC_ROUND_COMPUTE` (R184 step 2, R185): every island's grants; a publisher missing for more than 3 rounds keeps its last
grants reserved. -/
def execAllocRoundCompute (t : Time) (round : Nat) (s : State) : Res :=
  .next (s.live t fun s =>
    let s := s.calveRound round
    let rs := s.roundSet round
    let cs := consumersOf rs
    let mute := s.plant.grants.filter fun g =>
      !(rs.any fun r => r.node = g.node) && !s.fab.failed.contains g.node && !(cs.any fun c => c.1.id = g.id)
    let lost := (s.plant.rounds.filterMap fun e => e.2).filter fun r => !(rs.any fun q => q.node = r.node) && !s.fab.failed.contains r.node
    let secOfId := fun (id : Nat) => ((lost.map fun r => r.cons).flatten.find? fun c => c.id = id).map fun c => c.sec
    let heads := (List.range 8).filter fun k => (s.island k).head? = some k
    let per := heads.map fun k =>
      let isl := s.island k
      let mine := cs.filter fun e => isl.contains e.1.sec
      let kept := mute.filter fun g => match secOfId g.id with
        | some q => isl.contains q
        | none => false
      let pw := isl.map fun q => s.sectionPower cs q
      let avail := f64Near (sumF (pw.map Prod.fst) - sumF (kept.map fun g => g.mot))
      let absorb := maxQ 0 (f64Near (sumF (pw.map Prod.snd) - sumF (kept.map fun g => g.regen)))
      (isl, islandAvail avail absorb mine, islandGrants avail absorb mine)
    let x := s.plant
    let avail := (List.range 8).foldl (fun m q => Tab.set m 0 q (((per.find? fun e => e.1.contains q).map fun e => e.2.1).getD 0)) []
    s.setPlant { x with grants := (per.map fun e => e.2.2).flatten ++ mute, round := round, applied := false,
                        digest := Config.digest (setNumbers rs), avail := avail, diverged := x.differs, differs := false,
                        diverge := if x.differs then holdAt 0xFFFF (x.diverge + 1) else x.diverge })

/-- A grant rises by at most `grant_rise` over a round (R186). -/
def risen (prev want rise : Q) : Q := if want ≤ prev then want else minQ want (prev + rise / 1000)

/-- `GRANT_APPLY` (R184 step 3, R186, R189): the grants of the round take effect at rank 5 of this node's consumers. -/
def execGrantApply (t : Time) (round : Nat) (s : State) : Res :=
  .next (s.live t fun s =>
    let x := s.plant
    if x.round ≠ round ∨ x.applied then s
    else
      let s := s.consumers.foldl (fun (s : State) p =>
        let c := s.consOf p
        match x.grants.find? fun g => g.id = s.consN p 16 2 with
        | none => s
        | some g =>
          let rise := s.consP p 48
          let mot := risen c.mot (if x.diverged then minQ g.mot c.okMot else g.mot) rise
          let regen := risen c.regen (if x.diverged then minQ g.regen c.okRegen else g.regen) rise
          let calving := decide ((s.calveOf (s.section_ p)).level ≠ 0)
          s.setCons p { c with mot := if calving then c.mot else mot, regen := regen,
                               okMot := if x.diverged then c.okMot else g.mot, okRegen := if x.diverged then c.okRegen else g.regen }) s
      s.setPlant { s.plant with applied := true, inForce := round })

/-! ### Calving (R187 to R189) -/

/-- A Calving event acts on this node's consumers (R188): the smaller of the present grant and the floor of the highest level. -/
def State.applyCalve (s : State) (sections level : Nat) (origin : Bool) : State :=
  let s := (maskList 8 sections).foldl (fun (s : State) k =>
    let x := s.calveOf k
    s.setPlant { s.plant with calves := Tab.set s.plant.calves {} k { level := max x.level level, at_ := s.now } }) s
  let hit := s.consumers.filter fun p => sections.testBit (s.section_ p)
  let s := hit.foldl (fun (s : State) p =>
    let c := s.consOf p
    let s := s.setCons p { c with mot := minQ c.mot (s.calveFloor p (s.calveOf (s.section_ p)).level) }
    s.moraine p 2 0x0707) s
  if origin ∨ hit ≠ [] then s.alarm srcChip 0x0707 [] else s

/-- This node originates a Calving event: broadcast in the CONTROL class, and applied here at the same instant (R187). -/
def State.originateCalve (s : State) (sections level : Nat) : State :=
  let q := s.plant.calveSeq
  let s := s.setPlant { s.plant with calveSeq := q + 1, seen := (s.node, q) :: s.plant.seen }
  (s.fabSend 1 0xFFFF 6 (leBytes 2 s.node ++ leBytes 4 q ++ leBytes 1 sections ++ leBytes 1 level)).applyCalve sections level true

/-- `CALVING_EVENT_RECEIVED` (R187, R188): duplicates by node and sequence are discarded. -/
def execCalvingEventReceived (t : Time) (node seq sections level : Nat) (s : State) : Res :=
  .next (s.live t fun s =>
    if s.plant.seen.contains (node, seq) ∨ level = 0 ∨ 4 < level then s
    else (s.setPlant { s.plant with seen := (node, seq) :: s.plant.seen }).applyCalve (sections % 256) level false)

/-- `BREAKER_INPUT_ACTIVE` (R187): input k of `CALVE_CONFIG` has been active for `calve_debounce`. -/
def execBreakerInputActive (t : Time) (k : Nat) (s : State) : Res :=
  within k 4 s fun s => s.live t fun s =>
    let c := s.calveByte (16 + k) 0xFF
    let m := s.calveByte (20 + k) 0
    if c = 0xFF ∨ m = 0 ∨ ¬ s.inputActive c then s else s.originateCalve m (s.calveByte (24 + k) 1)

/-- A B2B partition whose PLL was locked finds its section collapsing (R187): the frequency below `calve_f_lo` (0), falling faster than
`calve_rocof` over the last current-loop step (1), or the voltage below `calve_v` of nominal for `calve_t` (2) (log entry 156). -/
def State.collapsing (s : State) (p why : Nat) : Bool :=
  let c := s.ctlOf p
  c.lockBefore &&
    ((why = 0 && decide (c.pllW < s.calveP 32 * 2 * Config.pi * s.supP p 20)) ||
      (why = 1 && decide (s.calveP 36 * 2 * Config.pi * tsQ < c.pllBefore - c.pllW)) ||
      (why = 2 && (match c.gridLowAt with
        | some u => decide (u + nsOf (s.calveP 44) ≤ s.now)
        | none => false)))

/-- `BUS_COLLAPSE_DETECTED` (R187). -/
def execBusCollapseDetected (t : Time) (p why : Nat) (s : State) : Res :=
  within p 8 s fun s => s.live t fun s =>
    let level := s.calveByte 52 1
    if s.shape p ≠ 2 ∨ ¬ s.isConsumer p ∨ level = 0 ∨ ¬ s.collapsing p why then s
    else s.originateCalve (2 ^ s.section_ p) level

/-- The effect of `CALVE_CONFIG` (R187, R275). -/
def calveConfigEffect (d : Desc) (s : State) : Reply :=
  let codes := ((List.range 4).map fun k => d.u8 (16 + k)).filter fun c => c ≠ 0xFF
  if codes.any fun c => !s.claimFree c 0x66 0xFFFF then Reply.no s 0x0A00 else { st := s }

/-- `CALVE_CONFIG`. -/
def execCalveConfig (d : Desc) (s : State) : Res :=
  serveRes { nodeInfo 0x66 (.fabric 1) layCalveConfig with kept := true } d none (calveConfigEffect d) s

/-- `CALVE` (R187), also on the urgent doorbell. -/
def execCalve (d : Desc) (s : State) : Res :=
  serveRes { nodeInfo 0x67 (.fabric 1) layCalve with urgent := true } d none (fun s => { st := s.originateCalve (d.u8 16) (d.u8 17) }) s

/-- `CALVE_CLEAR` (R189). -/
def execCalveClear (d : Desc) (s : State) : Res :=
  serveRes (nodeInfo 0x68 (.fabric 1) layCalveClear) d none
    (fun s => { st := (maskList 8 (d.u8 16)).foldl (fun (s : State) k => s.endCalve k) s }) s

/-- `INTERLEAVE_CONFIG` (R190): a slot below the count; an NLC partition has no carrier. -/
def execInterleaveConfig (d : Desc) (s : State) : Res :=
  serveRes (motInfo 0x69 layInterleave st01 true) d none (fun s =>
    if d.u8 16 ≤ d.u8 17 then Reply.no s 0x0003
    else if s.method d.target = 1 then Reply.no s 0x0703
    else storeEffect 0x69 d 0 s) s

/-! ### Cross-chip reservations (R191, R192) -/

/-- The reserved partitions of this chip follow the holds, and the lease queue is looked at when one becomes free (R192, R346). -/
def State.syncReserved (s : State) : State :=
  let m := maskOf ((List.range 8).filter fun p => s.plant.holds.any fun h => h.part = p)
  if m = s.reserved then s else ({ s with reserved := m }).scanLeases

/-- A hold is granted to the requester of a reservation. -/
def State.grantHold (s : State) (h : Hold) : State :=
  let s := s.setPlant { s.plant with holds := s.plant.holds ++ [h] }
  s.fabSend 1 h.node 8 (leBytes 1 h.part ++ leBytes 8 h.stamp)

/-- A request is older than another by timestamp, then node number (R191). -/
def Hold.older (a b : Hold) : Bool := decide (a.stamp < b.stamp) || (a.stamp = b.stamp && decide (a.node < b.node))

/-- Freed partitions go to their oldest waiting request (R191). -/
def State.serveWaits (s : State) : State :=
  (List.range 8).foldl (fun s p =>
    if s.plant.holds.any fun h => h.part = p then s
    else match s.plant.waits.filter fun h => h.part = p with
      | [] => s
      | w :: r =>
        let b := r.foldl (fun m h => if h.older m then h else m) w
        (s.setPlant { s.plant with waits := s.plant.waits.filter fun h => h ≠ b }).grantHold b) s

/-- Everything held or awaited under some requests is freed. -/
def State.freeHolds (s : State) (which : Hold → Bool) : State :=
  let x := s.plant
  ((s.setPlant { x with holds := x.holds.filter fun h => !which h, waits := x.waits.filter fun h => !which h }).serveWaits).syncReserved

/-- `RESERVE_REQUEST_RECEIVED` (R191): the holding node decides by wound-wait. -/
def execReserveRequestReceived (t : Time) (node tenant part : Nat) (stamp : Time) (s : State) : Res :=
  within part 8 s fun s => s.live t fun s =>
    let h : Hold := { part := part, node := node, tenant := tenant, stamp := stamp }
    match s.plant.holds.find? fun x => x.part = part with
    | none => (s.grantHold h).syncReserved
    | some g =>
      if g = h then s.fabSend 1 node 8 (leBytes 1 part ++ leBytes 8 stamp)
      else if h.older g then
        let s := s.setPlant { s.plant with holds := s.plant.holds.filter fun x => ¬ (x.node = g.node ∧ x.stamp = g.stamp) }
        let s := (s.grantHold h).fabSend 1 g.node 9 (leBytes 8 g.stamp)
        s.serveWaits.syncReserved
      else if s.plant.waits.contains h then s
      else s.setPlant { s.plant with waits := s.plant.waits ++ [h] }

/-- The requests of a reservation go out to the nodes that hold its partitions. -/
def State.sendReserve (s : State) (r : Req) : State :=
  r.parts.foldl (fun (s : State) (e : Nat × Nat × Bool) =>
    if e.2.2 then s else s.fabSend 1 e.1 7 (leBytes 1 e.2.1 ++ zeros 1 ++ leBytes 2 r.page ++ leBytes 8 r.stamp)) s

/-- Everything a request holds is given back to its nodes. -/
def State.sendRelease (s : State) (r : Req) : State :=
  (nubNat [] (r.parts.map fun e => e.1)).foldl (fun (s : State) n => s.fabSend 1 n 13 (leBytes 8 r.stamp)) s

def State.setReqs (s : State) (f : Req → Req) : State := s.setPlant { s.plant with reqs := s.plant.reqs.map f }

/-- A node has granted a partition (R191): complete once every partition is. -/
def State.reserveGranted (s : State) (node part : Nat) (stamp : Time) : State :=
  let s := s.setReqs fun r =>
    if r.stamp = stamp ∧ r.retryAt.isNone then { r with parts := r.parts.map fun e => if e.1 = node ∧ e.2.1 = part then (e.1, e.2.1, true) else e }
    else r
  match s.plant.reqs.find? fun r => r.stamp = stamp && !r.done && r.parts.all fun e => e.2.2 with
  | none => s
  | some r => (s.setReqs fun x => if x.handle = r.handle ∧ x.stamp = stamp then { x with done := true } else x).finish r.page r.series r.seq 0
      (leBytes 4 r.handle ++ zeros 4)

/-- A younger request of this node is wounded: it gives everything back and retries (R191). -/
def State.wounded (s : State) (stamp : Time) : State :=
  match s.plant.reqs.find? fun r => r.stamp = stamp with
  | none => s
  | some r =>
    let s := s.sendRelease r
    s.setReqs fun x => if x.stamp = stamp then
      { x with retryAt := some s.now, parts := x.parts.map fun e => (e.1, e.2.1, false) } else x

/-- `RESERVE_RETRY` (R191): 1 to 2 ms after it was wounded, under its own timestamp. -/
def execReserveRetry (t : Time) (handle : Nat) (s : State) : Res :=
  .next (s.live t fun s =>
    match s.plant.reqs.find? fun r => r.handle = handle with
    | none => s
    | some r =>
      let due := match r.retryAt with
        | some u => decide (u + 1000000 ≤ s.now)
        | none => false
      if due then (s.setReqs fun x => if x.handle = handle then { x with retryAt := none } else x).sendReserve { r with retryAt := none } else s)

/-- `RESERVE_TIMEOUT` (R191): it completes with `RESERVE_TIMEOUT` and holds nothing. -/
def execReserveTimeout (t : Time) (handle : Nat) (s : State) : Res :=
  .next (s.live t fun s =>
    match s.plant.reqs.find? fun r => r.handle = handle with
    | none => s
    | some r =>
      if r.done ∨ s.now < r.deadline then s
      else ((s.sendRelease r).setPlant { (s.sendRelease r).plant with reqs := s.plant.reqs.filter fun x => x.handle ≠ handle }).finish
        r.page r.series r.seq 0x0705 [])

/-- The entries that `PLANT_RESERVE` names: node and partition. -/
def reserveEntries (d : Desc) : List (Nat × Nat) :=
  (List.range (d.u8 16)).map fun k => (leNat d.host (4 * k) 2, byteAt d.host (4 * k + 2))

/-- The effect of `PLANT_RESERVE` (R191): partitions of other chips that can be reached. -/
def plantReserveEffect (d : Desc) (s : State) : Reply :=
  let es := reserveEntries d
  if es.any fun e => 1024 ≤ e.1 || 8 ≤ e.2 || e.1 = s.node then Reply.no s 0x0003
  else if es.any fun e => (s.hops e.1).isNone then Reply.no s 0x0D00
  else
    let x := s.plant
    let r : Req := { page := d.page, series := d.series, seq := d.seq, handle := (Config.handle x.handles).toNat, stamp := s.now,
                     deadline := s.now + nsOf (d.f32 20), parts := es.map fun e => (e.1, e.2, false) }
    { st := (s.setPlant { x with reqs := x.reqs ++ [r], handles := x.handles + 1 }).sendReserve r, await := some .own }

/-- `PLANT_RESERVE`. -/
def execPlantReserve (d : Desc) (s : State) : Res :=
  serveRes { nodeInfo 0x6A (.fabric 1) layReserve with gives := true } d (some (4 * d.u8 16)) (plantReserveEffect d) s

/-- `PLANT_RELEASE` (R192): a handle of the issuing tenant. -/
def execPlantRelease (d : Desc) (s : State) : Res :=
  serveRes (nodeInfo 0x6B (.fabric 1) layRelease) d none (fun s =>
    match s.plant.reqs.find? fun r => r.handle = d.u32 16 && r.page = d.page && r.done with
    | none => Reply.no s 0x0003
    | some r =>
      let s := s.sendRelease r
      { st := s.setPlant { s.plant with reqs := s.plant.reqs.filter fun x => x ≠ r } }) s

/-! ### Status (R195) -/

/-- The result of `PLANT_STATUS` (Table 4). -/
def State.plantResult (s : State) (p : Nat) : List Byte :=
  let flag := fun (k : Nat) (b : Bool) => if b then 2 ^ k else 0
  let x := s.tanOf p
  let sec := s.section_ p
  let level := if s.isConsumer p then (s.calveOf sec).level else 0
  let master := match x.master with
    | some k => (((s.members p)[k]?).map fun m => m.part).getD 0xFF
    | none => 0xFF
  f32Bytes (s.consOf p).mot ++
    leBytes 1 (flag 0 (s.isMaster p) + flag 1 (s.inTandem p) + flag 2 (level ≠ 0) + flag 3 s.plant.diverged +
      flag 4 (s.isConsumer p && Tab.get s.plant.stale 0 sec ≠ 0) + flag 5 (s.reserved.testBit p)) ++
    leBytes 1 level ++ leBytes 1 master ++ leBytes 1 x.epoch

/-- Demand and offer of a partition's consumer, as its publisher last gave them (R181, R195). -/
def State.consumerNow (s : State) (p : Nat) : Q × Q :=
  match (consumersOf (s.plant.rounds.filterMap fun e => e.2)).find? fun e => s.isConsumer p && e.1.id = s.consN p 16 2 with
  | some e => (e.1.demand, e.1.offer)
  | none => ((s.consOf p).demand, (s.consOf p).offer)

/-- The record of Table 5. -/
def State.plantRecord (s : State) (p : Nat) : List Byte :=
  let c := s.consOf p
  let now_ := s.consumerNow p
  let node := match (s.tanOf p).master with
    | some k => (((s.members p)[k]?).map fun m => m.node).getD 0xFFFF
    | none => 0xFFFF
  leBytes 4 s.plant.inForce ++ f32Bytes c.regen ++ f32Bytes now_.1 ++ f32Bytes now_.2 ++
    f32Bytes (if s.isConsumer p then Tab.get s.plant.avail 0 (s.section_ p) else 0) ++ leBytes 2 s.plant.diverge ++ leBytes 2 node

/-- `PLANT_STATUS`: reading the record clears `diverge`. -/
def execPlantStatus (d : Desc) (s : State) : Res :=
  serveRes { op := 0x6F, tgt := .part, need := .read, gives := true } d (statusBuf d 24) (fun s =>
    let s' := if d.buffer = 0xFFFFFFFF then s else s.setPlant { s.plant with diverge := 0 }
    { st := s', result := s.plantResult d.target, write := if d.buffer = 0xFFFFFFFF then none else some (s.plantRecord d.target) }) s

/-! ### Remote trips (R240) -/

/-- `REMOTE_TRIP_RECEIVED`: the partitions that the message names trip where an accept entry names its node. -/
def execRemoteTripReceived (t : Time) (node mask epoch : Nat) (s : State) : Res :=
  .next (s.awake t fun s =>
    let old := match s.epochOf node with
      | some e => epochNewer e epoch
      | none => false
    let takes := fun (p : Nat) => (s.peers p).any fun e => e.accept && e.node = node
    let l := maskList 8 mask
    if old then s
    else if l.any takes then (l.filter takes).foldl (fun (s : State) p => s.assertSource p 0x0905 node 0 0xFFFF) s
    else l.foldl (fun (s : State) p => s.setProt p { s.protOf p with discarded := (s.protOf p).discarded + 1 }) s)

end Sys2Proof.Machine
end

