-- ==== Sys2Proof/Machine/Fabric.lean ====
section
/-!
DEFINITION. The Fibaora fabric (R388 to R411): ports and frames, link state and node failure, domain time, the hot standby's
commands and events, heave and BULK messages, status.
-/
namespace Sys2Proof.Machine
open Sys2Proof

/-! ### Link state, time master, reachability -/

/-- The role a node floods: 0 none, 1 active, 2 standby, and 3, of the model's own: configured active and only now joining, the
partner not yet heard and no partition of the mask past BLOCKED (R403). -/
def State.advertRole (s : State) : Nat :=
  let fresh := s.pairParts.all fun p => (s.part p).st = .unconfigured || (s.part p).st = .blocked
  if s.fab.role = 1 && !s.fab.paired && fresh then 3 else s.fab.role

/-- This node's link-state record (R394). -/
def State.ownLink (s : State) : LinkRec :=
  { node := s.node, epoch := s.sys.nodeEpoch, nbrs := s.upPorts.map fun k => (k, (s.port k).peer), partner := s.sbPartner,
    role := s.advertRole, prio := s.regField 0x9008 0 7 0, pps := s.fab.ppsValid }

def LinkRec.bytes (r : LinkRec) : List Byte :=
  leBytes 1 r.epoch ++ leBytes 1 r.role ++ leBytes 1 r.prio ++ leBytes 1 (if r.pps then 1 else 0) ++ leBytes 2 r.partner ++
    leBytes 1 r.nbrs.length ++ (r.nbrs.map fun e => leBytes 1 e.1 ++ leBytes 2 e.2).flatten

/-- The nodes with a link-state record, and this one. -/
def State.knownNodes (s : State) : List Nat := nubNat [] (s.node :: Tab.keys s.fab.recs)

/-- The record a node is known by: its own, or the newest heard. -/
def State.nodeRec (s : State) (n : Nat) : Option LinkRec := if n = s.node then some s.ownLink else s.linkRec n

/-- The rank of a node as time master, least first (R398). -/
def LinkRec.rank (r : LinkRec) : Nat := (r.prio * 2 + (if r.pps then 0 else 1)) * 1024 + r.node

/-- The time master among the nodes that are reachable (R398). -/
def State.bestMaster (s : State) : Option Nat :=
  let rs := (s.knownNodes.filterMap fun n => s.nodeRec n).filter fun r => r.prio ≠ 255 && (s.hops r.node).isSome
  match sortBy LinkRec.rank rs with
  | r :: _ => some r.node
  | [] => none

/-- The port towards the time master (R398); none at the master itself. -/
def State.upstream (s : State) : Option Nat :=
  match s.fab.master with
  | some m => if m = s.node then none else s.routePort m
  | none => none

/-- A change of the time master (R398), and holdover while there is no time path (R400). -/
def State.retime (s : State) : State :=
  let m := s.bestMaster
  let old := s.fab.master
  let s := if m = old then s
    else
      let s := { s with fab := { s.fab with master := m, good := 0 } }
      if old.isSome then s.inform srcChip 0x0D0A [] else s
  if s.fab.master = some s.node ∨ s.upstream.isSome then { s with fab := { s.fab with hold := none, unlocked := false } }
  else if s.fab.hold.isSome then s
  else { s with fab := { s.fab with hold := some s.now } }

/-- Since when each node has been unreachable (R396), and messages to unreachable nodes end (R394). -/
def State.retrace (s : State) : State :=
  let s := (Tab.keys s.fab.recs).foldl (fun (s : State) n =>
    let v := if n = s.node ∨ (s.hops n).isSome then none
      else match Tab.get s.fab.unreach none n with
        | some u => some u
        | none => some s.now
    { s with fab := { s.fab with unreach := Tab.set s.fab.unreach none n v } }) s
  let gone := s.fab.sends.filter fun x => x.dst ≠ s.node && (s.hops x.dst).isNone
  gone.foldl (fun (s : State) x =>
    ({ s with fab := { s.fab with sends := s.fab.sends.filter fun y => y ≠ x } }).finish x.page x.series x.seq 0x0D00 []) s

/-- What the topology gives is computed anew. -/
def State.retopology (s : State) : State := s.retime.retrace

/-- This node's record is flooded (R394). -/
def State.floodLink (s : State) : State :=
  s.fabSend 1 0xFFFF 10 s.ownLink.bytes

/-- A port of this node has changed, or something else its record carries. -/
def State.fabChanged (s : State) : State := s.floodLink.retopology

/-! ### Joining a pair (R403) -/

/-- The role taken as the pair is joined: the partner's role as it floods it decides against the configured one. -/
def State.joinPair (s : State) : State :=
  let other := match s.linkRec s.sbPartner with
    | some r => if (s.hops s.sbPartner).isSome ∧ r.partner = s.node then some r.role else none
    | none => none
  let first := decide (s.node < s.sbPartner)
  let clash := s.sbRole = 1 && other = some 3
  let role := if s.sbRole = 0 then 0 else if other = some 1 then 2 else if clash && !first then 2 else s.sbRole
  let s := if role = s.fab.role then s else s.setRole role
  let s := { s with fab := { s.fab with paired := other.isSome } }
  if clash then s.alarm srcChip 0x0D06 [] else s

/-! ### Records of other nodes -/

/-- A node under a new epoch is a new node (R396): nothing of its old one stands, and what it had reserved is free (R192). -/
def State.newNode (s : State) (n : Nat) : State :=
  let f := s.fab
  ({ s with fab := { f with failed := f.failed.filter (· ≠ n), taken := f.taken.filter (· ≠ n), seen := f.seen.filter fun e => e.1 ≠ n,
                            unreach := Tab.set f.unreach none n none } }).freeHolds fun h => h.node = n

/-- A link-state record is taken unless its epoch is older (R394, R395). -/
def State.takeLink (s : State) (r : LinkRec) : State :=
  let stale : Bool := match s.epochOf r.node with
    | some e => e ≠ r.epoch && !epochNewer r.epoch e
    | none => false
  if r.node = s.node ∨ stale then s
  else
    let s := match s.epochOf r.node with
      | some e => if e = r.epoch then s else s.newNode r.node
      | none => s
    let s := { s with fab := { s.fab with recs := Tab.set s.fab.recs none r.node (some r) } }
    if s.fab.role ≠ 0 ∧ r.node = s.sbPartner ∧ ¬ s.fab.paired then s.joinPair else s

/-- `LINK_STATE_RECEIVED` (R394, R398). -/
def execLinkStateReceived (t : Time) (r : LinkRec) (s : State) : Res :=
  .next (s.live t fun s => (s.takeLink r).retopology)

/-- `LINK_STATE_FLOOD` (R394): every 10 ms. -/
def execLinkStateFlood (t : Time) (s : State) : Res := .next (s.live t fun s => s.floodLink)

/-- What a failed node has published and been granted ends (R184), and what it had reserved is free (R192). -/
def State.failNode (s : State) (n : Nat) : State :=
  let s := { s with fab := { s.fab with failed := s.fab.failed ++ [n] } }
  let s := s.setPlant { s.plant with rounds := Tab.set s.plant.rounds none n none, grants := s.plant.grants.filter fun g => g.node ≠ n }
  (s.freeHolds fun h => h.node = n).alarm (srcNode n) 0x0D07 []

/-- `NODE_FAILED` (R396): announced by the node, or unreachable for 100 µs. -/
def execNodeFailed (t : Time) (node : Nat) (announced : Bool) (s : State) : Res :=
  within node 1024 s fun s => s.live t fun s =>
    let lost : Bool := match Tab.get s.fab.unreach none node with
      | some u => decide (u + 100000 ≤ s.now)
      | none => false
    if node = s.node ∨ s.fab.failed.contains node ∨ ¬ (announced ∨ lost) then s else s.failNode node

/-! ### Ports and frames -/

/-- `FAB_PORT_UP` (R389): block lock and the peer's hello. -/
def execFabPortUp (t : Time) (port node peerPort epoch : Nat) (s : State) : Res :=
  within port 8 s fun s => s.live t fun s =>
    if ¬ (s.regField 0x9004 0 7 0).testBit port then s
    else if node = s.node then s.alarm srcChip 0x0D08 (leBytes 1 port)
    else
      let hello : LinkRec := { node := node, epoch := epoch, nbrs := [(peerPort, s.node)], partner := 0xFFFF, role := 0, prio := 255, pps := false }
      let s := s.setPort port { up := true, peer := node, epoch := epoch, delay := 0, acks := 0 }
      let s := if s.epochOf node = some epoch then s else s.takeLink hello
      s.fabChanged

/-- A port goes down: frames not acknowledged on it are lost with it. -/
def State.portDown (s : State) (k : Nat) : State :=
  if ¬ (s.port k).up then s
  else
    let s := (s.setPort k {}).inform srcChip 0x0D0C (leBytes 1 k)
    { s with fab := { s.fab with tx := s.fab.tx.filter (fun f => f.port ≠ k), held := s.fab.held.filter fun f => f.port ≠ k } }.fabChanged

/-- `FAB_PORT_DOWN` (R389): block lock lost, no block for 200 ns, or 8 retries of one frame failed. -/
def execFabPortDown (t : Time) (port : Nat) (s : State) : Res :=
  within port 8 s fun s => s.live t fun s => s.portDown port

/-- The oldest n frames sent on a port are acknowledged (R390). -/
def dropAcked (port : Nat) : Nat → List TxFrame → List TxFrame
  | _, [] => []
  | n, f :: r => if f.port = port ∧ 0 < n then dropAcked port (n - 1) r else f :: dropAcked port n r

/-- Their buffers are free for the frames that wait (R392). -/
def State.acked (s : State) (port n : Nat) : State :=
  ({ s with fab := { s.fab with tx := dropAcked port n s.fab.tx } }).drainPort port s.fab.held.length

/-- `FAB_RETRANSMIT` (R390): frames without an acknowledgement for 2 µs go out again, in order; after 8 tries the port is down. -/
def execFabRetransmit (t : Time) (port acked : Nat) (s : State) : Res :=
  within port 8 s fun s => s.live t fun s =>
    let s := s.acked port acked
    let late := fun (f : TxFrame) => f.port = port && decide (f.at_ + 2000 ≤ s.now)
    if ¬ s.fab.tx.any late then s
    else if s.fab.tx.any fun f => late f && decide (8 ≤ f.tries) then s.portDown port
    else { s with fab := { s.fab with tx := s.fab.tx.map fun f => if f.port = port then { f with tries := f.tries + 1, at_ := s.now } else f } }

/-- The end-to-end acknowledgement of a unicast CONTROL message (R393); one that carries another transaction number is late, and discarded
(R39). -/
def State.ctlAcked (s : State) (node seq txn : Nat) : State :=
  { s with fab := { s.fab with ctl := s.fab.ctl.filter fun m => ¬ (m.dst = node ∧ m.seq = seq ∧ m.txn = txn) } }

/-- `CONTROL_RESEND` (R393): after 50 µs without an acknowledgement, up to 3 times under the same sequence. -/
def execControlResend (t : Time) (dst seq : Nat) (s : State) : Res :=
  .next (s.live t fun s =>
    match s.fab.ctl.find? fun m => m.dst = dst && m.seq = seq with
    | none => s
    | some m =>
      if s.now < m.at_ + 50000 then s
      else if 3 ≤ m.tries then s.ctlAcked dst seq m.txn
      else ({ s with fab := { s.fab with ctl := s.fab.ctl.map fun x =>
              if x = m then { x with tries := x.tries + 1, at_ := s.now } else x } }).launch 1 (s.deliverTo 1 m.kind dst) m.kind seq m.txn m.body)

/-! ### BULK messages (R409) -/

/-- Data bytes of a BULK message in one frame, after 20 bytes of the model's own header. -/
def bulkChunk : Nat := 720

/-- A `FAB_SEND` ends with the receiver's answer. -/
def State.bulkAnswered (s : State) (msg status : Nat) : State :=
  match s.fab.sends.find? fun x => x.msg = msg with
  | none => s
  | some x => ({ s with fab := { s.fab with sends := s.fab.sends.filter fun y => y ≠ x } }).finish x.page x.series x.seq status []

/-- The sender of a message learns its outcome. -/
def State.bulkAnswer (s : State) (src msg status : Nat) : State :=
  if src = s.node then s.bulkAnswered msg status else s.fabSend 4 src 2 (leBytes 4 msg ++ leBytes 2 status)

/-- A receiver's buffer has been written: its sender completes `OK`; where the write failed it hears nothing (R409). -/
def State.bulkWritten (s : State) (page series seq : Nat) (ok : Bool) : State :=
  match s.fab.writes.find? fun w => w.page = page && w.series = series && w.seq = seq with
  | none => s
  | some w =>
    let s := { s with fab := { s.fab with writes := s.fab.writes.erase w } }
    if ok then s.bulkAnswer w.src w.msg 0 else s

/-- An issued access to host memory completes or fails (R317): kind 0 ring fetch, 1 completion record, 2 event record,
3 descriptor buffer (ring is the series), 4 telemetry, 5 interrupt message. -/
def execHostDmaCompletion (t : Time) (kind page ring : Nat) (ok : Bool) (s : State) : Res :=
  within page 1024 s fun s => s.awake t fun s =>
    let k : PostKind := if kind = 1 then .completion else if kind = 2 then .event else if kind = 3 then .buffer
      else if kind = 4 then .telem else .msi
    if kind = 0 then (if ok ∨ ¬ ((s.page page).ring ring).enable then s else s.ringError page ring 5)
    else match takePost k page ring s.outbox with
      | none => s
      | some (p, rest) =>
        let s := { s with outbox := rest }.release
        if kind = 3 then
          let s := s.bulkWritten page p.series p.seq ok
          match (s.page page).find p.series p.seq with
          | some a =>
            if a.await = .dma then
              if ok then s.finish page p.series p.seq a.status a.result
              else { s with sys := { s.sys with errDma := holdAt 255 (s.sys.errDma + 1) } }.finish page p.series p.seq 0x000D a.result
            else s
          | none => s
        else if ok then s
        else if kind = 1 then s.ringError page 4 6
        else if kind = 2 then
          let q := s.page page
          let bounds := match q.lostEv with
            | none => (p.seq, p.seq)
            | some (a, _) => (a, p.seq)
          (s.setPage page { q with lostEv := some bounds }).ringError page 5 6
        else s

/-- The buffer posted for a message (R409). -/
def State.bulkRecv (s : State) (src dtenant stenant n : Nat) : Option FabRecv :=
  s.fab.recvs.find? fun r => r.page = dtenant && (r.node = src || r.node = 0xFFFF) && r.tenant = stenant && decide (n ≤ r.maxLen)

/-- A whole message for a tenant of this chip: it is written to the buffer posted for it, or the sender hears at once that there is none. -/
def State.bulkArrived (s : State) (src msg dtenant stenant tag : Nat) (bs : List Byte) : State :=
  match s.bulkRecv src dtenant stenant bs.length with
  | none => s.bulkAnswer src msg 0x0D01
  | some r =>
    let w : BulkWrite := { page := r.page, series := r.series, seq := r.seq, src := src, msg := msg }
    let s := { s with fab := { s.fab with recvs := s.fab.recvs.filter (fun x => x ≠ r), writes := s.fab.writes ++ [w] } }
    let s := s.changeAcc r.page r.series r.seq fun a => { a with await := .dma, result := leBytes 4 bs.length ++ leBytes 4 tag }
    s.post { kind := .buffer, page := r.page, ring := r.series, addr := (s.tenant r.page).winBase + r.buffer, bytes := bs,
             series := r.series, seq := r.seq }

/-- One part of a BULK message. -/
def State.bulkPart (s : State) (src : Nat) (data : List Byte) : State :=
  let msg := leNat data 8 4
  let total := leNat data 12 4
  let off := leNat data 16 4
  let mine := fun (a : Assembly) => decide (a.src = src ∧ a.msg = msg)
  let had : List Byte := if off = 0 then [] else match s.fab.parts.find? mine with
    | some a => a.got
    | none => []
  if had.length ≠ off then s
  else
    let got := had ++ data.drop 20
    let rest := s.fab.parts.filter fun a => !mine a
    if got.length < total then { s with fab := { s.fab with parts := rest ++ [{ src := src, msg := msg, total := total, got := got }] } }
    else
      ({ s with fab := { s.fab with parts := rest } }).bulkArrived src msg (leNat data 0 2) (leNat data 2 2) (leNat data 4 4) got

/-- The effect of `FAB_SEND`; it waits while the tracker holds all but the 512 entries of TIME and CONTROL (R37). -/
def fabSendEffect (d : Desc) (s : State) : Reply :=
  let dst := d.u16 16
  let msg := s.fab.msgs
  let bs := fitTo (d.u32 20) d.host
  if dst ≠ s.node ∧ (s.hops (s.standIn dst)).isNone then Reply.no s 0x0D00
  else if dst ≠ s.node ∧ 8192 - 512 ≤ s.fabOpen then { st := s, waits := true }
  else
    let s := { s with fab := { s.fab with msgs := (msg + 1) % 2 ^ 32 } }
    let k := s.bulkRecv s.node (d.u16 18) d.page bs.length
    if dst = s.node ∧ k.isNone then { st := s, status := 0x0D01 }
    else
      let s := { s with fab := { s.fab with sends := s.fab.sends ++ [{ page := d.page, series := d.series, seq := d.seq, msg := msg, dst := dst, began := s.now }] } }
      if dst = s.node then { st := s.bulkArrived s.node msg (d.u16 18) d.page (d.u32 24) bs, await := some .own }
      else
      let head := leBytes 2 (d.u16 18) ++ leBytes 2 d.page ++ leBytes 4 (d.u32 24) ++ leBytes 4 msg ++ leBytes 4 bs.length
      { st := (List.range ((bs.length + bulkChunk - 1) / bulkChunk)).foldl (fun (s : State) k =>
          s.fabSend 4 dst 1 (head ++ leBytes 4 (k * bulkChunk) ++ (bs.drop (k * bulkChunk)).take bulkChunk)) s,
        await := some .own }

/-- `FAB_SEND` (R409). -/
def execFabSend (d : Desc) (s : State) : Res := serveRes (nodeInfo 0xB5 (.fabric 4) layFabSend) d (some (d.u32 20)) (fabSendEffect d) s

/-- `FAB_SEND_TIMEOUT` (R409): 1 s without a confirmation. -/
def execFabSendTimeout (t : Time) (page series seq : Nat) (s : State) : Res :=
  .next (s.live t fun s =>
    match s.fab.sends.find? fun x => x.page = page && x.series = series && x.seq = seq with
    | none => s
    | some x => if s.now < x.began + 1000000000 then s else s.bulkAnswered x.msg 0x0008)

/-- `FAB_RECV` (R409): at most 4 posted for a tenant. -/
def execFabRecv (d : Desc) (s : State) : Res :=
  serveRes { nodeInfo 0xB6 (.fabric 4) layFabRecv with gives := true } d (some (d.u32 20)) (fun s =>
    if 4 ≤ (s.fab.recvs.filter fun r => r.page = d.page).length then Reply.no s 0x0004
    else
      let r : FabRecv := { page := d.page, series := d.series, seq := d.seq, buffer := d.buffer, node := d.u16 16, tenant := d.u16 18, maxLen := d.u32 20 }
      { st := { s with fab := { s.fab with recvs := s.fab.recvs ++ [r] } }, await := some .own }) s

/-! ### Frames that arrive -/

/-- A frame sent on towards its destination with one hop more. -/
def hopped (bytes : List Byte) : List Byte :=
  let b := bytes.take 6 ++ leBytes 1 (byteAt bytes 6 + 1) ++ (bytes.drop 7).take (bytes.length - 11)
  b ++ leBytes 4 (crc32 b)

/-- What this node takes from a frame for it. A message whose type has a command of its own acts by that command. -/
def State.takeMessage (s : State) (src cls kind seq txn dst : Nat) (data : List Byte) : State :=
  let s := if answered cls dst kind then s.fabSend 1 src 12 (leBytes 4 seq ++ leBytes 2 txn) else s
  if cls = 1 ∧ kind = 8 then s.reserveGranted src (byteAt data 0) (leNat data 1 8)
  else if cls = 1 ∧ kind = 9 then s.wounded (leNat data 0 8)
  else if cls = 1 ∧ kind = 5 then
    (if byteAt data 0 < 8 ∧ s.partnerNode (byteAt data 0) = src then
      s.setCtl (byteAt data 0) { s.ctlOf (byteAt data 0) with parSt := byteAt data 1 } else s)
  else if cls = 1 ∧ kind = 11 then (if s.partnerOf src = 0xFFFF then s else s.takenOver (s.partnerOf src) src)
  else if cls = 1 ∧ kind = 12 then s.ctlAcked src (leNat data 0 4) (leNat data 4 2)
  else if cls = 1 ∧ kind = 13 then s.freeHolds fun h => h.node = src && h.stamp = leNat data 0 8
  else if cls = 1 ∧ kind = 14 then
    (if s.fab.role ≠ 0 ∧ src = s.sbPartner then { s with fab := { s.fab with order := true } } else s)
  else if cls = 4 ∧ kind = 1 then s.bulkPart src data
  else if cls = 4 ∧ kind = 2 then s.bulkAnswered (leNat data 0 4) (leNat data 4 2)
  else s

/-- A good frame is delivered here, sent on, or both (R393, R397). -/
def State.takeFrame (s : State) (port : Nat) (bytes : List Byte) : State :=
  let to_ := leNat bytes 0 2
  let src := leNat bytes 2 2
  let cls := byteAt bytes 4
  let kind := byteAt bytes 5
  let seq := leNat bytes 8 4
  let txn := leNat bytes 12 2 % 8192
  let data := (bytes.drop 24).take (bytes.length - 28)
  let old : Bool := match s.epochOf src with
    | some e => epochNewer e (byteAt bytes 7)
    | none => false
  let dup := s.fab.seen.contains (src, cls, seq)
  let mark := fun (s : State) =>
    { s with fab := { s.fab with seen := (s.fab.seen ++ [(src, cls, seq)]).drop (s.fab.seen.length + 1 - 4096) } }
  if old ∨ src = s.node then s
  else if to_ = 0xFFFF then
    if dup then s
    else
      let stale := cls = 2 && kind = 1 && decide (leNat data 0 4 < s.now / 1000000)
      let s := if byteAt bytes 6 < 32 ∧ ¬ stale then (s.upPorts.filter (· ≠ port)).foldl (fun (s : State) k => s.transmit k (hopped bytes)) (mark s)
        else mark s
      s.takeMessage src cls kind seq txn 0xFFFF data
  else
    let dst := s.deliverTo cls kind to_
    if dst = s.node then
      if dup then (if answered cls to_ kind then s.fabSend 1 src 12 (leBytes 4 seq ++ leBytes 2 txn) else s)
      else (mark s).takeMessage src cls kind seq txn to_ data
    else match s.routePort dst with
      | some k => if byteAt bytes 6 < 32 then s.transmit k (hopped bytes) else s
      | none => s

/-- A frame as it stands on the wire is good (R390, R391). -/
def goodFrame (bytes : List Byte) : Bool :=
  decide (28 ≤ bytes.length) && decide (bytes.length ≤ 768) && decide (leNat bytes 14 2 + 28 = bytes.length) && decide (byteAt bytes 4 ≤ 4) &&
    decide (leNat bytes (bytes.length - 4) 4 = crc32 (bytes.take (bytes.length - 4)))

/-- `FAB_FRAME_RECEIVED` (R390, R391, R393): the frame, and how many of this port's frames the peer has acknowledged. -/
def execFabFrameReceived (t : Time) (port : Nat) (bytes : List Byte) (acked : Nat) (s : State) : Res :=
  within port 8 s fun s => s.live t fun s =>
    let s := s.acked port acked
    if ¬ (s.port port).up ∨ ¬ goodFrame bytes then s
    else (s.setPort port { s.port port with acks := (s.port port).acks + 1 }).takeFrame port bytes

/-! ### Domain time -/

/-- A node that joins may step its time: no partition works (R400). -/
def State.mayStep (s : State) : Bool := (List.range 8).all fun p =>
  let x := (s.part p).st
  x = .unconfigured || x = .blocked || x = .tripped || x = .safeOff

/-- `TIME_EXCHANGE` (R399, R400): own send, peer's receipt, peer's send and own receipt, in ns. -/
def execTimeExchange (t : Time) (port : Nat) (t1 t2 t3 t4 : Time) (s : State) : Res :=
  within port 8 s fun s => s.live t fun s =>
    if ¬ (s.port port).up then s
    else
      let trip : Q := (((t4 : Int) - t1) - ((t3 : Int) - t2) : Int)
      let delay := trip / 2 - s.asym port
      let s := s.setPort port { s.port port with delay := delay }
      if s.upstream ≠ some port then s
      else
        let off := nearest ((t4 : Q) - t3 - delay)
        let near := decide (-20 ≤ off ∧ off ≤ 20)
        let s := { s with fab := { s.fab with off := off, good := if near then s.fab.good + 1 else 0 } }
        if s.fab.joined then s
        else
          let s := { s with fab := { s.fab with joined := true } }
          if (1000 < off ∨ off < -1000) ∧ s.mayStep then ({ s with now := ((s.now : Int) - off).toNat }.relockAll).inform srcChip 0x0D0B [] else s

/-- `HOLDOVER_TIMEOUT` (R400): 10 ms without a time path. -/
def execHoldoverTimeout (t : Time) (s : State) : Res :=
  .next (s.live t fun s =>
    let due : Bool := match s.fab.hold with
      | some u => decide (u + 10000000 ≤ s.now)
      | none => false
    if ¬ due ∨ s.fab.unlocked then s
    else { s with fab := { s.fab with unlocked := true, joined := false } }.alarm srcChip 0x0D09 [])

/-- `PPS_IN` edges are each 1 s ± 100 µs apart. -/
def ppsEven : List Time → Bool
  | a :: b :: r => decide (a + 999900000 ≤ b ∧ b ≤ a + 1000100000) && ppsEven (b :: r)
  | _ => true

/-- `PPS_IN_EDGE` (R401): timestamped; valid after 4 edges at their distance. -/
def execPpsInEdge (t : Time) (s : State) : Res :=
  .next (s.live t fun s =>
    let l := s.fab.pps ++ [s.now]
    let l := l.drop (l.length - 4)
    let v := l.length = 4 && ppsEven l
    let was := s.fab.ppsValid
    let s := { s with fab := { s.fab with pps := l, ppsValid := v } }
    if v = was then s else s.fabChanged)

/-- The level of `PPS_OUT` (R401). -/
def State.ppsOut (s : State) : Bool := (s.regWord 0x9008 0).testBit 9 && decide (s.now % 1000000000 < 100000000)

/-! ### Hot standby -/

/-- `STANDBY_CONFIG` (R402, R403). -/
def execStandbyConfig (d : Desc) (s : State) : Res :=
  serveRes { nodeInfo 0xB0 .owner layStandby with kept := true } d none (fun s =>
    let r := storeEffect 0xB0 d 0 s
    { r with st := if r.status = 0 then ({ r.st with cfg := Tab.set r.st.cfg [] (cfgKey 0xB0 0xFFFF 0) d.payload }).joinPair.fabChanged else r.st }) s

/-- `FAB_CAL_CONFIG` (R399). -/
def execFabCalConfig (d : Desc) (s : State) : Res :=
  serveRes { nodeInfo 0xB1 .owner layCal with kept := true } d none (fun s => { storeEffect 0xB1 d (d.u8 16) s with keyC := d.u8 16 }) s

/-- `TAKEOVER` (R405); at the active node, what the partner says of its readiness. -/
def execTakeover (d : Desc) (ready : Bool) (s : State) : Res :=
  serveRes (nodeInfo 0xB2 .owner []) d none (fun s =>
    let ok := if s.fab.role = 2 then s.standbyReady else s.fab.role = 1 && ready
    if ¬ ok then Reply.no s 0x0D02
    else if s.fab.order then Reply.no s 0x0004
    else
      let s := { s with fab := { s.fab with order := true, orderDesc := some (d.page, d.series, d.seq) } }
      { st := s.fabSend 1 s.sbPartner 14 [], await := some .own }) s

/-- `MIRROR_RECORD_RECEIVED` (R402): kept, its digest compared. -/
def execMirrorRecordReceived (t : Time) (m : Mirror) (s : State) : Res :=
  .next (s.live t fun s =>
    if s.fab.role ≠ 2 ∨ ¬ s.sbParts.testBit m.part then s
    else
      let x := s.mirOf m.part
      let differs := decide (m.digest ≠ s.confDigest m.part)
      let s := s.setMir m.part { x with rec_ := some (m.merged x.rec_), got := true, age := 0, differs := differs, at_ := some s.now }
      let s := { s with fab := { s.fab with mirrorLost := false } }
      if differs && !x.differs then s.alarm (srcPart m.part) 0x0D06 [] else s)

/-- `MIRROR_TIMEOUT` (R403): no record for `mirror_timeout` while the partner is reachable. -/
def execMirrorTimeout (t : Time) (s : State) : Res :=
  .next (s.live t fun s =>
    let limit := nsOf s.mirrorTimeout
    let late := s.pairParts.any fun p => match (s.mirOf p).at_ with
      | some u => decide (u + limit ≤ s.now)
      | none => true
    if s.fab.role = 2 ∧ late ∧ (s.hops s.sbPartner).isSome ∧ ¬ s.fab.mirrorLost then
      { s with fab := { s.fab with mirrorLost := true } }.alarm srcChip 0x0D05 []
    else s)

/-- `STANDBY_TAKEOVER` (R404, R407): the partner announced its failure, with the state codes of its partitions, or has been
unreachable for 2 µs. A `TAKEOVER` that waits completes. -/
def execStandbyTakeover (t : Time) (announced : Bool) (states : List Nat) (s : State) : Res :=
  .next (s.live t fun s =>
    let lost : Bool := match Tab.get s.fab.unreach none s.sbPartner with
      | some u => decide (u + 2000 ≤ s.now)
      | none => false
    if s.fab.role ≠ 2 ∨ ¬ (announced ∨ lost) then s
    else
      let w := s.fab.orderDesc
      let s := ({ s with fab := { s.fab with order := false, orderDesc := none } }).takeOver (if announced then some states else none)
      match w with
      | some (n, series, seq) => s.finish n series seq 0 []
      | none => s)

/-- `DEPOSED` (R406). -/
def execDeposed (t : Time) (p : Nat) (s : State) : Res :=
  within p 8 s fun s => s.live t fun s =>
    if s.fab.role ≠ 1 ∨ Tab.get s.fab.deposeRow 0 p < 2 then s
    else ({ s.setRole 2 with fab := { (s.setRole 2).fab with deposeRow := [] } }).alarm (srcPart p) 0x0D04 []

/-! ### Heave (R409) -/

/-- The subscribers of this node's heave stream: node and alternate (R410). -/
def State.heaveSubs (s : State) : List (Nat × Nat) :=
  match s.stored 0xB3 0xFFFF 0 with
  | some b => (List.range (byteAt b 0)).map fun k => (leNat b (4 + 4 * k) 2, leNat b (6 + 4 * k) 2)
  | none => []

/-- `SHARE_SUB_CONFIG` (R410). -/
def execShareSubConfig (d : Desc) (s : State) : Res :=
  serveRes { nodeInfo 0xB3 (.fabric 2) laySubs with kept := true } d none (fun s =>
    let bad := (List.range (d.u8 16)).any fun k =>
      decide (0x3FF < d.u16 (20 + 4 * k)) || (decide (0x3FF < d.u16 (22 + 4 * k)) && decide (d.u16 (22 + 4 * k) ≠ 0xFFFF))
    if bad then Reply.no s 0x0003 else storeEffect 0xB3 d 0 s) s

/-- The role a node is known by. -/
def State.roleOf (s : State) (n : Nat) : Nat := ((s.nodeRec n).map fun r => r.role).getD 0

/-- `SHARE_PUBLISH` (R409, R142). -/
def execSharePublish (d : Desc) (s : State) : Res :=
  serveRes (nodeInfo 0xB4 (.fabric 2) layPublish) d none (fun s =>
    { st := s.heaveSubs.foldl (fun (s : State) (e : Nat × Nat) =>
        let n := if e.2 ≠ 0xFFFF ∧ s.roleOf e.1 ≠ 1 ∧ s.roleOf e.2 = 1 then e.2 else e.1
        if n = s.node then (List.range 8).foldl (fun (s : State) p =>
          if s.heaveSrc p = 1 ∧ s.heaveNode p = n then s.takeHeave p (d.u64 24) (d.f32 32) (d.f32 36) else s) s
        else s.fabSend 2 n 2 ((d.payload.drop 8).take 16)) s }) s

/-! ### Trace, topology and status -/

/-- `FAB_TRACE` (R409): the round trip measured, in ns. -/
def execFabTrace (d : Desc) (rtt : Nat) (s : State) : Res :=
  serveRes { nodeInfo 0xB7 .anyFabric layTrace with gives := true } d none (fun s =>
    match s.hops (d.u16 16) with
    | none => Reply.no s 0x0D00
    | some h => { st := s, result := leBytes 1 h ++ leBytes 1 ((s.routePort (d.u16 16)).getD (Config.noValue 0)) ++ zeros 2 ++ leBytes 4 rtt }) s

/-- One entry of `FAB_TOPOLOGY` (Table 6). -/
def State.topoEntry (s : State) (n : Nat) : List Byte :=
  let r := s.nodeRec n
  let flag := fun (k : Nat) (b : Bool) => if b then 2 ^ k else 0
  let nbrs := (r.map fun x => x.nbrs).getD []
  leBytes 2 n ++ leBytes 1 ((s.hops n).getD (Config.noValue 1)) ++
    leBytes 1 (flag 0 (s.hops n).isSome + flag 1 (s.fab.failed.contains n) + flag 2 (s.fab.master = some n) + flag 3 (s.roleOf n = 2)) ++
    leBytes 1 ((r.map fun x => x.epoch).getD 0) ++ leBytes 1 ((s.routePort n).getD (Config.noValue 2)) ++ zeros 2 ++
    ((List.range 8).map fun k => leBytes 2 (((nbrs.find? fun e => e.1 = k).map fun e => e.2).getD (Config.noValue 3))).flatten

/-- `FAB_TOPOLOGY`. -/
def execFabTopology (d : Desc) (s : State) : Res :=
  let n := s.knownNodes.length
  serveRes { nodeInfo 0xB8 .anyFabric [] with gives := true } d (some (24 * n)) (fun s =>
    { st := s, result := leBytes 2 n, write := some (s.knownNodes.map s.topoEntry).flatten }) s

/-- The 8 bytes of `FAB_STATUS`. -/
def State.fabResult (s : State) : List Byte :=
  let flag := fun (k : Nat) (b : Bool) => if b then 2 ^ k else 0
  let off : Int := if 32767 < s.fab.off then 32767 else if s.fab.off < -32768 then -32768 else s.fab.off
  leBytes 1 (maskOf s.upPorts) ++
    leBytes 1 (flag 0 s.locked + flag 1 (s.fab.master = some s.node) + flag 2 s.fab.hold.isSome + flag 3 s.standbyReady + flag 4 (s.fab.role = 1) +
      flag 5 (s.fab.role = 2) + flag 6 s.fab.ppsValid) ++
    leBytes 2 (s.fab.master.getD (Config.noValue 4)) ++ leBytesInt 2 off ++
    leBytes 1 ((match s.fab.master with | some m => s.hops m | none => none).getD (Config.noValue 5)) ++ zeros 1

/-- `FAB_STATUS`. -/
def execFabStatus (d : Desc) (s : State) : Res :=
  serveRes { nodeInfo 0xBF .anyFabric [] with gives := true } d none (fun s => { st := s, result := s.fabResult }) s

end Sys2Proof.Machine
end

