-- ==== Sys2Proof/Machine/Storage.lean ====
section
/-!
DEFINITION. The storage medium (R363 to R386): Firn commits and snapshots, Moraine captures, the audit area, USER blobs, wear and the
retention scrub, with the chapter's descriptors. Power failure and restore stand in Restore and Reset.
-/
namespace Sys2Proof.Machine
open Sys2Proof

/-! ### Areas (R366, R369) -/

def State.setMedium (s : State) (m : Medium) : State := { s with stor := { s.stor with medium := m } }
def State.setStor (s : State) (x : Stor) : State := { s with stor := x }

/-- Capacity in bytes (`STOR_GEOM`). -/
def State.capacity (s : State) : Nat := bits s.stor.geom 27 12 * 67108864
/-- The MORAINE area: what BOOT, FIRN, AUDIT and USER leave (Table 2). -/
def State.moraineBytes (s : State) : Nat := s.capacity - 201326592 - s.capacity / 16 - s.capacity / 8
/-- A tenant's quota (Table 2). -/
def State.userQuota (s : State) : Nat := s.capacity / 8 / 1024

/-- An area has no spare block left (R366): 0 BOOT, 1 FIRN, 2 AUDIT, 3 USER, 4 MORAINE. -/
def State.worn (s : State) (area : Nat) : Bool := s.stor.medium.full.testBit area

/-- Descriptors already applied whose records can no longer be committed complete with `STOR_WORN` (R371). -/
def State.dropPending (s : State) : State :=
  let s := s.setStor { s.stor with firnRo := true, pend := [] }
  (s.pages.map fun e => e.1).foldl (fun (s : State) n =>
    (s.page n).acc.foldl (fun (s : State) a => match a.await with
      | .firn _ => s.finish n a.series a.seq 0x0C01 []
      | _ => s) s) s

/-- The spare blocks left of the areas, in parts per ten thousand of their blocks (R366). -/
def State.setSpares (s : State) (l : List Nat) : State :=
  let s := (List.range 5).foldl (fun (s : State) k =>
    match l[k]? with
    | none => s
    | some v =>
      let m := s.stor.medium
      let was := Tab.get m.spares 200 k
      let s := s.setMedium { m with spares := Tab.set m.spares 200 k v, full := setBit m.full k (m.full.testBit k || v = 0) }
      let s := if v < 100 ∧ 100 ≤ was then s.alarm srcChip 0x0C0A (leBytes 1 k) else s
      if v = 0 ∧ k = 1 ∧ ¬ s.stor.firnRo then s.dropPending else s) s
  if s.stor.state < 2 then s
  else if s.stor.medium.full ≠ 0 then s.setStor { s.stor with state := 4 }
  else if (List.range 5).any fun k => Tab.get s.stor.medium.spares 200 k < 100 then s.setStor { s.stor with state := 3 }
  else s

/-! ### Wear (R366, R367) -/

/-- The block taken next: of those free and good the one with the lowest erase count, the first of several. -/
def Pool.next (x : Pool) : Option Nat :=
  (((x.blocks.mapIdx fun k b => (k, b)).filter fun e => e.2.seq.isNone && !e.2.bad).foldl (fun (m : Option (Nat × Blk)) e => match m with
    | some o => if e.2.erases < o.2.erases then some e else m
    | none => some e) none).map Prod.fst

/-- The number of the take that filled the oldest block with data. -/
def Pool.oldest (x : Pool) : Option Nat :=
  (x.blocks.filterMap fun b => b.seq).foldl (fun (m : Option Nat) q => some (min q (m.getD q))) none

/-- Blocks whose data is superseded become free: those filled before a take. -/
def Pool.freeBefore (x : Pool) (q : Nat) : Pool :=
  { x with blocks := x.blocks.map fun b => if b.seq.any fun k => k < q then { b with seq := none } else b }

/-- A block is erased and takes data; at its endurance it is retired and the next is taken. With no block free the oldest data gives way
(log entry 159). The second part counts the blocks retired; the fuel is the number of blocks. -/
def Pool.take (limit : Nat) : Nat → Pool → Pool × Nat
  | 0, x => (x, 0)
  | n + 1, x =>
    let x := if x.next.isSome then x else match x.oldest with
      | some q => x.freeBefore (q + 1)
      | none => x
    match x.next with
    | none => (x, 0)
    | some k =>
      let worn := fun (b : Blk) => decide (limit ≠ 0) && decide (limit ≤ b.erases + 1)
      let b := x.blocks.getD k {}
      if worn b then
        let r := Pool.take limit n { x with blocks := x.blocks.set k { b with erases := b.erases + 1, bad := true } }
        (r.1, r.2 + 1)
      else ({ x with blocks := x.blocks.set k { b with erases := b.erases + 1, seq := some x.takes }, takes := x.takes + 1 }, 0)

/-- Where the erase counts of an area differ by more than 2,000, the data of the least-erased block moves to a free block (R367). -/
def Pool.level (limit : Nat) (x : Pool) : Pool × Nat :=
  let good := (x.blocks.mapIdx fun k b => (k, b)).filter fun e => !e.2.bad
  let top := (good.map fun e => e.2.erases).foldl max 0
  match good.foldl (fun (m : Option (Nat × Blk)) e => match m with
      | some o => if e.2.erases < o.2.erases then some e else m
      | none => some e) none with
  | none => (x, 0)
  | some (k, b) =>
    if top ≤ b.erases + 2000 ∨ b.seq.isNone ∨ x.next.isNone then (x, 0)
    else
      let r := Pool.take limit x.blocks.length x
      ({ r.1 with blocks := r.1.blocks.set k { b with seq := none } }, r.2)

/-- So many blocks are taken, the erase counts levelled after each. -/
def Pool.takes_ (limit : Nat) : Nat → Pool → Pool × Nat
  | 0, x => (x, 0)
  | n + 1, x =>
    let a := Pool.take limit x.blocks.length x
    let b := a.1.level limit
    let r := Pool.takes_ limit n b.1
    (r.1, a.2 + b.2 + r.2)

/-- Bytes are written to an area: a new block for every whole block of them (R367). -/
def State.wearArea (s : State) (area bytes : Nat) : State :=
  let m := s.stor.medium
  let x := Tab.get m.pools {} area
  let blocks := fun (n : Nat) => if m.blockBytes = 0 then 0 else (n + m.blockBytes - 1) / m.blockBytes
  let r := Pool.takes_ m.endurance (blocks (x.written + bytes) - blocks x.written) x
  s.setMedium { m with pools := Tab.set m.pools {} area { r.1 with written := x.written + bytes }, grown := m.grown + r.2 }

/-- A program failure: the block in hand becomes a grown defect and a fresh one takes its place (R366, R371). -/
def State.growDefect (s : State) (area : Nat) : State :=
  let m := s.stor.medium
  let x := Tab.get m.pools {} area
  let lost := x.blocks.map fun b => if b.seq = some (x.takes - 1) then { b with seq := none, bad := true } else b
  let r := Pool.take m.endurance x.blocks.length { x with blocks := lost }
  s.setMedium { m with pools := Tab.set m.pools {} area r.1, grown := m.grown + 1 + r.2 }

/-- The share of endurance left in an area, in per cent, by its most-erased block; all of it where the endurance is not known. -/
def Pool.life (limit : Nat) (x : Pool) : Nat :=
  if limit = 0 then 100 else 100 - 100 * ((x.blocks.map fun b => b.erases).foldl max 0) / limit

/-- `life` of `STOR_STATUS`: the most-worn area's (R386). -/
def Medium.life (m : Medium) : Nat := ((m.pools.map fun e => e.2.life m.endurance)).foldl min 100

/-- Blocks whose data a scrub relocates (R368), and one of them found uncorrectable (R366). -/
def State.scrubArea (s : State) (area moved bad : Nat) : State :=
  let m := s.stor.medium
  let r := Pool.takes_ m.endurance moved (Tab.get m.pools {} area)
  let s := s.setMedium { m with pools := Tab.set m.pools {} area r.1, grown := m.grown + r.2 }
  (List.range bad).foldl (fun (s : State) _ => s.growDefect area) s

/-- The pool of an area after a format: every block erased that held data, BOOT left as it is (R386). -/
def Pool.formatted (x : Pool) (area n : Nat) : Pool :=
  { x with blocks := (List.range n).map fun k =>
      let b := x.blocks.getD k {}
      if area = 0 ∨ b.seq.isNone then b else { b with erases := b.erases + 1, seq := none } }

/-! ### Firn (R371 to R373) -/

/-- A record for a partition that `PART_RELEASE` clears (R372). -/
def FirnRec.ofPart (r : FirnRec) (p : Nat) : Bool :=
  (r.kind = 1 && partOps.contains r.keyA && r.keyB = p) || (r.kind = 3 && r.keyA = 1 && r.keyB = p)

/-- A later record supersedes an earlier one (R372). -/
def FirnRec.supersedes (q r : FirnRec) : Bool :=
  (q.kind = r.kind && q.keyA = r.keyA && q.keyB = r.keyB && q.keyC = r.keyC) || (q.kind = 6 && r.ofPart q.keyB)

/-- The live records, in sequence order (R372): superseded ones and the marks of snapshots are gone. -/
def liveRecs : List FirnRec → List FirnRec
  | [] => []
  | r :: rest => if r.kind = 4 ∨ r.kind = 5 ∨ (rest.any fun q => q.supersedes r) then liveRecs rest else r :: liveRecs rest

/-- A record's bytes (Table 4 of R372), its CRC-32 over bytes 0 to 19 and the body. -/
def FirnRec.bytes (r : FirnRec) : List Byte :=
  let h := leBytes 8 r.seq ++ leBytes 1 r.kind ++ leBytes 1 r.stepping ++ leBytes 2 r.body.length ++ leBytes 2 r.keyA ++ leBytes 2 r.keyB ++
    leBytes 2 r.keyC ++ leBytes 2 r.tenant
  h ++ leBytes 4 (crc32 (h ++ r.body)) ++ r.body

/-- The records that an image holds, one after the other; the fuel is the image's length. -/
def parseRecs : Nat → List Byte → List FirnRec
  | 0, _ => []
  | k + 1, b =>
    if b.length < 24 then []
    else
      let n := leNat b 10 2
      let body := (b.drop 24).take n
      let r : FirnRec := { seq := leNat b 0 8, kind := byteAt b 8, stepping := byteAt b 9, keyA := leNat b 12 2, keyB := leNat b 14 2,
                           keyC := leNat b 16 2, tenant := leNat b 18 2, body := body }
      if b.length < 24 + n then [] else r :: parseRecs k (b.drop (24 + n))

/-- Three quarters of a FIRN copy (R373). -/
def snapshotAt : Nat := 50331648

/-- A begin or end mark of a snapshot. -/
def snapMark (k seq : Nat) : FirnRec :=
  { seq := seq, kind := k, stepping := 0xB1, keyA := 0, keyB := 0xFFFF, keyC := 0, tenant := 0xFFFF, body := [] }

/-- A snapshot of the records given takes the place of everything older (R373). -/
def State.writeSnapshot (s : State) (l : List FirnRec) : State :=
  let q := s.stor.nextSeq
  let live := l.mapIdx fun i r => { r with seq := q + 2 + i }
  let snap := snapMark 4 (q + 1) :: live ++ [snapMark 5 (q + 2 + live.length)]
  let size := (snap.map FirnRec.size).foldl (· + ·) 0
  let before := (Tab.get s.stor.medium.pools {} 1).takes
  let s := (s.setStor { s.stor with nextSeq := q + 2 + live.length }).wearArea 1 size
  let m := s.stor.medium
  s.setMedium { m with firn := snap, firnUsed := size, pools := Tab.set m.pools {} 1 ((Tab.get m.pools {} 1).freeBefore before) }

/-- Records written to both copies; a copy in use beyond three quarters is followed by a snapshot (R373). -/
def State.writeFirn (s : State) (recs : List FirnRec) : State :=
  let m := s.stor.medium
  let all := m.firn ++ recs
  let size := (recs.map FirnRec.size).foldl (· + ·) 0
  let used := m.firnUsed + size
  if used ≤ snapshotAt then (s.setMedium { m with firn := all, firnUsed := used }).wearArea 1 size
  else
    s.writeSnapshot (liveRecs all)

/-- Whose acknowledgement waits for a record: page, series, sequence, record. -/
def State.firnWaits (s : State) : List (Nat × Nat × Nat × Nat) :=
  sortBy (fun e => e.2.2.2) (s.pages.map fun e => e.2.acc.filterMap fun a => match a.await with
    | .firn q => some (e.1, a.series, a.seq, q)
    | _ => none).flatten

/-- A descriptor whose record is committed is acknowledged, after the host-buffer write that it still owes (R344, R347, R371). -/
def State.acknowledge (s : State) (n series seq : Nat) : State :=
  match (s.page n).find series seq with
  | none => s
  | some a => match a.after with
    | some (addr, bs) =>
      (s.changeAcc n series seq fun x => { x with await := .dma, after := none }).post
        { kind := .buffer, page := n, ring := series, addr := addr, bytes := bs, series := series, seq := seq }
    | none => s.finish n series seq 0 a.result

/-- A commit of the pending records up to a sequence, then their acknowledgements in staging order (R371). -/
def State.commitFirn (s : State) (upTo : Nat) : State :=
  let done := s.stor.pend.filter fun r => r.seq ≤ upTo
  if done = [] then s
  else
    let s := s.setStor { s.stor with pend := s.stor.pend.filter fun r => ¬ r.seq ≤ upTo, committed := max s.stor.committed upTo }
    let s := s.writeFirn done
    let s := if done.any fun r => r.kind = 3 && r.keyA = 4 then { s with sys := { s.sys with failRecordAt := some s.now } } else s
    (s.firnWaits.filter fun e => e.2.2.2 ≤ upTo).foldl (fun (s : State) e => s.acknowledge e.1 e.2.1 e.2.2.1) s

/-- Storage works: outside freeze (R452) and boot. -/
def State.storing (s : State) : Bool := s.power = .running || s.power = .failed

/-- `FIRN_COMMIT_DONE` (R371): the records up to a sequence, and the spare blocks left of FIRN after the blocks that the commit
retired, in parts per ten thousand. -/
def execFirnCommitDone (t : Time) (upTo spare : Nat) (s : State) : Res :=
  .next (if ¬ s.storing ∨ ¬ s.stor.keeps then s
    else ((s.at t).commitFirn upTo).setSpares [Tab.get s.stor.medium.spares 200 0, spare])

/-! ### Storage descriptors -/

def storInfo (op : Nat) (need : Need) (lay : List Fld) : OpInfo := { op := op, tgt := .none, need := need, lay := lay }

/-- Every storage descriptor but `STOR_STATUS` completes with `STOR_ABSENT` where there is no medium (R364). -/
def State.stored_ (s : State) (f : State → Reply) : Reply := if s.stor.state = 0 then Reply.no s 0x0C00 else f s

/-- An operation issued to NAND for a descriptor; with 960 of the 1,024 entries in use, the rest kept for Firn and power failure, it
waits (R37). -/
def State.issue (s : State) (d : Desc) (op key aux : Nat) (data : List Byte) : Reply :=
  let o : StorOp := { page := d.page, series := d.series, seq := d.seq, op := op, target := d.target, data := data, key := key, aux := aux, buffer := d.buffer }
  let t := s
  let s := s.setStor { s.stor with ops := s.stor.ops ++ [o] }
  if 961 ≤ s.stor.ops.length then { st := t, waits := true }
  else { st := s.mark 3 1024 s.stor.ops.length, await := some .nand }

/-- `FIRN_SYNC` (R371): every record staged before it is committed. -/
def execFirnSync (d : Desc) (s : State) : Res :=
  serveRes (storInfo 0xA0 .users []) d none (fun s => s.stored_ fun s =>
    { st := s, await := (s.stor.pend.getLast?).map fun r => .firn r.seq }) s

/-- A signature is asked for and missing: certified mode (R375, R386). -/
def State.unsigned (s : State) (signed : Bool) : Bool := s.sec.certified && !signed

/-- `FIRN_LOAD` (R375); whether the image carries a valid owner signature. -/
def execFirnLoad (d : Desc) (signed : Bool) (s : State) : Res :=
  serveRes { storInfo 0xA1 .owner [fu32 16 1024 4194304] with audit := true } d (some (d.u32 16)) (fun s => s.stored_ fun s =>
    let img := fitTo (d.u32 16) d.host
    if (parseRecs img.length img).any fun r => r.stepping ≠ 0xB1 then Reply.no s 0x0C03
    else if s.unsigned signed then Reply.no s 0x0F05
    else if s.stor.firnRo then Reply.no s 0x0C01
    else
      let s := s.setMedium { s.stor.medium with image := img }
      let s := s.stageRec 7 0xA1 0xFFFF 0 d.page []
      { st := s, await := some (.firn s.stor.nextSeq) }) s

/-- `FIRN_ERASE` (R375). -/
def execFirnErase (d : Desc) (signed : Bool) (s : State) : Res :=
  serveRes (storInfo 0xA2 .owner []) d (if s.sec.certified then some 96 else none) (fun s => s.stored_ fun s =>
    if s.unsigned signed then Reply.no s 0x0F05
    else if s.stor.firnRo then Reply.no s 0x0C01
    else
      let s := s.stageRec 8 0xA2 0xFFFF 0 d.page []
      { st := s, await := some (.firn s.stor.nextSeq) }) s

/-- The live set as an image: its records one after the other (R386). -/
def State.liveImage (s : State) : List Byte := ((liveRecs (s.stor.medium.firn ++ s.stor.pend)).map FirnRec.bytes).flatten

/-- `FIRN_EXPORT` (R386). -/
def execFirnExport (d : Desc) (s : State) : Res :=
  serveRes { storInfo 0xA3 .owner [{ off := 16, ty := .u32 }] with gives := true } d (some (d.u32 16)) (fun s => s.stored_ fun s =>
    if d.u32 16 < s.liveImage.length then Reply.no s 0x0006 else s.issue d 0xA3 0 0 []) s

/-! ### Moraine (R376 to R378) -/

def layMoraine : List Fld :=
  [fmask 16 .u8 0xF, fu8 17 0 7 7, fu8 18 0 2, { off := 19, ty := .u8 }, fmask 20 .u32 0xFF, fq 24 (1/1000) 10, fq 28 (1/1000) 10]

/-- The buffer that a payload asks for. -/
def moraineBuf (d : Desc) : MorBuf :=
  { trig := d.u8 16, priority := d.u8 17, rate := d.u8 18, cellArm := d.u8 19, mask := d.u32 20, pre := d.f32 24, post := d.f32 28, pages := 0 }

/-- `MORAINE_CONFIG` (R376): one buffer at most 4 MiB, all together at most 8 MiB. -/
def execMoraineConfig (d : Desc) (s : State) : Res :=
  serveRes { op := 0xA4, tgt := .part, need := .part, lease := true, conf := true, lay := layMoraine } d none (fun s => s.stored_ fun s =>
    let b := moraineBuf d
    let n := b.need s d.target
    let rest := ((s.stor.bufs.filter fun e => e.1 ≠ d.target).filterMap fun e => e.2.map fun x => x.need s e.1).foldl (· + ·) 0
    if 64 < n ∨ 128 < n + rest then Reply.no s 0x0003
    else { st := (s.setBuf d.target b).takePages d.target n 256 }) s

/-- `MORAINE_TRIGGER` (R377). -/
def execMoraineTrigger (d : Desc) (s : State) : Res :=
  serveRes { op := 0xA5, tgt := .part, need := .part, lease := true } d none (fun s => s.stored_ fun s => { st := s.moraine d.target 3 0 }) s

/-- `MORAINE_POST_WINDOW_END` (R377): the buffer becomes a capture, a new one is taken from free pages. -/
def execMorainePostWindowEnd (t : Time) (p : Nat) (s : State) : Res :=
  within p 8 s fun s => s.live t fun s =>
    match s.bufOf p with
    | none => s
    | some b => match b.trigged with
      | none => s
      | some (cause, code, t0) =>
        if s.now < t0 + nsOf b.post ∨ b.pages = 0 then s
        else
          let x := s.stor
          let c : Capture := { record := x.nextRecord, part := p, priority := b.priority, poisoned := b.poisoned, cause := cause, t := t0,
                               length := (b.samples.map fun e => e.2.length).foldl (· + ·) 0, code := code, rate := b.rate, rep := b.rep,
                               mask := b.mask, pages := b.pages, samples := b.samples }
          let s := s.setStor { x with captures := x.captures ++ [c], nextRecord := (x.nextRecord + 1) % 2 ^ 32 }
          let fresh : MorBuf := { b with pages := 0, samples := [], trigged := none, rep := 0, poisoned := false }
          (s.setBuf p fresh).takePages p (fresh.need s p) 256

/-- The captures held: in capture memory, and those only on the medium. -/
def State.captures (s : State) : List Capture :=
  s.stor.captures ++ s.stor.medium.moraine.filter fun c => !(s.stor.captures.any fun x => x.record = c.record)

/-- An index entry (R386). -/
def Capture.bytes (c : Capture) : List Byte :=
  let flag := fun (k : Nat) (b : Bool) => if b then 2 ^ k else 0
  leBytes 4 c.record ++ leBytes 1 c.part ++ leBytes 1 c.priority ++
    leBytes 1 (flag 0 c.flushed + flag 1 c.prot + flag 2 c.poisoned + flag 3 c.inMemory + flag 4 c.partial_) ++ leBytes 1 c.cause ++
    leBytes 8 c.t ++ leBytes 4 c.length ++ leBytes 2 c.code ++ leBytes 1 c.rate ++ leBytes 1 c.rep ++ leBytes 4 c.mask ++ zeros 4

/-- A tenant reads a partition. -/
def State.reads (s : State) (n p : Nat) : Bool := n = 0 || (s.tenant n).readParts.testBit p

/-- `MORAINE_LIST` (R386): entries of the partitions the tenant reads, from a record number on, in rising order. -/
def execMoraineList (d : Desc) (s : State) : Res :=
  serveRes { storInfo 0xA6 .anyRead [{ off := 16, ty := .u32 }, fu16 20 1 768] with gives := true } d (some (32 * d.u16 20))
    (fun s => s.stored_ fun s =>
      let l := sortBy (fun c => c.record) (s.captures.filter fun c => decide (d.u32 16 ≤ c.record) && s.reads d.page c.part)
      { st := s, write := some ((l.take (d.u16 20)).map Capture.bytes).flatten }) s

/-- A record by number. -/
def State.capture (s : State) (n : Nat) : Option Capture := s.captures.find? fun c => c.record = n

/-- A part of a record: its entry, then the samples in time order (R386). -/
def Capture.slice (c : Capture) (off size : Nat) : List Byte :=
  ((c.bytes ++ (c.samples.map fun e => e.2).flatten).drop off).take size

/-- `MORAINE_READ` (R386): at once from capture memory, else by a NAND operation. -/
def execMoraineRead (d : Desc) (s : State) : Res :=
  serveRes { storInfo 0xA7 .anyRead [{ off := 16, ty := .u32 }, { off := 20, ty := .u32 }, { off := 24, ty := .u32 }] with gives := true } d
    (some (d.u32 24)) (fun s => s.stored_ fun s =>
      match s.capture (d.u32 16) with
      | none => Reply.no s 0x0C04
      | some c =>
        if ¬ s.reads d.page c.part then Reply.no s 0x0005
        else if s.stor.captures.contains c then { st := s, write := some (c.slice (d.u32 20) (d.u32 24)) }
        else s.issue d 0xA7 c.record (d.u32 20 * 2 ^ 32 + d.u32 24) []) s

/-- A change of every copy of a record. -/
def State.changeCapture (s : State) (n : Nat) (f : Capture → Capture) : State :=
  let g := fun (c : Capture) => if c.record = n then f c else c
  s.setStor { s.stor with captures := s.stor.captures.map g, medium := { s.stor.medium with moraine := s.stor.medium.moraine.map g } }

/-- `MORAINE_PROTECT` (R378): at most a quarter of the area. -/
def execMoraineProtect (d : Desc) (s : State) : Res :=
  serveRes (storInfo 0xA8 .anyRead [{ off := 16, ty := .u32 }, fu8 20 0 1]) d none (fun s => s.stored_ fun s =>
    match s.capture (d.u32 16) with
    | none => Reply.no s 0x0C04
    | some c =>
      let held := ((s.captures.filter fun x => x.prot && x.record ≠ c.record).map fun x => x.length + 32).foldl (· + ·) 0
      if ¬ s.reads d.page c.part then Reply.no s 0x0005
      else if d.u8 20 = 1 ∧ s.moraineBytes < 4 * (held + c.length + 32) then Reply.no s 0x0C05
      else { st := s.changeCapture c.record fun x => { x with prot := d.u8 20 = 1 } }) s

/-- Records of the MORAINE area make room for one more, the oldest that is not protected first (R378). The fuel bounds them. -/
def makeRoom (cap size : Nat) : Nat → List Capture → List Capture
  | 0, l => l
  | k + 1, l =>
    if (l.map fun c => c.length + 32).foldl (· + ·) 0 + size ≤ cap then l
    else match l.find? fun c => !c.prot with
      | none => l
      | some c => makeRoom cap size k (l.filter fun x => x ≠ c)

/-- Pages of 64 KiB that a capture's data fills. -/
def Capture.filled (c : Capture) : Nat := (c.length + 65535) / 65536

/-- The samples of a capture, each with the page in which its data begins. -/
def Capture.paged (c : Capture) : List (Nat × Time × List Byte) :=
  (c.samples.foldl (fun (x : Nat × List (Nat × Time × List Byte)) e => (x.1 + e.2.length, x.2 ++ [(x.1 / 65536, e)])) (0, [])).2

/-- How far a page of a capture lies from the trigger: its sample nearest to it. -/
def Capture.far (c : Capture) (k : Nat) : Nat :=
  ((c.paged.filter fun e => e.1 = k).map fun e => (e.2.1 - c.t) + (c.t - e.2.1)).foldl min (2 ^ 64)

/-- A capture cut down to the pages nearest its trigger (R381). -/
def Capture.cut (c : Capture) (pages : Nat) : Capture :=
  let keep := (sortBy c.far (List.range c.filled)).take pages
  let l := (c.paged.filter fun e => keep.contains e.1).map fun e => e.2
  { c with partial_ := true, samples := l, length := (l.map fun e => e.2.length).foldl (· + ·) 0 }

/-- A capture is flushed to the MORAINE area, whole or the given number of its pages nearest the trigger. -/
def State.flushCapture (s : State) (n : Nat) (part_ : Option Nat) : State :=
  match s.stor.captures.find? fun c => c.record = n with
  | none => s
  | some c =>
    if c.flushed ∨ s.worn 4 then s
    else
      let w := { (match part_ with
        | some k => c.cut k
        | none => c) with flushed := true, inMemory := false }
      let m := s.stor.medium
      let s := (s.setMedium { m with moraine := makeRoom s.moraineBytes (w.length + 32) m.moraine.length m.moraine ++ [w] }).wearArea 4 (w.length + 32)
      s.setStor { s.stor with captures := s.stor.captures.map fun x => if x.record = n then { c with flushed := true, partial_ := w.partial_ } else x }

/-- The capture flushed next: the highest priority, then the oldest trigger (R378). -/
def State.flushNext (s : State) : Option Nat :=
  ((sortBy (fun c => (7 - c.priority) * 2 ^ 64 + c.t) (s.stor.captures.filter fun c => !c.flushed)).head?).map fun c => c.record

/-- `MORAINE_FLUSH` (R378); held by die throttle (R306). -/
def execMoraineFlush (t : Time) (record : Nat) (s : State) : Res :=
  .next (s.live t fun s => if s.stor.state < 2 ∨ s.dieThrottle ∨ s.flushNext ≠ some record then s else s.flushCapture record none)

/-! ### Audit (R357, R379) -/

/-- A 112-byte audit entry (R357). -/
def Audit.bytes (e : Audit) : List Byte := auditHead e.num e.time e.tenant e.op e.target e.status e.detail ++ fitTo 48 e.chain

/-- An audit entry of an action that no descriptor names. -/
def State.auditAct (s : State) (k : Nat) (vals : List Nat) (data : List Byte) : State :=
  s.audit 0xFFFF (Config.auditOp k) 0xFFFF 0 (Config.auditDetail k vals data)

/-- Entries in a 1 MiB segment of AUDIT. -/
def segmentEntries : Nat := 9362

/-- The oldest segment is reclaimed: an entry carries its last number and chain value first, with the ALARM (R379). -/
def State.wrapAudit (s : State) : State :=
  let m := s.stor.medium
  if m.audit.length ≤ segmentEntries * (s.capacity / 16 / 1048576) then s
  else
    let old := m.audit.take segmentEntries
    let s := match old.getLast? with
      | some e => (s.auditAct 7 [e.num] e.chain).alarm srcChip 0x0C0B []
      | none => s
    s.setMedium { s.stor.medium with audit := m.audit.drop segmentEntries }

/-- The staged entries written to AUDIT; without a medium they are not kept (R364, R379). -/
def State.commitAudit (s : State) : State :=
  let l := s.sec.staged
  let s := { s with sec := { s.sec with staged := [] } }
  if s.stor.state < 2 ∨ s.worn 2 then s
  else ((s.setMedium { s.stor.medium with audit := s.stor.medium.audit ++ l }).wearArea 2 (112 * l.length)).wrapAudit

/-- `AUDIT_COMMIT` (R379): 32 pending, or 10 ms after the oldest. -/
def execAuditCommit (t : Time) (s : State) : Res :=
  .next (if ¬ s.storing then s
    else
      let s := s.at t
      if 32 ≤ s.sec.staged.length ∨ (s.sec.staged ≠ [] ∧ s.sec.oldestStaged + 10000000 ≤ s.now) then s.commitAudit else s)

/-- A signed checkpoint of the chain head (R357). -/
def State.checkpoint (s : State) : State :=
  let s := s.auditAct 1 [] s.sec.auditHead
  { s with sec := { s.sec with sinceCheck := 0, lastCheck := s.now } }

/-- `AUDIT_CHECKPOINT` (R357): every 256 entries, or every 60 s when one has been added. -/
def execAuditCheckpoint (t : Time) (s : State) : Res :=
  .next (s.live t fun s =>
    if 256 ≤ s.sec.sinceCheck ∨ (0 < s.sec.sinceCheck ∧ s.sec.lastCheck + 60000000000 ≤ s.now) then s.checkpoint else s)

/-- `AUDIT_READ` (R386). -/
def execAuditRead (d : Desc) (s : State) : Res :=
  serveRes { storInfo 0xA9 .auditor [{ off := 16, ty := .u64 }, fu16 24 1 1024] with gives := true } d (some (112 * d.u16 24)) (fun s => s.stored_ fun s =>
    if s.stor.medium.audit.any fun e => e.num = d.u64 16 then s.issue d 0xA9 (d.u64 16) (d.u16 24) [] else Reply.no s 0x0C04) s

/-! ### USER blobs (R380) -/

def State.blob (s : State) (n k : Nat) : Option Blob := Tab.get s.stor.medium.blobs none (64 * n + k)
def State.setBlob (s : State) (n k : Nat) (b : Option Blob) : State :=
  s.setMedium { s.stor.medium with blobs := Tab.set s.stor.medium.blobs none (64 * n + k) b }
/-- Bytes of a tenant's blobs without one. -/
def State.userUse (s : State) (n skip : Nat) : Nat :=
  ((List.range 64).map fun k => if k = skip then 0 else ((s.blob n k).map fun b => b.bytes.length).getD 0).foldl (· + ·) 0

def layBlob : List Fld := [fu8 16 0 63]

/-- `USER_WRITE` (R380). -/
def execUserWrite (d : Desc) (s : State) : Res :=
  serveRes (storInfo 0xAA .users (layBlob ++ [{ off := 20, ty := .u32 }])) d (some (d.u32 20)) (fun s => s.stored_ fun s =>
    if d.u32 20 = 0 ∨ s.userQuota < d.u32 20 then Reply.no s 0x0003
    else if s.worn 3 then Reply.no s 0x0C01
    else if s.userQuota < s.userUse d.page (d.u8 16) + d.u32 20 then Reply.no s 0x0C05
    else s.issue d 0xAA (d.u8 16) 0 (fitTo (d.u32 20) d.host)) s

/-- `USER_READ` (R380). -/
def execUserRead (d : Desc) (s : State) : Res :=
  serveRes { storInfo 0xAB .users layBlob with gives := true } d ((s.blob d.page (d.u8 16)).map fun b => b.bytes.length) (fun s => s.stored_ fun s =>
    match s.blob d.page (d.u8 16) with
    | none => Reply.no s 0x0C04
    | some b => if b.gen ≠ (s.tenant d.page).gen then Reply.no s 0x0C02 else s.issue d 0xAB (d.u8 16) 0 []) s

/-- `USER_DELETE` (R386). -/
def execUserDelete (d : Desc) (s : State) : Res :=
  serveRes (storInfo 0xAC .users layBlob) d none (fun s => s.stored_ fun s =>
    match s.blob d.page (d.u8 16) with
    | none => Reply.no s 0x0C04
    | some _ => { st := s.setBlob d.page (d.u8 16) none }) s

/-! ### Operations that finish -/

/-- The descriptor's buffer is written, and it completes once the host has taken the write. -/
def State.opWrite (s : State) (o : StorOp) (bs result : List Byte) : State :=
  (s.changeAcc o.page o.series o.seq fun a => { a with await := .dma, result := result }).post
    { kind := .buffer, page := o.page, ring := o.series, addr := (s.tenant o.page).winBase + o.buffer, bytes := bs, series := o.series, seq := o.seq }

/-- The inactive BOOT slot (R354): the other of the active one. -/
def State.inactiveSlot (s : State) : Nat := 1 - s.stor.medium.bootActive

/-- What an operation does when it finishes well. -/
def State.opDone (s : State) (o : StorOp) : State :=
  let m := s.stor.medium
  if o.op = 0xAA then
    let s := s.setMedium { m with blobWrites := m.blobWrites + 1 }
    (s.setBlob o.page o.key (some { bytes := o.data, gen := (s.tenant o.page).gen, counter := m.blobWrites })).wearArea 3 o.data.length |>.finish o.page o.series o.seq 0 []
  else if o.op = 0xAB then
    match s.blob o.page o.key with
    | some b => s.opWrite o b.bytes (leBytes 4 b.bytes.length ++ zeros 4)
    | none => s.finish o.page o.series o.seq 0x0C04 []
  else if o.op = 0xA7 then
    match s.capture o.key with
    | some c => s.opWrite o (c.slice (o.aux / 2 ^ 32) (o.aux % 2 ^ 32)) []
    | none => s.finish o.page o.series o.seq 0x0C04 []
  else if o.op = 0xA9 then
    let l := (m.audit.filter fun e => o.key ≤ e.num).take o.aux
    s.opWrite o (l.map Audit.bytes).flatten (leBytes 8 ((m.audit.head?.map fun e => e.num).getD 0))
  else if o.op = 0xA3 then s.opWrite o s.liveImage (leBytes 4 s.liveImage.length ++ zeros 4)
  else
    let slot : BootSlot := { svn := o.key, raises := o.aux = 1, image := o.data }
    let s := s.setMedium { m with boot := Tab.set m.boot {} s.inactiveSlot slot, bootTrial := some s.inactiveSlot }
    ((s.wearArea 0 o.data.length).inform srcChip 0x0F0A []).finish o.page o.series o.seq 0 []

/-- What an operation does that fails its status check or whose codewords cannot be corrected (R365, R366): a write is made again on a
fresh block, a read meets its area's rule. -/
def State.opFailed (s : State) (o : StorOp) : State :=
  if o.op = 0xAA ∨ o.op = 0xCD then
    let s := s.growDefect (if o.op = 0xAA then 3 else 0)
    s.setStor { s.stor with ops := s.stor.ops ++ [o] }
  else if o.op = 0xA7 then
    let ranges := (List.range (o.aux % 2 ^ 32 / 1024 + 1)).map fun k => o.aux / 2 ^ 32 / 1024 + k
    (s.changeCapture o.key fun c => { c with damaged := c.damaged ++ ranges }).opDone o
  else if o.op = 0xA9 then
    (s.alarm srcChip 0x0C02 (evd 0x0C02 [(o.key : Q), ((o.key + o.aux - 1 : Nat) : Q)])).finish o.page o.series o.seq 0x0C02 []
  else if o.op = 0xA3 then s.opDone o
  else s.finish o.page o.series o.seq 0x0C02 []

/-- An operation that die throttle holds: every one but those on Firn and audit (R306). -/
def StorOp.held (s : State) (o : StorOp) : Bool := s.dieThrottle && o.op ≠ 0xA3 && o.op ≠ 0xA9

/-- `STORAGE_OPERATION_DONE` (R380). -/
def execStorageOperationDone (t : Time) (page series seq : Nat) (ok : Bool) (s : State) : Res :=
  .next (if ¬ s.storing then s
    else
      let s := s.at t
      match s.stor.ops.find? fun o => o.page = page && o.series = series && o.seq = seq with
      | none => s
      | some o =>
        if o.held s then s
        else
          let s := s.setStor { s.stor with ops := s.stor.ops.filter fun x => x ≠ o }
          if ok then s.opDone o else s.opFailed o)

/-! ### Format, scrub and status -/

/-- `STOR_FORMAT` (R386): in state 0 with a medium, or 4; its effect comes at the next reset. -/
def execStorFormat (d : Desc) (signed : Bool) (s : State) : Res :=
  serveRes (storInfo 0xAD .owner []) d (if s.sec.certified then some 96 else none) (fun s =>
    if s.stor.state = 0 ∧ ¬ s.stor.medium.present then Reply.no s 0x0C00
    else if s.unsigned signed then Reply.no s 0x0F05
    else if s.stor.state ≠ 0 ∧ s.stor.state ≠ 4 then Reply.no s 0x0004
    else { st := s.setMedium { s.stor.medium with formatNext := true } }) s

/-- A field of `STOR_CFG`, its value for 0 (R385). -/
def State.storCfg (s : State) (hi lo dflt : Nat) : Nat := if s.regField 0x8020 0 hi lo = 0 then dflt else s.regField 0x8020 0 hi lo

/-- The interval between scrub passes in ns (R368). -/
def State.scrubNext (s : State) (tAvg : Q) (most : Nat) : Nat :=
  let base : Q := (s.storCfg 7 0 14 : Q) * 86400
  let af := clampQ 1 64 (Config.pow2 ((tAvg - 40) / 10))
  let i := base / af
  let i := if s.storCfg 23 16 16 ≤ most then i / 2 else i
  nsOf (maxQ i 3600)

/-- A scrub pass runs: the interval since the last is over (R368). -/
def State.scrubbing (s : State) : Bool := decide (2 ≤ s.stor.state) && decide (s.stor.medium.lastScrub + s.stor.medium.scrubInterval ≤ s.now)

/-- `RETENTION_SCRUB_PASS` (R368): a pass ends; the mean of the highest die temperature, the most corrections in a codeword, the
spare blocks of the areas after relocation, and for each area how many blocks were relocated and how many held an uncorrectable
codeword. -/
def execRetentionScrubPass (t : Time) (tAvg : Q) (most : Nat) (spares : List Nat) (moved : List (Nat × Nat)) (s : State) : Res :=
  .next (s.live t fun s =>
    let m := s.stor.medium
    if ¬ s.scrubbing ∨ s.dieThrottle then s
    else
      (((moved.take 5).mapIdx fun k e => (k, e)).foldl (fun (s : State) e => s.scrubArea e.1 e.2.1 e.2.2)
        (s.setMedium { m with lastScrub := s.now, scrubInterval := s.scrubNext tAvg most })).setSpares spares)

/-- The result of `STOR_STATUS` (R386). -/
def State.storResult (s : State) (n : Nat) : List Byte :=
  let m := s.stor.medium
  let flag := fun (k : Nat) (b : Bool) => if b then 2 ^ k else 0
  let least := ((List.range 5).map fun k => Tab.get m.spares 200 k).foldl min 200
  leBytes 1 s.stor.state ++
    leBytes 1 (flag 0 s.scrubbing + flag 1 (s.scrubbing && s.dieThrottle) + flag 2 s.stor.firnRo + flag 3 s.stor.defaults) ++
    leBytes 1 m.life ++ leBytes 1 (least / 100) ++ leBytes 2 ((s.stor.pendBytes + 1023) / 1024) ++
    leBytes 2 (holdAt 0xFFFF ((s.userUse n 64 + 1023) / 1024))

/-- `STOR_STATUS`. -/
def execStorStatus (d : Desc) (s : State) : Res :=
  serveRes { storInfo 0xAF .all [] with gives := true } d none (fun s => { st := s, result := s.storResult d.page }) s

end Sys2Proof.Machine
end

