-- ==== Sys2Proof/Machine/Telemetry.lean ====
section
/-!
DEFINITION. Telemetry streams, the incident log and tracker occupancies (R440 to R449, R458), and the bulk class's waiting (R29).
-/
namespace Sys2Proof.Machine
open Sys2Proof

def laySub : List Fld :=
  [fu8 16 0 15, fenum 17 [1, 2, 4] 4, fu8 18 0 4 2, { off := 19, ty := .u8 }, fbits 20 .u32 1 0xFF, fu32 24 16 65536]

/-- A record of a stream: header and sample, padded to 16 bytes (R443). -/
def State.recordSize (s : State) (p mask arm : Nat) : Nat := (16 + s.sampleSize p mask arm + 15) / 16 * 16

/-- Records in one second of a `rate` of `TELEM_SUB`. -/
def streamRate (rate : Nat) : Nat := if rate = 0 then 50000 else if rate = 1 then 5000 else if rate = 2 then 1000 else if rate = 3 then 100 else 10

/-- Every stream of the chip that has not stopped (R444): tenant, number, stream. -/
def State.streams (s : State) : List (Nat × Nat × Stream) :=
  ((s.pages.map fun e => e.2.streams.filterMap fun x => x.2.map fun st => (e.1, x.1, st)).flatten).filter fun e =>
    (s.tenant e.1).active && s.reads e.1 e.2.2.part

/-- Bytes of a stream in one second. -/
def State.streamLoad (s : State) (x : Stream) : Nat := s.recordSize x.part x.mask x.cellArm * streamRate x.rate

def State.setStream (s : State) (n k : Nat) (x : Option Stream) : State :=
  s.setPage n { s.page n with streams := Tab.set (s.page n).streams none k x }

/-- The effect of `TELEM_SUB` (R443). -/
def telemSubEffect (d : Desc) (s : State) : Reply :=
  let x : Stream := { part := d.target, cls := d.u8 17, rate := d.u8 18, cellArm := d.u8 19, mask := d.u32 20, count := d.u32 24, buffer := d.buffer }
  let others := s.streams.filter fun e => ¬ (e.1 = d.page ∧ e.2.1 = d.u8 16)
  if x.mask = 0 ∨ 1024 < s.recordSize d.target x.mask x.cellArm then Reply.no s 0x0003
  else if 16 ≤ (others.filter fun e => e.1 = d.page).length ∨ 256 ≤ others.length then Reply.no s 0x0B01
  else if 256000000 < (others.map fun e => s.streamLoad e.2.2).foldl (· + ·) 0 + s.streamLoad x then Reply.no s 0x0B00
  else { st := s.setStream d.page (d.u8 16) (some x) }

/-- `TELEM_SUB`. -/
def execTelemSub (d : Desc) (s : State) : Res :=
  serveRes { op := 0x90, tgt := .part, need := .telem, lay := laySub } d (some (s.recordSize d.target (d.u32 20) (d.u8 19) * d.u32 24))
    (telemSubEffect d) s

/-- `TELEM_UNSUB` (R444): a stream of the sender on the partition. -/
def execTelemUnsub (d : Desc) (s : State) : Res :=
  serveRes { op := 0x91, tgt := .part, need := .all, lay := [fu8 16 0 15] } d none (fun s =>
    match Tab.get (s.page d.page).streams none (d.u8 16) with
    | some x => if x.part = d.target then { st := s.setStream d.page (d.u8 16) none } else Reply.no s 0x0003
    | none => Reply.no s 0x0003) s

/-- The load above which streams skip (R457), in 1/256. -/
def State.telemLoad (s : State) : Nat := if s.regField 0x1818 0 7 0 = 0 then 205 else s.regField 0x1818 0 7 0

/-- `TELEM_SAMPLE` (R443, R444): a sample is written or skipped; a stream without its capability stops. -/
def execTelemSample (t : Time) (page sub load : Nat) (s : State) : Res :=
  within page 1024 s fun s => s.live t fun s =>
    match Tab.get (s.page page).streams none sub with
    | none => s
    | some x =>
      if ¬ (s.tenant page).active ∨ ¬ s.reads page x.part then s.setStream page sub none
      else if s.sys.urgentBusy ≠ [] ∨ s.dieThrottle ∨ s.telemLoad < load then
        s.setStream page sub (some { x with seq := x.seq + 1, skipped := holdAt 0xFFFF (x.skipped + 1) })
      else
        let size := s.recordSize x.part x.mask x.cellArm
        let body := leBytes 4 x.seq ++ leBytes 2 x.skipped ++ leBytes 1 sub ++ leBytes 1 (s.part x.part).st.code ++ leBytes 8 s.now ++
          s.sample x.part x.mask x.cellArm
        (s.setStream page sub (some { x with seq := x.seq + 1, skipped := 0 })).post
          { kind := .telem, page := page, ring := sub, addr := (s.tenant page).winBase + x.buffer + size * (x.seq % x.count), bytes := fitTo size body }

/-- `EVENT_CONFIG` (R442). -/
def execEventConfig (d : Desc) (s : State) : Res :=
  serveRes { op := 0x92, tgt := .none, need := .all, lay := [fenum 16 [1, 2, 4] 4, fq 20 (1/1000) 10 (1/10)] } d none (fun s =>
    { st := s.setPage d.page { s.page d.page with minClass := d.u8 16, coalWindow := nsOf (d.f32 20) } }) s

/-- Occupancy of a tracker (Table 7 of R37). -/
def State.occupancy (s : State) (k : Nat) : Nat :=
  if k = 0 then (s.lanes.map fun e => e.2.queue.length).foldl (· + ·) 0
  else if k = 1 then s.descriptors
  else if k = 2 then s.fabOpen
  else if k = 3 then s.stor.ops.length
  else s.outbox.length

/-- Entries of a tracker (R37). -/
def trackerEntries (k : Nat) : Nat := if k = 2 then 8192 else if k = 3 then 1024 else if k = 4 then 7168 else 16384

/-- The 32-byte record of `TRACKER_STATUS` (Table 9). -/
def State.trackerRecord (s : State) : List Byte :=
  ((List.range 5).map fun k => leBytes 2 (s.occupancy k) ++ leBytes 2 (max (s.occupancy k) (Tab.get s.tel.high 0 k))).flatten ++ zeros 12

/-- `TRACKER_STATUS` (R449). -/
def execTrackerStatus (d : Desc) (s : State) : Res :=
  serveRes { op := 0x93, tgt := .none, need := .owner, gives := true } d (some 32) (fun s =>
    { st := { s with tel := { s.tel with high := [] } }, write := some s.trackerRecord }) s

/-- `EVENT_LOG` (R448): the newest entries first, the phase bit 0. -/
def execEventLog (d : Desc) (s : State) : Res :=
  serveRes { op := 0x95, tgt := .none, need := .owner, gives := true, lay := [fu16 16 1 1024] } d (some (32 * d.u16 16)) (fun s =>
    { st := s, write := some ((s.tel.log.reverse.take (d.u16 16)).map fun e => e.bytes 0).flatten }) s

/-- The result of `EVENT_STATUS` (Table 9). -/
def Page.shedResult (p : Page) : List Byte :=
  let n := fun (k : Nat) => leBytes 2 (holdAt 0xFFFF (Tab.get p.shedTotal 0 k))
  n 1 ++ n 2 ++ n 4 ++ leBytes 1 (maskOf ((p.shed.filter fun x => x.open_).map fun x => x.path)) ++ zeros 1

/-- `EVENT_STATUS` (R458). -/
def execEventStatus (d : Desc) (s : State) : Res :=
  serveRes { op := 0x9F, tgt := .none, need := .all, gives := true } d none (fun s =>
    { st := s.setPage d.page { s.page d.page with shedTotal := [] }, result := (s.page d.page).shedResult }) s

/-- `BULK_WAIT` (R29, R506): once per 100 ms of a region; how long the oldest request has waited is a free value. -/
def execBulkWait (t : Time) (r : Nat) (s : State) : Res :=
  within r 8 s fun s => s.live t fun s =>
    let due : Bool := match (s.region r).bulkAt with
      | some u => decide (u + 100000000 ≤ s.now)
      | none => true
    if due then (s.setRegion r { s.region r with bulkAt := some s.now }).warn (srcRegion r) 0x0015
      (zeros 4 ++ fitTo 4 (Config.evData 0x0015 [(r : Q), (s.now : Q)])) else s

end Sys2Proof.Machine
end

