-- ==== Sys2Proof/Machine/Tenants.lean ====
section
/-!
DEFINITION. Tenants, certified mode, keys and attestation (R339 to R362).
-/
namespace Sys2Proof.Machine
open Sys2Proof

def tenInfo (op : Nat) (tgt : Tgt) (lay : List Fld) : OpInfo := { op := op, tgt := tgt, need := .owner, lay := lay, audit := true }

/-! ### Creation, binding, retirement (R339 to R342) -/

/-- A tenant's generation kept on the medium, from which it returns after a reset (R339). -/
def State.keepGen (s : State) (n : Nat) : State :=
  s.setMedium { s.stor.medium with gens := Tab.set s.stor.medium.gens 0 n (s.tenant n).gen }

/-- A free tenant made active (R339). -/
def State.createTenant (s : State) (n role : Nat) : State :=
  ((s.setTenant n { active := true, role := role, gen := ((s.tenant n).gen + 1) % 65536 }).setPage n {}).keepGen n

/-- `TENANT_CREATE` (R339). -/
def execTenantCreate (d : Desc) (s : State) : Res :=
  serveRes { tenInfo 0xC8 .tenant [fu8 16 1 4] with kept := true, gives := true } d none (fun s =>
    if (s.tenant d.target).active then Reply.no s 0x0F00
    else
      let s := s.createTenant d.target (d.u8 16)
      { st := s, result := leBytes 2 (s.tenant d.target).gen ++ zeros 6 }) s

def layBind : List Fld :=
  [{ off := 16, ty := .u8 }, { off := 17, ty := .u8 }, fmask 18 .u8 0x7F, fmask 19 .u8 0xF, fmask 20 .u8 0x1F, fmask 24 .u64 (2 ^ 48 - 1),
   { off := 32, ty := .u64 }, { off := 40, ty := .u64, rng := .nat 0 (2 ^ 40) }]

/-- A tenant's record with the masks and the window of a bind (R342); T0 takes only the window. -/
def Tenant.bind (t : Tenant) (d : Desc) : Tenant :=
  let w := { t with winBase := d.u64 32, winLen := d.u64 40 }
  if d.target = 0 then w
  else { w with cmdParts := d.u8 16, readParts := d.u8 17, telem := d.u8 18, can := d.u8 19, fabric := d.u8 20, aux := d.u64 24 }

/-- A channel goes to mode 0, with the record that keeps it there (R341, R342). -/
def State.auxRelease (s : State) (c : Nat) : State :=
  let s := s.auxHalt c
  let s := { s with cfg := Tab.set s.cfg [] (cfgKey 0x80 c 0) [] }.setAux c { s.auxOf c with owner := none, st := 0, stAt := s.now, lastRun := none, ff := [] }
  s.stageRec 1 0x80 c 0 0 (zeros 48)

/-- Streams of a tenant on partitions it may not read stop (R444). -/
def State.endStreams (s : State) (n : Nat) : State :=
  s.setPage n { s.page n with streams := (s.page n).streams.filter fun e => match e.2 with
    | some x => s.reads n x.part
    | none => false }

/-- The rings of a tenant that are enabled. -/
def State.ringsOn (s : State) (n : Nat) : List Nat := (List.range 6).filter fun r => ((s.page n).ring r).enable

/-- The effect of `TENANT_BIND` (R342). -/
def tenantBindEffect (d : Desc) (s : State) : Reply :=
  let n := d.target
  let t := s.tenant n
  let u := t.bind d
  let inside := (s.ringsOn n).all fun r =>
    let g := (s.page n).ring r
    decide (u.winBase ≤ g.base ∧ g.base + g.size * entrySize r ≤ u.winBase + u.winLen)
  if ¬ t.active then Reply.no s 0x0F01
  else if d.u64 32 % 4096 ≠ 0 ∨ d.u64 40 % 4096 ≠ 0 then Reply.no s 0x0003
  else if n = 0 ∧ (d.payload.take 16).any (fun b => b ≠ 0) then Reply.no s 0x0003
  else if (u.winBase ≠ t.winBase ∨ u.winLen ≠ t.winLen) ∧ s.ringsOn n ≠ [] ∧ ¬ (n = 0 ∧ inside) then Reply.no s 0x0004
  else
    let s := s.setTenant n u
    if n = 0 then { st := s }
    else
      let lost := (List.range 8).filter fun p => decide ((s.lease p).holder = some n) && !u.cmdParts.testBit p
      let chans := auxCodes.filter fun c => decide ((s.auxOf c).owner = some n) && !u.aux.testBit (auxBit c)
      { st := (((chans.foldl (fun (s : State) c => s.auxRelease c) (s.leaseRevoke n lost)).canDropOwner n u.can).endStreams n).scanLeases }

/-- `TENANT_BIND`. -/
def execTenantBind (d : Desc) (s : State) : Res :=
  serveRes { tenInfo 0xC9 .tenant layBind with kept := true } d none (tenantBindEffect d) s

/-- A schedule without a tenant's slots, which stay idle (R341). -/
def dropSlots (n : Nat) (l : List Nat) : List Nat := l.map fun x => if x = n then 0xFFFF else x

/-- The steps of a retirement (R341). -/
def State.retireTenant (s : State) (n : Nat) : State :=
  let s := (s.setPage n {}).urgentDrop n
  let s := { s with leaseQ := s.leaseQ.filter fun r => r.tenant ≠ n }
  let held := (List.range 8).filter fun p => decide ((s.lease p).holder = some n)
  let s : State := (s.leaseDrop held).scanLeases
  let chans : List Nat := auxCodes.filter fun (c : Nat) => decide ((s.auxOf c).owner = some n) && !(s.claimed c)
  let s := (chans.foldl (fun (s : State) c => s.auxRelease c) s).canDropOwner n 0
  let s := { s with sec := { s.sec with schedule := dropSlots n s.sec.schedule, nextSchedule := s.sec.nextSchedule.map (dropSlots n) } }
  let s := { s with fab := { s.fab with recvs := s.fab.recvs.filter fun r => r.page ≠ n } }
  let s := s.setMedium { s.stor.medium with blobs := s.stor.medium.blobs.filter fun e => e.1 / 64 ≠ n }
  (s.setTenant n { gen := ((s.tenant n).gen + 1) % 65536 }).keepGen n

/-- `TENANT_RETIRE` (R341). -/
def execTenantRetire (d : Desc) (s : State) : Res :=
  serveRes { tenInfo 0xCA .tenant [] with kept := true } d none (fun s =>
    if d.target = 0 ∨ d.target = d.page then Reply.no s 0x0003
    else if ¬ (s.tenant d.target).active then Reply.no s 0x0F01
    else { st := s.retireTenant d.target }) s

/-- The result of `TENANT_STATUS` (Table 7). -/
def State.tenantResult (s : State) (n : Nat) : List Byte :=
  let t := s.tenant n
  let flag := fun (k : Nat) (b : Bool) => if b then 2 ^ k else 0
  leBytes 1 (if t.active then 1 else 0) ++ leBytes 1 t.role ++ leBytes 1 (s.heldMask n) ++
    leBytes 1 ((s.sec.schedule.filter fun x => x = n).length) ++ leBytes 2 t.gen ++
    leBytes 1 (flag 0 t.consentOwn + flag 1 t.consentT0 + flag 2 (s.leaseQ.any fun r => r.tenant = n)) ++ zeros 1

/-- `TENANT_STATUS` (R360). -/
def execTenantStatus (d : Desc) (s : State) : Res :=
  serveRes { op := 0xCF, tgt := .tenant, need := .ownStatus, gives := true } d none (fun s => { st := s, result := s.tenantResult d.target }) s

/-! ### Certified mode (R30, R348 to R350) -/

/-- The entries of a slot schedule. -/
def slotsOf (b : List Byte) : List Nat := (List.range 64).map fun k => leNat b (2 * k) 2

/-- `SLOT_SCHEDULE` (R350). -/
def execSlotSchedule (d : Desc) (s : State) : Res :=
  serveRes { tenInfo 0xCB .none [] with kept := true } d (some 128) (fun s =>
    let l := slotsOf d.host
    if l.any fun x => decide (1023 < x) && decide (x ≠ 0xFFFF) then Reply.no s 0x0003
    else if l.any fun x => decide (x ≠ 0xFFFF) && !(s.tenant x).active then Reply.no s 0x0F08
    else { st := { s with sec := { s.sec with nextSchedule := some l } } }) s

/-- `CERTIFIED_SLOT_START` (R30, R350): a slot of 15.625 µs begins with its budget; a new schedule begins with a frame. -/
def execCertifiedSlotStart (t : Time) (s : State) : Res :=
  .next (s.live t fun s =>
    let k := s.now / 15625 % 64
    let sched := if k = 0 then s.sec.nextSchedule.getD s.sec.schedule else s.sec.schedule
    let next := if k = 0 then none else s.sec.nextSchedule
    { s with sec := { s.sec with slot := k, schedule := sched, nextSchedule := next, fetchesLeft := 8, bytesLeft := 8192 } }.release)

def laySec : List Fld := [fu8 16 0 4, fu8 17 0 1, fu8 18 0 3]
/-- Bytes of a signature as r then s. -/
def sigBytes : Nat := 96

/-- A signed request of T0 to enter or leave certified mode (R348). -/
def secModeEffect (enter signed : Bool) (s : State) : Reply :=
  if s.sec.ownerKeys = [] ∨ ¬ signed then Reply.no s 0x0F05 else { st := { s with sec := { s.sec with modeNext := some enter } } }

/-- `SEC_CTRL` op 0 (R348). -/
def execSecCtrlEnter (d : Desc) (signed : Bool) (s : State) : Res :=
  serveRes { tenInfo 0xCC .none laySec with kept := true } d (some sigBytes) (secModeEffect true signed) s

/-- `SEC_CTRL` op 1 (R348). -/
def execSecCtrlLeave (d : Desc) (signed : Bool) (s : State) : Res :=
  serveRes { tenInfo 0xCC .none laySec with kept := true } d (some sigBytes) (secModeEffect false signed) s

/-- The tenant a consent is for (R359). -/
def consentOf (d : Desc) : Nat := if d.target = 0xFFFF then d.page else d.target

/-- A consent set or cleared: by the tenant for itself, or by T0 naming it (R359). -/
def State.setConsent (s : State) (n : Nat) (byOwner v : Bool) : State :=
  let t := s.tenant n
  s.setTenant n (if byOwner then { t with consentT0 := v } else { t with consentOwn := v })

/-- `SEC_CTRL` op 2 (R359); key_c tells who set it (R372). -/
def execSecCtrlConsent (d : Desc) (s : State) : Res :=
  serveRes { op := 0xCC, tgt := .tenantOrNone, need := .self, kept := true, audit := true, lay := laySec } d none (fun s =>
    let n := consentOf d
    let byOwner := d.page = 0 && d.target ≠ 0xFFFF
    if ¬ (s.tenant n).active then Reply.no s 0x0F01
    else
      let kc := if byOwner then 1 else 0
      let s := s.setConsent n byOwner (d.u8 17 = 1)
      let s := { s with cfg := Tab.set s.cfg [] (cfgKey 0xCC n kc) d.payload }
      { st := s.stageRec 1 0xCC n kc d.page d.payload, ownRec := true }) s

/-! ### Keys, update, attestation (R353 to R356) -/

/-- `SEC_CTRL` op 3 (R355): into a free slot; every enrolment but the first is signed. -/
def execSecCtrlEnrolKey (d : Desc) (signed : Bool) (s : State) : Res :=
  serveRes (tenInfo 0xCC .none laySec) d (some d.host.length) (fun s =>
    if Tab.get s.sec.ownerKeys [] (d.u8 18) ≠ [] then Reply.no s 0x0004
    else if s.sec.ownerKeys ≠ [] ∧ ¬ signed then Reply.no s 0x0F05
    else { st := { s with sec := { s.sec with ownerKeys := Tab.set s.sec.ownerKeys [] (d.u8 18) (Config.sha384 d.host) } } }) s

/-- `SEC_CTRL` op 4 (R355): signed by another key; the last one stays. -/
def execSecCtrlRevokeKey (d : Desc) (signed : Bool) (s : State) : Res :=
  serveRes (tenInfo 0xCC .none laySec) d (some sigBytes) (fun s =>
    if Tab.get s.sec.ownerKeys [] (d.u8 18) = [] ∨ s.sec.ownerKeys.length ≤ 1 then Reply.no s 0x0004
    else if ¬ signed then Reply.no s 0x0F05
    else { st := { s with sec := { s.sec with ownerKeys := Tab.set s.sec.ownerKeys [] (d.u8 18) [] } } }) s

/-- `FW_UPDATE` (R354): the image's signatures, its security version and its `raise` flag. -/
def execFwUpdate (d : Desc) (valid : Bool) (svn : Nat) (raises : Bool) (s : State) : Res :=
  serveRes (tenInfo 0xCD .none [fu32 16 4096 16777216]) d (some (d.u32 16)) (fun s => s.stored_ fun s =>
    if ¬ valid then Reply.no s 0x0F05
    else if svn < s.sec.arbCounter then Reply.no s 0x0F06
    else if s.worn 0 then Reply.no s 0x0C01
    else s.issue d 0xCD svn (if raises then 1 else 0) (fitTo (d.u32 16) d.host)) s

/-- What the tenant-table hash covers (R356): roles, capabilities, windows and slot schedule, tenants in order. -/
def State.tenantTable (s : State) : List Byte :=
  (s.tenants.map fun e =>
    let t := e.2
    leBytes 2 e.1 ++ leBytes 1 t.role ++ leBytes 1 t.cmdParts ++ leBytes 1 t.readParts ++ leBytes 1 t.telem ++ leBytes 1 t.can ++ leBytes 1 t.fabric ++
      leBytes 8 t.aux ++ leBytes 8 t.winBase ++ leBytes 8 t.winLen).flatten ++ (s.sec.schedule.map fun x => leBytes 2 x).flatten

/-- The attestation report (Table 5 of R356). -/
def State.report (s : State) (nonce : List Byte) : List Byte :=
  let flag := fun (k : Nat) (b : Bool) => if b then 2 ^ k else 0
  let img := (Tab.get s.stor.medium.boot {} s.sec.running).image
  let b := fitTo 48 nonce ++ fitTo 48 (Config.sha384 img) ++ fitTo 48 s.stor.restored ++ fitTo 48 (Config.sha384 s.tenantTable) ++ leBytes 8 s.now ++
    leBytes 4 s.sec.arbCounter ++
    leBytes 1 (flag 0 s.sec.certified + flag 1 s.sec.debugLock + flag 2 s.sec.trialRun + flag 3 s.sys.tripLock) ++ zeros 3
  b ++ fitTo 96 (Config.sign b)

/-- `ATTEST` (R356): the nonce stands in bytes 16 to 63. -/
def execAttest (d : Desc) (s : State) : Res :=
  serveRes { op := 0xCE, tgt := .none, need := .all, gives := true, lay := (List.range 6).map fun k => { off := 16 + 8 * k, ty := .u64 } } d (some 304)
    (fun s => { st := s, write := some (s.report d.payload) }) s

end Sys2Proof.Machine
end

