-- ==== Sys2Proof/Machine/CanBus.lean ====
section
/-!
DEFINITION. The commands of the CAN FD controllers (R412 to R424): descriptors, frames received and sent, error states, rate detection.
-/
namespace Sys2Proof.Machine
open Sys2Proof

def canInfo (op : Nat) (lay : List Fld) : OpInfo := { op := op, tgt := .can, need := .can, lay := lay }

/-- While a controller has an owner, another tenant's descriptor completes with `REJECTED_RIGHTS` (R413). -/
def State.canOwned (d : Desc) (s : State) (f : State → Reply) : Reply :=
  match (s.can d.target).owner with
  | some n => if n = d.page then f s else Reply.no s 0x0005
  | none => f s

/-- A bit rate lies within Table 1 of R412: nominal 10 kbit/s to 1 Mbit/s, data up to 8 Mbit/s. -/
def rateOk (brp tseg1 tseg2 lo hi : Nat) : Bool :=
  let q := brp * (1 + tseg1 + tseg2)
  decide (lo * q ≤ 80000000) && decide (80000000 ≤ hi * q)

/-- The effect of `CAN_CONFIG` (R413, R420, R422). -/
def canConfigEffect (d : Desc) (s : State) : Reply :=
  let c := d.target
  let mode := d.u8 16
  if ¬ rateOk (d.u8 22) (d.u16 20) (d.u8 23) 10000 1000000 ∨ (d.u8 17 = 1 ∧ ¬ rateOk (d.u8 25) (d.u8 26) (d.u8 27) 0 8000000) then Reply.no s 0x0E00
  else if mode = 0 then { st := s.canOff c }
  else if (s.can c).mode ≠ 0 then Reply.no s 0x0004
  else { st := s.setCan c { s.can c with owner := some d.page, mode := mode, timing := none, tec := 0, rec_ := 0, err := 0 } }

/-- `CAN_CONFIG`. -/
def execCanConfig (d : Desc) (s : State) : Res :=
  serveRes { canInfo 0xC0 layCan with kept := true } d none (fun s => s.canOwned d (canConfigEffect d)) s

/-- A candidate timing is in range; and its rates are within the limits. -/
def candRange (b : List Byte) : Bool :=
  decide (1 ≤ byteAt b 0 ∧ byteAt b 0 ≤ 32 ∧ 2 ≤ leNat b 1 2 ∧ leNat b 1 2 ≤ 256 ∧ 2 ≤ byteAt b 3 ∧ byteAt b 3 ≤ 128) &&
    decide (1 ≤ byteAt b 4 ∧ byteAt b 4 ≤ 128 ∧ 1 ≤ byteAt b 5 ∧ byteAt b 5 ≤ 32 ∧ 1 ≤ byteAt b 6 ∧ byteAt b 6 ≤ 32 ∧ 1 ≤ byteAt b 7 ∧ byteAt b 7 ≤ 16)
def candRates (b : List Byte) : Bool :=
  rateOk (byteAt b 0) (leNat b 1 2) (byteAt b 3) 10000 1000000 && rateOk (byteAt b 5) (byteAt b 6) (byteAt b 7) 0 8000000
/-- The candidates of a table. -/
def candsOf (n : Nat) (b : List Byte) : List (List Byte) := (List.range n).map fun k => fitTo 8 (b.drop (8 * k))

/-- `CAN_RATE_CONFIG` (R422). -/
def execCanRateConfig (d : Desc) (s : State) : Res :=
  serveRes { canInfo 0xC1 [fu8 16 1 8] with kept := true } d (some (8 * d.u8 16)) (fun s => s.canOwned d fun s =>
    let l := candsOf (d.u8 16) d.host
    if (s.can d.target).mode ≠ 0 then Reply.no s 0x0004
    else if ¬ l.all candRange then Reply.no s 0x0003
    else if ¬ l.all candRates then Reply.no s 0x0E00
    else { st := s }) s

/-- The candidates stored for a controller. -/
def State.canCands (s : State) (c : Nat) : List (List Byte) :=
  match s.stored 0xC1 c 0 with
  | some b => candsOf (byteAt b 0) (b.drop 48)
  | none => []

/-- `CAN_DETECT` (R421). -/
def execCanDetect (d : Desc) (s : State) : Res :=
  serveRes { canInfo 0xC2 [fq 16 (1/100) 10, fu8 20 1 16] with gives := true } d none (fun s => s.canOwned d fun s =>
    let x := s.can d.target
    if x.search.isSome ∨ s.canCands d.target = [] then Reply.no s 0x0004
    else
      let q : CanSearch := { page := d.page, series := d.series, seq := d.seq, dwell := nsOf (d.f32 16), rounds := d.u8 20, candAt := s.now }
      { st := s.setCan d.target { x with mode := 2, search := some q }, await := some .own }) s

/-- The search moves to the next candidate, or fails after its rounds (R421). -/
def State.canNextCand (s : State) (c : Nat) : State :=
  let x := s.can c
  match x.search with
  | none => s
  | some q =>
    let last := decide ((s.canCands c).length ≤ q.cand + 1)
    if last ∧ q.rounds ≤ q.round + 1 then (s.setCan c { x with search := none }).finish q.page q.series q.seq 0x0E07 []
    else s.setCan c { x with search := some { q with cand := if last then 0 else q.cand + 1, round := if last then q.round + 1 else q.round,
                                                      candAt := s.now, frames := 0 } }

/-- A frame without error counts for the candidate; the third accepts it (R421). -/
def State.canCandFrame (s : State) (c : Nat) : State :=
  let x := s.can c
  match x.search with
  | none => s
  | some q =>
    if q.frames + 1 < 3 then s.setCan c { x with search := some { q with frames := q.frames + 1 } }
    else (s.setCan c { x with search := none, timing := some ((s.canCands c).getD q.cand []) }).finish q.page q.series q.seq 0 (leBytes 1 q.cand ++ zeros 7)

/-- `CAN_DETECT_DWELL_END` (R421). -/
def execCanDetectDwellEnd (t : Time) (c : Nat) (s : State) : Res :=
  within c 4 s fun s => s.live t fun s =>
    match (s.can c).search with
    | some q => if q.candAt + q.dwell ≤ s.now then s.canNextCand c else s
    | none => s

/-- `CAN_RX_POST` (R414): at most two posted. -/
def execCanRxPost (d : Desc) (s : State) : Res :=
  serveRes { canInfo 0xC3 [fu16 16 1 4096] with gives := true } d (some (80 * d.u16 16)) (fun s => s.canOwned d fun s =>
    let x := s.can d.target
    if 2 ≤ x.rx.length then Reply.no s 0x0003
    else
      let b : CanRx := { page := d.page, series := d.series, seq := d.seq, buffer := d.buffer, count := d.u16 16 }
      let s := s.changeAcc d.page d.series d.seq fun a => { a with started := true, applied := true }
      { st := (s.setCan d.target { x with rx := x.rx ++ [b] }).canDrain d.target, handled := true }) s

/-- The data bytes a DLC names in an FD frame. -/
def dlcBytes (n : Nat) : Nat := if n ≤ 8 then n else if n ≤ 12 then 12 + 4 * (n - 9) else if n = 13 then 32 else if n = 14 then 48 else 64

def layTx : List Fld :=
  [fu8 16 0 2, { off := 20, ty := .u32 }, fmask 24 .u8 0x3F, fu8 25 0 32] ++ (List.range 4).map fun k => ({ off := 28 + 8 * k, ty := .u64 } : Fld)

/-- The frame record that a `CAN_TX` names: in its buffer, or in its payload (R422). -/
def canFrame (d : Desc) : List Byte :=
  if d.buffer = 0xFFFFFFFF then
    zeros 8 ++ leBytes 4 (d.u32 20) ++ leBytes 1 (d.u8 24) ++ leBytes 1 (d.u8 25) ++ zeros 2 ++ fitTo 64 ((d.payload.drop 12).take 32)
  else fitTo 80 d.host

/-- The fields of a frame agree: an FD frame only where FD is on, remote frames classical, the length that of the DLC. -/
def State.canFrameOk (s : State) (c : Nat) (f : List Byte) : Bool :=
  let id := leNat f 8 4
  let fd := id.testBit 30
  let dlc := byteAt f 12 % 16
  let len := byteAt f 13
  (!fd || (s.canN c 17 = 1 && !id.testBit 31)) && (id.testBit 29 || id % 2 ^ 29 < 2 ^ 11) &&
    (id.testBit 31 || (if fd then len = dlcBytes dlc else len = min 8 dlc))

/-- The effect of `CAN_TX` (R416, R418); the start of frame of the attempt that runs, 0 for none. -/
def canTxEffect (d : Desc) (sof : Nat) (s : State) : Reply :=
  let c := d.target
  let x := s.can c
  let f := canFrame d
  let k := d.u8 16
  let tx : CanTx := { page := d.page, series := d.series, seq := d.seq, frame := f, loadedAt := s.now }
  if ¬ s.canFrameOk c f ∨ s.canStop c (leNat f 8 4) ≠ decide (k = 2) then Reply.no s 0x0003
  else if x.mode ≠ 1 then Reply.no s 0x0E09
  else match Tab.get x.tx none k with
    | none => { st := s.setCan c { x with tx := Tab.set x.tx none k (some tx) }, await := some .own }
    | some old =>
      if k ≠ 2 then Reply.no s 0x0E01
      else if s.canFlying c sof = some 2 then
        let s := match x.next with
          | some w => s.finish w.page w.series w.seq 0x0E08 []
          | none => s
        { st := s.setCan c { s.can c with next := some tx }, await := some .own }
      else { st := (s.setCan c { x with tx := Tab.set x.tx none 2 (some tx) }).finish old.page old.series old.seq 0x0E08 [], await := some .own }

/-- `CAN_TX`. -/
def execCanTx (d : Desc) (sof : Nat) (s : State) : Res :=
  serveRes { canInfo 0xC4 layTx with gives := true } d (if d.buffer = 0xFFFFFFFF then none else some 80) (fun s => s.canOwned d (canTxEffect d sof)) s

/-- `CAN_TX_ABORT` (R419). -/
def execCanTxAbort (d : Desc) (sof : Nat) (s : State) : Res :=
  serveRes (canInfo 0xC5 [fmask 16 .u8 7]) d none (fun s => s.canOwned d fun s =>
    let c := d.target
    let fly := s.canFlying c sof
    { st := (maskList 3 (d.u8 16)).foldl (fun (s : State) k =>
        let x := s.can c
        let s := match (if k = 2 then x.next else none) with
          | some w => (s.setCan c { x with next := none }).finish w.page w.series w.seq 0x0E08 []
          | none => s
        if fly = some k then
          s.setCan c { s.can c with tx := Tab.set (s.can c).tx none k ((Tab.get (s.can c).tx none k).map fun f => { f with dead := true }) }
        else s.canTxDone c k 0x0E08 []) s }) s

/-- `CAN_STATUS` (R422): the counters are cleared. -/
def execCanStatus (d : Desc) (s : State) : Res :=
  serveRes { canInfo 0xC7 [] with gives := true } d none (fun s =>
    let x := s.can d.target
    { st := s.setCan d.target { x with overruns := 0, errors := 0 },
      result := leBytes 1 x.mode ++ leBytes 1 x.err ++ leBytes 1 (holdAt 255 x.tec) ++ leBytes 1 (holdAt 255 x.rec_) ++ leBytes 2 x.overruns ++ leBytes 2 x.errors }) s

/-! ### Events of the bus -/

/-- The receive counter after a frame received well: one less; above 127 it returns to a value from 119 to 127 that the standard
leaves open. -/
def recDown (r : Nat) : Nat := if 127 < r then 119 + Config.noValue 10 % 9 else r - 1

/-- `CAN_FRAME_RECEIVED` (R415, R417): a valid frame of another node as a frame record without its `rx_seq`. -/
def execCanFrameReceived (t : Time) (c : Nat) (frame : List Byte) (s : State) : Res :=
  within c 4 s fun s => s.live t fun s =>
    let x := s.can c
    if x.mode = 0 ∨ x.err = 2 then s
    else
      let q := x.rxSeq
      let s := s.setCan c { x with rxSeq := (q + 1) % 65536, rec_ := recDown x.rec_ }
      let f := fitTo 80 frame
      ((s.canDeliver c (f.take 14 ++ leBytes 2 q ++ f.drop 16)).canJudge c none).canCandFrame c

/-- `CAN_RX_FLUSH` (R415). -/
def execCanRxFlush (t : Time) (c : Nat) (s : State) : Res :=
  within c 4 s fun s => s.live t fun s =>
    match (s.can c).rx with
    | b :: _ => if 0 < b.written ∧ b.firstAt + nsOf (s.canP c 32) ≤ s.now then s.canRxDone c else s
    | [] => s

/-- The controller transmits: normal mode, not bus-off, no holdoff (R420). -/
def State.canSends (s : State) (c : Nat) : Bool := (s.can c).mode = 1 && (s.can c).err ≠ 2 && (s.can c).holdUntil.isNone

/-- `CAN_TX_ATTEMPT_END` (R416, R418 to R420): the attempt whose start of frame is given ends, 0 in success, else with its cause. -/
def execCanTxAttemptEnd (t : Time) (c sof cause : Nat) (s : State) : Res :=
  within c 4 s fun s => s.live t fun s =>
    match (if s.canSends c then s.canChoice c sof else none) with
    | none => s
    | some k => match Tab.get (s.can c).tx none k with
      | none => s
      | some f =>
        let x := s.can c
        if cause = 0 then ((s.setCan c { x with tec := x.tec - 1 }).canTxDone c k 0 (leBytes 8 sof)).canJudge c none
        else
          let f := { f with tries := f.tries + 1, cause := cause }
          let x := { x with tx := Tab.set x.tx none k (some f), tec := if cause = 6 then x.tec else x.tec + 8,
                            errors := if cause = 6 then x.errors else holdAt 0xFFFF (x.errors + 1) }
          let s := (s.setCan c x).canJudge c (some k)
          if (s.can c).err = 2 then s
          else if f.dead then s.canTxDone c k 0x0E08 []
          else if k = 2 ∧ x.next.isSome then s.canTxDone c k 0x0E08 []
          else if s.canN c 19 ≠ 0 ∧ 1 + s.canN c 19 ≤ f.tries then s.canTxDone c k 0x0E02 (leBytes 1 (holdAt 255 f.tries) ++ leBytes 1 cause ++ zeros 6)
          else s

/-- `CAN_BUS_ERROR` (R415, R420, R421): an error observed on a frame received, and what the standard adds to the receive counter. -/
def execCanBusError (t : Time) (c add : Nat) (s : State) : Res :=
  within c 4 s fun s => s.live t fun s =>
    let x := s.can c
    if x.mode = 0 then s
    else ((s.setCan c { x with rec_ := x.rec_ + add, errors := holdAt 0xFFFF (x.errors + 1) }).canJudge c none).canNextCand c

/-- `CAN_BUS_ON` (R420): 128 occurrences of 11 recessive bits; after the third bus-off within 10 s a wait of 1 s follows. -/
def execCanBusOn (t : Time) (c : Nat) (s : State) : Res :=
  within c 4 s fun s => s.live t fun s =>
    let x := s.can c
    if x.err ≠ 2 then s
    else
      let third := decide (3 ≤ x.busOffs.length)
      (s.setCan c { x with err := 0, tec := 0, rec_ := 0, holdUntil := if third then some (s.now + 1000000000) else none,
                           busOffs := if third then [] else x.busOffs }).canEmit c 4 0x0E04 []

/-- `CAN_TX_HOLDOFF_END` (R420). -/
def execCanTxHoldoffEnd (t : Time) (c : Nat) (s : State) : Res :=
  within c 4 s fun s => s.live t fun s =>
    match (s.can c).holdUntil with
    | some u => if u ≤ s.now then s.setCan c { s.can c with holdUntil := none } else s
    | none => s

end Sys2Proof.Machine
end

