-- ==== Sys2Proof/Machine/RegMap.lean ====
section
/-!
DEFINITION. The map of BAR0 (R476), its retained fields and the images of its blocks (R481), the locks (R233, R480), and a write to
a retained field.
-/
namespace Sys2Proof.Machine
open Sys2Proof

/-- The blocks of BAR0, highest offset first (Table 1). -/
def blockBases : List Nat :=
  [0xF000, 0xE000, 0xD000, 0xC000, 0xB000, 0xA000, 0x9000, 0x8000, 0x4000, 0x3000, 0x2000, 0x1800, 0x1400, 0x1000, 0x0C00, 0x0800, 0x0400, 0]

/-- The base offset of the block that an offset lies in. -/
def blockOf (off : Nat) : Nat := (blockBases.find? fun b => b ≤ off).getD 0

/-- An offset is one of n words from a first offset. -/
def isWord (first n off : Nat) : Bool := decide (first ≤ off) && decide (off < first + 4 * n) && decide (off % 4 = 0)

/-- The bits of a word whose after-reset value is *retained* (the register tables of the chapters). -/
def retMask (off : Nat) : Nat :=
  if off = 0x0410 then 1
  else if off = 0x0800 then 0xFF01
  else if off = 0x0804 then 0x03FF03FF
  else if off = 0x0810 then 0xFFF
  else if isWord 0x0C10 16 off then 0xFF
  else if off = 0x1000 then 0xF
  else if off = 0x1004 then 0xFFFFFFFF
  else if isWord 0x1008 8 off then 0xFFFF
  else if off = 0x1028 then 0x3FFFF
  else if off = 0x102C then 0x03FF03FF
  else if off = 0x1800 then 1
  else if off = 0x1818 then 0xFF
  else if off = 0x2004 then 0x7F
  else if off = 0x8020 then 0xFFFFFF
  else if off = 0x9000 then 0x3FF
  else if off = 0x9004 then 0xFF
  else if off = 0x9008 then 0x3FF
  else if isWord 0xB000 5 off then 0xFFFFFFFF
  else if off = 0xC004 then 7
  else if off = 0xD004 then 0x1F
  else if off = 0xD008 ∨ off = 0xD00C then 0xFFFFFFFF
  else if off = 0xD044 then 0xF
  else 0

/-- The words of a block's image with their window index, in the order of R481. -/
def imageWords (base : Nat) : List (Nat × Nat) :=
  if base = 0xC000 then (List.range 1024).map fun i => (0xC004, i)
  else if base = 0xD000 then
    ((List.range 128).map fun i => [(0xD004, i), (0xD008, i), (0xD00C, i)]).flatten ++ (List.range 8).map fun i => (0xD044, i)
  else (((List.range 32).map fun k => base + 4 * k).filter fun off => retMask off ≠ 0).map fun off => (off, 0)

/-- A word with the bits of a mask replaced. -/
def mergeBits (old v m : Nat) : Nat := (old - (old &&& m)) + (v &&& m)

/-- The image of a block (R481). -/
def State.blockImage (s : State) (base : Nat) : List Byte :=
  ((imageWords base).map fun w => leBytes 4 (s.regWord w.1 w.2 &&& retMask w.1)).flatten

/-- The retained fields of some words set from an image. -/
def State.loadWords (s : State) (img : List Byte) : List (Nat × Nat) → State
  | [] => s
  | w :: r => (s.setRegWord w.1 w.2 (mergeBits (s.regWord w.1 w.2) (leNat img 0 4) (retMask w.1))).loadWords (img.drop 4) r

/-- The retained fields of a block set from its image (R374). -/
def State.loadImage (s : State) (base : Nat) (img : List Byte) : State := s.loadWords img (imageWords base)

/-- The elements that a select register can show (R479). -/
def selectBits (off : Nat) : Nat := if off = 0xD000 then 128 else if off = 0xD040 then 8 else 1024

/-- The select register of the window an offset stands in, 0 outside the windows that have elements to lack (R479). -/
def windowSel (off : Nat) : Nat :=
  if off = 0xC004 ∨ off = 0xC008 then 0xC000 else if isWord 0xD004 4 off then 0xD000 else if off = 0xD044 then 0xD040 else 0

/-- A window shows an element: the value written to its select register lies within the last one (R479). -/
def State.shown (s : State) (off : Nat) : Bool := windowSel off = 0 || decide (s.regWord (windowSel off) 0 < selectBits (windowSel off))

/-- The window index that an offset shows (R479). -/
def State.regIndex (s : State) (off : Nat) : Nat :=
  if off = 0xC004 ∨ off = 0xC008 then s.regField 0xC000 0 9 0
  else if isWord 0xD004 4 off then s.regField 0xD000 0 6 0
  else if off = 0xD044 then s.regField 0xD040 0 2 0
  else 0

/-- A block's RWL fields are locked (R233, R480). -/
def State.blockLocked (s : State) (base : Nat) : Bool := if base = 0x1000 then s.sys.tripLock else s.sys.locks.contains base

/-- A write ignored and counted (R477). -/
def State.ignoreWrite (s : State) : State := { s with sys := { s.sys with ignored := holdAt 255 (s.sys.ignored + 1) } }

/-- A word of a retained field takes a value, and the write stages its block (R481). -/
def State.retain (s : State) (off new : Nat) : State :=
  let base := blockOf off
  let t := s.setRegWord off (s.regIndex off) new
  let img := t.blockImage base
  if s.sys.hold then
    { t with sys := { s.sys with changed := if s.sys.changed.contains base then s.sys.changed else insertBy id base s.sys.changed } }
  else if ¬ (s.stor.keeps && s.staging) then { t with sys := { s.sys with regLost := true } }
  else if s.stor.pendLimit < s.stor.pendBytes + 24 + img.length then { s with sys := { s.sys with regFull := true } }
  else
    let t := t.stageRec 2 base 0xFFFF 0 0 img
    { t with sys := { t.sys with regSeq := t.stor.nextSeq } }

/-- Clearing `hold` (R481): one record for each changed block, or none where they do not fit together. -/
def State.clearHold (s : State) : State :=
  let sizes := s.sys.changed.map fun b => 24 + (s.blockImage b).length
  let clear := fun (s : State) => { s with sys := { s.sys with hold := false, changed := [] } }
  if ¬ s.sys.hold then s
  else if s.sys.changed = [] then clear s
  else if ¬ (s.stor.keeps && s.staging) then { clear s with sys := { (clear s).sys with regLost := true } }
  else if s.stor.pendLimit < s.stor.pendBytes + sizes.foldl (· + ·) 0 then { s with sys := { s.sys with regFull := true } }
  else
    let t := s.sys.changed.foldl (fun (s : State) b => s.stageRec 2 b 0xFFFF 0 0 (s.blockImage b)) s
    clear { t with sys := { t.sys with regSeq := t.stor.nextSeq } }

/-- BAR0 writes are served at an offset (R469, R478). -/
def State.writes (s : State) (off : Nat) : Bool :=
  match s.power with
  | .running | .entering | .failed => !(s.sec.certified && decide (0xF000 ≤ off))
  | .recovery => [0, 0x0400, 0xE000].contains (blockOf off)
  | .frozen => [0, 0x1800].contains (blockOf off)
  | _ => false

/-- An offset in the MSI-X structures of BAR4 (Table 2 of R314); every offset of BAR0 lies below it. -/
def msixTable (off : Nat) : Bool := 0x3FF0000 ≤ off && off < 0x3FF8000

/-- BAR0 reads are served at an offset (R469, R478); other reads answer 0 or Unsupported Request. -/
def State.reads_ (s : State) (off : Nat) : Bool :=
  s.writes off || s.power = .pfail || s.power = .idle || s.power = .off

/-- A register write of a command: its effect where the block is served. -/
def State.regWrite (s : State) (t : Time) (off : Nat) (f : State → State) : Res := .next (if s.writes off then f (s.at t) else s)


end Sys2Proof.Machine
end

