-- ==== Sys2Proof/Machine/Restore.lean ====
section
/-!
DEFINITION. The restore at power-up (R374, R375): which records of Firn are taken, factory defaults, and what the records set: registers,
the tenant table (R339, R342), certified mode (R348), lease epochs (R344), device state and the committed partitions.
-/
namespace Sys2Proof.Machine
open Sys2Proof

/-! ### Reading Firn -/

/-- What Firn gives at a boot: the live records, the case of R375 that applies (0 none), the bounds of a gap, and whether a snapshot of
the records takes the place of what is on the medium. -/
structure FirnRead where
  recs : List FirnRec := []
  case_ : Nat := 0
  gap : Option (Nat × Nat) := none
  fresh : Bool := false
deriving DecidableEq, Repr

/-- Replay of records over a set (R372, R375): an erase mark empties it, a staged image replaces it unless its signature fails. -/
def replay (image : List FirnRec) (signed : Bool) : FirnRead → List FirnRec → FirnRead
  | x, [] => x
  | x, r :: rest =>
    let y : FirnRead :=
      if r.kind = 8 then { x with recs := [], case_ := if rest = [] then 4 else 0, fresh := true }
      else if r.kind = 7 then
        if signed then { x with recs := image, case_ := 0, fresh := true } else { x with recs := [], case_ := 5, fresh := true }
      else { x with recs := x.recs ++ [r] }
    replay image signed y rest

/-- The restore's reading of a medium (R374 steps 1 to 4); a signature is asked for where the chip ran in certified mode. -/
def State.readFirn (s : State) (b : Boot) : FirnRead :=
  let m := s.stor.medium
  let good := fun (r : FirnRec) => !b.bad.contains r.seq
  let taken := m.firn.takeWhile good
  let rest := m.firn.drop taken.length
  let gap : Option (Nat × Nat) := match rest.head?, (rest.filter good).getLast? with
    | some a, some z => some (a.seq, z.seq)
    | _, _ => none
  match m.firn with
  | [] => { case_ := 2, fresh := true }
  | head :: _ =>
    if head.kind ≠ 4 ∨ ¬ good head ∨ ¬ m.firn.any fun r => r.kind = 5 && good r then { case_ := 2, fresh := true }
    else if head.stepping ≠ 0xB1 then { case_ := 3, fresh := true }
    else
      let img := parseRecs m.image.length m.image
      let x := replay img (b.signed || !m.certRun) { gap := gap, fresh := !(taken.any fun r => r.kind = 5) } taken
      { x with recs := liveRecs x.recs }

/-! ### Tenants (R339, R341, R342, R348) -/

/-- The descriptor that a record was made from. -/
def FirnRec.desc (r : FirnRec) : Desc :=
  { page := r.tenant, series := 0, seq := 0, flags := 0, target := r.keyB, tenant := r.tenant, epoch := 0, buffer := 0,
    payload := r.body.take 48, host := r.body.drop 48, dmaOk := true, t := 0 }

/-- A record of the tenant table. -/
def State.restoreTenant (s : State) (r : FirnRec) : State :=
  let n := r.keyB
  let t := s.tenant n
  if r.kind ≠ 1 then s
  else if n = 0 ∧ (r.keyA = 0xC8 ∨ r.keyA = 0xCA) then s
  else if r.keyA = 0xC8 then s.setTenant n { active := true, role := byteAt r.body 0 }
  else if r.keyA = 0xC9 then (if t.active then s.setTenant n (t.bind r.desc) else s)
  else if r.keyA = 0xCA then { s with sec := { s.sec with schedule := dropSlots n s.sec.schedule } }.setTenant n {}
  else if r.keyA = 0xCB then { s with sec := { s.sec with schedule := slotsOf (r.body.drop 48) } }
  else if r.keyA = 0xCC ∧ byteAt r.body 0 = 2 then (if t.active then s.setConsent n (r.keyC = 1) (byteAt r.body 1 = 1) else s)
  else s

/-- Generations come back from the medium. -/
def State.restoreGens (s : State) : State :=
  s.stor.medium.gens.foldl (fun (s : State) e => s.setTenant e.1 { s.tenant e.1 with gen := e.2 }) s

/-- The first condition of R348 that fails, 0 when certified mode is entered. -/
def State.certBar (s : State) (b : Boot) : Nat :=
  if s.sec.ownerKeys = [] then 1
  else if ¬ (b.okA ∧ b.okB) then 2
  else if ¬ s.sec.debugLock then 3
  else if s.sec.schedule = [] then 4
  else 0

/-- The mode asked for by the newest `SEC_CTRL` of op 0 or 1 that stands in Firn. -/
def wantsCert (recs : List FirnRec) : Bool :=
  match (recs.filter fun r => r.kind = 1 && r.keyA = 0xCC && r.keyB = 0xFFFF).getLast? with
  | some r => byteAt r.body 0 = 0
  | none => false

/-- Certified mode entered, or left with every tenant but T0 retired (R348). -/
def State.restoreMode (s : State) (b : Boot) (recs : List FirnRec) : State :=
  let want := wantsCert recs
  let c := s.certBar b
  let on := want && decide (c = 0)
  let was := s.stor.medium.certRun
  let s := { s with sec := { s.sec with certified := on } }
  let s := s.setMedium { s.stor.medium with certRun := on }
  let s := if want ∧ c ≠ 0 then s.alarm srcChip 0x0F07 (evd 0x0F07 [(c : Q)]) else s
  if was ∧ ¬ on then
    ((Tab.keys s.tenants).filter fun n => n ≠ 0 && (s.tenant n).active).foldl (fun (s : State) n =>
      (s.retireTenant n).stageRec 1 0xCA n 0 0 (zeros 48)) s
  else s

/-! ### Stored descriptors and device state -/

/-- A record of kind 1 that configures a partition, a channel, a controller, the plant or the fabric. -/
def State.restoreConf (s : State) (r : FirnRec) : State :=
  if r.kind ≠ 1 ∨ (0xC8 ≤ r.keyA ∧ r.keyA ≤ 0xCC) then s
  else
    let key := cfgKey r.keyA r.keyB r.keyC
    let off := decide (byteAt r.body 0 = 0)
    let t := s.tenant r.tenant
    if r.keyA = 0x80 then
      if off then { s with cfg := Tab.set s.cfg [] key [] }.setAux r.keyB {}
      else { s with cfg := Tab.set s.cfg [] key r.body }.setAux r.keyB
        { owner := some r.tenant, st := if ¬ isMotor r.keyB ∧ byteAt r.body 0 = 2 then 4 else 0 }
    else
      let s := { s with cfg := Tab.set s.cfg [] key r.body }
      if r.keyA = 0xC0 then
        s.setCan r.keyB { owner := if ¬ off ∧ t.active ∧ (r.tenant = 0 ∨ t.can.testBit r.keyB) then some r.tenant else none }
      else if r.keyA = 0x60 then { s with cfg := Tab.set s.cfg [] (cfgKey 0x61 r.keyB 0) [] }
      else s

/-- A record of kind 3: bypassed cells (R52), failed sensors (R303), lease epochs (R344), drum calibration (R135). -/
def State.restoreDevice (s : State) (r : FirnRec) : State :=
  if r.kind ≠ 3 then s
  else if r.keyA = 1 then { s with bypass := Tab.set s.bypass 0 (posKey r.keyB (r.keyC / 256) (r.keyC % 256)) (leNat r.body 0 8) }
  else if r.keyA = 2 then s.setSensor r.keyC { s.sensor r.keyC with failed := decide (byteAt r.body 0 = 1) }
  else if r.keyA = 5 then s.setLease r.keyC { holder := none, epoch := leNat r.body 0 2 }
  else if r.keyA = 7 ∧ r.body ≠ [] ∧ s.multiTurn r.keyC then
    s.setMot r.keyC { s.motOf r.keyC with calibrated := true, phi := (f32 (leNat r.body 0 4)).getD 0, thLast := (f32 (leNat r.body 4 4)).getD 0 }
  else s

/-- The lease epochs after the release that the reset made (R344): advanced once, drawn where nothing is retained. -/
def State.restoreLeases (s : State) (b : Boot) (recs : List FirnRec) : State :=
  (List.range 8).foldl (fun (s : State) p =>
    if recs.any fun r => r.kind = 3 && r.keyA = 5 && r.keyC = p then s.leaseTo p none
    else
      let e := b.leases.getD p 1 % 65536
      let e := if e = 0 then 1 else e
      (s.setLease p { holder := none, epoch := e }).stageDevice 5 p (leBytes 2 e)) s

/-- A partition with a live `PART_COMMIT` (R374): its checks are made again. -/
def State.restorePart (s : State) (p : Nat) : State :=
  if ¬ s.given 0x13 p 0 then s
  else
    let c := s.commitStatus p
    if c = 0 then s.commit p
    else { (s.alarm (srcPart p) 0x0C08 (evd 0x0C08 [(p : Q), (c : Q)])) with sys := { s.sys with failCause := 7 } }

/-! ### The restore -/

/-- `FIRN_DEFAULTS` and `FIRN_GAP` where they apply (R374, R375). -/
def State.firnAlarms (s : State) (x : FirnRead) : State :=
  let s := if x.case_ = 0 then s else s.alarm srcChip 0x0C06 (leBytes 1 x.case_)
  match x.gap with
  | some (a, z) => s.alarm srcChip 0x0C07 (evd 0x0C07 [(a : Q), (z : Q)])
  | none => s

/-- The records in the order of R374 step 5. -/
def State.applyFirn (s : State) (b : Boot) (recs : List FirnRec) : State :=
  let s := recs.foldl (fun (s : State) r => if r.kind = 2 then s.loadImage r.keyA r.body else s) s
  let s := (recs.foldl (fun (s : State) r => s.restoreTenant r) s).restoreGens
  let s := (recs.foldl (fun (s : State) r => s.restoreConf r) s)
  let s := (recs.foldl (fun (s : State) r => s.restoreDevice r) s).restoreLeases b recs
  let s := s.restoreMode b recs
  { s with pages := s.pages.filter fun e => (s.tenant e.1).active }

/-- Step 7 of the boot (R374): the retained set, or factory defaults. -/
def State.restore (s : State) (b : Boot) : State :=
  let x : FirnRead := if s.stor.state = 0 then { case_ := 1 } else s.readFirn b
  let s := s.setStor { s.stor with defaults := decide (x.case_ ≠ 0), restored := Config.sha384 (x.recs.map FirnRec.bytes).flatten }
  let s := if s.stor.state = 0 then s
    else if x.fresh then s.writeSnapshot x.recs
    else s.setMedium { s.stor.medium with firn := s.stor.medium.firn.takeWhile fun r => !b.bad.contains r.seq }
  let s := s.setStor { s.stor with committed := if s.stor.state = 0 then 0 else s.stor.nextSeq }
  let s := (s.applyFirn b x.recs).firnAlarms x
  (List.range 8).foldl (fun (s : State) p => s.restorePart p) s

end Sys2Proof.Machine
end

