-- ==== Sys2Proof/Machine/Power.lean ====
section
/-!
DEFINITION. Power failure, reset, boot and the entry of freeze (R381 to R384, R450, R460 to R474): the power-fail sequence, what a warm
reset keeps (R464), the steps of a boot (R467, R468) and the events that start them.
-/
namespace Sys2Proof.Machine
open Sys2Proof

/-! ### The first steps of power failure and freeze -/

/-- The power-fail sequence begins (R381, R384), for `PFAIL_N` (0), `warm` (1), `shutdown` (2) or a rail (3): energised partitions enter
BLOCKED, brakes and auxiliary gates go off, the plant is told; storage writes under way are abandoned. -/
def State.startPfail (s : State) (reason : Nat) : State :=
  let s := { s with power := .pfail, sys := { s.sys with pfReason := reason, pfSince := s.now } }
  let s := ((List.range 8).filter fun p => (s.part p).st.energised).foldl (fun (s : State) p => (s.quiet p).setPState p .blocked) s
  let s := s.auxAllOff.announceFailure
  let torn := s.stor.ops.any fun o => o.op = 0xCD
  let s := s.setStor { s.stor with ops := s.stor.ops.filter fun o => o.op ≠ 0xCD && o.op ≠ 0xAA }
  let m := s.stor.medium
  let k := s.inactiveSlot
  s.setMedium { m with pfOutcome := 2, boot := if torn then Tab.set m.boot {} k { Tab.get m.boot {} k with bad := true } else m.boot }

/-- Freeze is triggered (R450): its first step, in which every energised partition trips under the tenant given. -/
def State.beginFreeze (s : State) (pin : Bool) (tenant : Nat) : State :=
  let trained := (s.lanes.filter fun e => e.2.lstate = 4).map fun e => e.1
  let f := s.frz
  let s := { s with
    power := .entering
    frz := { f with stoHeld := maskOf ((List.range 2).filter fun g => (Tab.get s.sto {} g).active), state := 1, causePin := pin, tFreeze := s.now, freezes := (f.freezes + 1) % 65536, confirmed := [], trained := trained,
                    unconfirmed := 0, chipFailed := s.sys.chipDown, latched := [], readOut := [] } }
  let s := ((List.range 8).filter fun p => (s.part p).st.energised).foldl (fun (s : State) p => s.assertSource p 0x0906 0xFFFF 0 tenant) s
  s.auxAllOff.canAllOff.announceFailure

/-- Power failure before a boot is done (R384, R474): the marker alone is written, and the chip idles. -/
def State.markerOnly (s : State) : State :=
  let s := if s.stor.state < 2 then s
    else s.setMedium { s.stor.medium with pfOutcome := 1, pfFlushed := 0, pfDuration := Config.noValue 40 % 524288 }
  { s.setStor { s.stor with wp := false } with power := .idle, sys := { s.sys with pfailLow := true, pfReason := 0 } }

/-- The freeze pin is enabled (R450). -/
def State.frzPin (s : State) : Bool := (s.regWord 0x1800 0).testBit 0

/-! ### The power-fail sequence (R381) -/

/-- `PFAIL_N_FALL` (R381, R384, R474): low for 2 µs. Before a boot is done only the marker is written; a frozen chip, and one in the
sequence, take the level alone. -/
def execPfailNFall (t : Time) (s : State) : Res :=
  let s := { s with sys := { s.sys with pfailLow := true } }
  .next (match s.power with
    | .running => (s.at t).startPfail 0
    | .failed => (s.at t).startPfail 0
    | .recovery => (s.at t).markerOnly
    | .warm => (s.at t).markerOnly
    | _ => s)

/-- The captures that power failure flushes, in their order (R381): the highest priority first, then the newest trigger. -/
def State.pfCaptures (s : State) : List Capture :=
  sortBy (fun c => (7 - c.priority) * 2 ^ 64 + (2 ^ 64 - 1 - c.t % 2 ^ 64)) (s.stor.captures.filter fun c => !c.flushed)

/-- Captures flushed whole while they fit in the pages of 64 KiB left, then the pages of the next nearest its trigger; the pages that
were written. -/
def State.pfFlush (s : State) (room : Nat) : List Capture → State × Nat
  | [] => (s, 0)
  | c :: rest =>
    if c.filled ≤ room then
      let x := (s.flushCapture c.record none).pfFlush (room - c.filled) rest
      (x.1, x.2 + c.filled)
    else if room = 0 then (s, 0)
    else (s.flushCapture c.record (some room), room)

/-- What the sequence writes to NAND (R381 Table 5), the first n of its steps: Firn, audit, captures, the marker. -/
def State.pfWrite (s : State) (n : Nat) : State :=
  let s := if 1 ≤ n then s.commitFirn s.stor.nextSeq else s
  let s := if 2 ≤ n then (s.auditAct 2 [] []).checkpoint.commitAudit else s
  let x := if 3 ≤ n ∧ 2 ≤ s.stor.state then s.pfFlush (s.stor.flushKib / 64) s.pfCaptures else (s, 0)
  let s := x.1
  let m := s.stor.medium
  if 4 ≤ n then
    s.setMedium { m with pfOutcome := 1, pfFlushed := 64 * x.2, pfDuration := holdAt 524287 ((s.now - s.sys.pfSince) / 1000) }
  else s

/-- `PFAIL_SEQUENCE_END` (R381, R453, R465, R470): the sequence ends after n of its four writing steps, fewer than four only where a lost
rail has taken the rest (R472); the level of `FREEZE_N` decides whether freeze follows. -/
def execPfailSequenceEnd (t : Time) (steps : Nat) (frzLow : Bool) (s : State) : Res :=
  .next (if s.power ≠ .pfail then s
    else
      let s := (s.at t).pfWrite steps
      let s := s.setStor { s.stor with wp := false }
      if s.sys.pfReason = 2 then { s with power := .off, sys := { s.sys with offReady := true } }
      else if frzLow ∧ s.frzPin then s.beginFreeze true 0xFFFF
      else if s.sys.pfReason = 1 ∧ ¬ s.sys.pfailLow then { s with power := .warm, sys := { s.sys with warmCause := 1, warmAt := s.now } }
      else { s with power := .idle })

/-- `PFAIL_N_RESTORED` (R381): high for 10 ms; an idle chip restarts by a warm reset. -/
def execPfailNRestored (t : Time) (s : State) : Res :=
  let s := { s with sys := { s.sys with pfailLow := false } }
  .next (if s.power = .idle then
      let s := s.at t
      { s with power := .warm, sys := { s.sys with warmCause := if s.sys.pfReason = 3 then 5 else 2, warmAt := s.now } }
    else s)

/-- `RAIL_FAULT` (R461, R472, R473): a rail of Table 1 leaves its range; whether the I/O rail of a NAND channel is in range. -/
def execRailFault (t : Time) (rail : Nat) (nand : Bool) (s : State) : Res :=
  within rail 6 s fun s =>
    let s := { s.at t with sys := { s.sys with excursion := setBit s.sys.excursion rail true, railsIn := setBit s.sys.railsIn rail false } }
    if (s.power = .running ∨ s.power = .failed) ∧ ¬ s.sys.pfailLow then s.startPfail 3
    else if s.power = .pfail ∧ s.sys.railsIn.testBit 0 ∧ s.sys.railsIn.testBit 4 ∧ nand ∧ s.stor.keeps then
      s.setMedium { s.stor.medium with railRec := setBit s.stor.medium.railRec rail true }
    else s

/-! ### `RST_CTRL` (R465, R470, R475) -/

/-- A write to `RST_CTRL`: taken with its key; `shutdown` goes before `warm`; after a die shut-down `warm` waits for the sensors. -/
def State.rstCtrl (s : State) (v : Nat) : State :=
  if bits v 31 16 ≠ 0x5AFE then s
  else if v.testBit 1 then
    (if s.power = .running ∨ s.power = .failed then (s.auditAct 4 [] []).startPfail 2
     else if s.power = .recovery then { s.auditAct 4 [] [] with power := .off, sys := { s.sys with offReady := true } } else s)
  else if ¬ v.testBit 0 then s
  else if s.power = .running ∨ (s.power = .failed ∧ ¬ (s.sys.dieShutdown ∧ s.dieThrottle)) then (s.auditAct 3 [] []).startPfail 1
  else if s.power = .recovery then
    let s := s.auditAct 3 [] []
    { s with power := .warm, sys := { s.sys with warmCause := 1, warmAt := s.now } }
  else s

/-- `RST_CTRL_WARM` (R465). -/
def execRstCtrlWarm (t : Time) (v : Nat) (s : State) : Res := s.regWrite t 0x0408 fun s => s.rstCtrl v

/-- `RST_CTRL_SHUTDOWN` (R470). -/
def execRstCtrlShutdown (t : Time) (v : Nat) (s : State) : Res := s.regWrite t 0x0408 fun s => s.rstCtrl v

/-- `FAIL_RESTART` (R466): 1 s after the failure record, not after a die shut-down, not within 60 s of another, not with `PFAIL_N` low. -/
def execFailRestart (t : Time) (s : State) : Res :=
  .next (
    let u := s.at t
    let due : Bool := match u.sys.failRecordAt with
      | some r => decide (r + 1000000000 ≤ u.now)
      | none => false
    let again : Bool := match u.sys.lastFailRestart with
      | some r => decide (u.now < r + 60000000000)
      | none => false
    if s.power = .failed ∧ (s.regWord 0x0410 0).testBit 0 ∧ due ∧ ¬ again ∧ ¬ s.sys.dieShutdown ∧ ¬ s.sys.pfailLow then
      { u with power := .warm, sys := { u.sys with warmCause := 4, warmAt := u.now, lastFailRestart := some u.now } }
    else s)

/-! ### What a reset keeps (R464) -/

/-- What survives `PORST_N`: the medium, OTP and fuses, and the levels that the board and the machines hold on pins. -/
def State.powerOn (s : State) : State :=
  { State.reset with
    pending := s.pending, draws := s.draws, tripin := s.tripin, sto := s.sto
    sec := { ownerKeys := s.sec.ownerKeys, debugLock := s.sec.debugLock, arbCounter := s.sec.arbCounter }
    stor := { medium := s.stor.medium }
    sys := { pfailLow := s.sys.pfailLow } }

/-- `PORST_N_LOW` (R463). -/
def execPorstNLow (_t : Time) (s : State) : Res := .next s.powerOn

/-- Lost event records of a page at a reset: the staged ones with what was lost before (R323, R335). -/
def Page.lostBounds (p : Page) : Option (Nat × Nat) :=
  match p.staging.head?, p.staging.getLast?, p.lostEv with
  | some a, some z, none => some (a.seq, z.seq)
  | some _, some z, some (a, _) => some (a, z.seq)
  | _, _, x => x

/-- A page after a warm reset (R334, R335): sequences and records stay, what was accepted and not completed is lost. -/
def Page.afterReset (p : Page) : Page :=
  let gone := (p.acc.filter fun a => !a.early).map fun a => a.record 0x000C (leBytes 1 (if a.applied then 1 else 0))
  { expect := p.expect, retained := p.retained, held := p.held, lost := p.lost ++ gone, evSeq := p.evSeq, evAcked := p.evAcked, lostEv := p.lostBounds }

/-- What survives a warm reset: device time, captures and their index, the incident log, trip records, recovery records, the PCIe link,
the freeze registers and the regulator's voltage. -/
def State.warmKept (s : State) : State :=
  let f := s.frz
  let x := s.sys
  { s.powerOn with
    now := s.now
    msix := s.msix
    pages := s.pages.map fun e => (e.1, e.2.afterReset)
    stor := { medium := s.stor.medium, captures := s.stor.captures, nextRecord := s.stor.nextRecord, pfResult := s.stor.pfResult }
    tel := { log := s.tel.log, logSeq := s.tel.logSeq }
    prot := s.prot.map fun e => (e.1, { recs := e.2.recs })
    frz := if x.warmCause = 3 then
        { causePin := f.causePin, redacted := f.redacted, unconfirmed := f.unconfirmed, tFreeze := f.tFreeze, freezes := f.freezes,
          latched := f.latched, state := f.state }
      else { freezes := f.freezes }
    avs := { vCmd := s.avs.vCmd, vGoal := s.avs.vGoal }
    sys := { porst := true, pfailLow := x.pfailLow, excursion := x.excursion, railsIn := x.railsIn, resets := (x.resets + 1) % 65536,
             lastFailRestart := x.lastFailRestart, linkUp := x.linkUp, linkWord := x.linkWord, errCorr := x.errCorr, errUncorr := x.errUncorr,
             errDma := x.errDma, warmCause := x.warmCause, warmAt := x.warmAt } }

/-! ### The steps of a boot (R467, R468) -/

/-- Step 4: the medium answers or not, is formatted where it is blank or a format is due, and its header gives the last sequence (R364,
R381, R386). -/
def State.bootMedium (s : State) (b : Boot) : State :=
  let m := s.stor.medium
  let s := s.setStor { s.stor with geom := b.geom, wp := true, flushKib := b.flushKib, pendLimit := b.pendLimit }
  if b.geom = 0 then { (s.setMedium { m with present := false }) with sys := { s.sys with stage := 4, failCause := 2 } }
  else if ¬ m.formatted ∨ m.formatNext then
    let keep : Tab BootSlot := m.boot.filter fun e => !e.2.bad && (if e.1 = 0 then b.okA else b.okB)
    let fresh : Medium := { present := true, formatted := true, geom := b.geom, boot := keep, bootActive := m.bootActive, bootTrial := m.bootTrial,
                            nodeEpoch := m.nodeEpoch, spares := m.spares, grown := m.grown, blobWrites := m.blobWrites,
                            blockBytes := b.blockBytes, endurance := b.endurance,
                            pools := (List.range 5).foldl (fun t k => Tab.set t {} k ((Tab.get m.pools {} k).formatted k (b.blocks.getD k 0))) [] }
    let s := s.setStor { s.stor with medium := fresh, state := 2 }
    { s with sys := { s.sys with stage := 4 } }
  else if m.geom ≠ b.geom then { (s.setMedium { m with present := true }) with sys := { s.sys with stage := 4 } }
  else
    let last := ((m.firn.map fun r => r.seq).foldl max 0)
    let head := m.audit.getLast?
    let s := s.setStor { s.stor with medium := { m with present := true }, state := 2, nextSeq := last, firnRo := m.full.testBit 1 }
    let s := if m.full ≠ 0 then s.setStor { s.stor with state := 4 }
      else if (List.range 5).any fun k => Tab.get m.spares 200 k < 100 then s.setStor { s.stor with state := 3 } else s
    { s with sys := { s.sys with stage := 4 }
             sec := { s.sec with auditNum := (head.map fun e => e.num + 1).getD 0, auditHead := (head.map fun e => e.chain).getD [] } }

/-- A slot's image is accepted (R353). -/
def State.slotOk (s : State) (b : Boot) (k : Nat) : Bool :=
  let x := Tab.get s.stor.medium.boot {} k
  (if k = 0 then b.okA else b.okB) && !x.bad && decide (s.sec.arbCounter ≤ x.svn)

/-- Step 5 (R353, R354): a trial image runs once, at a reset that the host ordered; a trial that was not committed falls back; else the
active image, else the other. None where no image verifies. -/
def State.bootImage (s : State) (b : Boot) (cause : Nat) : Option State :=
  let m := s.stor.medium
  let trial : Option Nat := match m.bootTrial with
    | some k => if (Tab.get m.boot {} k).tried then none else if cause = 1 ∧ s.slotOk b k then some k else none
    | none => none
  match trial with
  | some k =>
    let s := s.setMedium { m with boot := Tab.set m.boot {} k { Tab.get m.boot {} k with tried := true } }
    some { s with sec := { s.sec with running := k, trialRun := true, trialUntil := s.sys.warmAt + 60000000000 } }
  | none =>
    let back : Bool := match m.bootTrial with
      | some k => (Tab.get m.boot {} k).tried
      | none => false
    let s := if back then s.setMedium { m with bootTrial := none } else s
    let a := m.bootActive
    let run := if s.slotOk b a then some a else if s.slotOk b (1 - a) ∧ s.stor.medium.bootTrial ≠ some (1 - a) then some (1 - a) else none
    run.map fun k => { s with sec := { s.sec with running := k } }

/-- Step 6 (R19, R468): the self-tests of the host cores, the regions and the trip network. -/
def State.bootTests (s : State) (b : Boot) : State :=
  let cores := b.hosts % 16
  { s with sys := { s.sys with stage := 6, selftest := cores, hostFailed := 15 - cores
                               failCause := if b.regions % 256 ≠ 0 then 6 else if cores ≠ 15 then 4 else s.sys.failCause }
           avs := if s.avs.vCmd = 0 then { s.avs with vCmd := 8500, vGoal := 8500 } else s.avs }

/-- The node's epoch (R38, R395): one above the medium's, drawn where there is no medium; and the node number of the register (R388). -/
def State.bootNode (s : State) (b : Boot) : State :=
  let e := if s.stor.state = 0 then b.epoch % 256 else (s.stor.medium.nodeEpoch + 1) % 256
  let s := s.setMedium { s.stor.medium with nodeEpoch := if s.stor.state = 0 then s.stor.medium.nodeEpoch else e }
  let s := s.setRegWord 0x9000 0 (s.regField 0x9000 0 9 0 * 65537)
  { s with sys := { s.sys with nodeEpoch := e, stage := 8 } }.joinPair.retopology

/-- The word of `PF_RESULT` (R385): what the medium says of the last sequence; a Thaw and a restart after chip failure had none. -/
def State.pfWord (s : State) (cause : Nat) : Nat :=
  let m := s.stor.medium
  if cause = 3 ∨ cause = 4 then s.stor.pfResult
  else if s.stor.state = 0 then 0
  else m.pfOutcome + 4 * (m.pfFlushed % 2048) + 8192 * (m.pfDuration % 524288)

/-- What a boot reports of the last power-down (R382, R473, R385); prev is the head of the audit chain before it, fell tells that a
trial image was given up (R354). -/
def State.bootReports (s : State) (b : Boot) (cause : Nat) (prev : List Byte) (fell : Bool) : State :=
  let word := s.pfWord cause
  let s := s.setStor { s.stor with pfResult := word }
  let s := if s.stor.state = 0 then s
    else ({ s with sys := { s.sys with railFault := s.stor.medium.railRec } }).setMedium
      { s.stor.medium with railRec := 0, pfOutcome := 3, pfFlushed := 0, pfDuration := 0 }
  let s := s.auditAct 9 [] prev
  let s := if fell then s.auditAct 8 [] [] else s
  let s := s.inform srcChip 0x0C0D (leBytes 1 (word % 4) ++ zeros 1 ++ leBytes 2 (word / 4 % 2048) ++ leBytes 4 (word / 8192) ++ leBytes 4 s.stor.committed)
  let s := if b.flushKib < 1024 ∨ b.pendLimit < 65536 then s.alarm srcChip 0x0C09
    (leBytes 2 b.flushKib ++ leBytes 2 (b.pendLimit / 1024) ++ fitTo 4 (Config.evData 0x0C09 [(b.flushKib : Q), (b.pendLimit : Q)])) else s
  if cause = 3 then
    ((s.auditAct 5 [s.frz.tFreeze] []).auditAct 6 [] []).inform srcChip 0x0B03 (zeros 4 ++ leBytes 8 s.frz.tFreeze)
  else s

/-- Sources that stand as the boot ends: regions that failed their self-test (R468), causes kept from a freeze with its instant (R452),
enabled `TRIPIN` pins that are low (R231), and STO (R474). -/
def State.bootSources (s : State) (b : Boot) : State :=
  let s := (maskList 8 b.regions).foldl (fun (s : State) r => s.closeFence r) s
  let now := s.now
  let kept := s.frz.latched
  let s := kept.foldl (fun (s : State) e => (maskList 8 e.1).foldl (fun (s : State) p =>
    let s := { s with now := s.frz.tFreeze }
    let s := if e.2.1 = 0x0909 then s.assertSto p e.2.2 else s.assertSource p e.2.1 e.2.2 0 0xFFFF
    { s with now := now }) s) s
  let s := kept.foldl (fun (s : State) e =>
    if e.2.1 = 0x0900 ∧ ¬ s.tripin.testBit e.2.2 then (maskList 8 e.1).foldl (fun (s : State) p => s.releaseSource p 0x0900 e.2.2) s else s) s
  let s := { s with frz := { s.frz with latched := [], state := 0 } }
  let s := (maskList 4 s.tripin).foldl (fun (s : State) i =>
    (s.tripinParts i).foldl (fun (s : State) p => s.assertSource p 0x0900 i 0 0xFFFF) s) s
  let s := ((List.range 2).filter fun g => (s.stoOf g).active).foldl (fun (s : State) g =>
    (maskList 8 (s.stoMap g)).foldl (fun (s : State) p => s.assertSto p g) s) s
  s.leaveSafeOff

/-- Step 9 (R467): outputs take their restored levels, lanes of committed partitions acquire, the chip is served. -/
def State.bootDone (s : State) (b : Boot) (ms : Nat) : State :=
  let s := { s with power := .running, sys := { s.sys with stage := 9, bootDone := true, bootMs := holdAt 0xFFFF ms } }
  s.bootSources b

/-- Steps 4 to 9 of a boot for a cause of `RST_CAUSE`, ms after it began. -/
def State.bootFrom (s : State) (b : Boot) (cause ms : Nat) : State :=
  let s := s.bootMedium b
  let prev := s.sec.auditHead
  let early := decide (b.pfailAt ≠ 0 ∧ b.pfailAt < 7)
  let tried := s.stor.medium.bootTrial
  if early ∧ b.pfailAt ≤ 4 then s.markerOnly
  else match s.bootImage b cause with
    | none => if early then s.markerOnly else { s with power := .recovery, sys := { s.sys with stage := 0xE, failCause := 3 } }
    | some s =>
      if early ∧ b.pfailAt = 5 then { s with sys := { s.sys with stage := 5 } }.markerOnly
      else
        let s := s.bootTests b
        if early then s.markerOnly
        else if b.hosts % 16 = 0 ∨ ¬ b.tripnet then { s.chipFail 3 with sys := { (s.chipFail 3).sys with failCause := 5 } }
        else
          let s := { s.restore b with sys := { (s.restore b).sys with stage := 7 } }
          let s := ((s.bootNode b).bootReports b cause prev (tried.isSome && s.stor.medium.bootTrial.isNone)).bootDone b ms
          if b.pfailAt = 0 then s else { s with sys := { s.sys with pfailLow := true } }.startPfail 0

/-- `BOOT` (R463, R467): `PORST_N` has risen, the chip has booted by device time t. -/
def execBoot (t : Time) (b : Boot) (s : State) : Res :=
  .next (if s.power ≠ .held ∨ s.sys.porst then s
    else
      let x := { s.powerOn.sys with porst := true, railsIn := b.rails % 64 }
      if ¬ b.crystal then { s.powerOn.setStor { s.powerOn.stor with wp := true } with sys := { x with stage := 0xF, failCause := 1 } }
      else
        let s := { s.powerOn with now := t % 2 ^ 64, sys := { x with stage := 3, linkUp := b.link.testBit 7, linkWord := if b.link.testBit 7 then b.link % 2 ^ 14 else 0 } }
        s.bootFrom b 0 (t / 1000000))

/-- `WARM_RESET` (R464, R465, R467): the boot that follows a warm reset has run by device time t. -/
def execWarmReset (t : Time) (b : Boot) (s : State) : Res :=
  .next (if s.power ≠ .warm then s
    else
      let s := (s.at t).warmKept
      let s := { s with sys := { s.sys with rstKind := 1, rstCause := s.sys.warmCause, stage := 3, railsIn := b.rails % 64 } }
      s.bootFrom b s.sys.warmCause ((s.now - s.sys.warmAt) / 1000000))

end Sys2Proof.Machine
end

