-- ==== Sys2Proof/Machine/RegRead.lean ====
section
/-!
DEFINITION. What the registers of BAR0 read (R438, R457, R475, R476 to R490, and the register tables of the chapters).
-/
namespace Sys2Proof.Machine
open Sys2Proof

/-- A flag as bit k of a word. -/
def flagBit (k : Nat) (b : Bool) : Nat := if b then 2 ^ k else 0

/-- A temperature as its 16-bit field, LSB 0.25 °C. -/
def tempField (t : Q) : Nat := ((codeOf 16 (1 / 4) t) % 65536).toNat

/-- Identity and capabilities (Table 2 of R483). -/
def State.readIdentity (s : State) (off : Nat) : Nat :=
  if off = 0x00 then Config.vendor.toNat + 0x1024 * 65536
  else if off = 0x04 then 0xB1 + 0x01 * 256
  else if off = 0x08 then Config.serial.toNat % 2 ^ 32
  else if off = 0x0C then Config.serial.toNat / 2 ^ 32
  else if off = 0x10 then 1024 + 128 * 65536 + 8 * 2 ^ 24
  else if off = 0x14 then 16 + 32 * 256 + 4 * 65536 + 8 * 2 ^ 20
  else if off = 0x18 then s.sys.selftest + 16 * s.sys.hostFailed
  else if off = 0x1C then flagBit 0 s.sec.certified + flagBit 1 s.sec.debugLock
  else if off = 0x20 then s.sys.regSeq % 2 ^ 32
  else if off = 0x24 then s.sys.regSeq / 2 ^ 32 % 2 ^ 32
  else if off = 0x28 then flagBit 0 s.sys.hold + flagBit 1 s.sys.regFull + flagBit 2 s.sys.regLost + 256 * s.sys.ignored
  else 0

/-- Boot and reset (Table 6 of R475); `warm` and `shutdown` read 1 until what they started is over (W1S, R14). -/
def State.readBoot (s : State) (off : Nat) : Nat :=
  if off = 0x0400 then
    s.sys.stage + flagBit 4 (s.sec.running = 1) + flagBit 5 s.sec.trialRun + 64 * s.sys.selftest + flagBit 10 s.sys.bootDone +
      flagBit 11 s.stor.defaults + 4096 * s.sys.failCause + 65536 * s.sys.bootMs
  else if off = 0x0404 then s.sys.rstKind + 4 * s.sys.rstCause + 64 * s.sys.railFault
  else if off = 0x0408 then
    flagBit 0 (s.sys.pfReason = 1 && (s.power = .pfail || s.power = .idle)) + flagBit 1 (s.sys.pfReason = 2 && s.power = .pfail) +
      flagBit 2 s.sys.offReady
  else if off = 0x040C then s.sys.railsIn + 256 * s.sys.excursion
  else if off = 0x0410 then s.regWord off 0
  else 0

/-- Power and AVS, and the time base (Tables 4 and 5 of R438). -/
def State.readPower (s : State) (off : Nat) : Nat :=
  let a := s.avs
  if off = 0x0800 ∨ off = 0x0804 ∨ off = 0x0810 ∨ isWord 0x0C10 16 off then s.regWord off 0
  else if off = 0x0808 then
    a.vCmd / 10 + 1024 * (a.vGoal / 10) + flagBit 20 (a.vCmd / 10 ≠ a.vGoal / 10) + flagBit 21 a.fault + flagBit 22 s.dieThrottle
  else if off = 0x080C then holdAt 0xFFFF a.lastMs.1 + 65536 * a.lastMs.2
  else if off = 0x0C00 then s.now % 2 ^ 32
  else if off = 0x0C04 then s.sys.devTimeHi
  else if off = 0x0C08 then
    flagBit 0 (s.power ≠ .held) + flagBit 1 (s.power = .frozen) + 4 * maskOf ((List.range 16).filter fun k => s.isRelocking k)
  else 0

/-- The trip network (Table 3 of R233). -/
def State.readTrip (s : State) (off : Nat) : Nat :=
  if off = 0x1000 ∨ off = 0x1004 ∨ isWord 0x1008 8 off ∨ off = 0x1028 ∨ off = 0x102C then s.regWord off 0
  else if off = 0x1030 then
    let off_ := fun p => decide ((s.part p).st = .tripped) || decide ((s.part p).st = .safeOff)
    s.tripin % 16 + 16 * maskOf ((List.range 8).filter fun p => s.sourceActive p) + 4096 * maskOf ((List.range 8).filter off_) +
      flagBit 20 (s.stoOf 0).lowA + flagBit 21 (s.stoOf 0).lowB + flagBit 22 (s.stoOf 1).lowA + flagBit 23 (s.stoOf 1).lowB
  else if off = 0x103C then flagBit 0 s.sys.tripLock
  else 0

/-- Die temperatures (Table 3 of R312). -/
def State.readDie (s : State) (off : Nat) : Nat :=
  let failed := fun (k : Nat) => (s.sensor k).failed
  if isWord 0x1400 32 off then
    let k := (off - 0x1400) / 4
    tempField (s.sensor (2 * k)).t + 65536 * tempField (s.sensor (2 * k + 1)).t
  else if off = 0x1480 then maskOf ((List.range 32).filter failed)
  else if off = 0x1484 then maskOf ((List.range 32).filter fun k => failed (32 + k))
  else if off = 0x1488 then
    let all := (List.range 64).map fun k => (k, s.sensor k)
    let hot := all.foldl (fun m e => if m.2.eff < e.2.eff then e else m) (0, s.sensor 0)
    (all.map fun e => e.2.level).foldl max 0 + 4 * hot.1 + 256 * tempField hot.2.eff
  else 0

/-- Freeze and telemetry (Table 8 of R457). -/
def State.readFreeze (s : State) (off : Nat) : Nat :=
  let f := s.frz
  if off = 0x1800 ∨ off = 0x1818 then s.regWord off 0
  else if off = 0x1804 then f.state + flagBit 2 f.causePin + flagBit 3 f.redacted + 16 * f.unconfirmed
  else if off = 0x1808 then f.tFreeze % 2 ^ 32
  else if off = 0x180C then f.tFreeze / 2 ^ 32 % 2 ^ 32
  else if off = 0x1814 then f.freezes
  else 0

/-- The vectors of a tenant's enabled completion and event rings. -/
def Page.vectors (p : Page) : List Nat := ([4, 5].filter fun r => (p.ring r).enable).map fun r => (p.ring r).vector

/-- PCIe and MSI-X (Table 3 of R484). -/
def State.readPcie (s : State) (off : Nat) : Nat :=
  if off = 0x2000 then s.sys.linkWord
  else if off = 0x2004 then s.regWord off 0
  else if off = 0x2008 then s.sys.errCorr + 256 * s.sys.errUncorr + 65536 * s.sys.errDma
  else if off = 0x200C then
    let per := s.pages.map fun e => nubNat [] e.2.vectors
    let all := per.flatten
    let one := nubNat [] all
    one.length + flagBit 12 (one.length ≠ all.length)
  else 0

/-- The tenant table (Table 8 of R361). -/
def State.readTenant (s : State) (off : Nat) : Nat :=
  let n := s.regField 0x3000 0 9 0
  let t := s.tenant n
  if off = 0x3000 then n
  else if off = 0x3004 then
    flagBit 0 t.active + 2 * t.role + 16 * t.cmdParts + 4096 * t.readParts + 2 ^ 20 * s.heldMask n + flagBit 28 s.sec.certified
  else if off = 0x3008 then t.winBase % 2 ^ 32
  else if off = 0x300C then t.winBase / 2 ^ 32 % 2 ^ 32
  else if off = 0x3010 then t.winLen % 2 ^ 32
  else if off = 0x3014 then t.winLen / 2 ^ 32 % 2 ^ 32
  else 0

/-- Ring setup (Table 3 of R317). -/
def State.readRing (s : State) (off : Nat) : Nat :=
  let n := s.regField 0x4000 0 9 0
  let p := s.page n
  let all := List.range 6
  if off = 0x4000 then n
  else if off = 0x4004 then maskOf (all.filter fun r => (p.ring r).enable)
  else if isWord 0x4010 24 off then
    let g := p.ring ((off - 0x4010) / 16)
    let k := off % 16
    if k = 0 then g.base % 2 ^ 32
    else if k = 4 then g.base / 2 ^ 32 % 2 ^ 32
    else if k = 8 then g.logSize
    else if 4 ≤ (off - 0x4010) / 16 then g.vector + 65536 * g.irqCount + 2 ^ 24 * g.holdoff
    else 0
  else if off = 0x4070 then
    let bad := all.filter fun r => (p.ring r).error
    maskOf (all.filter fun r => (p.ring r).enable && !(p.ring r).error) + 64 * maskOf bad +
      4096 * (match bad with | r :: _ => (p.ring r).cause | [] => 0)
  else 0

/-- Storage (Table 8 of R385). -/
def State.readStorage (s : State) (off : Nat) : Nat :=
  if off = 0x8000 then s.stor.geom
  else if off = 0x8004 then s.stor.state
  else if off = 0x8008 then s.stor.committed % 2 ^ 32
  else if off = 0x800C then s.stor.committed / 2 ^ 32 % 2 ^ 32
  else if off = 0x8010 then s.stor.pendBytes
  else if off = 0x8014 then s.stor.pfResult
  else if off = 0x8020 then s.regWord off 0
  else 0

/-- A port is calibrated (R399). -/
def State.portCalibrated (s : State) (k : Nat) : Bool :=
  match s.stored 0xB1 0xFFFF k with
  | some b => decide (byteAt b 1 = 1)
  | none => false

/-- Fabric (Table 5 of R410). -/
def State.readFabric (s : State) (off : Nat) : Nat :=
  if off = 0x9000 ∨ off = 0x9008 then s.regWord off 0
  else if off = 0x9004 then
    s.regWord off 0 % 256 + 256 * maskOf s.upPorts + 65536 * maskOf ((List.range 8).filter fun k => s.portCalibrated k)
  else if off = 0x900C then
    s.fab.master.getD (Config.noValue 4) % 1024 +
      1024 * ((match s.fab.master with | some m => s.hops m | none => none).getD (Config.noValue 5) % 64) +
      flagBit 16 s.locked + flagBit 17 (s.fab.master = some s.node) + flagBit 18 s.fab.hold.isSome + flagBit 19 s.fab.ppsValid
  else if off = 0x9010 then (s.fab.off % 2 ^ 32).toNat
  else if off = 0x9014 then s.sys.nodeEpoch
  else 0

/-- CAN (Table 5 of R423). -/
def State.readCan (s : State) (off : Nat) : Nat :=
  let c := (off - 0xA000) / 16
  let x := s.can c
  if 4 ≤ c then 0
  else if off % 16 = 0 then
    x.mode + 4 * x.err + 16 * maskOf ((List.range 3).filter fun k => (Tab.get x.tx none k).isSome) + flagBit 7 x.search.isSome +
      256 * holdAt 255 x.tec + 65536 * holdAt 255 x.rec_
  else if off % 16 = 4 then (x.owner.getD 0) % 1024 + flagBit 10 x.owner.isSome
  else 0

/-- A sigma-delta input's control-filter output is valid (R487): it is in use, its MCLK runs and no relock flags it. -/
def State.sdValid (s : State) (k : Nat) : Bool := s.sdOn k && s.mclkNs k ≠ 0 && !(Tab.get s.sdFlags 0 k).testBit 1

/-- Auxiliary, lane, and sigma-delta and encoder static configuration (R485 to R488). -/
def State.readStatic (s : State) (off : Nat) : Nat :=
  let l := s.regField 0xC000 0 9 0
  let k := s.regField 0xD000 0 6 0
  if ¬ s.shown off then 0
  else if isWord 0xB000 5 off then s.regWord off 0
  else if off = 0xC000 ∨ off = 0xD000 ∨ off = 0xD040 then s.regWord off 0 % selectBits off
  else if retMask off ≠ 0 then s.regWord off (s.regIndex off)
  else if off = 0xB020 ∨ off = 0xC010 ∨ off = 0xD07C then flagBit 0 (s.blockLocked (blockOf off))
  else if off = 0xC008 then
    let c := s.cell l
    (if c.used then c.part + 8 * c.arm + 128 * c.pos + flagBit 15 true else 0) + 65536 * (s.lane l).lstate
  else if off = 0xD010 then flagBit 0 (s.sdValid k) + Tab.get s.sdFlags 0 k
  else 0

/-- The mailbox (Table 7 of R489) and the debug block (Table 8 of R490). -/
def State.readEnclave (s : State) (off : Nat) : Nat :=
  let m := s.mailbox
  if off = 0xE000 then m.cmd
  else if off = 0xE004 then 16 * m.result + 65536 * m.outLen
  else if off = 0xE008 then m.offset
  else if off = 0xE00C then m.length
  else if isWord 0xE100 960 off then leNat ((List.range 4).map fun k => Tab.get m.data 0 (off - 0xE100 + k)) 0 4
  else if off = 0xF000 then flagBit 0 s.sec.debugLock + flagBit 1 s.sys.tapOpen
  else if off = 0xF004 then flagBit 0 s.sys.tapOpen
  else 0

/-- The word at an aligned offset of BAR0. -/
def State.readWord (s : State) (off : Nat) : Nat :=
  let b := blockOf off
  if b = 0 then s.readIdentity off
  else if b = 0x0400 then s.readBoot off
  else if b = 0x0800 ∨ b = 0x0C00 then s.readPower off
  else if b = 0x1000 then s.readTrip off
  else if b = 0x1400 then s.readDie off
  else if b = 0x1800 then s.readFreeze off
  else if b = 0x2000 then s.readPcie off
  else if b = 0x3000 then s.readTenant off
  else if b = 0x4000 then s.readRing off
  else if b = 0x8000 then s.readStorage off
  else if b = 0x9000 then s.readFabric off
  else if b = 0xA000 then s.readCan off
  else if b = 0xB000 ∨ b = 0xC000 ∨ b = 0xD000 then s.readStatic off
  else if b = 0xF000 ∧ s.sec.certified then 0
  else s.readEnclave off

/-- A read of BAR0 as it is answered: 0 where the block is not served (R452, R469, R478). -/
def State.bar0 (s : State) (off : Nat) : Nat := if s.reads_ off then s.readWord off else 0

/-! ### The doorbell page (R319, R334) -/

/-- Accepted descriptors whose completion record is still to come, in order of acceptance. -/
def Page.inflight (p : Page) : List Acc := p.acc.filter fun a => !a.early

/-- The recovery record of a tenant (Table 12 of R334). -/
def State.recoveryRecord (s : State) (n : Nat) : List Byte :=
  let p := s.page n
  let l := p.inflight.take 16
  fitTo 128 (((List.range 5).map fun k => leBytes 4 (Tab.get p.expect 0 k + 0xFFFFFFFF)).flatten ++ leBytes 4 p.evSeq ++ leBytes 4 p.evAcked ++
    leBytes 2 s.sys.resets ++ leBytes 1 l.length ++ leBytes 1 p.retained.length ++
    (l.map fun a => leBytes 4 a.seq ++ leBytes 1 a.series ++ leBytes 1 (if a.started then 1 else 0)).flatten)

/-- The word at an aligned offset of a tenant's doorbell page (Table 4 of R319): 0 where no such tenant exists. -/
def State.readPage (s : State) (n off : Nat) : Nat :=
  let p := s.page n
  if ¬ (s.tenant n).active then 0
  else if off % 8 = 0 ∧ off < 0x20 then (p.ring (off / 8)).tail
  else if off = 0x20 then (p.ring 4).tail
  else if off = 0x28 then (p.ring 5).tail
  else if 0xC00 ≤ off ∧ off < 0xC80 then leNat (s.recoveryRecord n) (off - 0xC00) 4
  else 0

/-- `DEV_TIME_LO_READ` (R438): the high word is latched for the next read. -/
def execDevTimeLoRead (t : Time) (s : State) : Res :=
  .next (if ¬ s.reads_ 0x0C00 then s
    else
      let s := s.at t
      { s with sys := { s.sys with devTimeHi := s.now / 2 ^ 32 % 2 ^ 32 } })

/-- The words of BAR0 that are not 0, at the freeze's third step (R454). -/
def State.bar0Image (s : State) : Tab Nat :=
  ((List.range 16384).map fun k => (4 * k, s.readWord (4 * k))).filter fun e => e.2 ≠ 0

end Sys2Proof.Machine
end

