-- ==== Sys2Proof/Machine/Freeze.lean ====
section
/-!
DEFINITION. Freeze (R450 to R457): its triggers, the end of its second step, the read-out window with its redaction (R359, R454), the test
access port (R358, R455) and Thaw (R456).
-/
namespace Sys2Proof.Machine
open Sys2Proof

/-! ### Entry (R450, R451) -/

/-- `FREEZE` (R450): the descriptor is not completed before Thaw, where it is lost with its effect applied (R453). -/
def execFreeze (d : Desc) (s : State) : Res :=
  serveRes { op := 0x96, tgt := .none, need := .owner } d none (fun s => { st := s.beginFreeze false 0, await := some .own }) s

/-- `FREEZE_N_LOW` (R450): low for 1 µs while enabled; with a descriptor's trigger at the same instant the pin is the cause (R453). -/
def execFreezeNLow (t : Time) (s : State) : Res :=
  .next (if ¬ s.frzPin then s
    else if s.power = .running ∨ s.power = .failed then (s.at t).beginFreeze true 0xFFFF
    else if s.power = .entering ∧ t = s.frz.tFreeze then { s with frz := { s.frz with causePin := true } }
    else s)

/-- A tenant's memory is shown: both consents are set (R359). -/
def Tenant.consented (t : Tenant) : Bool := t.consentOwn && t.consentT0

/-- `FREEZE_ENTERED` for T0 and every lease holder. -/
def State.freezeEntered (s : State) : State :=
  let holders := (List.range 8).filterMap fun p => (s.lease p).holder
  ((nubNat [] (0 :: holders)).filter fun n => s.wants n 6).foldl (fun (s : State) n => s.deliver n 6 srcChip 0x0B02 (zeros 12))
    (s.logEvent 6 srcChip 0x0B02 (zeros 12))

/-- `FREEZE_STEP2_END` (R450, R451): every trained lane has confirmed, or 2 × T_max + 20 µs are over. -/
def execFreezeStep2End (t : Time) (s : State) : Res :=
  .next (if s.power ≠ .entering then s
    else
      let s := s.at t
      let left := s.unconfirmedLanes
      if left ≠ [] ∧ s.now < s.frz.tFreeze + 2 * s.tMaxNs + 20000 then s
      else
        let s := { s with frz := { s.frz with unconfirmed := left.length } }
        let s := left.foldl (fun (s : State) l => s.setLane l { s.lane l with silenced := true }) s
        let s := s.freezeEntered
        let s := (List.range 8).foldl (fun (s : State) p => s.setBrk p { s.brkOf p with high := false, string := false }) s
        let red := s.sec.certified && s.tenants.any fun e => e.2.active && !e.2.consented
        let nonce := if s.sec.certified then fitTo 48 (Config.random s.draws) else zeros 48
        let img := s.bar0Image
        { s.drawn with
          power := .frozen
          sec := { s.sec with freezeNonce := nonce }
          frz := { s.frz with state := 2, redacted := red, regs := img } })

/-! ### The read-out window (Table 6 of R454) -/

/-- The window offset of a word of memory: area 0 region code SRAM, 1 cluster slice, 2 shared SRAM. -/
def windowOf (area index off : Nat) : Nat :=
  if area = 0 then 0x100000 + index * 0x200000 + off
  else if area = 1 then 0x100000 + (index / 8) * 0x200000 + 0x100000 + (index % 8) * 0x20000 + off
  else 0x1100000 + off

/-- The window offsets of the uncorrectable words, rising. -/
def State.poisonList (s : State) : List Nat :=
  let sum := fun (a i o : Nat) => ((s.ecc.filter fun e => e.1 = a ∧ e.2.1 = i ∧ e.2.2.1 = o).map fun e => e.2.2.2).foldl (· + ·) 0
  let hard := (s.ecc.filter fun e => 2 ≤ sum e.1 e.2.1 e.2.2.1).map fun e => windowOf e.1 e.2.1 e.2.2.1
  sortBy id (nubNat [] (hard ++ s.frz.poison.map fun o => windowOf 2 0 o))

/-- The freeze header (Table 7). -/
def State.freezeHeader (s : State) : List Byte :=
  let f := s.frz
  let bad := s.poisonList
  leBytes 2 1 ++ leBytes 1 0xB1 ++ leBytes 1 (if f.causePin then 1 else 2) ++ leBytes 8 f.tFreeze ++ leBytes 4 f.unconfirmed ++
    leBytes 1 (flagBit 0 f.redacted + flagBit 1 f.chipFailed) ++ leBytes 1 s.sys.nodeEpoch ++ leBytes 2 s.node ++
    leBytes 1 (maskOf ((List.range 8).filter fun r => (s.region r).fenced)) ++ zeros 3 ++
    ((List.range 8).map fun p => leBytes 1 (s.part p).st.code).flatten ++ fitTo 48 s.sec.freezeNonce ++ leBytes 2 (holdAt 0xFFFF bad.length) ++ zeros 6 ++
    fitTo 512 ((bad.take 64).map fun o => leBytes 8 o).flatten

/-- The tenant whose private memory a byte of shared SRAM belongs to (R359, R507), with the number of its 4 KiB page. -/
def privateAt (o : Nat) : Option Nat :=
  if 0x1000000 ≤ o ∧ o < 0x1400000 then some ((o - 0x1000000) / 0x1000)
  else if 0x1400000 ≤ o ∧ o < 0x1500000 then some ((o - 0x1400000) / 0x400)
  else if 0x1500000 ≤ o ∧ o < 0x1580000 then some ((o - 0x1500000) / 0x200)
  else none

/-- The digest that a redacted page shows (R359). -/
def State.pageDigest (s : State) (n page : Nat) : List Byte := fitTo 48 (Config.sha384 (s.sec.freezeNonce ++ leBytes 2 n ++ leBytes 4 page))

/-- A tenant's completion and event staging (R507). -/
def Page.stagingBytes (p : Page) : List Byte :=
  fitTo 256 ((p.retained ++ p.held).map fun c => c.bytes 0).flatten ++ fitTo 256 (p.staging.map fun e => e.bytes 0).flatten

/-- A byte of shared SRAM: private memory by digest where it is redacted, staging by R507, else what the spec does not lay out. -/
def State.sharedByte (s : State) (o : Nat) : Byte :=
  let clear : Byte := if 0x1500000 ≤ o ∧ o < 0x1580000 then
      (s.page ((o - 0x1500000) / 0x200)).stagingBytes.getD (o % 0x200) 0
    else Config.frozen s.frz.freezes (0x1100000 + o)
  match privateAt o with
  | some n => if s.sec.certified ∧ ¬ (s.tenant n).consented then (s.pageDigest n (o / 4096)).getD (o % 4096 % 48) 0 else clear
  | none => clear

/-- A byte of the MSI-X structures of BAR4 from their first offset on: the table, then the pending bits (R314). -/
def State.msixByte (s : State) (o : Nat) : Byte :=
  let e := Tab.get s.msix {} (o / 16)
  if o < 0x8000 then (leBytes 8 e.addr ++ leBytes 4 e.data ++ leBytes 4 (flagBit 0 e.masked)).getD (o % 16) 0
  else if o < 0x8100 then
    BitVec.ofNat 8 (maskOf ((List.range 8).filter fun (k : Nat) => (Tab.get s.msix {} (8 * (o - 0x8000) + k)).pend))
  else 0

/-- A byte of BAR4 while frozen (Table 2 of R314, Table 6). -/
def State.windowByte (s : State) (o : Nat) : Byte :=
  if 0x3FF0000 ≤ o then s.msixByte (o - 0x3FF0000)
  else if s.poisonList.contains (o - o % 8) then 0
  else if o < 0x1000 then s.freezeHeader.getD o 0
  else if 0x10000 ≤ o ∧ o < 0x20000 then (leBytes 4 (Tab.get s.frz.regs 0 (o - 0x10000 - o % 4))).getD (o % 4) 0
  else if 0x20000 ≤ o ∧ o < 0x30000 then
    let l := (o - 0x20000) / 64
    (s.linkRecord l ++ (s.lane l).lastFrame).getD (o % 64) 0
  else if 0x30000 ≤ o ∧ o < 0x30100 then
    let p := (o - 0x30000) / 32
    (s.partStatus p ++ s.machResult p ++ s.protResult p ++ s.brakeResult p).getD (o % 32) 0
  else if 0x31000 ≤ o ∧ o < 0x31020 then s.trackerRecord.getD (o - 0x31000) 0
  else if 0x100000 ≤ o ∧ o < 0x1100000 then Config.frozen s.frz.freezes o
  else if 0x1100000 ≤ o ∧ o < 0x2900000 then s.sharedByte (o - 0x1100000)
  else 0

/-- Bytes of the window from an offset. -/
def State.window (s : State) (off len : Nat) : List Byte := (List.range len).map fun k => s.windowByte (off + k)

/-- `FREEZE_READOUT` (R454): a read of BAR4; outside freeze it is answered with Unsupported Request, and nothing is read, but for
the MSI-X structures, which answer at all times (R314). -/
def execFreezeReadout (t : Time) (off len : Nat) (s : State) : Res :=
  let s := s.at t
  .next { s with frz := { s.frz with readOut := if s.power = .frozen ∨ msixTable off then s.window off len else [] } }

/-- `TAP_FRZ_DATA` (R455): with `sel`, `FRZ_ADDR` selects the offset first; 8 bytes are captured and the offset advances. Outside
freeze 0 is captured; in certified mode the instruction is then executed as BYPASS (R358). -/
def execTapFrzData (t : Time) (sel : Bool) (addr : Nat) (s : State) : Res :=
  let s := s.at t
  let f := s.frz
  let a := if sel then addr % 2 ^ 32 - addr % 8 else f.tapAddr
  .next (if s.power = .frozen then { s with frz := { f with tapData := s.window a 8, tapAddr := (a + 8) % 2 ^ 32 } }
    else if s.sec.certified then s
    else { s with frz := { f with tapData := zeros 8, tapAddr := (a + 8) % 2 ^ 32 } })

/-! ### Thaw (R456) -/

/-- `FRZ_THAW` (R456): the key written while the chip is frozen and `FREEZE_N` is high starts a warm restart. -/
def execFrzThaw (_t : Time) (key : Nat) (pinHigh : Bool) (s : State) : Res :=
  .next (if s.power = .frozen ∧ key = 0x54484157 ∧ pinHigh then
      { s with power := .warm, frz := { s.frz with state := 3 }, sys := { s.sys with warmCause := 3, warmAt := s.now } }
    else s)

end Sys2Proof.Machine
end

