-- ==== Sys2Proof/Machine/Timing.lean ====
section
/-!
DEFINITION. The adaptive core supply (R430 to R432), the MCLK outputs (R433 to R435) and the settings of the sigma-delta inputs (R487).
-/
namespace Sys2Proof.Machine
open Sys2Proof

/-! ### Core supply (R431, R432); voltages in units of 0.1 mV -/

def State.avsMode1 (s : State) : Bool := (s.regWord 0x0800 0).testBit 0
/-- `avs_slew` in 0.1 mV/µs (Table 4). -/
def State.avsSlew (s : State) : Nat := if s.regField 0x0800 0 15 8 = 0 then 5 else s.regField 0x0800 0 15 8
/-- The margin target in ns, doubled by die throttle (R431). -/
def State.avsTarget (s : State) : Nat :=
  (if s.regField 0x0804 0 9 0 = 0 then 1000 else s.regField 0x0804 0 9 0) * (if s.dieThrottle then 2 else 1)
/-- `v_fixed`: values outside 650 to 850 mV are taken as the nearer limit. -/
def State.vFixed (s : State) : Nat := max 650 (min 850 (s.regField 0x0804 0 25 16)) * 10

/-- The goal voltage by the rule of R431. -/
def State.goalVoltage (s : State) : Nat :=
  let g := s.avs.vGoal
  let t := s.avsTarget
  if s.avsMode1 then s.vFixed
  else match s.avs.least with
    | none => g
    | some m => if m < t then min (g + 100) 8500 else if 5 * t < 4 * m then max (g - 25) 6500 else g

/-- The chip's supply loop runs (R460, R467). -/
def State.avsRuns (s : State) : Bool := s.power = .running || s.power = .failed || s.power = .pfail || s.power = .entering

/-- `AVS_GOAL_UPDATE` (R431): every 100 µs. -/
def execAvsGoalUpdate (t : Time) (s : State) : Res :=
  .next (if ¬ s.avsRuns then s
    else
      let s := s.at t
      { s with avs := { s.avs with vGoal := s.goalVoltage, least := none } })

/-- The voltage commanded next: towards the goal by at most `avs_slew` × 10 µs. -/
def State.nextVoltage (s : State) : Nat :=
  let a := s.avs
  let step := 10 * s.avsSlew
  if a.vCmd ≤ a.vGoal then a.vCmd + min step (a.vGoal - a.vCmd) else a.vCmd - min step (a.vCmd - a.vGoal)

/-- Failed transactions counted; the third in a row is the fault (R432). -/
def State.avsFailed (s : State) (n : Nat) : State :=
  let k := s.avs.fails + n
  if 3 ≤ k then ({ s with avs := { s.avs with fault := true, fails := 0 } }).alarm srcChip 0x1100 []
  else { s with avs := { s.avs with fails := k } }

/-- `AVS_VOLTAGE_WRITE` (R431, R432): every 10 µs, with a write on the bus where the voltage changes in whole millivolts; fails counts the transactions of this write that failed: none, the first, or that and
its retry. -/
def execAvsVoltageWrite (t : Time) (fails : Nat) (s : State) : Res :=
  .next (if ¬ s.avsRuns then s
    else
      let s := s.at t
      let a := s.avs
      if a.fault then s
      else if a.probe ∧ fails ≠ 0 then s
      else
        let s := { s with avs := { a with probe := false } }
        let v := s.nextVoltage
        if v / 10 = a.vCmd / 10 then { s with avs := { s.avs with vCmd := v } }
        else if fails = 0 then { s with avs := { s.avs with vCmd := v, fails := 0 } }
        else if fails = 1 ∧ a.fails < 2 then { s with avs := { s.avs with vCmd := v, fails := 0 } }
        else s.avsFailed fails)

/-! ### MCLK outputs (R433 to R435) -/

/-- The decimation that an `SD_CFG` word names (Table 6 of R488). -/
def osrOf (w : Nat) : Nat := 16 * 2 ^ bits w 4 2

/-- An input with this `SD_CFG` word would settle in more than 10 µs at a period of its MCLK (R487). -/
def tooSlow (w period : Nat) : Bool := w.testBit 0 && period ≠ 0 && decide (10000 < 3 * osrOf w * period)

/-- The enabled inputs of an output that a period would make settle too slowly. -/
def State.slowInputs (s : State) (k period : Nat) : List Nat := (inputsOf k).filter fun i => tooSlow (s.regWord 0xD004 i) period

/-- The committed partition whose detection time a change would break (R237, R435). -/
def State.ocBroken (s : State) : Option Nat := (List.range 8).find? fun p => (s.part p).st ≠ .unconfigured && crossOc.run s p ≠ 0

/-- The longest detection time of a partition's fast inputs in ns (R237). -/
def State.tDetMax (s : State) (p : Nat) : Q := (s.fastInputs p).foldl (fun m k => maxQ m (s.tDet p (s.mclkDet k))) 0

/-- A write to `MCLK_DIV[k]` (R434, R435, R487). -/
def State.writeMclk (s : State) (k v : Nat) : State :=
  let off := 0x0C10 + 4 * k
  let v := v % 256
  let old := s.regWord off 0
  let slow := s.slowInputs k v
  let next := s.setRegWord off 0 v
  let next := if v = 0 then next else { next with mclkOld := Tab.set next.mclkOld 0 k (max (Tab.get next.mclkOld 0 k) (if old = 0 then v else old)) }
  if v ≠ 0 ∧ (v < 40 ∨ 200 < v) then s
  else if slow ≠ [] then slow.foldl (fun (s : State) i => s.setSdFlag i 3 true) s
  else match next.ocBroken with
    | some p => s.alarm srcChip 0x090A (leBytes 1 k ++ leBytes 1 p ++ zeros 2 ++ leBytes 4 (next.tDetMax p).floor.toNat)
    | none =>
      let s := s.retain off v
      if s.regWord off 0 = old then s
      else if v = 0 then s.endRelock k
      else s.startRelock k (if old = 0 then v else old)

/-- `MCLK_DIV_WRITE` (R434, R435). -/
def execMclkDivWrite (t : Time) (k v : Nat) (s : State) : Res := within k 16 s fun s => if s.writes 0x0C10 then (s.at t).writeMclk k v else s

/-- `MCLK_RELOCK_END` (R435): the filters have settled at the new frequency. -/
def execMclkRelockEnd (t : Time) (k : Nat) (s : State) : Res := within k 16 s fun s => s.awake t fun s => s.endRelock k

/-! ### Sigma-delta inputs (R487) -/

/-- A write to `SD_CFG` of the input shown: `cf_osr` and `sd_en` stay where the input would settle too slowly or the code names no
decimation. -/
def State.writeSdCfg (s : State) (v : Nat) : State :=
  let k := s.regField 0xD000 0 6 0
  let old := s.regWord 0xD004 k
  if ¬ s.shown 0xD004 then s
  else
  let v := v % 32
  let bad := 5 ≤ bits v 4 2 || tooSlow v (s.mclkNs k)
  let new := if bad then mergeBits old v 2 else v
  let s := if bad then s.setSdFlag k 3 true else s
  let s := s.retain 0xD004 new
  if (s.regWord 0xD004 k).testBit 0 then s
  else { (s.setSdFlag k 1 false).setSdFlag k 2 false with sd := Tab.set s.sd 0 k 0, sdMean := Tab.set s.sdMean 0 k 0 }

/-- A write to an RWL field: taken unless its block is locked, and counted then (R477, R480). -/
def State.unlocked (s : State) (off : Nat) (f : State → State) : State := if s.blockLocked (blockOf off) then s.ignoreWrite else f s

/-- `SD_CFG_WRITE` (R487). -/
def execSdCfgWrite (t : Time) (v : Nat) (s : State) : Res := s.regWrite t 0xD004 fun s => s.unlocked 0xD004 fun s => s.writeSdCfg v

/-- `SD_STUCK` (R487): a stream has stayed at one level for 64 MCLK periods. -/
def execSdStuck (t : Time) (k : Nat) (s : State) : Res :=
  within k 128 s fun s => s.awake t fun s => if s.sdOn k ∧ s.mclkNs k ≠ 0 then s.setSdFlag k 2 true else s

end Sys2Proof.Machine
end

