-- ==== Sys2Proof/Machine/Registers.lean ====
section
/-!
DEFINITION. Writes to BAR0 (R477 to R491): retained fields with what follows from them, select registers, rings, flags, locks, the enclave
mailbox, the debug block and the training of the PCIe link.
-/
namespace Sys2Proof.Machine
open Sys2Proof

/-! ### What follows from a retained field -/

/-- Low `TRIPIN` pins under a new enable or map (R231): sources assert where the pin now acts, and end where it no longer does. -/
def State.tripinRefresh (s : State) : State :=
  (maskList 4 s.tripin).foldl (fun (s : State) i =>
    let on := s.tripinParts i
    let s := ((List.range 8).filter fun p => (s.protOf p).active.contains (0x0900, i) && !on.contains p).foldl
      (fun (s : State) p => s.releaseSource p 0x0900 i) s
    on.foldl (fun (s : State) p => s.assertSource p 0x0900 i 0 0xFFFF) s) s

/-- Asserted STO groups under a new map or mode (R217 to R219). -/
def State.stoRefresh (s : State) : State :=
  let s := ((List.range 2).filter fun g => (s.stoOf g).active).foldl (fun (s : State) g =>
    (maskList 8 (s.stoMap g)).foldl (fun (s : State) p => if s.stoSs1 g then s.requestSs1 g p else s.assertSto p g) s) s
  s.leaveSafeOff

/-- Ports that are up and no longer enabled go down (R389). -/
def State.portRefresh (s : State) : State :=
  (s.upPorts.filter fun k => !(s.regWord 0x9004 0).testBit k).foldl (fun (s : State) k => s.portDown k) s

/-- The channel whose gate outputs a bit of the off levels belongs to (R485): `MG[n]` for word j below 4, else `SWG[n]`. -/
def offChannel (j bit : Nat) : Nat := if j < 4 then (32 * j + bit) / 8 else 0x20 + bit

/-- The bits of an off-level word that a write may change (R485): of channels in mode 0 and not claimed. -/
def State.offMask (s : State) (j : Nat) : Nat :=
  maskOf ((List.range 32).filter fun b => s.auxMode (offChannel j b) = 0 && !s.claimed (offChannel j b))

/-- The value that a retained field takes when v is written (R485, Table 3 of R233). -/
def State.takenValue (s : State) (off v : Nat) : Nat :=
  let old := s.regWord off (s.regIndex off)
  if off = 0x102C then mergeBits old (min 1000 (bits v 9 0) + 65536 * min 1000 (bits v 25 16)) (retMask off)
  else if isWord 0xB000 5 off then mergeBits old v (s.offMask ((off - 0xB000) / 4))
  else mergeBits old v (retMask off)

/-- A write to a word that holds nothing but retained fields, with what follows from it. -/
def State.writeRetained (s : State) (off v : Nat) : State :=
  let s := s.retain off (s.takenValue off v)
  if off = 0x1000 ∨ off = 0x1004 then s.tripinRefresh
  else if off = 0x1028 then s.stoRefresh
  else if off = 0x9004 then s.portRefresh
  else if off = 0x9008 then s.fabChanged
  else s

/-! ### Flags, clears and locks -/

/-- `REG_FLAGS` (Table 2 of R483, R481). -/
def State.writeFlags (s : State) (v : Nat) : State :=
  let x := s.sys
  let s := { s with sys := { x with regFull := x.regFull && !v.testBit 1, regLost := x.regLost && !v.testBit 2
                                    ignored := if bits v 15 8 = 0 then x.ignored else 0 } }
  if v.testBit 0 then { s with sys := { s.sys with hold := true } } else s.clearHold

/-- `REG_HOLD_CLEAR` (R481): a write to `REG_FLAGS`. -/
def execRegHoldClear (t : Time) (v : Nat) (s : State) : Res := s.regWrite t 0x0028 fun s => s.writeFlags v

/-- A lock bit written: 1 locks, and a write after that is ignored and counted (R233, R477, R480). -/
def State.lockBlock (s : State) (base v : Nat) : State :=
  if s.blockLocked base then s.ignoreWrite
  else if ¬ v.testBit 0 then s
  else if base = 0x1000 then { s with sys := { s.sys with tripLock := true } }.auditAct 10 [] []
  else { s with sys := { s.sys with locks := base :: s.sys.locks } }

/-- `TRIP_LOCK` (R233). -/
def execTripLock (t : Time) (v : Nat) (s : State) : Res := s.regWrite t 0x103C fun s => s.lockBlock 0x1000 v

/-- The lock word of a block (R480). -/
def lockWord (off : Nat) : Bool := off = 0xB020 || off = 0xC010 || off = 0xD07C

/-- `BLOCK_LOCK` (R480): a write to a block's lock word. -/
def execBlockLock (t : Time) (off v : Nat) (s : State) : Res :=
  if lockWord off then s.regWrite t off fun s => s.lockBlock (blockOf off) v else .fault .noSuchElement

/-- `PCIE_ERR` (R484). -/
def State.clearErrors (s : State) (v : Nat) : State :=
  if v.testBit 31 then { s with sys := { s.sys with errCorr := 0, errUncorr := 0, errDma := 0 } } else s

/-- `PCIE_ERR_CLEAR`. -/
def execPcieErrClear (t : Time) (v : Nat) (s : State) : Res := s.regWrite t 0x2008 fun s => s.clearErrors v

/-- `DBG_CTRL` (R490). -/
def State.writeDebug (s : State) (v : Nat) : State :=
  if v.testBit 0 ∧ (s.sec.certified ∨ s.sec.debugLock) then s else { s with sys := { s.sys with tapOpen := v.testBit 0 } }

/-- `DBG_TAP_FULL` (R490). -/
def execDbgTapFull (t : Time) (v : Nat) (s : State) : Res := s.regWrite t 0xF004 fun s => s.writeDebug v

/-- `AVS_STATUS`: `avs_fault` is cleared, and writes resume after a status read that succeeds (R432). -/
def State.clearAvs (s : State) (v : Nat) : State :=
  if v.testBit 21 ∧ s.avs.fault then { s with avs := { s.avs with fault := false, probe := true, fails := 0 } } else s

/-! ### The enclave mailbox (R489) -/

def State.setBox (s : State) (m : Mailbox) : State := { s with mailbox := m }
/-- Bytes of the window from its start. -/
def Mailbox.bytes (m : Mailbox) (n : Nat) : List Byte := (List.range n).map fun k => Tab.get m.data 0 k
/-- `length` lies in its range. -/
def Mailbox.lengthOk (m : Mailbox) : Bool := decide (1 ≤ m.length ∧ m.length ≤ 3840)
/-- Bytes stored in the window from an offset. -/
def Mailbox.store (m : Mailbox) (off : Nat) (bs : List Byte) : Mailbox :=
  { m with data := (bs.mapIdx fun i b => (off + i, b)).foldl (fun d e => Tab.set d 0 e.1 e.2) m.data }

/-- Command 0x01: a part of the device certificate. -/
def State.readCertificate (s : State) : State :=
  let m := { s.mailbox with cmd := 1, outLen := 0 }
  let part := (Config.certificate.drop m.offset).take m.length
  if ¬ m.lengthOk ∨ Config.certificate.length < m.offset then s.setBox { m with result := 4 }
  else s.setBox { (m.store 0 part) with result := 0, outLen := part.length }

/-- `MB_READ_CERTIFICATE`. -/
def execMbReadCertificate (t : Time) (s : State) : Res := s.regWrite t 0xE000 fun s => s.readCertificate

/-- The greatest recovery image (R469). -/
def imageTop : Nat := 33554432

/-- Command 0x02: a chunk of the recovery image, in increasing order; the chunk at 0 begins a new image. -/
def State.writeChunk (s : State) : State :=
  let m := { s.mailbox with cmd := 2, outLen := 0 }
  let at_ := if m.offset = 0 then 0 else m.image.length
  if s.power ≠ .recovery then s.setBox { m with result := 1 }
  else if ¬ m.lengthOk ∨ m.offset ≠ at_ ∨ imageTop < m.offset + m.length then s.setBox { m with result := 4 }
  else s.setBox { m with result := 0, image := m.image.take m.offset ++ m.bytes m.length }

/-- `MB_WRITE_RECOVERY_CHUNK`. -/
def execMbWriteRecoveryChunk (t : Time) (s : State) : Res := s.regWrite t 0xE000 fun s => s.writeChunk

/-- Command 0x03: the image is verified as R353 provides and written to slot A; ok tells of its signatures. -/
def State.finishImage (s : State) (ok : Bool) (svn : Nat) (raises : Bool) : State :=
  let m := { s.mailbox with cmd := 3, outLen := 0 }
  if s.power ≠ .recovery ∨ s.stor.state < 2 then s.setBox { m with result := 1 }
  else if ¬ ok then s.setBox { m with result := 2 }
  else if svn < s.sec.arbCounter then s.setBox { m with result := 3 }
  else
    let x := s.stor.medium
    let slot : BootSlot := { svn := svn, raises := raises, image := m.image }
    (s.setMedium { x with boot := Tab.set x.boot {} 0 slot, bootActive := 0, bootTrial := none }).setBox { m with result := 0, image := [] }

/-- `MB_FINISH_RECOVERY_IMAGE`. -/
def execMbFinishRecoveryImage (t : Time) (ok : Bool) (svn : Nat) (raises : Bool) (s : State) : Res :=
  s.regWrite t 0xE000 fun s => s.finishImage ok svn raises

/-- A write to `MB_CMD`: the command is kept; `go` with a command that has a row of its own is that row, and a reserved command ends with
a result that the spec does not give. -/
def State.writeCmd (s : State) (v : Nat) : State :=
  let c := v % 256
  let s := s.setBox { s.mailbox with cmd := c }
  if ¬ v.testBit 31 then s
  else if c = 1 then s.readCertificate
  else if c = 2 then s.writeChunk
  else if c = 3 then s
  else s.setBox { s.mailbox with result := Config.noValue 41 % 16, outLen := Config.noValue 42 % 65536 }

/-! ### Rings and the whole map -/

/-- A field of a ring's set-up, ignored while the ring is enabled (R318). -/
def State.writeRing (s : State) (off v : Nat) : State :=
  let n := s.regField 0x4000 0 9 0
  let r := (off - 0x4010) / 16
  let p := s.page n
  let g := p.ring r
  let put := fun (g : Ring) => s.setPage n (p.setRing r g)
  if g.enable then s
  else if off % 16 = 0 then put { g with base := g.base / 2 ^ 32 * 2 ^ 32 + (v % 2 ^ 32) / 4096 * 4096 }
  else if off % 16 = 4 then put { g with base := g.base % 2 ^ 32 + v % 2 ^ 32 * 2 ^ 32 }
  else if off % 16 = 8 then put { g with logSize := v % 16 }
  else if 4 ≤ r then put { g with vector := v % 2048, irqCount := bits v 23 16, holdoff := bits v 31 24 }
  else s

/-- An aligned 32-bit write to BAR0 (R476 to R481). `FRZ_THAW` and the finish of a recovery image have rows of their own. -/
def State.writeWord (s : State) (off v : Nat) : State :=
  if ¬ s.shown off then s
  else if off = 0x0028 then s.writeFlags v
  else if off = 0x0408 then s.rstCtrl v
  else if off = 0x040C then { s with sys := { s.sys with excursion := s.sys.excursion - (s.sys.excursion &&& bits v 13 8) } }
  else if off = 0x0808 then s.clearAvs v
  else if isWord 0x0C10 16 off then s.writeMclk ((off - 0x0C10) / 4) v
  else if off = 0x103C then s.lockBlock 0x1000 v
  else if lockWord off then s.lockBlock (blockOf off) v
  else if off = 0x2008 then s.clearErrors v
  else if off = 0x3000 ∨ off = 0x4000 ∨ off = 0xC000 ∨ off = 0xD000 ∨ off = 0xD040 then s.setRegWord off 0 (if off < 0xC000 then v % 1024 else v % 2 ^ 32)
  else if off = 0x4004 then (s.ringsOnBy v).ringsOffBy v
  else if isWord 0x4010 24 off then s.writeRing off v
  else if off = 0xD004 then s.unlocked off fun s => s.writeSdCfg v
  else if off = 0xD010 then (if v.testBit 3 then s.setSdFlag (s.regField 0xD000 0 6 0) 3 false else s)
  else if off = 0xE000 then s.writeCmd v
  else if off = 0xE008 then s.setBox { s.mailbox with offset := v % 2 ^ 25 }
  else if off = 0xE00C then s.setBox { s.mailbox with length := v % 4096 }
  else if isWord 0xE100 960 off then s.setBox (s.mailbox.store (off - 0xE100) (leBytes 4 v))
  else if off = 0xF004 then s.writeDebug v
  else if retMask off ≠ 0 then s.unlocked off fun s => s.writeRetained off v
  else s

/-- A write as the endpoint receives it (R477): 32 bits, or 64 bits as two writes; any other is ignored and counted. -/
def State.writeBytes (s : State) (off : Nat) (bs : List Byte) : State :=
  let one := fun (s : State) (o v : Nat) => if s.writes o then s.writeWord o v else s
  if off % 4 = 0 ∧ bs.length = 4 then one s off (leNat bs 0 4)
  else if off % 4 = 0 ∧ bs.length = 8 then one (one s off (leNat bs 0 4)) (off + 4) (leNat bs 4 4)
  else s.ignoreWrite

/-- One word of the MSI-X table of BAR4 (R313, R314): the two halves of the address, the data, the mask. A vector unmasked while
its bit is pending sends its message (log entry 32). -/
def State.writeMsix (s : State) (o v : Nat) : State :=
  let n := o / 16
  let e := Tab.get s.msix {} n
  let put := fun (e : Msix) => { s with msix := Tab.set s.msix {} n e }
  if o % 16 = 0 then put { e with addr := e.addr / 2 ^ 32 * 2 ^ 32 + v }
  else if o % 16 = 4 then put { e with addr := v * 2 ^ 32 + e.addr % 2 ^ 32 }
  else if o % 16 = 8 then put { e with data := v }
  else if e.pend ∧ ¬ v.testBit 0 then (put { e with masked := false, pend := false }).fireVector n
  else put { e with masked := v.testBit 0 }

/-- A write of 32 or 64 bits to the MSI-X table. -/
def State.writeTable (s : State) (o : Nat) (bs : List Byte) : State :=
  if o % 4 = 0 ∧ bs.length = 4 then s.writeMsix o (leNat bs 0 4)
  else if o % 8 = 0 ∧ bs.length = 8 then (s.writeMsix o (leNat bs 0 4)).writeMsix (o + 4) (leNat bs 4 4)
  else s

/-- `REGISTER_WRITE` (R477, R481); an offset in the MSI-X table of BAR4 writes that table, which takes writes at all times
(R314, log entry 32). -/
def execRegisterWrite (t : Time) (off : Nat) (bs : List Byte) (s : State) : Res :=
  if msixTable off then .next (if s.power = .held then s else (s.at t).writeTable (off - 0x3FF0000) bs)
  else within off 65536 s fun s => if s.writes off then (s.at t).writeBytes off bs else s

/-! ### The PCIe link (R484) -/

/-- `PCIE_LINK_UP` (R484): the link trains within `max_width` and `max_gen`; word is laid out as `PCIE_LINK`. -/
def execPcieLinkUp (t : Time) (word : Nat) (s : State) : Res :=
  let top := if s.regField 0x2004 0 6 3 = 0 then 8 else s.regField 0x2004 0 6 3
  let gen := if s.regField 0x2004 0 2 0 = 0 then 4 else s.regField 0x2004 0 2 0
  if s.power = .held then .next s
  else
    let s := s.at t
    .next { s with sys := { s.sys with linkUp := true
                                       linkWord := min top (word % 16) + 16 * min gen (bits word 6 4) + 128 + bits word 13 8 * 256 } }

end Sys2Proof.Machine
end

