-- ==== Sys2Proof/Machine/TestOps.lean ====
section
/-!
DEFINITION. The vendor test opcodes (R491).
-/
namespace Sys2Proof.Machine
open Sys2Proof

def testInfo (op : Nat) (tgt : Tgt) (lay : List Fld) : OpInfo := { op := op, tgt := tgt, need := .owner, lay := lay }

/-- Every partition that a test of these regions can affect is in UNCONFIGURED or BLOCKED. -/
def State.testFree (s : State) (regions : List Nat) : Bool :=
  (regions.map fun r => s.regionParts r).flatten.all fun p => (s.part p).st = .unconfigured || (s.part p).st = .blocked

def layEcc : List Fld := [fu8 16 0 2, fu8 17 0 63, { off := 20, ty := .u32 }, fu8 24 1 2]

/-- The number of elements of an area, and the bytes of one. -/
def areaSize (area : Nat) : Nat × Nat := if area = 0 then (8, 0x100000) else if area = 1 then (64, 0x20000) else (1, 0x1800000)

/-- `TEST_ECC_INJECT`: bits of a word are flipped in place. -/
def execTestEccInject (d : Desc) (s : State) : Res :=
  serveRes (testInfo 0xF0 .none layEcc) d none (fun s =>
    let a := d.u8 16
    let i := d.u8 17
    let o := d.u32 20
    let regions := if a = 0 then [i] else if a = 1 then [i / 8] else List.range 8
    if (areaSize a).1 ≤ i ∨ (areaSize a).2 ≤ o ∨ o % 8 ≠ 0 then Reply.no s 0x0003
    else if ¬ s.testFree regions then Reply.no s 0x0004
    else { st := { s with ecc := s.ecc ++ [(a, i, o, d.u8 24)] } }) s

/-- `TEST_WDOG_STOP`: the supervisor stops servicing its watchdog; its expiry comes 200 µs later (R33). -/
def execTestWdogStop (d : Desc) (s : State) : Res :=
  serveRes (testInfo 0xF1 .region []) d none (fun s =>
    if ¬ s.testFree [d.target] then Reply.no s 0x0004
    else { st := s.setRegion d.target { s.region d.target with wdogStopped := true, wdogFrom := s.now } }) s

/-- `TEST_LINK_SILENCE`: the lane transmits nothing for `duration`. -/
def execTestLinkSilence (d : Desc) (s : State) : Res :=
  serveRes (testInfo 0xF2 .lane [fu16 16 1 1000]) d none (fun s =>
    if ¬ s.testFree [d.target / 128] then Reply.no s 0x0004
    else { st := s.setLane d.target { s.lane d.target with silenced := true, testUntil := s.now + d.u16 16 * 1000 } }) s

/-- `TEST_LINK_SILENCE_END`: the duration has passed and the lane resumes. -/
def execTestLinkSilenceEnd (t : Time) (lane : Nat) (s : State) : Res :=
  within lane 1024 s fun s => s.live t fun s =>
    let x := s.lane lane
    if x.silenced ∧ x.testUntil ≤ s.now then s.setLane lane { x with silenced := false, testUntil := 0 } else s

end Sys2Proof.Machine
end

