-- ==== Sys2Proof/Machine/Dispatch.lean ====
section
/-!
DEFINITION. The meaning of each command: one arm for each constructor of Instr.
-/
namespace Sys2Proof.Machine
open Sys2Proof

/-- What a command does to everything but the queue. -/
def exec (i : Instr) (s : State) : Host.Outcome State Fault Refusal :=
  match i with
  | .nop d => Sys2Proof.Machine.execNop d s
  | .cancel d => Sys2Proof.Machine.execCancel d s
  | .fence d => Sys2Proof.Machine.execFence d s
  | .leaseAcquire d => Sys2Proof.Machine.execLeaseAcquire d s
  | .leaseRelease d => Sys2Proof.Machine.execLeaseRelease d s
  | .leaseTransfer d => Sys2Proof.Machine.execLeaseTransfer d s
  | .leaseRevoke d => Sys2Proof.Machine.execLeaseRevoke d s
  | .leaseQuery d => Sys2Proof.Machine.execLeaseQuery d s
  | .leaseTimeout t page series seq => Sys2Proof.Machine.execLeaseTimeout t page series seq s
  | .partConfig d => Sys2Proof.Machine.execPartConfig d s
  | .armConfig d => Sys2Proof.Machine.execArmConfig d s
  | .laneAssign d => Sys2Proof.Machine.execLaneAssign d s
  | .partCommit d => Sys2Proof.Machine.execPartCommit d s
  | .partRelease d => Sys2Proof.Machine.execPartRelease d s
  | .prechargeConfig d => Sys2Proof.Machine.execPrechargeConfig d s
  | .cellPolicy d => Sys2Proof.Machine.execCellPolicy d s
  | .precharge d differs => Sys2Proof.Machine.execPrecharge d differs s
  | .enable d => Sys2Proof.Machine.execEnable d s
  | .disable d => Sys2Proof.Machine.execDisable d s
  | .block d => Sys2Proof.Machine.execBlock d s
  | .tripReset d => Sys2Proof.Machine.execTripReset d s
  | .cellBypass d => Sys2Proof.Machine.execCellBypass d s
  | .cellAdmit d => Sys2Proof.Machine.execCellAdmit d s
  | .partStatus d => Sys2Proof.Machine.execPartStatus d s
  | .cellStatus d => Sys2Proof.Machine.execCellStatus d s
  | .modConfig d => Sys2Proof.Machine.execModConfig d s
  | .edgeConfig d => Sys2Proof.Machine.execEdgeConfig d s
  | .balanceConfig d => Sys2Proof.Machine.execBalanceConfig d s
  | .circConfig d => Sys2Proof.Machine.execCircConfig d s
  | .armSense d => Sys2Proof.Machine.execArmSense d s
  | .shareConfig d => Sys2Proof.Machine.execShareConfig d s
  | .modLimit d => Sys2Proof.Machine.execModLimit d s
  | .modStatus d => Sys2Proof.Machine.execModStatus d s
  | .machConfig d => Sys2Proof.Machine.execMachConfig d s
  | .machParams d => Sys2Proof.Machine.execMachParams d s
  | .currentConfig d => Sys2Proof.Machine.execCurrentConfig d s
  | .observerConfig d => Sys2Proof.Machine.execObserverConfig d s
  | .speedConfig d => Sys2Proof.Machine.execSpeedConfig d s
  | .limits d => Sys2Proof.Machine.execLimits d s
  | .fieldConfig d => Sys2Proof.Machine.execFieldConfig d s
  | .supplyConfig d => Sys2Proof.Machine.execSupplyConfig d s
  | .setpoint d => Sys2Proof.Machine.execSetpoint d s
  | .supplySetpoint d => Sys2Proof.Machine.execSupplySetpoint d s
  | .exciterConfig d => Sys2Proof.Machine.execExciterConfig d s
  | .coreMigrate d => Sys2Proof.Machine.execCoreMigrate d s
  | .machStatus d => Sys2Proof.Machine.execMachStatus d s
  | .refSource d => Sys2Proof.Machine.execRefSource d s
  | .curveLoad d => Sys2Proof.Machine.execCurveLoad d s
  | .curveInput d => Sys2Proof.Machine.execCurveInput d s
  | .shockConfig d => Sys2Proof.Machine.execShockConfig d s
  | .drumConfig d => Sys2Proof.Machine.execDrumConfig d s
  | .drumSet d => Sys2Proof.Machine.execDrumSet d s
  | .profileLimits d => Sys2Proof.Machine.execProfileLimits d s
  | .profileMove d => Sys2Proof.Machine.execProfileMove d s
  | .profileStop d => Sys2Proof.Machine.execProfileStop d s
  | .vlimitConfig d => Sys2Proof.Machine.execVlimitConfig d s
  | .tension d => Sys2Proof.Machine.execTension d s
  | .heaveConfig d => Sys2Proof.Machine.execHeaveConfig d s
  | .heaveRef d => Sys2Proof.Machine.execHeaveRef d s
  | .motionStatus d => Sys2Proof.Machine.execMotionStatus d s
  | .fbConfig d => Sys2Proof.Machine.execFbConfig d s
  | .encConfig d => Sys2Proof.Machine.execEncConfig d s
  | .resConfig d => Sys2Proof.Machine.execResConfig d s
  | .bissConfig d => Sys2Proof.Machine.execBissConfig d s
  | .sensorlessConfig d => Sys2Proof.Machine.execSensorlessConfig d s
  | .restartConfig d => Sys2Proof.Machine.execRestartConfig d s
  | .limitConfig d => Sys2Proof.Machine.execLimitConfig d s
  | .fbStatus d => Sys2Proof.Machine.execFbStatus d s
  | .thermConfig d => Sys2Proof.Machine.execThermConfig d s
  | .coolantConfig d => Sys2Proof.Machine.execCoolantConfig d s
  | .thermGroups d => Sys2Proof.Machine.execThermGroups d s
  | .thermSensorReset d => Sys2Proof.Machine.execThermSensorReset d s
  | .thermStatus d => Sys2Proof.Machine.execThermStatus d s
  | .tandemConfig d => Sys2Proof.Machine.execTandemConfig d s
  | .tandemRatio d => Sys2Proof.Machine.execTandemRatio d s
  | .tandemMaster d => Sys2Proof.Machine.execTandemMaster d s
  | .consumerConfig d => Sys2Proof.Machine.execConsumerConfig d s
  | .demandLimit d => Sys2Proof.Machine.execDemandLimit d s
  | .supplyRecord d => Sys2Proof.Machine.execSupplyRecord d s
  | .calveConfig d => Sys2Proof.Machine.execCalveConfig d s
  | .calve d => Sys2Proof.Machine.execCalve d s
  | .calveClear d => Sys2Proof.Machine.execCalveClear d s
  | .interleaveConfig d => Sys2Proof.Machine.execInterleaveConfig d s
  | .plantReserve d => Sys2Proof.Machine.execPlantReserve d s
  | .plantRelease d => Sys2Proof.Machine.execPlantRelease d s
  | .plantStatus d => Sys2Proof.Machine.execPlantStatus d s
  | .brakeConfig d => Sys2Proof.Machine.execBrakeConfig d s
  | .emergConfig d => Sys2Proof.Machine.execEmergConfig d s
  | .rideConfig d => Sys2Proof.Machine.execRideConfig d s
  | .limp d => Sys2Proof.Machine.execLimp d s
  | .crashStopStart d => Sys2Proof.Machine.execCrashStopStart d s
  | .crashStopEnd d => Sys2Proof.Machine.execCrashStopEnd d s
  | .estopControlled d => Sys2Proof.Machine.execEstopControlled d s
  | .estopShortCircuit d => Sys2Proof.Machine.execEstopShortCircuit d s
  | .winchEmergEndRender d => Sys2Proof.Machine.execWinchEmergEndRender d s
  | .winchEmergRender d => Sys2Proof.Machine.execWinchEmergRender d s
  | .winchEmergQuickRelease d => Sys2Proof.Machine.execWinchEmergQuickRelease d s
  | .brakeStatus d => Sys2Proof.Machine.execBrakeStatus d s
  | .protConfig d => Sys2Proof.Machine.execProtConfig d s
  | .tripLink d => Sys2Proof.Machine.execTripLink d s
  | .protSelftest d => Sys2Proof.Machine.execProtSelftest d s
  | .protSelftestDone t p failed => Sys2Proof.Machine.execProtSelftestDone t p failed s
  | .protTrip d => Sys2Proof.Machine.execProtTrip d s
  | .protRecord d => Sys2Proof.Machine.execProtRecord d s
  | .regionRestart d fails => Sys2Proof.Machine.execRegionRestart d fails s
  | .protStatus d => Sys2Proof.Machine.execProtStatus d s
  | .linkConfig d => Sys2Proof.Machine.execLinkConfig d s
  | .linkRetrain d => Sys2Proof.Machine.execLinkRetrain d s
  | .linkStatus d => Sys2Proof.Machine.execLinkStatus d s
  | .auxMode d => Sys2Proof.Machine.execAuxMode d s
  | .bldcConfig d => Sys2Proof.Machine.execBldcConfig d s
  | .bldcCurve d => Sys2Proof.Machine.execBldcCurve d s
  | .stepConfig d => Sys2Proof.Machine.execStepConfig d s
  | .stepSource d => Sys2Proof.Machine.execStepSource d s
  | .switchConfig d => Sys2Proof.Machine.execSwitchConfig d s
  | .sagConfig d => Sys2Proof.Machine.execSagConfig d s
  | .auxDiag d => Sys2Proof.Machine.execAuxDiag d s
  | .auxRunStart d => Sys2Proof.Machine.execAuxRunStart d s
  | .auxRunStop d => Sys2Proof.Machine.execAuxRunStop d s
  | .auxInput d => Sys2Proof.Machine.execAuxInput d s
  | .auxReset d => Sys2Proof.Machine.execAuxReset d s
  | .auxStatus d => Sys2Proof.Machine.execAuxStatus d s
  | .telemSub d => Sys2Proof.Machine.execTelemSub d s
  | .telemUnsub d => Sys2Proof.Machine.execTelemUnsub d s
  | .eventConfig d => Sys2Proof.Machine.execEventConfig d s
  | .trackerStatus d => Sys2Proof.Machine.execTrackerStatus d s
  | .eventLog d => Sys2Proof.Machine.execEventLog d s
  | .freeze d => Sys2Proof.Machine.execFreeze d s
  | .eventStatus d => Sys2Proof.Machine.execEventStatus d s
  | .firnSync d => Sys2Proof.Machine.execFirnSync d s
  | .firnLoad d signed => Sys2Proof.Machine.execFirnLoad d signed s
  | .firnErase d signed => Sys2Proof.Machine.execFirnErase d signed s
  | .firnExport d => Sys2Proof.Machine.execFirnExport d s
  | .moraineConfig d => Sys2Proof.Machine.execMoraineConfig d s
  | .moraineTrigger d => Sys2Proof.Machine.execMoraineTrigger d s
  | .moraineList d => Sys2Proof.Machine.execMoraineList d s
  | .moraineRead d => Sys2Proof.Machine.execMoraineRead d s
  | .moraineProtect d => Sys2Proof.Machine.execMoraineProtect d s
  | .auditRead d => Sys2Proof.Machine.execAuditRead d s
  | .userWrite d => Sys2Proof.Machine.execUserWrite d s
  | .userRead d => Sys2Proof.Machine.execUserRead d s
  | .userDelete d => Sys2Proof.Machine.execUserDelete d s
  | .storFormat d signed => Sys2Proof.Machine.execStorFormat d signed s
  | .storStatus d => Sys2Proof.Machine.execStorStatus d s
  | .standbyConfig d => Sys2Proof.Machine.execStandbyConfig d s
  | .fabCalConfig d => Sys2Proof.Machine.execFabCalConfig d s
  | .takeover d ready => Sys2Proof.Machine.execTakeover d ready s
  | .shareSubConfig d => Sys2Proof.Machine.execShareSubConfig d s
  | .sharePublish d => Sys2Proof.Machine.execSharePublish d s
  | .fabSend d => Sys2Proof.Machine.execFabSend d s
  | .fabRecv d => Sys2Proof.Machine.execFabRecv d s
  | .fabTrace d rtt => Sys2Proof.Machine.execFabTrace d rtt s
  | .fabTopology d => Sys2Proof.Machine.execFabTopology d s
  | .fabStatus d => Sys2Proof.Machine.execFabStatus d s
  | .canConfig d => Sys2Proof.Machine.execCanConfig d s
  | .canRateConfig d => Sys2Proof.Machine.execCanRateConfig d s
  | .canDetect d => Sys2Proof.Machine.execCanDetect d s
  | .canRxPost d => Sys2Proof.Machine.execCanRxPost d s
  | .canTx d sof => Sys2Proof.Machine.execCanTx d sof s
  | .canTxAbort d sof => Sys2Proof.Machine.execCanTxAbort d sof s
  | .canStatus d => Sys2Proof.Machine.execCanStatus d s
  | .tenantCreate d => Sys2Proof.Machine.execTenantCreate d s
  | .tenantBind d => Sys2Proof.Machine.execTenantBind d s
  | .tenantRetire d => Sys2Proof.Machine.execTenantRetire d s
  | .slotSchedule d => Sys2Proof.Machine.execSlotSchedule d s
  | .secCtrlEnter d signed => Sys2Proof.Machine.execSecCtrlEnter d signed s
  | .secCtrlLeave d signed => Sys2Proof.Machine.execSecCtrlLeave d signed s
  | .secCtrlConsent d => Sys2Proof.Machine.execSecCtrlConsent d s
  | .secCtrlEnrolKey d signed => Sys2Proof.Machine.execSecCtrlEnrolKey d signed s
  | .secCtrlRevokeKey d signed => Sys2Proof.Machine.execSecCtrlRevokeKey d signed s
  | .fwUpdate d valid svn raises => Sys2Proof.Machine.execFwUpdate d valid svn raises s
  | .attest d => Sys2Proof.Machine.execAttest d s
  | .tenantStatus d => Sys2Proof.Machine.execTenantStatus d s
  | .testEccInject d => Sys2Proof.Machine.execTestEccInject d s
  | .testWdogStop d => Sys2Proof.Machine.execTestWdogStop d s
  | .testLinkSilence d => Sys2Proof.Machine.execTestLinkSilence d s
  | .testLinkSilenceEnd t lane => Sys2Proof.Machine.execTestLinkSilenceEnd t lane s
  | .sqTail t page ring v whole => Sys2Proof.Machine.execSqTail t page ring v whole s
  | .descriptorFetch t page ring bytes => Sys2Proof.Machine.execDescriptorFetch t page ring bytes s
  | .cqHead t page v whole => Sys2Proof.Machine.execCqHead t page v whole s
  | .eqHead t page v whole => Sys2Proof.Machine.execEqHead t page v whole s
  | .urgentStage t page off bytes => Sys2Proof.Machine.execUrgentStage t page off bytes s
  | .urgentCommit t page v whole => Sys2Proof.Machine.execUrgentCommit t page v whole s
  | .ringEnable t v => Sys2Proof.Machine.execRingEnable t v s
  | .ringDisable t v => Sys2Proof.Machine.execRingDisable t v s
  | .irqHoldoffExpiry t page ring => Sys2Proof.Machine.execIrqHoldoffExpiry t page ring s
  | .pcieLinkLoss t => Sys2Proof.Machine.execPcieLinkLoss t s
  | .coalesceWindowEnd t page src code => Sys2Proof.Machine.execCoalesceWindowEnd t page src code s
  | .shedCount t page cls path ended => Sys2Proof.Machine.execShedCount t page cls path ended s
  | .telemSample t page sub load => Sys2Proof.Machine.execTelemSample t page sub load s
  | .certifiedSlotStart t => Sys2Proof.Machine.execCertifiedSlotStart t s
  | .bulkWait t r => Sys2Proof.Machine.execBulkWait t r s
  | .cellCycleStart t p now mean count ages counts => Sys2Proof.Machine.execCellCycleStart t p now mean count ages counts s
  | .upFrameReceived t lane bytes chars rtt => Sys2Proof.Machine.execUpFrameReceived t lane bytes chars rtt s
  | .alarmSReceived t lane clean => Sys2Proof.Machine.execAlarmSReceived t lane clean s
  | .alarmUReceived t lane clean => Sys2Proof.Machine.execAlarmUReceived t lane clean s
  | .upFrameWindowEnd t p => Sys2Proof.Machine.execUpFrameWindowEnd t p s
  | .computeWindowStart t p => Sys2Proof.Machine.execComputeWindowStart t p s
  | .armPlacement t p arm => Sys2Proof.Machine.execArmPlacement t p arm s
  | .currentLoopStep t p fresh pd pq pt => Sys2Proof.Machine.execCurrentLoopStep t p fresh pd pq pt s
  | .downFrameWindowStart t p => Sys2Proof.Machine.execDownFrameWindowStart t p s
  | .speedStep t p who caps torques speeds states limits => Sys2Proof.Machine.execSpeedStep t p who caps torques speeds states limits s
  | .migration t p => Sys2Proof.Machine.execMigration t p s
  | .machineCoreSelftest t p core ok => Sys2Proof.Machine.execMachineCoreSelftest t p core ok s
  | .prechargePassiveDone t p => Sys2Proof.Machine.execPrechargePassiveDone t p s
  | .prechargeComplete t p => Sys2Proof.Machine.execPrechargeComplete t p s
  | .prechargeTimeout t p => Sys2Proof.Machine.execPrechargeTimeout t p s
  | .disableComplete t p => Sys2Proof.Machine.execDisableComplete t p s
  | .readyFloorExpiry t p => Sys2Proof.Machine.execReadyFloorExpiry t p s
  | .readmitTimeout t lane => Sys2Proof.Machine.execReadmitTimeout t lane s
  | .selftestTimeout t lane => Sys2Proof.Machine.execSelftestTimeout t lane s
  | .laneLockAcquired t lane => Sys2Proof.Machine.execLaneLockAcquired t lane s
  | .linkDown t lane => Sys2Proof.Machine.execLinkDown t lane s
  | .linkRetryExpiry t lane => Sys2Proof.Machine.execLinkRetryExpiry t lane s
  | .linkSearchInterval t lane => Sys2Proof.Machine.execLinkSearchInterval t lane s
  | .trainingTimeout t lane => Sys2Proof.Machine.execTrainingTimeout t lane s
  | .tripinAssert t n => Sys2Proof.Machine.execTripinAssert t n s
  | .fastWindowCross t d v => Sys2Proof.Machine.execFastWindowCross t d v s
  | .remoteTripReceived t node mask epoch => Sys2Proof.Machine.execRemoteTripReceived t node mask epoch s
  | .tripNetDisagree t signal => Sys2Proof.Machine.execTripNetDisagree t signal s
  | .stoAssert t group chanB => Sys2Proof.Machine.execStoAssert t group chanB s
  | .stoRelease t group => Sys2Proof.Machine.execStoRelease t group s
  | .ss1Request t group chanB => Sys2Proof.Machine.execSs1Request t group chanB s
  | .ss1Timeout t p => Sys2Proof.Machine.execSs1Timeout t p s
  | .stoDiscrepancy t group lowA lowB us => Sys2Proof.Machine.execStoDiscrepancy t group lowA lowB us s
  | .supervisorWatchdogExpiry t r => Sys2Proof.Machine.execSupervisorWatchdogExpiry t r s
  | .hostCoreWatchdogExpiry t => Sys2Proof.Machine.execHostCoreWatchdogExpiry t s
  | .scrubWord t area index off bits => Sys2Proof.Machine.execScrubWord t area index off bits s
  | .timeBaseFailure t => Sys2Proof.Machine.execTimeBaseFailure t s
  | .failRestart t => Sys2Proof.Machine.execFailRestart t s
  | .setpointTimeout t p => Sys2Proof.Machine.execSetpointTimeout t p s
  | .exciterReady t p => Sys2Proof.Machine.execExciterReady t p s
  | .exciterEnableTimeout t p => Sys2Proof.Machine.execExciterEnableTimeout t p s
  | .exciterFault t p => Sys2Proof.Machine.execExciterFault t p s
  | .earthCurrent t p => Sys2Proof.Machine.execEarthCurrent t p s
  | .positionLost t p => Sys2Proof.Machine.execPositionLost t p s
  | .pllLocked t p => Sys2Proof.Machine.execPllLocked t p s
  | .pllLost t p => Sys2Proof.Machine.execPllLost t p s
  | .currentSaturationAlarm t p => Sys2Proof.Machine.execCurrentSaturationAlarm t p s
  | .observerDivergence t p => Sys2Proof.Machine.execObserverDivergence t p s
  | .partnerLost t p => Sys2Proof.Machine.execPartnerLost t p s
  | .tandemMessageReceived t p src epoch step share ty nc ramp target shaft => Sys2Proof.Machine.execTandemMessageReceived t p src epoch step share ty nc ramp target shaft s
  | .tandemMasterLost t p active announced => Sys2Proof.Machine.execTandemMasterLost t p active announced s
  | .yieldHoldReached t p => Sys2Proof.Machine.execYieldHoldReached t p s
  | .yieldTimeout t p => Sys2Proof.Machine.execYieldTimeout t p s
  | .curveInputLost t p => Sys2Proof.Machine.execCurveInputLost t p s
  | .heaveSampleReceived t p node ts z vz => Sys2Proof.Machine.execHeaveSampleReceived t p node ts z vz s
  | .hardLimitActive t p dir => Sys2Proof.Machine.execHardLimitActive t p dir s
  | .hardLimitInactive t p dir => Sys2Proof.Machine.execHardLimitInactive t p dir s
  | .indexPulse t e count => Sys2Proof.Machine.execIndexPulse t e count s
  | .indexMissing t e count => Sys2Proof.Machine.execIndexMissing t e count s
  | .resolverSample t e sins coss => Sys2Proof.Machine.execResolverSample t e sins coss s
  | .bissRequest t e => Sys2Proof.Machine.execBissRequest t e s
  | .bissFrameEnd t e n w0 w1 w2 w3 => Sys2Proof.Machine.execBissFrameEnd t e n w0 w1 w2 w3 s
  | .zeroVoltagePulseEnd t p iu iv iw => Sys2Proof.Machine.execZeroVoltagePulseEnd t p iu iv iw s
  | .standstillHoldEnd t p => Sys2Proof.Machine.execStandstillHoldEnd t p s
  | .openLoopBlendEnd t p => Sys2Proof.Machine.execOpenLoopBlendEnd t p s
  | .allocRoundPublish t round who pmax mot gen => Sys2Proof.Machine.execAllocRoundPublish t round who pmax mot gen s
  | .roundRecordReceived t r => Sys2Proof.Machine.execRoundRecordReceived t r s
  | .allocRoundCompute t round => Sys2Proof.Machine.execAllocRoundCompute t round s
  | .grantApply t round => Sys2Proof.Machine.execGrantApply t round s
  | .supplyStale t sec => Sys2Proof.Machine.execSupplyStale t sec s
  | .breakerInputActive t k => Sys2Proof.Machine.execBreakerInputActive t k s
  | .busCollapseDetected t p why => Sys2Proof.Machine.execBusCollapseDetected t p why s
  | .calvingEventReceived t node seq sections level => Sys2Proof.Machine.execCalvingEventReceived t node seq sections level s
  | .reserveRequestReceived t node tenant part stamp => Sys2Proof.Machine.execReserveRequestReceived t node tenant part stamp s
  | .reserveRetry t handle => Sys2Proof.Machine.execReserveRetry t handle s
  | .reserveTimeout t handle => Sys2Proof.Machine.execReserveTimeout t handle s
  | .scBrakingOrder t p => Sys2Proof.Machine.execScBrakingOrder t p s
  | .scBrakingEnd t p => Sys2Proof.Machine.execScBrakingEnd t p s
  | .scArmsAlternate t p => Sys2Proof.Machine.execScArmsAlternate t p s
  | .estopStandstill t p => Sys2Proof.Machine.execEstopStandstill t p s
  | .brakeSetHoldEnd t p => Sys2Proof.Machine.execBrakeSetHoldEnd t p s
  | .brakeRelease t p => Sys2Proof.Machine.execBrakeRelease t p s
  | .brakeReleaseHoldEnd t p => Sys2Proof.Machine.execBrakeReleaseHoldEnd t p s
  | .quickReleaseEnd t p => Sys2Proof.Machine.execQuickReleaseEnd t p s
  | .rideThroughResyncDone t p => Sys2Proof.Machine.execRideThroughResyncDone t p s
  | .rideThroughDelayEnd t p => Sys2Proof.Machine.execRideThroughDelayEnd t p s
  | .rideThroughExpiry t p => Sys2Proof.Machine.execRideThroughExpiry t p s
  | .thermalEvaluation t r die cool => Sys2Proof.Machine.execThermalEvaluation t r die cool s
  | .sensorFailed t cls idx => Sys2Proof.Machine.execSensorFailed t cls idx s
  | .thermalLevelRise t cls idx => Sys2Proof.Machine.execThermalLevelRise t cls idx s
  | .bldcCheckEnd t m f sector => Sys2Proof.Machine.execBldcCheckEnd t m f sector s
  | .bldcCheckWaitTimeout t m => Sys2Proof.Machine.execBldcCheckWaitTimeout t m s
  | .bldcAlignEnd t m => Sys2Proof.Machine.execBldcAlignEnd t m s
  | .bldcZeroCrossing t m order => Sys2Proof.Machine.execBldcZeroCrossing t m order s
  | .bldcCommutation t m => Sys2Proof.Machine.execBldcCommutation t m s
  | .bldcRampEnd t m => Sys2Proof.Machine.execBldcRampEnd t m s
  | .bldcStartRetry t m => Sys2Proof.Machine.execBldcStartRetry t m s
  | .bldcPeakComparator t m atBlankEnd => Sys2Proof.Machine.execBldcPeakComparator t m atBlankEnd s
  | .auxOuterLoop t m => Sys2Proof.Machine.execAuxOuterLoop t m s
  | .scHoldEnd t m => Sys2Proof.Machine.execScHoldEnd t m s
  | .stepTimer t m e => Sys2Proof.Machine.execStepTimer t m e s
  | .stepInputEdge t sw dirHigh => Sys2Proof.Machine.execStepInputEdge t sw dirHigh s
  | .stepperStandstill t m => Sys2Proof.Machine.execStepperStandstill t m s
  | .switchComparatorAssert t n acc => Sys2Proof.Machine.execSwitchComparatorAssert t n acc s
  | .switchInrushEnd t n => Sys2Proof.Machine.execSwitchInrushEnd t n s
  | .switchPullEnd t n => Sys2Proof.Machine.execSwitchPullEnd t n s
  | .sagGroupActive t region group => Sys2Proof.Machine.execSagGroupActive t region group s
  | .sagGroupInactive t region group => Sys2Proof.Machine.execSagGroupInactive t region group s
  | .auxDiagStep t chan volts => Sys2Proof.Machine.execAuxDiagStep t chan volts s
  | .fabPortUp t port node peerPort epoch => Sys2Proof.Machine.execFabPortUp t port node peerPort epoch s
  | .fabPortDown t port => Sys2Proof.Machine.execFabPortDown t port s
  | .fabFrameReceived t port bytes acked => Sys2Proof.Machine.execFabFrameReceived t port bytes acked s
  | .fabRetransmit t port acked => Sys2Proof.Machine.execFabRetransmit t port acked s
  | .controlResend t dst seq => Sys2Proof.Machine.execControlResend t dst seq s
  | .linkStateFlood t => Sys2Proof.Machine.execLinkStateFlood t s
  | .linkStateReceived t r => Sys2Proof.Machine.execLinkStateReceived t r s
  | .nodeFailed t node announced => Sys2Proof.Machine.execNodeFailed t node announced s
  | .timeExchange t port t1 t2 t3 t4 => Sys2Proof.Machine.execTimeExchange t port t1 t2 t3 t4 s
  | .holdoverTimeout t => Sys2Proof.Machine.execHoldoverTimeout t s
  | .ppsInEdge t => Sys2Proof.Machine.execPpsInEdge t s
  | .mirrorRecordReceived t m => Sys2Proof.Machine.execMirrorRecordReceived t m s
  | .mirrorTimeout t => Sys2Proof.Machine.execMirrorTimeout t s
  | .standbyTakeover t announced states => Sys2Proof.Machine.execStandbyTakeover t announced states s
  | .deposed t p => Sys2Proof.Machine.execDeposed t p s
  | .canFrameReceived t c frame => Sys2Proof.Machine.execCanFrameReceived t c frame s
  | .canRxFlush t c => Sys2Proof.Machine.execCanRxFlush t c s
  | .canTxAttemptEnd t c sof cause => Sys2Proof.Machine.execCanTxAttemptEnd t c sof cause s
  | .canBusOn t c => Sys2Proof.Machine.execCanBusOn t c s
  | .canTxHoldoffEnd t c => Sys2Proof.Machine.execCanTxHoldoffEnd t c s
  | .canDetectDwellEnd t c => Sys2Proof.Machine.execCanDetectDwellEnd t c s
  | .firnCommitDone t upTo spare => Sys2Proof.Machine.execFirnCommitDone t upTo spare s
  | .auditCommit t => Sys2Proof.Machine.execAuditCommit t s
  | .auditCheckpoint t => Sys2Proof.Machine.execAuditCheckpoint t s
  | .retentionScrubPass t tAvg most spares moved => Sys2Proof.Machine.execRetentionScrubPass t tAvg most spares moved s
  | .morainePostWindowEnd t p => Sys2Proof.Machine.execMorainePostWindowEnd t p s
  | .moraineFlush t record => Sys2Proof.Machine.execMoraineFlush t record s
  | .pfailNFall t => Sys2Proof.Machine.execPfailNFall t s
  | .pfailSequenceEnd t steps frzLow => Sys2Proof.Machine.execPfailSequenceEnd t steps frzLow s
  | .pfailNRestored t => Sys2Proof.Machine.execPfailNRestored t s
  | .railFault t rail nand => Sys2Proof.Machine.execRailFault t rail nand s
  | .porstNLow t => Sys2Proof.Machine.execPorstNLow t s
  | .boot t b => Sys2Proof.Machine.execBoot t b s
  | .warmReset t b => Sys2Proof.Machine.execWarmReset t b s
  | .rstCtrlWarm t v => Sys2Proof.Machine.execRstCtrlWarm t v s
  | .rstCtrlShutdown t v => Sys2Proof.Machine.execRstCtrlShutdown t v s
  | .freezeNLow t => Sys2Proof.Machine.execFreezeNLow t s
  | .freezeStep2End t => Sys2Proof.Machine.execFreezeStep2End t s
  | .freezeReadout t off len => Sys2Proof.Machine.execFreezeReadout t off len s
  | .tapFrzData t sel addr => Sys2Proof.Machine.execTapFrzData t sel addr s
  | .frzThaw t key pinHigh => Sys2Proof.Machine.execFrzThaw t key pinHigh s
  | .avsGoalUpdate t => Sys2Proof.Machine.execAvsGoalUpdate t s
  | .avsVoltageWrite t fails => Sys2Proof.Machine.execAvsVoltageWrite t fails s
  | .mclkDivWrite t k v => Sys2Proof.Machine.execMclkDivWrite t k v s
  | .mclkRelockEnd t k => Sys2Proof.Machine.execMclkRelockEnd t k s
  | .sdCfgWrite t v => Sys2Proof.Machine.execSdCfgWrite t v s
  | .sdStuck t k => Sys2Proof.Machine.execSdStuck t k s
  | .regHoldClear t v => Sys2Proof.Machine.execRegHoldClear t v s
  | .tripLock t v => Sys2Proof.Machine.execTripLock t v s
  | .blockLock t off v => Sys2Proof.Machine.execBlockLock t off v s
  | .pcieErrClear t v => Sys2Proof.Machine.execPcieErrClear t v s
  | .dbgTapFull t v => Sys2Proof.Machine.execDbgTapFull t v s
  | .mbReadCertificate t => Sys2Proof.Machine.execMbReadCertificate t s
  | .mbWriteRecoveryChunk t => Sys2Proof.Machine.execMbWriteRecoveryChunk t s
  | .mbFinishRecoveryImage t ok svn raises => Sys2Proof.Machine.execMbFinishRecoveryImage t ok svn raises s
  | .devTimeLoRead t => Sys2Proof.Machine.execDevTimeLoRead t s
  | .registerWrite t off bs => Sys2Proof.Machine.execRegisterWrite t off bs s
  | .hostDmaCompletion t kind page ring ok => Sys2Proof.Machine.execHostDmaCompletion t kind page ring ok s
  | .storageOperationDone t page series seq ok => Sys2Proof.Machine.execStorageOperationDone t page series seq ok s
  | .pcieLinkUp t word => Sys2Proof.Machine.execPcieLinkUp t word s
  | .canBusError t c add => Sys2Proof.Machine.execCanBusError t c add s
  | .stepperChopComparator t m coilB => Sys2Proof.Machine.execStepperChopComparator t m coilB s
  | .encIllegalTransition t e => Sys2Proof.Machine.execEncIllegalTransition t e s
  | .retrainSilenceEnd t lane => Sys2Proof.Machine.execRetrainSilenceEnd t lane s
  | .tripinRelease t n => Sys2Proof.Machine.execTripinRelease t n s
  | .fabSendTimeout t page series seq => Sys2Proof.Machine.execFabSendTimeout t page series seq s

end Sys2Proof.Machine
end

