-- ==== Sys2Proof/Machine/Step.lean ====
section
/-!
DEFINITION. One step: the command at the front of the queue takes its effect; with an empty queue the block idles.
-/
namespace Sys2Proof.Machine
open Sys2Proof

/-- The state with the command at the front of its queue taken off. -/
def State.withRest (s : State) (rest : List Instr) : State := { s with pending := rest }

/-- The command at the front of the queue, on the state with the queue's rest (log entry 100). -/
def step (s : State) : Host.Outcome State Fault Refusal :=
  match s.pending with
  | [] => .next s
  | c :: rest => exec c (s.withRest rest)

/-- The command that a word of the opcode table spells, put at the front of the queue. -/
def State.withFetchWord (s : State) (nbits w : Nat) : State :=
  match decodeTableWord nbits w with
  | some c => { s with pending := c :: s.pending }
  | none => s

end Sys2Proof.Machine
end

