-- ==== Sys2Proof/Safety.lean ====
section
/-!
DEFINITION. The terms in which claims about the block are stated: the part of the machine that reports and queues leave alone, the part
that stands still while the chip is stopped, when a descriptor is taken, and how it is answered.
-/
namespace Sys2Proof.Machine
open Sys2Proof

/-- The machine without its host side: rings, records and queues towards the host, interrupt vectors, the incident log, the audit chain's
place, staged records, capture buffers and the list of urgent commits. -/
def State.drive (s : State) : State :=
  { s with
    pages := [], outbox := [], waitbox := [], msix := [], tel := {}
    sec := { s.sec with bytesLeft := 0, auditNum := 0, auditHead := [], staged := [], sinceCheck := 0, oldestStaged := 0, refusals := [] }
    stor := { s.stor with bufs := [], nextSeq := 0, pend := [] }
    sys := { s.sys with urgentBusy := [] } }

/-- What stands still while nothing runs: everything but the queue of commands, the pins and their safety latches, the supervisor's registers,
the read-out of frozen state and the PCIe endpoint with its occupancy marks. -/
def State.still (s : State) : State :=
  { s with
    now := 0, pending := [], sys := {}, regs := [], sto := [], tripin := 0, frz := {}, pages := [], outbox := [], waitbox := [], msix := []
    tel := { s.tel with high := [] } }

/-- The chip is stopped: held in reset, idle after a power failure, shut down, or frozen (R381, R452, R470, R475). -/
def State.stopped (s : State) : Bool := s.power = .held || s.power = .idle || s.power = .off || s.power = .frozen

/-- The commands that end a stop: power-on reset and boot, the return of the supply, Thaw (R381, R455, R463). -/
def restarts (i : Instr) : Bool :=
  match i with
  | .porstNLow _ => true
  | .boot _ _ => true
  | .pfailNRestored _ => true
  | .frzThaw _ _ _ => true
  | _ => false

/-! ### Descriptors -/

/-- A descriptor as a host core sees it: what the chapters fix about its opcode, its fields, the length of its host buffer. -/
structure Order where
  info : OpInfo
  d : Desc
  buf : Option Nat
deriving DecidableEq, Repr

/-- The descriptor that a command is, none where the command is an event. -/
def State.orderOf (s : State) (i : Instr) : Option Order :=
  match i with
  | .nop d => some ⟨infoNop, d, none⟩
  | .cancel d => some ⟨infoCancel, d, none⟩
  | .fence d => some ⟨infoFence, d, none⟩
  | .leaseAcquire d => some ⟨infoLease .leaseTake true, d, (leaseBuf d)⟩
  | .leaseRelease d => some ⟨infoLease .leaseHold true, d, (leaseBuf d)⟩
  | .leaseTransfer d => some ⟨infoLease .leaseHold true, d, (leaseBuf d)⟩
  | .leaseRevoke d => some ⟨infoLease .owner true, d, (leaseBuf d)⟩
  | .leaseQuery d => some ⟨infoLease .leaseAsk false, d, (leaseBuf d)⟩
  | .leaseTimeout _ _ _ _ => none
  | .partConfig d => some ⟨confInfo 0x10 layPartConfig, d, none⟩
  | .armConfig d => some ⟨confInfo 0x11 layArmConfig, d, none⟩
  | .laneAssign d => some ⟨confInfo 0x12 layLaneAssign, d, (some (4 * d.u16 16))⟩
  | .partCommit d => some ⟨{ confInfo 0x13 [] with states := some [.unconfigured], conf := false }, d, none⟩
  | .partRelease d => some ⟨infoPartRelease, d, none⟩
  | .prechargeConfig d => some ⟨confInfo 0x15 layPrecharge, d, none⟩
  | .cellPolicy d => some ⟨setInfo 0x16 layPolicy st05, d, none⟩
  | .precharge d _ => some ⟨stateInfo 0x17 [.blocked], d, none⟩
  | .enable d => some ⟨stateInfo 0x18 [.ready], d, none⟩
  | .disable d => some ⟨stateInfo 0x19 [.running], d, none⟩
  | .block d => some ⟨{ stateInfo 0x1A [.blocked, .precharge, .ready, .running, .braking, .tripped, .safeOff] with urgent := true }, d, none⟩
  | .tripReset d => some ⟨stateInfo 0x1B [.tripped], d, none⟩
  | .cellBypass d => some ⟨infoCell 0x1C, d, none⟩
  | .cellAdmit d => some ⟨infoCell 0x1D, d, none⟩
  | .partStatus d => some ⟨infoPartStatus, d, none⟩
  | .cellStatus d => some ⟨infoCellStatus, d, (some (16 * (s.partCells d.target).length))⟩
  | .modConfig d => some ⟨confInfo 0x20 layMod, d, none⟩
  | .edgeConfig d => some ⟨confInfo 0x21 layEdge, d, none⟩
  | .balanceConfig d => some ⟨setInfo 0x22 layBalance st05, d, none⟩
  | .circConfig d => some ⟨setInfo 0x23 layCirc st05, d, none⟩
  | .armSense d => some ⟨confInfo 0x24 laySense, d, none⟩
  | .shareConfig d => some ⟨confInfo 0x25 layShare, d, none⟩
  | .modLimit d => some ⟨setInfo 0x26 layModLimit st15, d, none⟩
  | .modStatus d => some ⟨{ op := 0x2F, tgt := .part, need := .read, gives := true }, d, none⟩
  | .machConfig d => some ⟨confInfo 0x30 layMach, d, none⟩
  | .machParams d => some ⟨confInfo 0x31 layMachParams, d, none⟩
  | .currentConfig d => some ⟨setInfo 0x32 layCurrent st05, d, none⟩
  | .observerConfig d => some ⟨setInfo 0x33 layObserver st05, d, none⟩
  | .speedConfig d => some ⟨setInfo 0x34 laySpeed st05, d, none⟩
  | .limits d => some ⟨setInfo 0x35 layLimits st05, d, none⟩
  | .fieldConfig d => some ⟨setInfo 0x36 layField st05, d, none⟩
  | .supplyConfig d => some ⟨confInfo 0x37 laySupply, d, none⟩
  | .setpoint d => some ⟨{ op := 0x38, tgt := .part, need := .part, lease := true, lay := laySetpoint, states := some [.ready, .running, .braking] }, d, none⟩
  | .supplySetpoint d => some ⟨{ op := 0x39, tgt := .part, need := .part, lease := true, lay := laySupplySetpoint, states := some st15 }, d, none⟩
  | .exciterConfig d => some ⟨confInfo 0x3A layExciter, d, none⟩
  | .coreMigrate d => some ⟨{ op := 0x3B, tgt := .part, need := .owner, lay := layMigrate, states := some st15 }, d, none⟩
  | .machStatus d => some ⟨infoMachStatus, d, (statusBuf d 32)⟩
  | .refSource d => some ⟨motInfo 0x40 layRefSource [.blocked, .ready, .running] false, d, none⟩
  | .curveLoad d => some ⟨motInfo 0x41 layCurve st05 true, d, (some 132)⟩
  | .curveInput d => some ⟨motInfo 0x42 layCurveInput st15 false, d, none⟩
  | .shockConfig d => some ⟨motInfo 0x43 layShock st05 true, d, none⟩
  | .drumConfig d => some ⟨{ motInfo 0x44 layDrum st01 true with conf := true }, d, (some (8 * d.u8 16))⟩
  | .drumSet d => some ⟨motInfo 0x45 layDrumSet [.blocked, .ready] false, d, none⟩
  | .profileLimits d => some ⟨motInfo 0x46 layProfLimits st15 true, d, none⟩
  | .profileMove d => some ⟨motInfo 0x47 layMove [.running] false, d, none⟩
  | .profileStop d => some ⟨{ op := 0x48, tgt := .part, need := .part, lease := true, urgent := true }, d, none⟩
  | .vlimitConfig d => some ⟨motInfo 0x49 layVlimit st05 true, d, none⟩
  | .tension d => some ⟨motInfo 0x4A layTension st15 false, d, none⟩
  | .heaveConfig d => some ⟨motInfo 0x4B layHeave st013 true, d, none⟩
  | .heaveRef d => some ⟨motInfo 0x4C layHeaveRef st15 false, d, none⟩
  | .motionStatus d => some ⟨infoMotionStatus, d, (statusBuf d 32)⟩
  | .fbConfig d => some ⟨confInfo 0x50 layFb, d, none⟩
  | .encConfig d => some ⟨confInfo 0x51 layEnc, d, none⟩
  | .resConfig d => some ⟨confInfo 0x52 layRes, d, none⟩
  | .bissConfig d => some ⟨confInfo 0x53 layBiss, d, none⟩
  | .sensorlessConfig d => some ⟨setInfo 0x54 laySensorless st013, d, none⟩
  | .restartConfig d => some ⟨setInfo 0x55 layRestart st013, d, none⟩
  | .limitConfig d => some ⟨setInfo 0x56 layLimitIn st05, d, none⟩
  | .fbStatus d => some ⟨infoFbStatus, d, (statusBuf d 16)⟩
  | .thermConfig d => some ⟨confInfo 0x58 layTherm, d, none⟩
  | .coolantConfig d => some ⟨confInfo 0x59 layCoolant, d, none⟩
  | .thermGroups d => some ⟨confInfo 0x5A layGroups, d, (some (d.u8 17))⟩
  | .thermSensorReset d =>
    some ⟨{ op := 0x5B, tgt := .part, need := .part, lease := true, lay := laySensorReset, states := some [.blocked, .precharge, .ready, .running, .braking, .tripped, .safeOff] }, d, none⟩
  | .thermStatus d => some ⟨{ op := 0x5F, tgt := .part, need := .read, gives := true }, d, none⟩
  | .tandemConfig d => some ⟨{ motInfo 0x60 layTandem st01 true with conf := true }, d, none⟩
  | .tandemRatio d => some ⟨motInfo 0x61 layRatio st15 true, d, none⟩
  | .tandemMaster d => some ⟨motInfo 0x62 [] [.running, .braking] false, d, none⟩
  | .consumerConfig d => some ⟨motInfo 0x63 layConsumer st05 true, d, none⟩
  | .demandLimit d => some ⟨motInfo 0x64 layDemand st15 true, d, none⟩
  | .supplyRecord d => some ⟨{ op := 0x65, tgt := .section_, need := .fabric 2, lay := laySupplyRecord }, d, none⟩
  | .calveConfig d => some ⟨{ nodeInfo 0x66 (.fabric 1) layCalveConfig with kept := true }, d, none⟩
  | .calve d => some ⟨{ nodeInfo 0x67 (.fabric 1) layCalve with urgent := true }, d, none⟩
  | .calveClear d => some ⟨nodeInfo 0x68 (.fabric 1) layCalveClear, d, none⟩
  | .interleaveConfig d => some ⟨motInfo 0x69 layInterleave st01 true, d, none⟩
  | .plantReserve d => some ⟨{ nodeInfo 0x6A (.fabric 1) layReserve with gives := true }, d, (some (4 * d.u8 16))⟩
  | .plantRelease d => some ⟨nodeInfo 0x6B (.fabric 1) layRelease, d, none⟩
  | .plantStatus d => some ⟨{ op := 0x6F, tgt := .part, need := .read, gives := true }, d, (statusBuf d 24)⟩
  | .brakeConfig d => some ⟨confInfo 0x70 layBrake, d, none⟩
  | .emergConfig d => some ⟨confInfo 0x71 layEmerg, d, none⟩
  | .rideConfig d => some ⟨motInfo 0x72 layRide st013 true, d, none⟩
  | .limp d => some ⟨motInfo 0x73 layLimp [.blocked] true, d, none⟩
  | .crashStopStart d => some ⟨emergInfo 0x74 layCrash [.running], d, none⟩
  | .crashStopEnd d => some ⟨emergInfo 0x74 layCrash [.running], d, none⟩
  | .estopControlled d => some ⟨emergInfo 0x75 layEstop [.ready, .running, .braking], d, none⟩
  | .estopShortCircuit d => some ⟨emergInfo 0x75 layEstop [.ready, .running, .braking], d, none⟩
  | .winchEmergEndRender d => some ⟨emergInfo 0x76 layWinch [.running], d, none⟩
  | .winchEmergRender d => some ⟨emergInfo 0x76 layWinch [.running], d, none⟩
  | .winchEmergQuickRelease d => some ⟨emergInfo 0x76 layWinch [.running], d, none⟩
  | .brakeStatus d => some ⟨infoBrakeStatus, d, none⟩
  | .protConfig d => some ⟨confInfo 0x78 layProt, d, none⟩
  | .tripLink d => some ⟨confInfo 0x79 layTripLink, d, none⟩
  | .protSelftest d => some ⟨{ protInfo 0x7A laySelftest (some [.blocked, .tripped, .safeOff]) with gives := true }, d, none⟩
  | .protSelftestDone _ _ _ => none
  | .protTrip d => some ⟨{ protInfo 0x7B [] (some [.precharge, .ready, .running, .braking]) with urgent := true }, d, none⟩
  | .protRecord d => some ⟨infoProtRecord, d, (some (32 * d.u8 16))⟩
  | .regionRestart d _ => some ⟨infoRegionRestart, d, none⟩
  | .protStatus d => some ⟨infoProtStatus, d, none⟩
  | .linkConfig d => some ⟨infoLinkConfig, d, none⟩
  | .linkRetrain d => some ⟨infoLinkRetrain, d, none⟩
  | .linkStatus d => some ⟨infoLinkStatus, d, (some (32 * (sortBy (fun n => n) (s.lanesOf d.target)).length))⟩
  | .auxMode d => some ⟨auxInfo 0x80 layAuxMode true, d, none⟩
  | .bldcConfig d => some ⟨auxInfo 0x81 layBldc true, d, none⟩
  | .bldcCurve d => some ⟨auxInfo 0x82 layBldcCurve true, d, (some 68)⟩
  | .stepConfig d => some ⟨auxInfo 0x83 layStep true, d, none⟩
  | .stepSource d => some ⟨auxInfo 0x84 layStepSource true, d, none⟩
  | .switchConfig d => some ⟨auxInfo 0x85 laySwitch true, d, none⟩
  | .sagConfig d => some ⟨{ op := 0x86, tgt := .sag, need := .users, kept := true, lay := laySag }, d, none⟩
  | .auxDiag d => some ⟨auxInfo 0x87 layDiag true, d, none⟩
  | .auxRunStart d => some ⟨auxInfo 0x88 layRun false, d, none⟩
  | .auxRunStop d => some ⟨auxInfo 0x88 layRun false, d, none⟩
  | .auxInput d => some ⟨auxInfo 0x89 layAuxInput false, d, none⟩
  | .auxReset d => some ⟨auxInfo 0x8A [] false, d, none⟩
  | .auxStatus d => some ⟨infoAuxStatus, d, (statusBuf d 16)⟩
  | .telemSub d => some ⟨{ op := 0x90, tgt := .part, need := .telem, lay := laySub }, d, (some (s.recordSize d.target (d.u32 20) (d.u8 19) * d.u32 24))⟩
  | .telemUnsub d => some ⟨{ op := 0x91, tgt := .part, need := .all, lay := [fu8 16 0 15] }, d, none⟩
  | .eventConfig d => some ⟨{ op := 0x92, tgt := .none, need := .all, lay := [fenum 16 [1, 2, 4] 4, fq 20 (1/1000) 10 (1/10)] }, d, none⟩
  | .trackerStatus d => some ⟨{ op := 0x93, tgt := .none, need := .owner, gives := true }, d, (some 32)⟩
  | .eventLog d => some ⟨{ op := 0x95, tgt := .none, need := .owner, gives := true, lay := [fu16 16 1 1024] }, d, (some (32 * d.u16 16))⟩
  | .freeze d => some ⟨{ op := 0x96, tgt := .none, need := .owner }, d, none⟩
  | .eventStatus d => some ⟨{ op := 0x9F, tgt := .none, need := .all, gives := true }, d, none⟩
  | .firnSync d => some ⟨storInfo 0xA0 .users [], d, none⟩
  | .firnLoad d _ => some ⟨{ storInfo 0xA1 .owner [fu32 16 1024 4194304] with audit := true }, d, (some (d.u32 16))⟩
  | .firnErase d _ => some ⟨storInfo 0xA2 .owner [], d, (if s.sec.certified then some 96 else none)⟩
  | .firnExport d => some ⟨{ storInfo 0xA3 .owner [{ off := 16, ty := .u32 }] with gives := true }, d, (some (d.u32 16))⟩
  | .moraineConfig d => some ⟨{ op := 0xA4, tgt := .part, need := .part, lease := true, conf := true, lay := layMoraine }, d, none⟩
  | .moraineTrigger d => some ⟨{ op := 0xA5, tgt := .part, need := .part, lease := true }, d, none⟩
  | .moraineList d => some ⟨{ storInfo 0xA6 .anyRead [{ off := 16, ty := .u32 }, fu16 20 1 768] with gives := true }, d, (some (32 * d.u16 20))⟩
  | .moraineRead d => some ⟨{ storInfo 0xA7 .anyRead [{ off := 16, ty := .u32 }, { off := 20, ty := .u32 }, { off := 24, ty := .u32 }] with gives := true }, d, (some (d.u32 24))⟩
  | .moraineProtect d => some ⟨storInfo 0xA8 .anyRead [{ off := 16, ty := .u32 }, fu8 20 0 1], d, none⟩
  | .auditRead d => some ⟨{ storInfo 0xA9 .auditor [{ off := 16, ty := .u64 }, fu16 24 1 1024] with gives := true }, d, (some (112 * d.u16 24))⟩
  | .userWrite d => some ⟨storInfo 0xAA .users (layBlob ++ [{ off := 20, ty := .u32 }]), d, (some (d.u32 20))⟩
  | .userRead d => some ⟨{ storInfo 0xAB .users layBlob with gives := true }, d, ((s.blob d.page (d.u8 16)).map fun b => b.bytes.length)⟩
  | .userDelete d => some ⟨storInfo 0xAC .users layBlob, d, none⟩
  | .storFormat d _ => some ⟨storInfo 0xAD .owner [], d, (if s.sec.certified then some 96 else none)⟩
  | .storStatus d => some ⟨{ storInfo 0xAF .all [] with gives := true }, d, none⟩
  | .standbyConfig d => some ⟨{ nodeInfo 0xB0 .owner layStandby with kept := true }, d, none⟩
  | .fabCalConfig d => some ⟨{ nodeInfo 0xB1 .owner layCal with kept := true }, d, none⟩
  | .takeover d _ => some ⟨nodeInfo 0xB2 .owner [], d, none⟩
  | .shareSubConfig d => some ⟨{ nodeInfo 0xB3 (.fabric 2) laySubs with kept := true }, d, none⟩
  | .sharePublish d => some ⟨nodeInfo 0xB4 (.fabric 2) layPublish, d, none⟩
  | .fabSend d => some ⟨nodeInfo 0xB5 (.fabric 4) layFabSend, d, (some (d.u32 20))⟩
  | .fabRecv d => some ⟨{ nodeInfo 0xB6 (.fabric 4) layFabRecv with gives := true }, d, (some (d.u32 20))⟩
  | .fabTrace d _ => some ⟨{ nodeInfo 0xB7 .anyFabric layTrace with gives := true }, d, none⟩
  | .fabTopology d => some ⟨{ nodeInfo 0xB8 .anyFabric [] with gives := true }, d, (some (24 * s.knownNodes.length))⟩
  | .fabStatus d => some ⟨{ nodeInfo 0xBF .anyFabric [] with gives := true }, d, none⟩
  | .canConfig d => some ⟨{ canInfo 0xC0 layCan with kept := true }, d, none⟩
  | .canRateConfig d => some ⟨{ canInfo 0xC1 [fu8 16 1 8] with kept := true }, d, (some (8 * d.u8 16))⟩
  | .canDetect d => some ⟨{ canInfo 0xC2 [fq 16 (1/100) 10, fu8 20 1 16] with gives := true }, d, none⟩
  | .canRxPost d => some ⟨{ canInfo 0xC3 [fu16 16 1 4096] with gives := true }, d, (some (80 * d.u16 16))⟩
  | .canTx d _ => some ⟨{ canInfo 0xC4 layTx with gives := true }, d, (if d.buffer = 0xFFFFFFFF then none else some 80)⟩
  | .canTxAbort d _ => some ⟨canInfo 0xC5 [fmask 16 .u8 7], d, none⟩
  | .canStatus d => some ⟨{ canInfo 0xC7 [] with gives := true }, d, none⟩
  | .tenantCreate d => some ⟨{ tenInfo 0xC8 .tenant [fu8 16 1 4] with kept := true, gives := true }, d, none⟩
  | .tenantBind d => some ⟨{ tenInfo 0xC9 .tenant layBind with kept := true }, d, none⟩
  | .tenantRetire d => some ⟨{ tenInfo 0xCA .tenant [] with kept := true }, d, none⟩
  | .slotSchedule d => some ⟨{ tenInfo 0xCB .none [] with kept := true }, d, (some 128)⟩
  | .secCtrlEnter d _ => some ⟨{ tenInfo 0xCC .none laySec with kept := true }, d, (some sigBytes)⟩
  | .secCtrlLeave d _ => some ⟨{ tenInfo 0xCC .none laySec with kept := true }, d, (some sigBytes)⟩
  | .secCtrlConsent d => some ⟨{ op := 0xCC, tgt := .tenantOrNone, need := .self, kept := true, audit := true, lay := laySec }, d, none⟩
  | .secCtrlEnrolKey d _ => some ⟨tenInfo 0xCC .none laySec, d, (some d.host.length)⟩
  | .secCtrlRevokeKey d _ => some ⟨tenInfo 0xCC .none laySec, d, (some sigBytes)⟩
  | .fwUpdate d _ _ _ => some ⟨tenInfo 0xCD .none [fu32 16 4096 16777216], d, (some (d.u32 16))⟩
  | .attest d => some ⟨{ op := 0xCE, tgt := .none, need := .all, gives := true, lay := (List.range 6).map fun k => { off := 16 + 8 * k, ty := .u64 } }, d, (some 304)⟩
  | .tenantStatus d => some ⟨{ op := 0xCF, tgt := .tenant, need := .ownStatus, gives := true }, d, none⟩
  | .testEccInject d => some ⟨testInfo 0xF0 .none layEcc, d, none⟩
  | .testWdogStop d => some ⟨testInfo 0xF1 .region [], d, none⟩
  | .testLinkSilence d => some ⟨testInfo 0xF2 .lane [fu16 16 1 1000], d, none⟩
  | .testLinkSilenceEnd _ _ => none
  | .sqTail _ _ _ _ _ => none
  | .descriptorFetch _ _ _ _ => none
  | .cqHead _ _ _ _ => none
  | .eqHead _ _ _ _ => none
  | .urgentStage _ _ _ _ => none
  | .urgentCommit _ _ _ _ => none
  | .ringEnable _ _ => none
  | .ringDisable _ _ => none
  | .irqHoldoffExpiry _ _ _ => none
  | .pcieLinkLoss _ => none
  | .coalesceWindowEnd _ _ _ _ => none
  | .shedCount _ _ _ _ _ => none
  | .telemSample _ _ _ _ => none
  | .certifiedSlotStart _ => none
  | .bulkWait _ _ => none
  | .cellCycleStart _ _ _ _ _ _ _ => none
  | .upFrameReceived _ _ _ _ _ => none
  | .alarmSReceived _ _ _ => none
  | .alarmUReceived _ _ _ => none
  | .upFrameWindowEnd _ _ => none
  | .computeWindowStart _ _ => none
  | .armPlacement _ _ _ => none
  | .currentLoopStep _ _ _ _ _ _ => none
  | .downFrameWindowStart _ _ => none
  | .speedStep _ _ _ _ _ _ _ _ => none
  | .migration _ _ => none
  | .machineCoreSelftest _ _ _ _ => none
  | .prechargePassiveDone _ _ => none
  | .prechargeComplete _ _ => none
  | .prechargeTimeout _ _ => none
  | .disableComplete _ _ => none
  | .readyFloorExpiry _ _ => none
  | .readmitTimeout _ _ => none
  | .selftestTimeout _ _ => none
  | .laneLockAcquired _ _ => none
  | .linkDown _ _ => none
  | .linkRetryExpiry _ _ => none
  | .linkSearchInterval _ _ => none
  | .trainingTimeout _ _ => none
  | .tripinAssert _ _ => none
  | .fastWindowCross _ _ _ => none
  | .remoteTripReceived _ _ _ _ => none
  | .tripNetDisagree _ _ => none
  | .stoAssert _ _ _ => none
  | .stoRelease _ _ => none
  | .ss1Request _ _ _ => none
  | .ss1Timeout _ _ => none
  | .stoDiscrepancy _ _ _ _ _ => none
  | .supervisorWatchdogExpiry _ _ => none
  | .hostCoreWatchdogExpiry _ => none
  | .scrubWord _ _ _ _ _ => none
  | .timeBaseFailure _ => none
  | .failRestart _ => none
  | .setpointTimeout _ _ => none
  | .exciterReady _ _ => none
  | .exciterEnableTimeout _ _ => none
  | .exciterFault _ _ => none
  | .earthCurrent _ _ => none
  | .positionLost _ _ => none
  | .pllLocked _ _ => none
  | .pllLost _ _ => none
  | .currentSaturationAlarm _ _ => none
  | .observerDivergence _ _ => none
  | .partnerLost _ _ => none
  | .tandemMessageReceived _ _ _ _ _ _ _ _ _ _ _ => none
  | .tandemMasterLost _ _ _ _ => none
  | .yieldHoldReached _ _ => none
  | .yieldTimeout _ _ => none
  | .curveInputLost _ _ => none
  | .heaveSampleReceived _ _ _ _ _ _ => none
  | .hardLimitActive _ _ _ => none
  | .hardLimitInactive _ _ _ => none
  | .indexPulse _ _ _ => none
  | .indexMissing _ _ _ => none
  | .resolverSample _ _ _ _ => none
  | .bissRequest _ _ => none
  | .bissFrameEnd _ _ _ _ _ _ _ => none
  | .zeroVoltagePulseEnd _ _ _ _ _ => none
  | .standstillHoldEnd _ _ => none
  | .openLoopBlendEnd _ _ => none
  | .allocRoundPublish _ _ _ _ _ _ => none
  | .roundRecordReceived _ _ => none
  | .allocRoundCompute _ _ => none
  | .grantApply _ _ => none
  | .supplyStale _ _ => none
  | .breakerInputActive _ _ => none
  | .busCollapseDetected _ _ _ => none
  | .calvingEventReceived _ _ _ _ _ => none
  | .reserveRequestReceived _ _ _ _ _ => none
  | .reserveRetry _ _ => none
  | .reserveTimeout _ _ => none
  | .scBrakingOrder _ _ => none
  | .scBrakingEnd _ _ => none
  | .scArmsAlternate _ _ => none
  | .estopStandstill _ _ => none
  | .brakeSetHoldEnd _ _ => none
  | .brakeRelease _ _ => none
  | .brakeReleaseHoldEnd _ _ => none
  | .quickReleaseEnd _ _ => none
  | .rideThroughResyncDone _ _ => none
  | .rideThroughDelayEnd _ _ => none
  | .rideThroughExpiry _ _ => none
  | .thermalEvaluation _ _ _ _ => none
  | .sensorFailed _ _ _ => none
  | .thermalLevelRise _ _ _ => none
  | .bldcCheckEnd _ _ _ _ => none
  | .bldcCheckWaitTimeout _ _ => none
  | .bldcAlignEnd _ _ => none
  | .bldcZeroCrossing _ _ _ => none
  | .bldcCommutation _ _ => none
  | .bldcRampEnd _ _ => none
  | .bldcStartRetry _ _ => none
  | .bldcPeakComparator _ _ _ => none
  | .auxOuterLoop _ _ => none
  | .scHoldEnd _ _ => none
  | .stepTimer _ _ _ => none
  | .stepInputEdge _ _ _ => none
  | .stepperStandstill _ _ => none
  | .switchComparatorAssert _ _ _ => none
  | .switchInrushEnd _ _ => none
  | .switchPullEnd _ _ => none
  | .sagGroupActive _ _ _ => none
  | .sagGroupInactive _ _ _ => none
  | .auxDiagStep _ _ _ => none
  | .fabPortUp _ _ _ _ _ => none
  | .fabPortDown _ _ => none
  | .fabFrameReceived _ _ _ _ => none
  | .fabRetransmit _ _ _ => none
  | .controlResend _ _ _ => none
  | .linkStateFlood _ => none
  | .linkStateReceived _ _ => none
  | .nodeFailed _ _ _ => none
  | .timeExchange _ _ _ _ _ _ => none
  | .holdoverTimeout _ => none
  | .ppsInEdge _ => none
  | .mirrorRecordReceived _ _ => none
  | .mirrorTimeout _ => none
  | .standbyTakeover _ _ _ => none
  | .deposed _ _ => none
  | .canFrameReceived _ _ _ => none
  | .canRxFlush _ _ => none
  | .canTxAttemptEnd _ _ _ _ => none
  | .canBusOn _ _ => none
  | .canTxHoldoffEnd _ _ => none
  | .canDetectDwellEnd _ _ => none
  | .firnCommitDone _ _ _ => none
  | .auditCommit _ => none
  | .auditCheckpoint _ => none
  | .retentionScrubPass _ _ _ _ _ => none
  | .morainePostWindowEnd _ _ => none
  | .moraineFlush _ _ => none
  | .pfailNFall _ => none
  | .pfailSequenceEnd _ _ _ => none
  | .pfailNRestored _ => none
  | .railFault _ _ _ => none
  | .porstNLow _ => none
  | .boot _ _ => none
  | .warmReset _ _ => none
  | .rstCtrlWarm _ _ => none
  | .rstCtrlShutdown _ _ => none
  | .freezeNLow _ => none
  | .freezeStep2End _ => none
  | .freezeReadout _ _ _ => none
  | .tapFrzData _ _ _ => none
  | .frzThaw _ _ _ => none
  | .avsGoalUpdate _ => none
  | .avsVoltageWrite _ _ => none
  | .mclkDivWrite _ _ _ => none
  | .mclkRelockEnd _ _ => none
  | .sdCfgWrite _ _ => none
  | .sdStuck _ _ => none
  | .regHoldClear _ _ => none
  | .tripLock _ _ => none
  | .blockLock _ _ _ => none
  | .pcieErrClear _ _ => none
  | .dbgTapFull _ _ => none
  | .mbReadCertificate _ => none
  | .mbWriteRecoveryChunk _ => none
  | .mbFinishRecoveryImage _ _ _ _ => none
  | .devTimeLoRead _ => none
  | .registerWrite _ _ _ => none
  | .hostDmaCompletion _ _ _ _ _ => none
  | .storageOperationDone _ _ _ _ _ => none
  | .pcieLinkUp _ _ => none
  | .canBusError _ _ _ => none
  | .stepperChopComparator _ _ _ => none
  | .encIllegalTransition _ _ => none
  | .retrainSilenceEnd _ _ => none
  | .tripinRelease _ _ => none
  | .fabSendTimeout _ _ _ _ => none

/-- The state once a host core has accepted a descriptor (R322). -/
def State.taken (s : State) (o : Order) : State := ((s.at o.d.t).accept o.info.op o.d).1

/-- The entry of a descriptor in its tenant's list of accepted ones, its work not begun. -/
def Order.entry (o : Order) : Acc :=
  { series := o.d.series, seq := o.d.seq, op := o.info.op, flags := o.d.flags, target := o.d.target }

/-- A descriptor is accepted and its checks begin: the device serves its tenant (R319), accepts it (R322), and nothing holds it back
(R320, R330, R333). -/
def State.begins (s : State) (o : Order) : Bool :=
  s.serving o.d && ((s.at o.d.t).accept o.info.op o.d).2 &&
    decide (((s.taken o).page o.d.page).find o.d.series o.d.seq = some o.entry) && !((s.taken o).page o.d.page).heldBack o.d

/-- A descriptor is taken and executed: every check of Table 6 passes (R321), an audit entry and a Firn record have their room where it
needs them (R357, R371), and its host buffer answers (R338). -/
def State.takes (s : State) (o : Order) : Bool :=
  let u := s.taken o
  s.begins o && decide (u.checks o.info o.d o.buf = 0) &&
    !(o.info.audit && decide (256 ≤ u.sec.staged.length)) && !(o.info.kept && u.stor.firnRo) &&
    !(o.info.kept && u.stor.keeps && decide (u.stor.pendLimit < u.stor.pendBytes + 24 + o.d.payload.length + o.d.host.length)) &&
    !(o.buf.isSome && !o.d.dmaOk)

/-- A descriptor is accepted, and a check of Table 6 fails with a status (R321). -/
def State.turnsAway (s : State) (o : Order) (status : Nat) : Bool :=
  s.begins o && decide ((s.taken o).checks o.info o.d o.buf = status) && decide (status ≠ 0)

/-- The completion record of a descriptor (Table 7 of R324). -/
def Order.record (o : Order) (status : Nat) (result : List Byte) : CRec :=
  { seq := o.d.seq, status := status, op := o.info.op, flags := o.d.flags % 16, series := o.d.series, result := result }

/-- The completion records of a tenant: written and not acknowledged, or held while its completion ring is off (R318, R324). -/
def Page.records (p : Page) : List CRec := p.retained ++ p.held

/-- A descriptor's completion record stands in its tenant's completion ring, or is held for it. -/
def State.completed (s : State) (o : Order) (status : Nat) (result : List Byte) : Prop :=
  o.record status result ∈ (s.page o.d.page).records

/-- A write into a descriptor's host buffer has been handed to the DMA engine (R317, R343). -/
def State.wrote (s : State) (o : Order) (bytes : List Byte) : Prop :=
  ∃ p ∈ s.outbox ++ s.waitbox, p.kind = .buffer ∧ p.page = o.d.page ∧ p.addr = (s.tenant o.d.page).winBase + o.d.buffer ∧ p.bytes = bytes

/-! ### Commands -/

/-- A command is a descriptor that is taken and executed; u is the state once it is accepted. -/
def Taken (i : Instr) (s u : State) : Prop := ∃ o, s.orderOf i = some o ∧ s.takes o = true ∧ u = s.taken o

/-- A command answers a next state that is e but for the host side. -/
def Gives (i : Instr) (s e : State) : Prop := ∃ t, exec i s = .next t ∧ t.drive = e.drive

/-- A command answers a next state that is e but for the host side, in which a partition stands in a state. -/
def Enters (i : Instr) (s e : State) (p : Nat) (x : PState) : Prop :=
  ∃ t, exec i s = .next t ∧ t.drive = e.drive ∧ (t.part p).st = x

/-- A command answers a next state that is e but for the host side, and has completed with `OK` and a result. -/
def Answers (i : Instr) (s e : State) (result : List Byte) : Prop :=
  ∃ t o, s.orderOf i = some o ∧ exec i s = .next t ∧ t.drive = e.drive ∧ t.completed o 0 result

/-- A command answers a next state that is e but for the host side, and has issued the bytes to its host buffer. -/
def Writes (i : Instr) (s e : State) (bytes : List Byte) : Prop :=
  ∃ t o, s.orderOf i = some o ∧ exec i s = .next t ∧ t.drive = e.drive ∧ t.wrote o bytes

/-- How a retained descriptor that is taken is answered (R371, R372): without a medium it completes with `OK`; with one, a record of
configuration with its key, its sender and its bytes is staged, and it completes once that record is committed. -/
def Retains (i : Instr) (s u : State) (op kc : Nat) : Prop :=
  ∃ t o, s.orderOf i = some o ∧ exec i s = .next t ∧ (u.stor.keeps = false → t.completed o 0 []) ∧
    (u.stor.keeps = true → ∃ r ∈ t.stor.pend, r.kind = 1 ∧ r.keyA = op ∧ r.keyB = o.d.target ∧ r.keyC = kc ∧ r.tenant = o.d.page ∧
      r.body = o.d.payload ++ o.d.host)

end Sys2Proof.Machine
end

