-- ==== Sys2Proof/WellFormed.lean ====
section
/-!
DEFINITION. Well-formed commands: a descriptor's fields fit their places in its 64 bytes (R320), and an event names an element that
the chip has (R5, R41, R263, R274, R300, R412).
-/
namespace Sys2Proof

/-- A descriptor's fields fit Table 5 of R320; its page and series exist. -/
def Desc.wf (d : Desc) : Bool :=
  decide (d.page < 1024) && decide (d.series < 5) && decide (d.seq < 2 ^ 32) && decide (d.flags < 256) && decide (d.target < 65536) &&
    decide (d.tenant < 65536) && decide (d.epoch < 65536) && decide (d.buffer < 2 ^ 32) && decide (d.payload.length = 48) &&
    decide (d.t < 2 ^ 64)

/-- A device time fits its 64 bits (R9). -/
def timeOk (t : Time) : Bool := decide (t < 2 ^ 64)

/-- Temperature sites of a class: 64 on the die, two of each of 1,024 cells, four coolant sensors of each of 8 partitions (R300). -/
def siteCount (cls : Nat) : Nat := if cls = 0 then 64 else if cls = 1 then 2048 else 32

/-- A command that can reach the block. -/
def Instr.wf (i : Instr) : Bool :=
  match i with
  | .nop d => d.wf
  | .cancel d => d.wf
  | .fence d => d.wf
  | .leaseAcquire d => d.wf
  | .leaseRelease d => d.wf
  | .leaseTransfer d => d.wf
  | .leaseRevoke d => d.wf
  | .leaseQuery d => d.wf
  | .leaseTimeout t _ _ _ => timeOk t
  | .partConfig d => d.wf
  | .armConfig d => d.wf
  | .laneAssign d => d.wf
  | .partCommit d => d.wf
  | .partRelease d => d.wf
  | .prechargeConfig d => d.wf
  | .cellPolicy d => d.wf
  | .precharge d _ => d.wf
  | .enable d => d.wf
  | .disable d => d.wf
  | .block d => d.wf
  | .tripReset d => d.wf
  | .cellBypass d => d.wf
  | .cellAdmit d => d.wf
  | .partStatus d => d.wf
  | .cellStatus d => d.wf
  | .modConfig d => d.wf
  | .edgeConfig d => d.wf
  | .balanceConfig d => d.wf
  | .circConfig d => d.wf
  | .armSense d => d.wf
  | .shareConfig d => d.wf
  | .modLimit d => d.wf
  | .modStatus d => d.wf
  | .machConfig d => d.wf
  | .machParams d => d.wf
  | .currentConfig d => d.wf
  | .observerConfig d => d.wf
  | .speedConfig d => d.wf
  | .limits d => d.wf
  | .fieldConfig d => d.wf
  | .supplyConfig d => d.wf
  | .setpoint d => d.wf
  | .supplySetpoint d => d.wf
  | .exciterConfig d => d.wf
  | .coreMigrate d => d.wf
  | .machStatus d => d.wf
  | .refSource d => d.wf
  | .curveLoad d => d.wf
  | .curveInput d => d.wf
  | .shockConfig d => d.wf
  | .drumConfig d => d.wf
  | .drumSet d => d.wf
  | .profileLimits d => d.wf
  | .profileMove d => d.wf
  | .profileStop d => d.wf
  | .vlimitConfig d => d.wf
  | .tension d => d.wf
  | .heaveConfig d => d.wf
  | .heaveRef d => d.wf
  | .motionStatus d => d.wf
  | .fbConfig d => d.wf
  | .encConfig d => d.wf
  | .resConfig d => d.wf
  | .bissConfig d => d.wf
  | .sensorlessConfig d => d.wf
  | .restartConfig d => d.wf
  | .limitConfig d => d.wf
  | .fbStatus d => d.wf
  | .thermConfig d => d.wf
  | .coolantConfig d => d.wf
  | .thermGroups d => d.wf
  | .thermSensorReset d => d.wf
  | .thermStatus d => d.wf
  | .tandemConfig d => d.wf
  | .tandemRatio d => d.wf
  | .tandemMaster d => d.wf
  | .consumerConfig d => d.wf
  | .demandLimit d => d.wf
  | .supplyRecord d => d.wf
  | .calveConfig d => d.wf
  | .calve d => d.wf
  | .calveClear d => d.wf
  | .interleaveConfig d => d.wf
  | .plantReserve d => d.wf
  | .plantRelease d => d.wf
  | .plantStatus d => d.wf
  | .brakeConfig d => d.wf
  | .emergConfig d => d.wf
  | .rideConfig d => d.wf
  | .limp d => d.wf
  | .crashStopStart d => d.wf
  | .crashStopEnd d => d.wf
  | .estopControlled d => d.wf
  | .estopShortCircuit d => d.wf
  | .winchEmergEndRender d => d.wf
  | .winchEmergRender d => d.wf
  | .winchEmergQuickRelease d => d.wf
  | .brakeStatus d => d.wf
  | .protConfig d => d.wf
  | .tripLink d => d.wf
  | .protSelftest d => d.wf
  | .protSelftestDone t p _ => timeOk t && decide (p < 8)
  | .protTrip d => d.wf
  | .protRecord d => d.wf
  | .regionRestart d _ => d.wf
  | .protStatus d => d.wf
  | .linkConfig d => d.wf
  | .linkRetrain d => d.wf
  | .linkStatus d => d.wf
  | .auxMode d => d.wf
  | .bldcConfig d => d.wf
  | .bldcCurve d => d.wf
  | .stepConfig d => d.wf
  | .stepSource d => d.wf
  | .switchConfig d => d.wf
  | .sagConfig d => d.wf
  | .auxDiag d => d.wf
  | .auxRunStart d => d.wf
  | .auxRunStop d => d.wf
  | .auxInput d => d.wf
  | .auxReset d => d.wf
  | .auxStatus d => d.wf
  | .telemSub d => d.wf
  | .telemUnsub d => d.wf
  | .eventConfig d => d.wf
  | .trackerStatus d => d.wf
  | .eventLog d => d.wf
  | .freeze d => d.wf
  | .eventStatus d => d.wf
  | .firnSync d => d.wf
  | .firnLoad d _ => d.wf
  | .firnErase d _ => d.wf
  | .firnExport d => d.wf
  | .moraineConfig d => d.wf
  | .moraineTrigger d => d.wf
  | .moraineList d => d.wf
  | .moraineRead d => d.wf
  | .moraineProtect d => d.wf
  | .auditRead d => d.wf
  | .userWrite d => d.wf
  | .userRead d => d.wf
  | .userDelete d => d.wf
  | .storFormat d _ => d.wf
  | .storStatus d => d.wf
  | .standbyConfig d => d.wf
  | .fabCalConfig d => d.wf
  | .takeover d _ => d.wf
  | .shareSubConfig d => d.wf
  | .sharePublish d => d.wf
  | .fabSend d => d.wf
  | .fabRecv d => d.wf
  | .fabTrace d _ => d.wf
  | .fabTopology d => d.wf
  | .fabStatus d => d.wf
  | .canConfig d => d.wf
  | .canRateConfig d => d.wf
  | .canDetect d => d.wf
  | .canRxPost d => d.wf
  | .canTx d _ => d.wf
  | .canTxAbort d _ => d.wf
  | .canStatus d => d.wf
  | .tenantCreate d => d.wf
  | .tenantBind d => d.wf
  | .tenantRetire d => d.wf
  | .slotSchedule d => d.wf
  | .secCtrlEnter d _ => d.wf
  | .secCtrlLeave d _ => d.wf
  | .secCtrlConsent d => d.wf
  | .secCtrlEnrolKey d _ => d.wf
  | .secCtrlRevokeKey d _ => d.wf
  | .fwUpdate d _ _ _ => d.wf
  | .attest d => d.wf
  | .tenantStatus d => d.wf
  | .testEccInject d => d.wf
  | .testWdogStop d => d.wf
  | .testLinkSilence d => d.wf
  | .testLinkSilenceEnd t lane => timeOk t && decide (lane < 1024)
  | .sqTail t page _ _ _ => timeOk t && decide (page < 1024)
  | .descriptorFetch t page _ _ => timeOk t && decide (page < 1024)
  | .cqHead t page _ _ => timeOk t && decide (page < 1024)
  | .eqHead t page _ _ => timeOk t && decide (page < 1024)
  | .urgentStage t page _ _ => timeOk t && decide (page < 1024)
  | .urgentCommit t page _ _ => timeOk t && decide (page < 1024)
  | .ringEnable t _ => timeOk t
  | .ringDisable t _ => timeOk t
  | .irqHoldoffExpiry t page _ => timeOk t && decide (page < 1024)
  | .pcieLinkLoss t => timeOk t
  | .coalesceWindowEnd t page _ _ => timeOk t && decide (page < 1024)
  | .shedCount t page _ _ _ => timeOk t && decide (page < 1024)
  | .telemSample t page _ _ => timeOk t && decide (page < 1024)
  | .certifiedSlotStart t => timeOk t
  | .bulkWait t r => timeOk t && decide (r < 8)
  | .cellCycleStart t p _ _ _ _ _ => timeOk t && decide (p < 8)
  | .upFrameReceived t lane _ _ _ => timeOk t && decide (lane < 1024)
  | .alarmSReceived t lane _ => timeOk t && decide (lane < 1024)
  | .alarmUReceived t lane _ => timeOk t && decide (lane < 1024)
  | .upFrameWindowEnd t p => timeOk t && decide (p < 8)
  | .computeWindowStart t p => timeOk t && decide (p < 8)
  | .armPlacement t p _ => timeOk t && decide (p < 8)
  | .currentLoopStep t p _ _ _ _ => timeOk t && decide (p < 8)
  | .downFrameWindowStart t p => timeOk t && decide (p < 8)
  | .speedStep t p _ _ _ _ _ _ => timeOk t && decide (p < 8)
  | .migration t p => timeOk t && decide (p < 8)
  | .machineCoreSelftest t p _ _ => timeOk t && decide (p < 8)
  | .prechargePassiveDone t p => timeOk t && decide (p < 8)
  | .prechargeComplete t p => timeOk t && decide (p < 8)
  | .prechargeTimeout t p => timeOk t && decide (p < 8)
  | .disableComplete t p => timeOk t && decide (p < 8)
  | .readyFloorExpiry t p => timeOk t && decide (p < 8)
  | .readmitTimeout t lane => timeOk t && decide (lane < 1024)
  | .selftestTimeout t lane => timeOk t && decide (lane < 1024)
  | .laneLockAcquired t lane => timeOk t && decide (lane < 1024)
  | .linkDown t lane => timeOk t && decide (lane < 1024)
  | .linkRetryExpiry t lane => timeOk t && decide (lane < 1024)
  | .linkSearchInterval t lane => timeOk t && decide (lane < 1024)
  | .trainingTimeout t lane => timeOk t && decide (lane < 1024)
  | .tripinAssert t i => timeOk t && decide (i < 4)
  | .fastWindowCross t d _ => timeOk t && decide (d < 128)
  | .remoteTripReceived t _ _ _ => timeOk t
  | .tripNetDisagree t _ => timeOk t
  | .stoAssert t group _ => timeOk t && decide (group < 2)
  | .stoRelease t group => timeOk t && decide (group < 2)
  | .ss1Request t group _ => timeOk t && decide (group < 2)
  | .ss1Timeout t p => timeOk t && decide (p < 8)
  | .stoDiscrepancy t group _ _ _ => timeOk t && decide (group < 2)
  | .supervisorWatchdogExpiry t r => timeOk t && decide (r < 8)
  | .hostCoreWatchdogExpiry t => timeOk t
  | .scrubWord t _ _ _ _ => timeOk t
  | .timeBaseFailure t => timeOk t
  | .failRestart t => timeOk t
  | .setpointTimeout t p => timeOk t && decide (p < 8)
  | .exciterReady t p => timeOk t && decide (p < 8)
  | .exciterEnableTimeout t p => timeOk t && decide (p < 8)
  | .exciterFault t p => timeOk t && decide (p < 8)
  | .earthCurrent t p => timeOk t && decide (p < 8)
  | .positionLost t p => timeOk t && decide (p < 8)
  | .pllLocked t p => timeOk t && decide (p < 8)
  | .pllLost t p => timeOk t && decide (p < 8)
  | .currentSaturationAlarm t p => timeOk t && decide (p < 8)
  | .observerDivergence t p => timeOk t && decide (p < 8)
  | .partnerLost t p => timeOk t && decide (p < 8)
  | .tandemMessageReceived t p _ _ _ _ _ _ _ _ _ => timeOk t && decide (p < 8)
  | .tandemMasterLost t p _ _ => timeOk t && decide (p < 8)
  | .yieldHoldReached t p => timeOk t && decide (p < 8)
  | .yieldTimeout t p => timeOk t && decide (p < 8)
  | .curveInputLost t p => timeOk t && decide (p < 8)
  | .heaveSampleReceived t p _ _ _ _ => timeOk t && decide (p < 8)
  | .hardLimitActive t p _ => timeOk t && decide (p < 8)
  | .hardLimitInactive t p _ => timeOk t && decide (p < 8)
  | .indexPulse t e _ => timeOk t && decide (e < 8)
  | .indexMissing t e _ => timeOk t && decide (e < 8)
  | .resolverSample t e _ _ => timeOk t && decide (e < 8)
  | .bissRequest t e => timeOk t && decide (e < 8)
  | .bissFrameEnd t e _ _ _ _ _ => timeOk t && decide (e < 8)
  | .zeroVoltagePulseEnd t p _ _ _ => timeOk t && decide (p < 8)
  | .standstillHoldEnd t p => timeOk t && decide (p < 8)
  | .openLoopBlendEnd t p => timeOk t && decide (p < 8)
  | .allocRoundPublish t _ _ _ _ _ => timeOk t
  | .roundRecordReceived t _ => timeOk t
  | .allocRoundCompute t _ => timeOk t
  | .grantApply t _ => timeOk t
  | .supplyStale t sec => timeOk t && decide (sec < 8)
  | .breakerInputActive t k => timeOk t && decide (k < 4)
  | .busCollapseDetected t p _ => timeOk t && decide (p < 8)
  | .calvingEventReceived t _ _ _ _ => timeOk t
  | .reserveRequestReceived t _ _ part _ => timeOk t && decide (part < 8)
  | .reserveRetry t _ => timeOk t
  | .reserveTimeout t _ => timeOk t
  | .scBrakingOrder t p => timeOk t && decide (p < 8)
  | .scBrakingEnd t p => timeOk t && decide (p < 8)
  | .scArmsAlternate t p => timeOk t && decide (p < 8)
  | .estopStandstill t p => timeOk t && decide (p < 8)
  | .brakeSetHoldEnd t p => timeOk t && decide (p < 8)
  | .brakeRelease t p => timeOk t && decide (p < 8)
  | .brakeReleaseHoldEnd t p => timeOk t && decide (p < 8)
  | .quickReleaseEnd t p => timeOk t && decide (p < 8)
  | .rideThroughResyncDone t p => timeOk t && decide (p < 8)
  | .rideThroughDelayEnd t p => timeOk t && decide (p < 8)
  | .rideThroughExpiry t p => timeOk t && decide (p < 8)
  | .thermalEvaluation t r _ _ => timeOk t && decide (r < 8)
  | .sensorFailed t cls idx => timeOk t && decide (cls < 3) && decide (idx < siteCount cls)
  | .thermalLevelRise t cls idx => timeOk t && decide (cls < 3) && decide (idx < siteCount cls)
  | .bldcCheckEnd t m _ _ => timeOk t && decide (m < 16)
  | .bldcCheckWaitTimeout t m => timeOk t && decide (m < 16)
  | .bldcAlignEnd t m => timeOk t && decide (m < 16)
  | .bldcZeroCrossing t m _ => timeOk t && decide (m < 16)
  | .bldcCommutation t m => timeOk t && decide (m < 16)
  | .bldcRampEnd t m => timeOk t && decide (m < 16)
  | .bldcStartRetry t m => timeOk t && decide (m < 16)
  | .bldcPeakComparator t m _ => timeOk t && decide (m < 16)
  | .auxOuterLoop t m => timeOk t && decide (m < 16)
  | .scHoldEnd t m => timeOk t && decide (m < 16)
  | .stepTimer t m _ => timeOk t && decide (m < 16)
  | .stepInputEdge t sw _ => timeOk t && decide (sw < 32)
  | .stepperStandstill t m => timeOk t && decide (m < 16)
  | .switchComparatorAssert t n _ => timeOk t && decide (n < 32)
  | .switchInrushEnd t n => timeOk t && decide (n < 32)
  | .switchPullEnd t n => timeOk t && decide (n < 32)
  | .sagGroupActive t region group => timeOk t && decide (region < 8) && decide (group < 4)
  | .sagGroupInactive t region group => timeOk t && decide (region < 8) && decide (group < 4)
  | .auxDiagStep t chan _ => timeOk t && decide (chan < 16 ∨ (0x20 ≤ chan ∧ chan < 0x40))
  | .fabPortUp t port _ _ _ => timeOk t && decide (port < 8)
  | .fabPortDown t port => timeOk t && decide (port < 8)
  | .fabFrameReceived t port _ _ => timeOk t && decide (port < 8)
  | .fabRetransmit t port _ => timeOk t && decide (port < 8)
  | .controlResend t _ _ => timeOk t
  | .linkStateFlood t => timeOk t
  | .linkStateReceived t _ => timeOk t
  | .nodeFailed t node _ => timeOk t && decide (node < 1024)
  | .timeExchange t port _ _ _ _ => timeOk t && decide (port < 8)
  | .holdoverTimeout t => timeOk t
  | .ppsInEdge t => timeOk t
  | .mirrorRecordReceived t _ => timeOk t
  | .mirrorTimeout t => timeOk t
  | .standbyTakeover t _ _ => timeOk t
  | .deposed t p => timeOk t && decide (p < 8)
  | .canFrameReceived t c _ => timeOk t && decide (c < 4)
  | .canRxFlush t c => timeOk t && decide (c < 4)
  | .canTxAttemptEnd t c _ _ => timeOk t && decide (c < 4)
  | .canBusOn t c => timeOk t && decide (c < 4)
  | .canTxHoldoffEnd t c => timeOk t && decide (c < 4)
  | .canDetectDwellEnd t c => timeOk t && decide (c < 4)
  | .firnCommitDone t _ _ => timeOk t
  | .auditCommit t => timeOk t
  | .auditCheckpoint t => timeOk t
  | .retentionScrubPass t _ _ _ _ => timeOk t
  | .morainePostWindowEnd t p => timeOk t && decide (p < 8)
  | .moraineFlush t _ => timeOk t
  | .pfailNFall t => timeOk t
  | .pfailSequenceEnd t _ _ => timeOk t
  | .pfailNRestored t => timeOk t
  | .railFault t rail _ => timeOk t && decide (rail < 6)
  | .porstNLow t => timeOk t
  | .boot t _ => timeOk t
  | .warmReset t _ => timeOk t
  | .rstCtrlWarm t _ => timeOk t
  | .rstCtrlShutdown t _ => timeOk t
  | .freezeNLow t => timeOk t
  | .freezeStep2End t => timeOk t
  | .freezeReadout t _ _ => timeOk t
  | .tapFrzData t _ _ => timeOk t
  | .frzThaw t _ _ => timeOk t
  | .avsGoalUpdate t => timeOk t
  | .avsVoltageWrite t _ => timeOk t
  | .mclkDivWrite t k _ => timeOk t && decide (k < 16)
  | .mclkRelockEnd t k => timeOk t && decide (k < 16)
  | .sdCfgWrite t _ => timeOk t
  | .sdStuck t k => timeOk t && decide (k < 128)
  | .regHoldClear t _ => timeOk t
  | .tripLock t _ => timeOk t
  | .blockLock t off _ => timeOk t && decide (off = 0xB020 ∨ off = 0xC010 ∨ off = 0xD07C)
  | .pcieErrClear t _ => timeOk t
  | .dbgTapFull t _ => timeOk t
  | .mbReadCertificate t => timeOk t
  | .mbWriteRecoveryChunk t => timeOk t
  | .mbFinishRecoveryImage t _ _ _ => timeOk t
  | .devTimeLoRead t => timeOk t
  | .registerWrite t off _ => timeOk t && decide (off < 65536 ∨ (0x3FF0000 ≤ off ∧ off < 0x3FF8000))
  | .hostDmaCompletion t _ page _ _ => timeOk t && decide (page < 1024)
  | .storageOperationDone t _ _ _ _ => timeOk t
  | .pcieLinkUp t _ => timeOk t
  | .canBusError t c _ => timeOk t && decide (c < 4)
  | .stepperChopComparator t m _ => timeOk t && decide (m < 16)
  | .encIllegalTransition t e => timeOk t && decide (e < 8)
  | .retrainSilenceEnd t lane => timeOk t && decide (lane < 1024)
  | .tripinRelease t i => timeOk t && decide (i < 4)
  | .fabSendTimeout t _ _ _ => timeOk t

end Sys2Proof
end

