-- ==== Sys2Proof/Certificates/Slice0/Obligations.lean ====
section
/-!
DEFINITION. Statements about the block: its queue, its stops, its descriptors, its events.
-/
open Sys2Proof Sys2Proof.Machine

/-! ### The queue, reset, and a chip that is stopped -/

/-- The command at the front of the queue is taken: a step is its meaning on the state with the queue's rest. -/
def Obligations.StepRunsTheFrontCommand : Prop :=
  ∀ (s : State) (c : Instr) (rest : List Instr), s.pending = c :: rest → step s = exec c (s.withRest rest)

/-- With no command waiting the block idles (log entry 100: the model's choice). -/
def Obligations.EmptyQueueIdles : Prop := ∀ s : State, s.pending = [] → step s = .next s

/-- The machine right after power-on reset: held, nothing waiting, device time 0, no partition, lease, cell, stored descriptor or stored
register, no record on its way to the host, and T0 active with the role of the owner (R339, R463, R475). -/
def Obligations.ResetState : Prop :=
  State.reset.stopped = true ∧ State.reset.power = .held ∧ State.reset.pending = [] ∧ State.reset.now = 0 ∧
    (∀ p, (State.reset.part p).st = .unconfigured ∧ (State.reset.lease p).holder = none) ∧
    (∀ l, (State.reset.cell l).used = false ∧ (State.reset.lane l).lstate = 0) ∧
    (∀ op target kc, State.reset.given op target kc = false) ∧ (∀ off idx, State.reset.regWord off idx = 0) ∧
    State.reset.outbox = [] ∧ (State.reset.tenant 0).active = true ∧ (State.reset.tenant 0).role = 0 ∧
    (∀ n, n ≠ 0 → (State.reset.tenant n).active = false)

/-- While the chip is stopped (held in reset, idle after a power failure, shut down, frozen), no command but a power-on reset, a boot, the
return of the supply or Thaw changes anything but pins, the supervisor's registers, the read-out and the PCIe endpoint; the chip stays
stopped as it was, and while it is held or frozen device time stands (R381, R429, R452, R470). -/
def Obligations.StoppedChipStandsStill : Prop :=
  ∀ (s t : State) (c : Instr) (rest : List Instr), s.pending = c :: rest → s.stopped = true → restarts c = false → step s = .next t →
    t.still = s.still ∧ t.power = s.power ∧ t.pending = rest ∧ ((s.power = .held ∨ s.power = .frozen) → t.now = s.now)

/-- Every command whose operands fit its places and name elements that the chip has answers a next state, in every state. -/
def Obligations.WellFormedCommandsRun : Prop := ∀ (i : Instr) (s : State), i.wf = true → ∃ t, exec i s = .next t

/-- No command is turned away without a meaning, and the one fault is a command that names an element the chip does not have. -/
def Obligations.OnlyMissingElementsFault : Prop :=
  ∀ (i : Instr) (s : State), (∀ r, exec i s ≠ .refused r) ∧ (∀ f, exec i s = .fault f → f = .noSuchElement ∧ i.wf = false)

/-- A descriptor that the device does not serve (it does not run, the tenant is not active, or in certified mode another slot runs) changes nothing
(R30, R319, R339, R350, R478). -/
def Obligations.UnservedDescriptorChangesNothing : Prop :=
  ∀ (i : Instr) (s : State) (o : Order), s.orderOf i = some o → s.serving o.d = false → exec i s = .next s

/-- A descriptor that is accepted and fails a check of Table 6 completes with that check's status and has no other effect (R321). -/
def Obligations.RefusedDescriptorHasNoEffect : Prop :=
  ∀ (i : Instr) (s : State) (o : Order) (st : Nat), s.orderOf i = some o → s.turnsAway o st = true →
    ∃ t, exec i s = .next t ∧ t.drive = (s.at o.d.t).drive ∧ t.completed o st []

/-- A sequence neither expected nor newer is answered with `SEQUENCE_STALE` (0x000A), and nothing else happens (R322). -/
def Obligations.OldSequenceIsStale : Prop :=
  ∀ (i : Instr) (s : State) (o : Order), s.orderOf i = some o → s.serving o.d = true →
    (s.page o.d.page).find o.d.series o.d.seq = none →
    (o.d.series < 4 → ((s.page o.d.page).ring o.d.series).enable = true ∧ (s.page o.d.page).window < 12) →
    (4 ≤ o.d.series → (s.page o.d.page).window < 16) →
    o.d.seq ≠ Tab.get (s.page o.d.page).expect 0 o.d.series → newer o.d.seq (Tab.get (s.page o.d.page).expect 0 o.d.series) = false →
    ∃ t, exec i s = .next t ∧ t.drive = (s.at o.d.t).drive ∧ t.completed o 0x000A []

/-! ### Descriptors that store configuration -/

/-- A configuration descriptor that is taken and passes the checks of R505 that its arrival makes stores its bytes 16 to 63 and its buffer data
under its opcode and target, and changes nothing else of the machine; for `CELL_POLICY` and `SPEED_CONFIG` the bytes before stay in force until the
next cycle or speed step (`State.lag`, which leaves the state alone for every other opcode). `PART_CONFIG` for a partition that is not UNCONFIGURED
also forms its bond and its arm engines anew. Commands shown to complete: those named here. Rules: R45, R47, R67, R68, R69, R79, R80, R87, R90,
R94, R107, R109, R113, R114, R120, R121, R122, R145, R152, R156, R172, R181, R182, R200, R213, R237, R240. -/
def Obligations.ConfigurationStored : Prop :=
  (∀ (d : Desc) (s u : State) (c : Instr × Nat),
    c ∈ [(Instr.prechargeConfig d, 0x15), (.cellPolicy d, 0x16), (.modConfig d, 0x20), (.edgeConfig d, 0x21),
      (.balanceConfig d, 0x22), (.circConfig d, 0x23), (.armSense d, 0x24), (.shareConfig d, 0x25), (.modLimit d, 0x26),
      (.machConfig d, 0x30), (.machParams d, 0x31), (.currentConfig d, 0x32), (.observerConfig d, 0x33), (.speedConfig d, 0x34),
      (.limits d, 0x35), (.fieldConfig d, 0x36), (.supplyConfig d, 0x37), (.shockConfig d, 0x43), (.encConfig d, 0x51),
      (.resConfig d, 0x52), (.restartConfig d, 0x55), (.consumerConfig d, 0x63), (.demandLimit d, 0x64),
      (.brakeConfig d, 0x70), (.rideConfig d, 0x72), (.protConfig d, 0x78), (.tripLink d, 0x79)] →
    Taken c.1 s u → (u.withStored c.2 d 0).arrival c.2 d.target = 0 →
    Gives c.1 s ((u.lag c.2 d.target).withStored c.2 d 0) ∧ Retains c.1 s u c.2 0) ∧
  ∀ (d : Desc) (s u : State), Taken (.partConfig d) s u →
    ((u.withStored 0x10 d 0).confRegions d.target).contains (sdRegion (d.u16 28)) = true → (confEffect allChecks 0x10 d 0 u).status = 0 → (
    ((u.part d.target).st = .unconfigured →
      Gives (.partConfig d) s (u.withStored 0x10 d 0) ∧ Retains (.partConfig d) s u 0x10 0) ∧
    ((u.part d.target).st ≠ .unconfigured → (u.withStored 0x10 d 0).reformStatus d.target = 0 →
      Gives (.partConfig d) s ((u.setPart d.target { u.part d.target with
        bonded := (u.withStored 0x10 d 0).bondSet d.target
        engines := (u.withStored 0x10 d 0).engineMap d.target }).withStored 0x10 d 0) ∧ Retains (.partConfig d) s u 0x10 0))

/-- A configuration descriptor with a check of its own that is taken and passes it stores its bytes, and changes nothing else of the machine; for
`LIMIT_CONFIG` the bytes before stay in force until the next speed step, and `ARM_CONFIG` for a partition that is not UNCONFIGURED forms its arm
engines anew. Commands shown to complete: those named here.
Rules: R68, R108, R128, R138, R139, R142, R159, R169, R171, R172, R180, R187, R190, R216, R222, R272, R292, R297, R302, R304, R399, R410, R422. -/
def Obligations.CheckedConfigurationStored : Prop :=
  ∀ (d : Desc) (s u : State), (
    (Taken (.armConfig d) s u → d.u16 20 < d.u16 18 → (confEffect allChecks 0x11 d (d.u8 16) u).status = 0 →
      (u.part d.target).st = .unconfigured → Gives (.armConfig d) s (u.withStored 0x11 d (d.u8 16))) ∧
    (Taken (.armConfig d) s u → d.u16 20 < d.u16 18 → (confEffect allChecks 0x11 d (d.u8 16) u).status = 0 →
      (u.part d.target).st ≠ .unconfigured → (u.withStored 0x11 d (d.u8 16)).reformStatus d.target = 0 →
      Gives (.armConfig d) s ((u.setPart d.target { u.part d.target with
        bonded := (u.withStored 0x11 d (d.u8 16)).bondSet d.target
        engines := (u.withStored 0x11 d (d.u8 16)).engineMap d.target }).withStored 0x11 d (d.u8 16))) ∧
    (Taken (.exciterConfig d) s u → d.u8 16 = 1 → (u.confRegions d.target).contains (auxRegion (d.u8 17)) = true →
      u.claimFree (motorClaim (d.u8 17)) 0x3A d.target = true → (u.withStored 0x3A d 0).arrival 0x3A d.target = 0 →
      Gives (.exciterConfig d) s (u.withStored 0x3A d 0)) ∧
    (Taken (.exciterConfig d) s u → d.u8 16 ≠ 1 → d.u8 17 < 8 → (u.withStored 0x3A d 0).arrival 0x3A d.target = 0 →
      Gives (.exciterConfig d) s (u.withStored 0x3A d 0)) ∧
    (Taken (.fbConfig d) s u → (d.u8 16 = 0xFF → d.u8 18 = 2) → (d.u8 16 ≠ 0xFF → u.fbTaken d.target (d.u8 16) = false) →
      (u.withStored 0x50 d 0).arrival 0x50 d.target = 0 → Gives (.fbConfig d) s (u.withStored 0x50 d 0)) ∧
    (Taken (.sensorlessConfig d) s u → slRange (d.f32 16) (d.f32 20) = true → (u.withStored 0x54 d 0).arrival 0x54 d.target = 0 →
      Gives (.sensorlessConfig d) s (u.withStored 0x54 d 0)) ∧
    (Taken (.bissConfig d) s u → d.u8 17 + d.u8 18 ≤ 48 → (u.withStored 0x53 d 0).arrival 0x53 d.target = 0 →
      Gives (.bissConfig d) s (u.withStored 0x53 d 0)) ∧
    (Taken (.limitConfig d) s u → firstStatus [u.limitSource d.target (d.u8 16), u.limitSource d.target (d.u8 17)] = 0 →
      (u.withStored 0x56 d 0).arrival 0x56 d.target = 0 → Gives (.limitConfig d) s ((u.lag 0x56 d.target).withStored 0x56 d 0)) ∧
    (Taken (.curveLoad d) s u → (∀ i < 33, (f32 (leNat d.host (4 * i) 4)).isSome = true) → (u.withStored 0x41 d 0).curveStatus d.target = 0 → Gives (.curveLoad d) s (u.withStored 0x41 d 0)) ∧
    (∀ lo hi, Taken (.vlimitConfig d) s u → (u.withStored 0x49 d 0).arrival 0x49 d.target = 0 → (lo, hi) = (u.withStored 0x49 d 0).vlimits d.target →
      ((u.motOf d.target).calibrated = true → lo ≤ u.payout d.target ∧ u.payout d.target ≤ hi ∧ ((u.motOf d.target).moving = true →
        lo ≤ (u.motOf d.target).target ∧ (u.motOf d.target).target ≤ hi ∧ ∀ y, (u.motOf d.target).follow = some y → lo ≤ y ∧ y ≤ hi)) →
      ((u.motOf d.target).moving = true → stopFits (u.plimP d.target 24) (u.plimP d.target 28) (u.motOf d.target)
        ((if 0 ≤ (u.motOf d.target).vRef then hi - (u.motOf d.target).pRef else (u.motOf d.target).pRef - lo) -
          (u.withStored 0x49 d 0).vlimP d.target 28) = true) →
      Gives (.vlimitConfig d) s (u.withStored 0x49 d 0)) ∧
    (Taken (.profileLimits d) s u → u.follows d.target = false → (u.brkOf d.target).render = false →
      ((u.motOf d.target).moving = true → (u.motOf d.target).movedAt ≠ some u.now → stopFits (d.f32 24) (d.f32 28) (u.motOf d.target)
        (minQ (absQ ((u.motOf d.target).target - (u.motOf d.target).pRef)) ((if 0 ≤ (u.motOf d.target).vRef
          then (u.vlimits d.target).2 - (u.motOf d.target).pRef else (u.motOf d.target).pRef - (u.vlimits d.target).1) -
            u.vlimP d.target 28)) = true) →
      Gives (.profileLimits d) s (u.withStored 0x46 d 0)) ∧
    (Taken (.heaveConfig d) s u → Gives (.heaveConfig d) s (u.withStored 0x4B d 0)) ∧
    (Taken (.thermConfig d) s u → orderOk (d.f32 16) (d.f32 20) (d.f32 24) (d.f32 28) = true →
      Gives (.thermConfig d) s (u.withStored 0x58 d 0)) ∧
    (Taken (.coolantConfig d) s u → orderOk (d.f32 24) (d.f32 28) (d.f32 32) (d.f32 36) = true →
      Gives (.coolantConfig d) s (u.withStored 0x59 d 0)) ∧
    (Taken (.thermGroups d) s u → Gives (.thermGroups d) s (u.withStored 0x5A d (d.u8 16))) ∧
    (Taken (.tandemRatio d) s u → Gives (.tandemRatio d) s (u.withStored 0x61 d 0)) ∧
    (Taken (.interleaveConfig d) s u → d.u8 17 < d.u8 16 → u.method d.target ≠ 1 → (u.withStored 0x69 d 0).arrival 0x69 d.target = 0 →
      Gives (.interleaveConfig d) s (u.withStored 0x69 d 0)) ∧
    (Taken (.calveConfig d) s u →
      (∀ k < 4, d.u8 (16 + k) ≠ 0xFF → u.claimFree (d.u8 (16 + k)) 0x66 0xFFFF = true) →
      Gives (.calveConfig d) s (u.withStored 0x66 d 0)) ∧
    (Taken (.emergConfig d) s u → u.t0Changed d = false →
      (∀ c ∈ [d.u8 16, d.u8 17], c ≠ 0xFF → (u.confRegions d.target).contains (c / 4) = true ∧ u.claimFree (0x20 + c) 0x71 d.target = true) →
      (d.u8 16 = 0xFF ∨ d.u8 16 ≠ d.u8 17) → (u.withStored 0x71 d 0).arrival 0x71 d.target = 0 →
      Gives (.emergConfig d) s (u.withStored 0x71 d 0)) ∧
    (Taken (.limp d) s u → (u.armsOf d.target).any (fun a => u.limpArm d.target a) = true → d.u16 16 = 0 →
      Gives (.limp d) s (u.withStored 0x73 d 0)) ∧
    (Taken (.linkConfig d) s u → Gives (.linkConfig d) s (u.withStored 0xD0 d 0)) ∧
    (Taken (.fabCalConfig d) s u → (u.withStored 0xB1 d (d.u8 16)).arrival 0xB1 d.target = 0 →
      Gives (.fabCalConfig d) s (u.withStored 0xB1 d (d.u8 16))) ∧
    (Taken (.shareSubConfig d) s u →
      (∀ k < d.u8 16, d.u16 (20 + 4 * k) ≤ 0x3FF ∧ (d.u16 (22 + 4 * k) ≤ 0x3FF ∨ d.u16 (22 + 4 * k) = 0xFFFF)) →
      (u.withStored 0xB3 d 0).arrival 0xB3 d.target = 0 → Gives (.shareSubConfig d) s (u.withStored 0xB3 d 0)) ∧
    (Taken (.canRateConfig d) s u → ((u.can d.target).owner = none ∨ (u.can d.target).owner = some d.page) → (u.can d.target).mode = 0 →
      (candsOf (d.u8 16) d.host).all candRange = true → (candsOf (d.u8 16) d.host).all candRates = true →
      Gives (.canRateConfig d) s (u.withStored 0xC1 d 0)) ∧
    (Taken (.bldcConfig d) s u → u.auxConfBar d true false = 0 → (u.withStored 0x81 d 0).auxLevels d.target = false →
      Gives (.bldcConfig d) s (u.withStored 0x81 d 0)) ∧
    (Taken (.stepConfig d) s u → u.auxConfBar d true false = 0 → (u.withStored 0x83 d 0).auxLevels d.target = false →
      Gives (.stepConfig d) s (u.withStored 0x83 d 0)) ∧
    (Taken (.switchConfig d) s u → u.auxConfBar d false false = 0 → (u.withStored 0x85 d 0).auxLevels d.target = false →
      Gives (.switchConfig d) s (u.withStored 0x85 d 0)))

/-- A configuration descriptor that also changes what runs. Commands shown to complete: those named here. Rules: R68, R134, R175, R275, R285, R288, R293, R294, R402, R413. -/
def Obligations.ConfigurationTakesEffect : Prop :=
  ∀ (d : Desc) (s u : State), (
    (Taken (.laneAssign d) s u → (∀ e ∈ (u.withStored 0x12 d 0).laneMap d.target, (u.withStored 0x12 d 0).entryOk d.target e = true) →
      (confEffect allChecks 0x12 d 0 u).status = 0 → (u.part d.target).st = .unconfigured →
      Gives (.laneAssign d) s (u.withStored 0x12 d 0)) ∧
    (Taken (.laneAssign d) s u → (∀ e ∈ (u.withStored 0x12 d 0).laneMap d.target, (u.withStored 0x12 d 0).entryOk d.target e = true) →
      (confEffect allChecks 0x12 d 0 u).status = 0 → (u.part d.target).st ≠ .unconfigured →
      (u.withStored 0x12 d 0).mapStatus d.target = 0 →
      Gives (.laneAssign d) s ((((u.withStored 0x12 d 0).freeLanes d.target).formCells d.target).withStored 0x12 d 0)) ∧
    (Taken (.drumConfig d) s u → drumStatus (d.f32 20) (d.f32 24) (layersOf (d.payload ++ d.host)) = 0 →
      (u.withStored 0x44 d 0).arrival 0x44 d.target = 0 →
      Gives (.drumConfig d) s (u.withStored 0x44 d 0)) ∧
    (Taken (.tandemConfig d) s u → tandemRange d = true → u.inTandem d.target = false →
      (∀ m ∈ membersOf d.payload, u.memberHeld d.target (membersOf d.payload) m = true ∧
        (m.node = u.node → u.inTandem m.part = false ∧ ((u.part m.part).st = .unconfigured ∨ (u.part m.part).st = .blocked))) →
      Gives (.tandemConfig d) s (({ u with cfg := Tab.set u.cfg [] (cfgKey 0x61 d.target 0) [] }.setTan d.target {}).withStored 0x60 d 0)) ∧
    (Taken (.standbyConfig d) s u → (u.withStored 0xB0 d 0).arrival 0xB0 d.target = 0 →
      Gives (.standbyConfig d) s
        (({ u with cfg := Tab.set u.cfg [] (cfgKey 0xB0 0xFFFF 0) d.payload }.joinPair.fabChanged).withStored 0xB0 d 0)) ∧
    (Taken (.auxMode d) s u → u.auxConfBar d (isMotor d.target) false = 0 → (u.withStored 0x80 d 0).auxLevels d.target = false →
      (isMotor d.target = true → d.u8 17 = 0xFF ∧ (d.u8 16 = 1 → d.u8 18 ≠ 0xFF)) → (isMotor d.target = false → d.u8 18 = 0xFF) →
      Gives (.auxMode d) s (((u.auxHalt d.target).setAux d.target { (u.auxHalt d.target).auxOf d.target with
        owner := if d.u8 16 = 0 then none else some d.page,
        st := if ((u.auxHalt d.target).auxOf d.target).st = 9 then 9 else if d.u8 16 = 2 ∧ ¬ isMotor d.target = true then 4 else 0,
        stAt := (u.auxHalt d.target).now, lastRun := none, ff := [],
        stopAt := if d.u8 16 = 0 then some (u.auxHalt d.target).now else ((u.auxHalt d.target).auxOf d.target).stopAt }).withStored 0x80 d 0)) ∧
    (Taken (.bldcCurve d) s u → u.auxConfBar d true false = 0 → (u.withStored 0x82 d 0).auxLevels d.target = false →
      d.f32 20 < d.f32 24 → d.f32 32 < d.f32 28 → (∀ k < 17, (f32 (leNat d.host (4 * k) 4)).isSome = true ∧
        0 ≤ bufQ (d.payload ++ d.host) (4 * k) ∧ bufQ (d.payload ++ d.host) (4 * k) ≤ 1000) →
      Gives (.bldcCurve d) s ((u.setAux d.target { u.auxOf d.target with curveOn := false, inLost := false }).withStored 0x82 d 0)) ∧
    (Taken (.stepSource d) s u → u.auxConfBar d true false = 0 → (u.withStored 0x84 d 0).auxLevels d.target = false → d.u8 16 = 1 →
      (∀ c ∈ [d.u8 17, d.u8 18], switchRegion c = auxRegion d.target ∧ u.claimFree c 0x84 d.target = true) → d.u8 17 ≠ d.u8 18 →
      Gives (.stepSource d) s ((u.setAux d.target { u.auxOf d.target with coarse := [], coarseAt := none }).withStored 0x84 d 0)) ∧
    (Taken (.stepSource d) s u → u.auxConfBar d true false = 0 → (u.withStored 0x84 d 0).auxLevels d.target = false → d.u8 16 ≠ 1 →
      (u.partRegions (d.u8 20)).contains (auxRegion d.target) = true →
      Gives (.stepSource d) s ((u.setAux d.target { u.auxOf d.target with gearIv := none, gearLast := none }).withStored 0x84 d 0)) ∧
    (Taken (.sagConfig d) s u →
      (∀ c ∈ u.sagMembers (d.target - 0x40), (u.auxOf c).owner = some d.page ∧
        ((u.auxOf c).st = 0 ∨ (u.auxOf c).st = 9 ∨ (u.auxOf c).st = 4)) →
      (d.u8 16 = 0xFF ∨ d.u8 16 / 16 = (d.target - 0x40) / 4) →
      Gives (.sagConfig d) s ({ u with sag := setBit u.sag (d.target - 0x40) false }.withStored 0x86 d 0)) ∧
    (Taken (.auxDiag d) s u → u.auxConfBar d (isMotor d.target) true = 0 → d.f32 20 < d.f32 24 → (d.u8 17 ≠ 1 ∨ (u.auxOf d.target).st ≠ 0) →
      Gives (.auxDiag d) s (u.withStored 0x87 d 0)) ∧
    (Taken (.auxDiag d) s u → u.auxConfBar d (isMotor d.target) true = 0 → d.f32 20 < d.f32 24 → d.u8 17 = 1 → (u.auxOf d.target).st = 0 →
      Gives (.auxDiag d) s ((u.auxCheck d.target 0).withStored 0x87 d 0)) ∧
    (Taken (.canConfig d) s u → ((u.can d.target).owner = none ∨ (u.can d.target).owner = some d.page) →
      rateOk (d.u8 22) (d.u16 20) (d.u8 23) 10000 1000000 = true → (d.u8 17 = 1 → rateOk (d.u8 25) (d.u8 26) (d.u8 27) 0 8000000 = true) →
      d.u8 16 = 0 → Gives (.canConfig d) s ((u.canOff d.target).withStored 0xC0 d 0)) ∧
    (Taken (.canConfig d) s u → ((u.can d.target).owner = none ∨ (u.can d.target).owner = some d.page) →
      rateOk (d.u8 22) (d.u16 20) (d.u8 23) 10000 1000000 = true → (d.u8 17 = 1 → rateOk (d.u8 25) (d.u8 26) (d.u8 27) 0 8000000 = true) →
      d.u8 16 ≠ 0 → (u.can d.target).mode = 0 →
      Gives (.canConfig d) s ((u.setCan d.target { u.can d.target with
        owner := some d.page, mode := d.u8 16, timing := none, tec := 0, rec_ := 0, err := 0 }).withStored 0xC0 d 0)))

/-- A command that only a tandem's master takes is turned away by a follower with `NOT_MASTER`, naming the master. Rules: R110, R126, R130, R138,
R141, R142. -/
def Obligations.FollowerTurnsAway : Prop :=
  ∀ (d : Desc) (s u : State) (i : Instr),
    i ∈ [Instr.setpoint d, .refSource d, .curveInput d, .profileMove d, .profileStop d, .tension d, .heaveRef d, .profileLimits d] →
    Taken i s u → u.follows d.target = true → ∃ t o, s.orderOf i = some o ∧ exec i s = .next t ∧ t.drive = u.drive ∧
      t.completed o 0x0701 (notMaster u d.target).result

/-! ### Descriptors that answer -/

/-- The status descriptors, where no buffer is named: each answers its result, and clears the counters that its read clears. Rules: R70, R95, R123,
R146, R173, R195, R224, R248, R298, R311, R333, R360, R386, R409, R422, R458. -/
def Obligations.StatusResults : Prop :=
  ∀ (d : Desc) (s u : State), (
    (Taken (.nop d) s u → Answers (.nop d) s u []) ∧
    (Taken (.partStatus d) s u → Answers (.partStatus d) s u (u.partStatus d.target)) ∧
    (Taken (.modStatus d) s u → Answers (.modStatus d) s
      (u.setMod d.target { u.modOf d.target with satCycles := 0, deferred := 0, lateRefs := 0, maxCarry := 0 }) (u.modOf d.target).result) ∧
    (Taken (.machStatus d) s u → d.buffer = 0xFFFFFFFF → Answers (.machStatus d) s u (u.machResult d.target)) ∧
    (Taken (.motionStatus d) s u → d.buffer = 0xFFFFFFFF →
      Answers (.motionStatus d) s (u.setMot d.target { u.motOf d.target with shocks := 0 }) (u.motionResult d.target)) ∧
    (Taken (.fbStatus d) s u → d.buffer = 0xFFFFFFFF →
      Answers (.fbStatus d) s (u.setFb d.target { u.fbOf d.target with errors := 0 }) (u.fbResult d.target)) ∧
    (Taken (.thermStatus d) s u → Answers (.thermStatus d) s u (u.thermResult d.target)) ∧
    (Taken (.plantStatus d) s u → d.buffer = 0xFFFFFFFF → Answers (.plantStatus d) s u (u.plantResult d.target)) ∧
    (Taken (.brakeStatus d) s u → Answers (.brakeStatus d) s u (u.brakeResult d.target)) ∧
    (Taken (.protStatus d) s u → Answers (.protStatus d) s u (u.protResult d.target)) ∧
    (Taken (.auxStatus d) s u → d.buffer = 0xFFFFFFFF → Answers (.auxStatus d) s u (u.auxResult d.target)) ∧
    (Taken (.eventStatus d) s u → Answers (.eventStatus d) s u (u.page d.page).shedResult) ∧
    (Taken (.storStatus d) s u → Answers (.storStatus d) s u (u.storResult d.page)) ∧
    (∀ rtt h, Taken (.fabTrace d rtt) s u → u.hops (d.u16 16) = some h → Answers (.fabTrace d rtt) s u
      (leBytes 1 h ++ leBytes 1 ((u.routePort (d.u16 16)).getD (Config.noValue 0)) ++ zeros 2 ++ leBytes 4 rtt)) ∧
    (Taken (.fabStatus d) s u → Answers (.fabStatus d) s u u.fabResult) ∧
    (Taken (.canStatus d) s u → Answers (.canStatus d) s (u.setCan d.target { u.can d.target with overruns := 0, errors := 0 })
      (leBytes 1 (u.can d.target).mode ++ leBytes 1 (u.can d.target).err ++ leBytes 1 (holdAt 255 (u.can d.target).tec) ++
        leBytes 1 (holdAt 255 (u.can d.target).rec_) ++ leBytes 2 (u.can d.target).overruns ++ leBytes 2 (u.can d.target).errors)) ∧
    (Taken (.tenantStatus d) s u → Answers (.tenantStatus d) s u (u.tenantResult d.target)))

/-- The descriptors that answer into a host buffer: each issues its bytes to it, and clears the counters that its read clears. Rules: R70, R123, R146,
R173, R195, R246, R271, R298, R356, R386, R409, R448, R449. -/
def Obligations.BufferResults : Prop :=
  ∀ (d : Desc) (s u : State), (
    (Taken (.cellStatus d) s u → Writes (.cellStatus d) s u ((s.partCells d.target).map fun e => cellRecord e.1 e.2).flatten) ∧
    (Taken (.machStatus d) s u → d.buffer ≠ 0xFFFFFFFF → Writes (.machStatus d) s u (u.machRecord d.target)) ∧
    (Taken (.motionStatus d) s u → d.buffer ≠ 0xFFFFFFFF →
      Writes (.motionStatus d) s (u.setMot d.target { u.motOf d.target with shocks := 0 }) (u.motionRecord d.target)) ∧
    (Taken (.fbStatus d) s u → d.buffer ≠ 0xFFFFFFFF → Writes (.fbStatus d) s
      (u.setFb d.target { u.fbOf d.target with errors := 0, illegal := 0, idxErr := 0, crcErr := 0 }) (u.fbRecord d.target)) ∧
    (Taken (.plantStatus d) s u → d.buffer ≠ 0xFFFFFFFF →
      Writes (.plantStatus d) s (u.setPlant { u.plant with diverge := 0 }) (u.plantRecord d.target)) ∧
    (Taken (.protRecord d) s u → Writes (.protRecord d) s u
      (fitTo (32 * d.u8 16) (((u.protOf d.target).recs.reverse.take (d.u8 16)).map fun r => r.bytes d.target).flatten)) ∧
    (Taken (.linkStatus d) s u → Writes (.linkStatus d) s
      ((sortBy (fun n => n) (s.lanesOf d.target)).foldl (fun x l => x.setLane l (x.lane l).cleared) u)
      ((sortBy (fun n => n) (s.lanesOf d.target)).map fun l => u.linkRecord l).flatten) ∧
    (Taken (.auxStatus d) s u → d.buffer ≠ 0xFFFFFFFF → Writes (.auxStatus d) s
      (u.setAux d.target { u.auxOf d.target with restarts := 0, missed := 0, trips := 0, sags := 0 }) (u.auxRecord d.target)) ∧
    (Taken (.trackerStatus d) s u → Writes (.trackerStatus d) s u u.trackerRecord) ∧
    (Taken (.eventLog d) s u → Writes (.eventLog d) s u ((u.tel.log.reverse.take (d.u16 16)).map fun e => e.bytes 0).flatten) ∧
    (Taken (.moraineList d) s u → u.stor.state ≠ 0 → Writes (.moraineList d) s u
      (((sortBy (fun c => c.record) (u.captures.filter fun c => decide (d.u32 16 ≤ c.record) && u.reads d.page c.part)).take (d.u16 20)).map
        Capture.bytes).flatten) ∧
    (∀ c, Taken (.moraineRead d) s u → u.stor.state ≠ 0 → u.capture (d.u32 16) = some c → u.reads d.page c.part = true →
      u.stor.captures.contains c = true → Writes (.moraineRead d) s u (c.slice (d.u32 20) (d.u32 24))) ∧
    (Taken (.fabTopology d) s u → Writes (.fabTopology d) s u (u.knownNodes.map u.topoEntry).flatten) ∧
    (Taken (.attest d) s u → Writes (.attest d) s u (u.report d.payload)))

/-- `FENCE` completes with `OK` where no other descriptor of its tenant is outstanding; with an earlier one outstanding at the head of the
tenant's list it waits, started, until every earlier one has completed; with `COMPLETE_ON_ACCEPT` its record is written at once. `CANCEL` completes
with what became of the descriptor it names. 0: accepted and not started, which completes with `CANCELLED` and leaves the lease queue. 1: it has
started. 2: its sequence lies behind. 3: not accepted yet, and its cancellation is kept for its arrival, at most four in number. Commands shown to
complete: `FENCE`, `CANCEL`. Rules: R320, R332, R333. -/
def Obligations.FenceAndCancel : Prop :=
  ∀ (d : Desc) (s u : State), (
    (Taken (.fence d) s u → Gives (.fence d) s u ∧ (
      (d.flags.testBit 2 = true → ∃ t o, s.orderOf (.fence d) = some o ∧ exec (.fence d) s = .next t ∧ t.completed o 0 []) ∧
      ((u.page d.page).acc.length = 1 → ∃ t o, s.orderOf (.fence d) = some o ∧ exec (.fence d) s = .next t ∧ t.completed o 0 [] ∧
        (t.page d.page).acc = []) ∧
      (∀ a rest, (u.page d.page).acc = a :: rest → a.op ≠ 0x02 → d.flags.testBit 2 = false → ∃ t b, exec (.fence d) s = .next t ∧
        (t.page d.page).find d.series d.seq = some b ∧ b.started = true ∧ b.await = .earlier))) ∧
    (Taken (.cancel d) s u → (
      (∀ a, (u.page d.page).find (d.u8 16) (d.u32 20) = some a → (a.started = true ∨ (d.u8 16 = d.series ∧ d.u32 20 = d.seq)) →
        Answers (.cancel d) s u (leBytes 1 1)) ∧
      (∀ a, (u.page d.page).find (d.u8 16) (d.u32 20) = some a → a.started = false → ¬ (d.u8 16 = d.series ∧ d.u32 20 = d.seq) →
        ∃ t, exec (.cancel d) s = .next t ∧
          t.drive = ((State.finish { u with leaseQ := u.leaseQ.filter fun r =>
            ¬ (r.tenant = d.page ∧ r.series = d.u8 16 ∧ r.seq = d.u32 20) } d.page (d.u8 16) (d.u32 20) 1 []).scanLeases).drive ∧
          (a.early = false → a.record 1 [] ∈ (t.page d.page).records)) ∧
      ((u.page d.page).find (d.u8 16) (d.u32 20) = none → (u.page d.page).crossed.contains (d.u8 16, d.u32 20) = false →
        d.u32 20 ≠ Tab.get (u.page d.page).expect 0 (d.u8 16) →
        newer (d.u32 20) (Tab.get (u.page d.page).expect 0 (d.u8 16)) = false → Answers (.cancel d) s u (leBytes 1 2)) ∧
      ((u.page d.page).find (d.u8 16) (d.u32 20) = none → (u.page d.page).crossed.contains (d.u8 16, d.u32 20) = true →
        Answers (.cancel d) s u (leBytes 1 3)) ∧
      ((u.page d.page).find (d.u8 16) (d.u32 20) = none → (u.page d.page).crossed.contains (d.u8 16, d.u32 20) = false →
        (d.u32 20 = Tab.get (u.page d.page).expect 0 (d.u8 16) ∨ newer (d.u32 20) (Tab.get (u.page d.page).expect 0 (d.u8 16)) = true) →
        (u.page d.page).pendCancel.length < 4 → ∃ t o, s.orderOf (.cancel d) = some o ∧ exec (.cancel d) s = .next t ∧ t.drive = u.drive ∧
          t.completed o 0 (leBytes 1 3) ∧ (d.u8 16, d.u32 20) ∈ (t.page d.page).pendCancel))))

/-! ### Leases -/

/-- The leases: a set that is free is granted at once, each partition to the tenant; a set that is not waits in the queue of at most 64; a release
gives the set up and serves the queue; a transfer hands the set to the waiting request it names, each epoch advanced once; a revocation takes it back; a query answers the
mask that its tenant holds, and into a buffer the epochs and holders, once the records that stand staged are committed. Commands shown to complete:
`LEASE` with its five operations. Rules: R344, R345, R347. -/
def Obligations.LeaseCommands : Prop :=
  ∀ (d : Desc) (s u : State), (
    (Taken (.leaseAcquire d) s u → d.u8 17 ≠ 0 →
      (d.page = 0 ∨ ∀ p ∈ maskList 8 (d.u8 17), (u.tenant d.page).cmdParts.testBit p = true) → u.leaseStates d.page (d.u8 17) = true →
      u.leaseFree d.page (d.u8 17) = true →
      ∃ t, exec (.leaseAcquire d) s = .next t ∧ t.drive = (u.grant d.page (d.u8 17)).1.drive ∧
        ∀ p ∈ maskList 8 (d.u8 17), (t.lease p).holder = some d.page) ∧
    (Taken (.leaseAcquire d) s u → d.u8 17 ≠ 0 →
      (d.page = 0 ∨ ∀ p ∈ maskList 8 (d.u8 17), (u.tenant d.page).cmdParts.testBit p = true) → u.leaseStates d.page (d.u8 17) = true →
      u.leaseFree d.page (d.u8 17) = false → d.u8 18 ≠ 0 → u.leaseQ.length < 64 →
      Gives (.leaseAcquire d) s { u with leaseQ := u.leaseQ ++ [
        { tenant := d.page, series := d.series, seq := d.seq, parts := d.u8 17, buffer := d.buffer, began := u.now, timeout := nsOf (d.f32 24) }] }) ∧
    (Taken (.leaseRelease d) s u → d.u8 17 ≠ 0 → u.holdsAll d.page (d.u8 17) = true → Gives (.leaseRelease d) s
      ((u.leaseDrop (maskList 8 (d.u8 17))).leaseDone d.page d.series d.seq d.buffer (d.u8 17)).scanLeases) ∧
    (∀ r, Taken (.leaseTransfer d) s u → d.u8 17 ≠ 0 → u.holdsAll d.page (d.u8 17) = true →
      u.leaseQ.find? (fun r => decide (r.tenant = d.u16 20 ∧ r.parts &&& d.u8 17 = d.u8 17) &&
        (u.leaseDrop (maskList 8 (d.u8 17))).leaseFree (d.u16 20) r.parts && (u.leaseDrop (maskList 8 (d.u8 17))).leaseStates (d.u16 20) r.parts)
        = some r →
      ∃ t v : State, exec (.leaseTransfer d) s = .next t ∧ t.drive = v.scanLeases.drive ∧
        v.drive = (State.grant { u with leaseQ := u.leaseQ.filter fun x => x ≠ r } (d.u16 20) r.parts).1.drive) ∧
    (Taken (.leaseRevoke d) s u → d.u8 17 ≠ 0 → u.holdsAll (d.u16 20) (d.u8 17) = true → Gives (.leaseRevoke d) s
      ((u.leaseRevoke (d.u16 20) (maskList 8 (d.u8 17))).leaseDone d.page d.series d.seq d.buffer (d.u8 17)).scanLeases) ∧
    (Taken (.leaseQuery d) s u → d.buffer = 0xFFFFFFFF → (u.stor.keeps = false ∨ u.stor.pend = []) →
      Answers (.leaseQuery d) s u (leBytes 1 (u.heldMask d.page) ++ leBytes 1 0 ++ zeros 6)) ∧
    (Taken (.leaseQuery d) s u → d.buffer ≠ 0xFFFFFFFF → (u.stor.keeps = false ∨ u.stor.pend = []) → Writes (.leaseQuery d) s u u.leaseBytes) ∧
    (Taken (.leaseQuery d) s u → u.stor.keeps = true → u.stor.pend ≠ [] → ∃ t b, exec (.leaseQuery d) s = .next t ∧ t.drive = u.drive ∧
      (t.page d.page).find d.series d.seq = some b ∧ b.await = .firn u.stor.nextSeq ∧
      b.result = leBytes 1 (u.heldMask d.page) ++ leBytes 1 0 ++ zeros 6))

/-! ### Partitions, cells and references -/

/-- A partition's life: commit forms its cells and blocks it; release clears it; precharge, enable and disable begin as the partition's kind asks;
block quiets an energised partition and leaves another as it is; reset takes a tripped one to BLOCKED. A higher cause of the same round decides
before each of them (`State.beaten`). Commands shown to complete: those named here. Rules: R57, R59, R60, R61, R108, R294. -/
def Obligations.PartitionLife : Prop :=
  ∀ (d : Desc) (s u : State), (
    (Taken (.partCommit d) s u → u.commitStatus d.target = 0 → Gives (.partCommit d) s ((u.commit d.target).withStored 0x13 d 0)) ∧
    (Taken (.partRelease d) s u → Gives (.partRelease d) s (partReleaseEffect d u).st) ∧
    (∀ differs, Taken (.precharge d differs) s u → u.beaten d.target 9 = false → u.prechargeBar d.target differs = 0 → (Tab.get u.precWait none d.target).isSome = false →
      ((u.brakeCodes d.target).filter fun c => (u.auxOf c).st = 0) = [] → Gives (.precharge d differs) s (u.prechargeAll d.target)) ∧
    (∀ differs, Taken (.precharge d differs) s u → u.beaten d.target 9 = false → u.prechargeBar d.target differs = 0 → (Tab.get u.precWait none d.target).isSome = false →
      ((u.brakeCodes d.target).filter fun c => (u.auxOf c).st = 0) ≠ [] → Gives (.precharge d differs) s
        { ((u.brakeCodes d.target).filter fun c => (u.auxOf c).st = 0).foldl (fun x c => x.auxCheck c 0) u with
          precWait := Tab.set (((u.brakeCodes d.target).filter fun c => (u.auxOf c).st = 0).foldl (fun x c => x.auxCheck c 0) u).precWait none
            d.target (some (d.page, d.series, d.seq)) }) ∧
    (Taken (.enable d) s u → u.beaten d.target 9 = false → u.selftestBar d.target = 0 → u.tooHot d.target = false →
      (u.ctlOf d.target).enWait = none → (
      (¬ (u.shape d.target ≠ 6 ∧ u.machine d.target = 4) → u.needsPulses d.target = false →
        Gives (.enable d) s (u.enterRunning d.target)) ∧
      (¬ (u.shape d.target ≠ 6 ∧ u.machine d.target = 4) → u.needsPulses d.target = true → Gives (.enable d) s
        (((u.setCtl d.target { u.ctlOf d.target with enWait := some (d.page, d.series, d.seq, u.now) }).setFb d.target
          { u.fbOf d.target with restart := 1 }).begin d.target)) ∧
      (u.shape d.target ≠ 6 → u.machine d.target = 4 → Gives (.enable d) s
        ((u.setCtl d.target { u.ctlOf d.target with enWait := some (d.page, d.series, d.seq, u.now) }).setFb d.target
          { u.fbOf d.target with restart := 1 })))) ∧
    (Taken (.disable d) s u → u.beaten d.target 9 = false → Gives (.disable d) s
      ((u.setBrk d.target { u.brkOf d.target with rampDown := true }).setPart d.target { u.part d.target with
        disabling := (u.part d.target).disabling ++ [(d.page, d.series, d.seq)] })) ∧
    (Taken (.block d) s u → (u.part d.target).st.energised = true → u.beaten d.target 4 = false →
      Enters (.block d) s ((u.quiet d.target).setPState d.target .blocked) d.target .blocked) ∧
    (Taken (.block d) s u → ((u.part d.target).st.energised = false ∨ u.beaten d.target 4 = true) → Gives (.block d) s u) ∧
    (Taken (.tripReset d) s u → u.beaten d.target 9 = false → (∀ r ∈ (u.protOf d.target).recs, r.t ≠ u.now) →
      u.sourceActive d.target = false → u.stoHolds d.target = false →
      Enters (.tripReset d) s (u.setPState d.target .blocked) d.target .blocked))

/-- Commands on cells, sensors, lanes, regions and machine cores; one that finds its cell or core as it asks changes nothing. Commands shown to
complete: those named here. Rules: R62, R64, R119, R249, R271, R303. -/
def Obligations.CellCommands : Prop :=
  ∀ (d : Desc) (s u : State), (
    (∀ l, Taken (.cellBypass d) s u → u.laneAt d.target (d.u8 16) (d.u8 17) = some l → (u.cell l).st ≠ .bypassed →
      ¬ (((u.part d.target).st = .running ∨ (u.part d.target).st = .braking) ∧ (u.cell l).st = .available ∧
        u.availCount d.target (u.cell l).arm - 1 < u.needed d.target (u.cell l).arm) →
      Gives (.cellBypass d) s ((u.loseCell l 8).withStored 0x1C d (d.u8 16 * 256 + d.u8 17))) ∧
    (∀ l, Taken (.cellBypass d) s u → u.laneAt d.target (d.u8 16) (d.u8 17) = some l → (u.cell l).st = .bypassed → Gives (.cellBypass d) s u) ∧
    (∀ l, Taken (.cellAdmit d) s u → u.laneAt d.target (d.u8 16) (d.u8 17) = some l → (u.cell l).st ≠ .bypassed → (u.cell l).st ≠ .isolated →
      Gives (.cellAdmit d) s u) ∧
    (∀ l, Taken (.cellAdmit d) s u → u.laneAt d.target (d.u8 16) (d.u8 17) = some l → (u.cell l).st = .bypassed → u.cellHot l = 0 →
      ((u.part d.target).st = .blocked ∨ (u.part d.target).st = .precharge) →
      Gives (.cellAdmit d) s ((u.unbypass l).withStored 0x1D d (d.u8 16 * 256 + d.u8 17))) ∧
    (∀ l, Taken (.cellAdmit d) s u → u.laneAt d.target (d.u8 16) (d.u8 17) = some l → (u.cell l).st = .bypassed → u.cellHot l = 0 →
      ¬ ((u.part d.target).st = .blocked ∨ (u.part d.target).st = .precharge) → isMmc (u.shape d.target) = true → (u.lane l).lstate = 4 →
      (u.cell l).known = true → Gives (.cellAdmit d) s ((u.startAdmit l).withStored 0x1D d (d.u8 16 * 256 + d.u8 17))) ∧
    (Taken (.thermSensorReset d) s u → d.u8 16 = 1 → d.u8 18 < 4 →
      Gives (.thermSensorReset d) s (u.markSensor (coolSensor d.target (d.u8 18)) false)) ∧
    (∀ l, Taken (.thermSensorReset d) s u → d.u8 16 ≠ 1 → u.laneAt d.target (d.u8 17) (d.u8 18) = some l →
      Gives (.thermSensorReset d) s ((u.markSensor (cellSensor l 0) false).markSensor (cellSensor l 1) false)) ∧
    (Taken (.coreMigrate d) s u → (d.u8 16 = 1 ↔ (u.part d.target).core1 = true) → Gives (.coreMigrate d) s u) ∧
    (Taken (.coreMigrate d) s u → ¬ (d.u8 16 = 1 ↔ (u.part d.target).core1 = true) →
      (if d.u8 16 = 1 then (u.part d.target).core1Failed else (u.part d.target).core0Failed) = false →
      Gives (.coreMigrate d) s (u.setPart d.target { u.part d.target with
        migrating := true, migDesc := (u.part d.target).migDesc ++ [(d.page, d.series, d.seq)] })) ∧
    (Taken (.regionRestart d 0) s u → (u.region d.target).fenced = true → Gives (.regionRestart d 0) s (u.restartRegion d.target)) ∧
    (Taken (.linkRetrain d) s u → d.u16 16 < 1024 → (u.cell (d.u16 16)).used = true → (u.cell (d.u16 16)).part = d.target →
      (u.cell (d.u16 16)).st ≠ .isolated → (u.lane (d.u16 16)).lstate ≠ 5 →
      ((u.part d.target).st.energised = true → (u.cell (d.u16 16)).st ∉ [.available, .qualifying, .charging]) →
      Gives (.linkRetrain d) s (u.setLane (d.u16 16) { u.lane (d.u16 16) with silentUntil := some (u.now + 25000) })))

/-- Where a partition does not follow a tandem's master, its commands of reference take what they carry. Commands shown to complete: those named
here. Rules: R110, R114, R126, R130, R135, R138, R141, R142, R180. -/
def Obligations.ReferencesTaken : Prop :=
  ∀ (d : Desc) (s u : State), u.follows d.target = false → (
    (Taken (.setpoint d) s u → u.emergActive d.target = false → (u.motOf d.target).source = 0 →
      (d.u8 16 = 0 → absQ (d.f32 20) ≤ u.nMax d.target) → Gives (.setpoint d) s
        (u.setCtl d.target { u.ctlOf d.target with spNew := some (d.u8 16, d.f32 20), spAt := some u.now, spTimedOut := false })) ∧
    (Taken (.supplySetpoint d) s u → 8 / 10 * u.vdcNom d.target ≤ d.f32 16 → d.f32 16 ≤ 11 / 10 * u.vdcNom d.target →
      Gives (.supplySetpoint d) s (u.setCtl d.target { u.ctlOf d.target with vdcRef := some (d.f32 16), qRef := d.f32 20 })) ∧
    (Taken (.refSource d) s u → u.emergActive d.target = false →
      (d.u8 16 ≠ (u.motOf d.target).source → (u.motOf d.target).source = 2 ∨ (u.motOf d.target).source = 4 → (u.motOf d.target).moving = false) →
      d.u8 16 = 0 →
      Gives (.refSource d) s (u.setMot d.target { u.motOf d.target with srcNew := some 0 })) ∧
    (Taken (.refSource d) s u → u.emergActive d.target = false →
      (d.u8 16 ≠ (u.motOf d.target).source → (u.motOf d.target).source = 2 ∨ (u.motOf d.target).source = 4 → (u.motOf d.target).moving = false) →
      d.u8 16 = 1 →
      u.given 0x41 d.target 0 = true → Gives (.refSource d) s (u.setMot d.target { u.motOf d.target with srcNew := some 1 })) ∧
    (Taken (.refSource d) s u → u.emergActive d.target = false →
      (d.u8 16 ≠ (u.motOf d.target).source → (u.motOf d.target).source = 2 ∨ (u.motOf d.target).source = 4 → (u.motOf d.target).moving = false) →
      d.u8 16 ∈ [2, 3, 4] →
      ((u.part d.target).st = .running → absQ (u.speed d.target) < u.nMax d.target / 100) → (u.motOf d.target).calibrated = true →
      u.given 0x49 d.target 0 = true → (d.u8 16 = 4 → u.given 0x4B d.target 0 = true) →
      Gives (.refSource d) s (u.setMot d.target { u.motOf d.target with srcNew := some (d.u8 16) })) ∧
    (Taken (.curveInput d) s u → (u.brkOf d.target).crash = none → u.curveByte d.target 17 = 0 → Gives (.curveInput d) s
      (u.setMot d.target { u.motOf d.target with uAt := some u.now, u := d.f32 16, lost := false, lostAt := none })) ∧
    (Taken (.curveInput d) s u → (u.brkOf d.target).crash = none → u.curveByte d.target 17 ≠ 0 → Gives (.curveInput d) s
      (u.setMot d.target { u.motOf d.target with uAt := some u.now })) ∧
    (Taken (.drumSet d) s u → u.given 0x44 d.target 0 = true → d.f32 16 ≤ u.ropeLen d.target → Gives (.drumSet d) s
      ((u.setMot d.target { u.motOf d.target with
        calibrated := true, phi := u.phiOf d.target (d.f32 16), thLast := (u.fbOf d.target).thM }).keepDrum d.target)) ∧
    (Taken (.profileMove d) s u → (u.brkOf d.target).render = false → u.stopInRound d.target = false → (u.motOf d.target).calibrated = true →
      ((u.motOf d.target).source = 2 ∨ (u.motOf d.target).source = 4) → d.f32 16 ≤ u.ropeLen d.target →
      (u.vlimits d.target).1 ≤ d.f32 16 → d.f32 16 ≤ (u.vlimits d.target).2 → (u.motOf d.target).moving = false →
      d.f32 16 ≠ (u.motOf d.target).pRef →
      Gives (.profileMove d) s (u.setMot d.target { u.motOf d.target with moving := true, target := d.f32 16, movedAt := some u.now })) ∧
    (Taken (.profileMove d) s u → (u.brkOf d.target).render = false → u.stopInRound d.target = false → (u.motOf d.target).calibrated = true →
      ((u.motOf d.target).source = 2 ∨ (u.motOf d.target).source = 4) → d.f32 16 ≤ u.ropeLen d.target →
      (u.vlimits d.target).1 ≤ d.f32 16 → d.f32 16 ≤ (u.vlimits d.target).2 → (u.motOf d.target).moving = false →
      d.f32 16 = (u.motOf d.target).pRef → Gives (.profileMove d) s u) ∧
    (Taken (.profileMove d) s u → (u.brkOf d.target).render = false → u.stopInRound d.target = false → (u.motOf d.target).calibrated = true →
      ((u.motOf d.target).source = 2 ∨ (u.motOf d.target).source = 4) → d.f32 16 ≤ u.ropeLen d.target →
      (u.vlimits d.target).1 ≤ d.f32 16 → d.f32 16 ≤ (u.vlimits d.target).2 → (u.motOf d.target).moving = true → d.u8 20 ≠ 0 →
      (u.motOf d.target).follow = none →
      Gives (.profileMove d) s (u.setMot d.target { u.motOf d.target with follow := some (d.f32 16) })) ∧
    (Taken (.profileStop d) s u → (u.brkOf d.target).render = false → Gives (.profileStop d) s
      ((u.profileStop d.target).setMot d.target { (u.profileStop d.target).motOf d.target with stopAt := some u.now })) ∧
    (Taken (.tension d) s u → (u.brkOf d.target).render = false → Gives (.tension d) s (u.setMot d.target { u.motOf d.target with
      fSet := d.f32 16, fRate := d.f32 20, vRec := d.f32 24, vRend := d.f32 28, sdT := d.u8 32, ctKi := d.f32 36 })) ∧
    (Taken (.heaveRef d) s u → u.heaveSrc d.target = 0 →
      Gives (.heaveRef d) s (u.takeHeave d.target (d.u64 16) (d.f32 24) (d.f32 28))) ∧
    (Taken (.heaveRef d) s u → u.heaveSrc d.target ≠ 0 → Gives (.heaveRef d) s u) ∧
    (Taken (.tandemMaster d) s u → (u.inTandem d.target = false ∨ u.isMaster d.target = true) → Gives (.tandemMaster d) s u) ∧
    (Taken (.tandemMaster d) s u → ¬ (u.inTandem d.target = false ∨ u.isMaster d.target = true) →
      Gives (.tandemMaster d) s (u.setTan d.target { u.tanOf d.target with taking := true })))

/-- The emergency orders, where nothing of higher rank is in force or asked for in the same round (`State.outranked`, `State.beaten`); an order
that finds what it asks for changes nothing. Commands shown to complete: those named here. Rules: R205, R209, R210, R211, R212, R221, R229, R243. -/
def Obligations.EmergencyOrders : Prop :=
  ∀ (d : Desc) (s u : State), (
    (Taken (.crashStopStart d) s u → absQ (d.f32 20) ≤ u.nMax d.target → u.outranked d.target 9 = false → u.beaten d.target 10 = false →
      (u.brkOf d.target).crash.isSome = true → Gives (.crashStopStart d) s (u.setBrk d.target { u.brkOf d.target with
        crash := some (d.f32 20, d.f32 24, d.f32 28, d.f32 32), render := false })) ∧
    (Taken (.crashStopStart d) s u → absQ (d.f32 20) ≤ u.nMax d.target → u.outranked d.target 9 = false → u.beaten d.target 10 = false →
      (u.brkOf d.target).crash = none → ∃ t, exec (.crashStopStart d) s = .next t ∧
        (t.brkOf d.target).crash = some (d.f32 20, d.f32 24, d.f32 28, d.f32 32) ∧ (t.brkOf d.target).render = false ∧
        (t.motOf d.target).source = 0 ∧ (t.motOf d.target).moving = false ∧ (t.ctlOf d.target).mode = 0) ∧
    (Taken (.crashStopEnd d) s u → absQ (d.f32 20) ≤ u.nMax d.target → u.outranked d.target 9 = false → Gives (.crashStopEnd d) s (u.endCrash d.target)) ∧
    (Taken (.estopControlled d) s u → (u.part d.target).st ≠ .ready → u.outranked d.target 6 = false → u.beaten d.target 7 = false →
      ((u.brkOf d.target).estop = 0 ∨ (u.brkOf d.target).qr = true) →
      Enters (.estopControlled d) s (u.startEstop d.target) d.target .braking) ∧
    (Taken (.estopControlled d) s u → (u.part d.target).st = .ready → Gives (.estopControlled d) s u) ∧
    (Taken (.estopControlled d) s u → u.outranked d.target 6 = false → u.beaten d.target 7 = false → (u.brkOf d.target).estop ≠ 0 →
      (u.brkOf d.target).qr = false → Gives (.estopControlled d) s u) ∧
    (Taken (.estopShortCircuit d) s u → (u.part d.target).st = .ready → Gives (.estopShortCircuit d) s u) ∧
    (Taken (.estopShortCircuit d) s u → u.outranked d.target 5 = false → u.beaten d.target 6 = false → (u.brkOf d.target).sc.isSome = true →
      Gives (.estopShortCircuit d) s u) ∧
    (Taken (.estopShortCircuit d) s u → (u.part d.target).st ≠ .ready → u.outranked d.target 5 = false → u.beaten d.target 6 = false → (u.brkOf d.target).sc = none →
      u.scAvail d.target = true → Enters (.estopShortCircuit d) s (u.orderSc d.target 2) d.target .braking) ∧
    (Taken (.winchEmergEndRender d) s u → u.outranked d.target 10 = false → Gives (.winchEmergEndRender d) s (u.endRender d.target)) ∧
    (Taken (.winchEmergRender d) s u → u.outranked d.target 10 = false → u.beaten d.target 11 = false → (u.motOf d.target).calibrated = true →
      (u.brkOf d.target).render = false → Gives (.winchEmergRender d) s
        ((u.setMot d.target { u.motOf d.target with
            moving := false, follow := none, fRamp := u.emP d.target 40
            fInt := if u.drumNow d.target = 0 then 0 else (u.ctlOf d.target).te * 2 * u.gear d.target / u.drumNow d.target }).setBrk d.target
          { u.brkOf d.target with render := true })) ∧
    (Taken (.winchEmergQuickRelease d) s u → ((u.tenant d.page).role = 0 ∨ (u.tenant d.page).role = 1) → u.emByte d.target 18 0 = 1 →
      u.outranked d.target 7 = false → u.beaten d.target 8 = false → 2 ≤ (u.motOf d.target).source → Enters (.winchEmergQuickRelease d) s
        (((u.toBraking d.target).driveBrakes d.target true).setBrk d.target
          { ((u.toBraking d.target).driveBrakes d.target true).brkOf d.target with
            qr := true, qrSlow := none, estop := 0, relAt := none, relWait := false, rampDown := false }) d.target .braking) ∧
    (Taken (.protTrip d) s u → Gives (.protTrip d) s (u.assertSource d.target 0x0906 0xFFFF 0 d.page)) ∧
    (Taken (.protSelftest d) s u → (u.protOf d.target).testing = none → Gives (.protSelftest d) s
      (u.setProt d.target { u.protOf d.target with testing := some (d.page, d.series, d.seq, d.u8 16) })))

/-! ### Plant, auxiliary channels -/

/-- Records, calves and reservations of the plant. Commands shown to complete: those named here. Rules: R183, R187, R189, R191, R192. -/
def Obligations.PlantCommands : Prop :=
  ∀ (d : Desc) (s u : State), (
    (Taken (.supplyRecord d) s u → Gives (.supplyRecord d) s (u.takeSupply
      { sec := d.target, cap := d.f32 16, load := d.f32 20, reserve := d.f32 24, absorb := d.f32 28, ties := d.u8 32, stamp := d.u64 36 })) ∧
    (Taken (.calve d) s u → Gives (.calve d) s (u.originateCalve (d.u8 16) (d.u8 17))) ∧
    (Taken (.calveClear d) s u → ∃ t, exec (.calveClear d) s = .next t ∧ t.drive = ((maskList 8 (d.u8 16)).foldl State.endCalve u).drive ∧
      ∀ k ∈ maskList 8 (d.u8 16), (t.calveOf k).level = 0) ∧
    (Taken (.plantReserve d) s u →
      (∀ e ∈ reserveEntries d, e.1 < 1024 ∧ e.2 < 8 ∧ e.1 ≠ u.node ∧ (u.hops e.1).isSome = true) →
      ∃ r : Req, r.page = d.page ∧ r.series = d.series ∧ r.seq = d.seq ∧ r.stamp = u.now ∧ r.deadline = u.now + nsOf (d.f32 20) ∧
        r.parts = (reserveEntries d).map (fun e => (e.1, e.2, false)) ∧ r.handle = (Config.handle u.plant.handles).toNat ∧
        Gives (.plantReserve d) s
          ((u.setPlant { u.plant with reqs := u.plant.reqs ++ [r], handles := u.plant.handles + 1 }).sendReserve r)) ∧
    (∀ r, Taken (.plantRelease d) s u →
      (u.plant.reqs.find? fun r => r.handle = d.u32 16 && r.page = d.page && r.done) = some r →
      Gives (.plantRelease d) s ((u.sendRelease r).setPlant { (u.sendRelease r).plant with
        reqs := (u.sendRelease r).plant.reqs.filter fun x => x ≠ r })))

/-- Runs, inputs and resets of auxiliary channels. Commands shown to complete: those named here. Rules: R279, R285, R296. -/
def Obligations.AuxCommands : Prop :=
  ∀ (d : Desc) (s u : State), u.auxBar d false = 0 → (
    (Taken (.auxRunStart d) s u → (u.auxOf d.target).st = 0 → u.auxMode d.target ≠ 0 → u.auxStopInRound d.target = false →
      (isMotor d.target = true ∨ u.auxMode d.target ≠ 2) →
      Gives (.auxRunStart d) s ((u.setAux d.target { u.auxOf d.target with run := true }).auxStart d.target)) ∧
    (Taken (.auxRunStart d) s u → (u.auxOf d.target).st ∉ [0, 9] → u.auxMode d.target ≠ 0 → u.auxStopInRound d.target = false →
      (isMotor d.target = true ∨ u.auxMode d.target ≠ 2) → (isMotor d.target = true → (u.auxOf d.target).st ∉ [6, 7]) →
      Gives (.auxRunStart d) s (u.setAux d.target { u.auxOf d.target with run := true })) ∧
    (Taken (.auxRunStop d) s u → (u.auxOf d.target).st ∈ [0, 4, 6, 9] →
      Gives (.auxRunStop d) s (u.setAux d.target { u.auxOf d.target with run := false, startWaits := false, stopAt := some u.now })) ∧
    (Taken (.auxRunStop d) s u → (u.auxOf d.target).st ∉ [0, 4, 6, 9] → ¬ (isMotor d.target = true ∧ u.auxMode d.target = 1) →
      Gives (.auxRunStop d) s ((u.setAux d.target { u.auxOf d.target with run := false, startWaits := false, stopAt := some u.now }).auxHalt d.target)) ∧
    (Taken (.auxRunStop d) s u → (u.auxOf d.target).st ∉ [0, 4, 6, 7, 9] → isMotor d.target = true → u.auxMode d.target = 1 →
      Gives (.auxRunStop d) s ((u.setAux d.target { u.auxOf d.target with run := false, startWaits := false, stopAt := some u.now }).bldcStop d.target)) ∧
    (Taken (.auxInput d) s u → isMotor d.target = true →
      Gives (.auxInput d) s (u.setAux d.target { u.auxOf d.target with uIn := d.f32 16, inAt := some u.now })) ∧
    (Taken (.auxReset d) s u → (u.auxOf d.target).st = 9 → Gives (.auxReset d) s (u.setAux d.target { u.auxOf d.target with
      st := 0, fault := 0, run := false, shorted := false, tries := 0, lossAt := [] })))

/-! ### Reporting, storage -/

/-- The descriptors of reporting: a stream that fits is set up, a stream of the partition named ends, the event ring's class and window are set, and
`FREEZE` begins the freeze. Commands shown to complete: those named here. Rules: R442, R443, R444, R450. -/
def Obligations.ReportingCommands : Prop :=
  ∀ (d : Desc) (s u : State), (
    (∀ x : Stream, Taken (.telemSub d) s u →
      x = { part := d.target, cls := d.u8 17, rate := d.u8 18, cellArm := d.u8 19, mask := d.u32 20, count := d.u32 24, buffer := d.buffer } →
      d.u32 20 ≠ 0 → u.recordSize d.target (d.u32 20) (d.u8 19) ≤ 1024 →
      ((u.streams.filter fun e => ¬ (e.1 = d.page ∧ e.2.1 = d.u8 16)).filter fun e => e.1 = d.page).length < 16 →
      (u.streams.filter fun e => ¬ (e.1 = d.page ∧ e.2.1 = d.u8 16)).length < 256 →
      (((u.streams.filter fun e => ¬ (e.1 = d.page ∧ e.2.1 = d.u8 16)).map fun e => u.streamLoad e.2.2).foldl (· + ·) 0) + u.streamLoad x ≤
        256000000 →
      ∃ t, exec (.telemSub d) s = .next t ∧ t.drive = u.drive ∧ Tab.get (t.page d.page).streams none (d.u8 16) = some x) ∧
    (∀ x, Taken (.telemUnsub d) s u → Tab.get (u.page d.page).streams none (d.u8 16) = some x → x.part = d.target →
      ∃ t, exec (.telemUnsub d) s = .next t ∧ t.drive = u.drive ∧ Tab.get (t.page d.page).streams none (d.u8 16) = none) ∧
    (Taken (.eventConfig d) s u → ∃ t, exec (.eventConfig d) s = .next t ∧ t.drive = u.drive ∧ (t.page d.page).minClass = d.u8 16 ∧
      (t.page d.page).coalWindow = nsOf (d.f32 20)) ∧
    (Taken (.freeze d) s u → ∃ t, exec (.freeze d) s = .next t ∧ t.drive = (u.beginFreeze false 0).drive ∧ t.power = .entering ∧
      t.frz.state = 1 ∧ t.frz.tFreeze = u.now ∧ t.frz.freezes = (u.frz.freezes + 1) % 65536))

/-- The descriptors of storage, on a chip with a medium in use (`STOR_FORMAT` also on one whose medium is not): each does its own work at once, or issues its operation to NAND, where the tracker has an
entry for it (R37). `FIRN_SYNC` completes at once where no record stands staged, and else waits for the commit of the last one. Commands shown to
complete: those named here. Rules: R37, R371, R375, R376,
R377, R378, R380, R386. -/
def Obligations.StorageCommands : Prop :=
  ∀ (d : Desc) (s u : State), (∀ signed, Taken (.storFormat d signed) s u → u.unsigned signed = false → u.stor.state = 0 →
      u.stor.medium.present = true → Gives (.storFormat d signed) s (u.setMedium { u.stor.medium with formatNext := true })) ∧
    (u.stor.state ≠ 0 →
    (Taken (.firnSync d) s u → u.stor.pend = [] → Answers (.firnSync d) s u []) ∧
    (∀ r, Taken (.firnSync d) s u → u.stor.pend.getLast? = some r → ∃ t b, exec (.firnSync d) s = .next t ∧ t.drive = u.drive ∧
      (t.page d.page).find d.series d.seq = some b ∧ b.started = true ∧ b.await = .firn r.seq) ∧
    (∀ signed, Taken (.firnLoad d signed) s u → u.unsigned signed = false → u.stor.firnRo = false →
      (∀ r ∈ parseRecs (fitTo (d.u32 16) d.host).length (fitTo (d.u32 16) d.host), r.stepping = 0xB1) →
      Gives (.firnLoad d signed) s ((u.setMedium { u.stor.medium with image := fitTo (d.u32 16) d.host }).stageRec 7 0xA1 0xFFFF 0 d.page [])) ∧
    (∀ signed, Taken (.firnErase d signed) s u → u.unsigned signed = false → u.stor.firnRo = false →
      Gives (.firnErase d signed) s (u.stageRec 8 0xA2 0xFFFF 0 d.page [])) ∧
    (Taken (.firnExport d) s u → u.liveImage.length ≤ d.u32 16 → u.stor.ops.length < 960 → Gives (.firnExport d) s (u.setStor { u.stor with ops := u.stor.ops ++ [
        { page := d.page, series := d.series, seq := d.seq, op := 0xA3, target := d.target, data := [], key := 0, aux := 0,
          buffer := d.buffer }] })) ∧
    (Taken (.moraineConfig d) s u → (moraineBuf d).need u d.target ≤ 64 →
      (moraineBuf d).need u d.target + ((u.stor.bufs.filter fun e => e.1 ≠ d.target).filterMap fun e => e.2.map fun x => x.need u e.1).foldl
        (· + ·) 0 ≤ 128 →
      ∃ t, exec (.moraineConfig d) s = .next t ∧
        t.drive = ((u.setBuf d.target (moraineBuf d)).takePages d.target ((moraineBuf d).need u d.target) 256).drive ∧
        t.stor.bufs = ((u.setBuf d.target (moraineBuf d)).takePages d.target ((moraineBuf d).need u d.target) 256).stor.bufs) ∧
    (Taken (.moraineTrigger d) s u → ∃ t, exec (.moraineTrigger d) s = .next t ∧ t.drive = u.drive ∧
      t.stor.bufs = (u.moraine d.target 3 0).stor.bufs) ∧
    (∀ c, Taken (.moraineRead d) s u → u.capture (d.u32 16) = some c → u.reads d.page c.part = true → u.stor.captures.contains c = false → u.stor.ops.length < 960 → Gives (.moraineRead d) s (u.setStor { u.stor with ops := u.stor.ops ++ [
        { page := d.page, series := d.series, seq := d.seq, op := 0xA7, target := d.target, data := [], key := c.record, aux := d.u32 20 * 2 ^ 32 + d.u32 24,
          buffer := d.buffer }] })) ∧
    (∀ c, Taken (.moraineProtect d) s u → u.capture (d.u32 16) = some c → u.reads d.page c.part = true →
      (d.u8 20 = 1 → 4 * (((u.captures.filter fun x => x.prot && x.record ≠ c.record).map fun x => x.length + 32).foldl (· + ·) 0 + c.length + 32)
        ≤ u.moraineBytes) →
      Gives (.moraineProtect d) s (u.changeCapture c.record fun x => { x with prot := decide (d.u8 20 = 1) })) ∧
    (Taken (.auditRead d) s u → (∃ e ∈ u.stor.medium.audit, e.num = d.u64 16) → u.stor.ops.length < 960 → Gives (.auditRead d) s (u.setStor { u.stor with ops := u.stor.ops ++ [
        { page := d.page, series := d.series, seq := d.seq, op := 0xA9, target := d.target, data := [], key := d.u64 16, aux := d.u16 24,
          buffer := d.buffer }] })) ∧
    (Taken (.userWrite d) s u → d.u32 20 ≠ 0 → d.u32 20 ≤ u.userQuota → u.worn 3 = false →
      u.userUse d.page (d.u8 16) + d.u32 20 ≤ u.userQuota → u.stor.ops.length < 960 → Gives (.userWrite d) s (u.setStor { u.stor with ops := u.stor.ops ++ [
        { page := d.page, series := d.series, seq := d.seq, op := 0xAA, target := d.target, data := fitTo (d.u32 20) d.host, key := d.u8 16, aux := 0,
          buffer := d.buffer }] })) ∧
    (∀ b, Taken (.userRead d) s u → u.blob d.page (d.u8 16) = some b → b.gen = (u.tenant d.page).gen → u.stor.ops.length < 960 → Gives (.userRead d) s (u.setStor { u.stor with ops := u.stor.ops ++ [
        { page := d.page, series := d.series, seq := d.seq, op := 0xAB, target := d.target, data := [], key := d.u8 16, aux := 0,
          buffer := d.buffer }] })) ∧
    (∀ b, Taken (.userDelete d) s u → u.blob d.page (d.u8 16) = some b →
      ∃ t, exec (.userDelete d) s = .next t ∧ t.drive = (u.setBlob d.page (d.u8 16) none).drive ∧ t.blob d.page (d.u8 16) = none) ∧
    (∀ signed, Taken (.storFormat d signed) s u → u.unsigned signed = false → u.stor.state = 4 →
      Gives (.storFormat d signed) s (u.setMedium { u.stor.medium with formatNext := true })))

/-! ### Fabric, CAN -/

/-- The descriptors of the fabric: an ordered takeover is asked of the partner once the standby is ready; a heave record is published to its
subscribers; a message is cut into chunks and sent, or handed over at home; a receive waits. Commands shown to complete: those named here. Rules:
R37, R405, R409. -/
def Obligations.FabricCommands : Prop :=
  ∀ (d : Desc) (s u : State), (
    (∀ ready, Taken (.takeover d ready) s u → (if u.fab.role = 2 then u.standbyReady else u.fab.role = 1 && ready) = true →
      u.fab.order = false → Gives (.takeover d ready) s
        (State.fabSend { u with fab := { u.fab with order := true, orderDesc := some (d.page, d.series, d.seq) } } 1 u.sbPartner 14 [])) ∧
    (Taken (.sharePublish d) s u → u.heaveSubs = [] → Gives (.sharePublish d) s u) ∧
    (∀ n m, Taken (.sharePublish d) s u → u.heaveSubs = [(n, m)] → n ≠ u.node → (m = 0xFFFF ∨ u.roleOf n = 1 ∨ u.roleOf m ≠ 1) →
      Gives (.sharePublish d) s (u.fabSend 2 n 2 ((d.payload.drop 8).take 16))) ∧
    (∀ r, Taken (.fabSend d) s u → d.u16 16 = u.node → u.bulkRecv u.node (d.u16 18) d.page (fitTo (d.u32 20) d.host).length = some r →
      Gives (.fabSend d) s (fabSendEffect d u).st ∧
        (fabSendEffect d u).st.fab.recvs = u.fab.recvs.filter (fun x => x ≠ r) ∧
        (fabSendEffect d u).st.fab.writes = u.fab.writes ++ [
          { page := r.page, series := r.series, seq := r.seq, src := u.node, msg := u.fab.msgs }]) ∧
    (Taken (.fabSend d) s u → d.u16 16 ≠ u.node → (u.hops (u.standIn (d.u16 16))).isSome = true → u.fabOpen < 7680 →
      Gives (.fabSend d) s (fabSendEffect d u).st ∧
        (fabSendEffect d u).st.fab.sends = u.fab.sends ++ [
          { page := d.page, series := d.series, seq := d.seq, msg := u.fab.msgs, dst := d.u16 16, began := u.now }]) ∧
    (Taken (.fabRecv d) s u → (u.fab.recvs.filter fun r => r.page = d.page).length < 4 → Gives (.fabRecv d) s
      { u with fab := { u.fab with recvs := u.fab.recvs ++ [
        { page := d.page, series := d.series, seq := d.seq, buffer := d.buffer, node := d.u16 16, tenant := d.u16 18, maxLen := d.u32 20 }] } }))

/-- The descriptors of the CAN ports, sent by their owner or where none is set. Commands shown to complete: those named here. Rules: R414, R416, R419, R421. -/
def Obligations.CanCommands : Prop :=
  ∀ (d : Desc) (s u : State), ((u.can d.target).owner = none ∨ (u.can d.target).owner = some d.page) → (
    (Taken (.canDetect d) s u → (u.can d.target).search = none → u.canCands d.target ≠ [] →
      ∃ t, exec (.canDetect d) s = .next t ∧ (t.can d.target).mode = 2 ∧ (t.can d.target).tx = (u.can d.target).tx ∧
        ∃ q, (t.can d.target).search = some q ∧ q.page = d.page ∧ q.series = d.series ∧ q.seq = d.seq ∧ q.dwell = nsOf (d.f32 16) ∧
          q.rounds = d.u8 20 ∧ q.candAt = u.now) ∧
    (Taken (.canRxPost d) s u → (u.can d.target).rx.length < 2 → (u.can d.target).stage = [] →
      ∃ t, exec (.canRxPost d) s = .next t ∧ ∃ b, (t.can d.target).rx = (u.can d.target).rx ++ [b] ∧ b.page = d.page ∧ b.series = d.series ∧
        b.seq = d.seq ∧ b.buffer = d.buffer ∧ b.count = d.u16 16) ∧
    (∀ sof, Taken (.canTx d sof) s u → (u.can d.target).mode = 1 → u.canFrameOk d.target (canFrame d) = true →
      u.canStop d.target (leNat (canFrame d) 8 4) = decide (d.u8 16 = 2) → Tab.get (u.can d.target).tx none (d.u8 16) = none →
      ∃ t, exec (.canTx d sof) s = .next t ∧ ∃ x, Tab.get (t.can d.target).tx none (d.u8 16) = some x ∧ x.page = d.page ∧ x.series = d.series ∧
        x.seq = d.seq ∧ x.frame = canFrame d ∧ x.loadedAt = u.now) ∧
    (∀ sof, Taken (.canTxAbort d sof) s u → u.canFlying d.target sof = none → (u.can d.target).next = none →
      ∃ t, exec (.canTxAbort d sof) s = .next t ∧ ∀ k ∈ maskList 3 (d.u8 16), Tab.get (t.can d.target).tx none k = none))

/-! ### Tenants, security, test mode -/

/-- The descriptors that create, bind and retire tenants, set the slot schedule and change the security state; those of test mode, on regions whose
partitions are all UNCONFIGURED or BLOCKED. Commands shown to complete: those named here. Rules: R339, R341, R342, R348, R350, R354, R355, R359, R491. -/
def Obligations.TenantCommands : Prop :=
  ∀ (d : Desc) (s u : State), (
    (Taken (.tenantCreate d) s u → (u.tenant d.target).active = false →
      Gives (.tenantCreate d) s ((u.createTenant d.target (d.u8 16)).withStored 0xC8 d 0)) ∧
    (Taken (.tenantBind d) s u → d.target = 0 → (u.tenant 0).active = true → d.u64 32 % 4096 = 0 → d.u64 40 % 4096 = 0 →
      (d.payload.take 16).any (fun b => b ≠ 0) = false →
      (∀ r ∈ u.ringsOn 0, d.u64 32 ≤ ((u.page 0).ring r).base ∧
        ((u.page 0).ring r).base + ((u.page 0).ring r).size * entrySize r ≤ d.u64 32 + d.u64 40) →
      Gives (.tenantBind d) s ((u.setTenant 0 ((u.tenant 0).bind d)).withStored 0xC9 d 0)) ∧
    (Taken (.tenantBind d) s u → d.target ≠ 0 → (u.tenant d.target).active = true → d.u64 32 % 4096 = 0 → d.u64 40 % 4096 = 0 →
      u.ringsOn d.target = [] → Gives (.tenantBind d) s ((tenantBindEffect d u).st.withStored 0xC9 d 0)) ∧
    (Taken (.tenantRetire d) s u → d.target ≠ 0 → d.target ≠ d.page → (u.tenant d.target).active = true →
      Gives (.tenantRetire d) s ((u.retireTenant d.target).withStored 0xCA d 0)) ∧
    (Taken (.slotSchedule d) s u → (∀ x ∈ slotsOf d.host, x = 0xFFFF ∨ (x ≤ 1023 ∧ (u.tenant x).active = true)) →
      Gives (.slotSchedule d) s ({ u with sec := { u.sec with nextSchedule := some (slotsOf d.host) } }.withStored 0xCB d 0)) ∧
    (∀ signed, Taken (.secCtrlEnter d signed) s u → u.sec.ownerKeys ≠ [] → signed = true →
      Gives (.secCtrlEnter d signed) s ({ u with sec := { u.sec with modeNext := some true } }.withStored 0xCC d 0)) ∧
    (∀ signed, Taken (.secCtrlLeave d signed) s u → u.sec.ownerKeys ≠ [] → signed = true →
      Gives (.secCtrlLeave d signed) s ({ u with sec := { u.sec with modeNext := some false } }.withStored 0xCC d 0)) ∧
    (Taken (.secCtrlConsent d) s u → consentOf d ≤ 1023 → (u.tenant (consentOf d)).active = true →
      ∃ t, exec (.secCtrlConsent d) s = .next t ∧
        (d.page = 0 ∧ d.target ≠ 0xFFFF → (t.tenant (consentOf d)).consentT0 = decide (d.u8 17 = 1)) ∧
        (¬ (d.page = 0 ∧ d.target ≠ 0xFFFF) → (t.tenant (consentOf d)).consentOwn = decide (d.u8 17 = 1))) ∧
    (∀ signed, Taken (.secCtrlEnrolKey d signed) s u → Tab.get u.sec.ownerKeys [] (d.u8 18) = [] → (u.sec.ownerKeys = [] ∨ signed = true) →
      Gives (.secCtrlEnrolKey d signed) s
        { u with sec := { u.sec with ownerKeys := Tab.set u.sec.ownerKeys [] (d.u8 18) (Config.sha384 d.host) } }) ∧
    (∀ signed, Taken (.secCtrlRevokeKey d signed) s u → Tab.get u.sec.ownerKeys [] (d.u8 18) ≠ [] → 1 < u.sec.ownerKeys.length →
      signed = true → Gives (.secCtrlRevokeKey d signed) s
        { u with sec := { u.sec with ownerKeys := Tab.set u.sec.ownerKeys [] (d.u8 18) [] } }) ∧
    (∀ svn raises, Taken (.fwUpdate d true svn raises) s u → u.stor.state ≠ 0 → u.sec.arbCounter ≤ svn → u.worn 0 = false → u.stor.ops.length < 960 → Gives (.fwUpdate d true svn raises) s (u.setStor { u.stor with ops := u.stor.ops ++ [
        { page := d.page, series := d.series, seq := d.seq, op := 0xCD, target := d.target, data := fitTo (d.u32 16) d.host, key := svn, aux := if raises then 1 else 0,
          buffer := d.buffer }] })) ∧
    (Taken (.testEccInject d) s u → d.u8 17 < (areaSize (d.u8 16)).1 → d.u32 20 < (areaSize (d.u8 16)).2 → d.u32 20 % 8 = 0 →
      u.testFree (if d.u8 16 = 0 then [d.u8 17] else if d.u8 16 = 1 then [d.u8 17 / 8] else List.range 8) = true →
      Gives (.testEccInject d) s { u with ecc := u.ecc ++ [(d.u8 16, d.u8 17, d.u32 20, d.u8 24)] }) ∧
    (Taken (.testWdogStop d) s u → u.testFree [d.target] = true → Gives (.testWdogStop d) s
      (u.setRegion d.target { u.region d.target with wdogStopped := true, wdogFrom := u.now })) ∧
    (Taken (.testLinkSilence d) s u → u.testFree [d.target / 128] = true → Gives (.testLinkSilence d) s
      (u.setLane d.target { u.lane d.target with silenced := true, testUntil := u.now + d.u16 16 * 1000 })))

/-! ### Rings and records -/

/-- Doorbells of a running device for a tenant that is active: a tail within the ring is taken, a head acknowledges records, bytes are staged for the
urgent ring; a tail outside its ring stops the ring, and a ring that is off takes nothing. Commands shown to complete: `SQ_TAIL`, `CQ_HEAD`, `EQ_HEAD`,
`URGENT_STAGE`. Rules: R319, R327. -/
def Obligations.DoorbellsTaken : Prop :=
  ∀ (s u : State) (t : Time) (n v : Nat), s.power = .running → u = s.at t → n < 1024 → (u.tenant n).active = true → v < 0x10000 → (
    (∀ r < 4, ((u.page n).ring r).enable = true → v < ((u.page n).ring r).size →
      exec (.sqTail t n r v true) s = .next (u.setPage n ((u.page n).setRing r { (u.page n).ring r with tail := v }))) ∧
    (∀ r < 4, ((u.page n).ring r).enable = true → ((u.page n).ring r).size ≤ v → exec (.sqTail t n r v true) s = .next (u.ringError n r 4)) ∧
    (∀ r, ((u.page n).ring r).enable = false → exec (.sqTail t n r v true) s = .next u) ∧
    (((u.page n).ring 4).enable = false → exec (.cqHead t n v true) s = .next u) ∧
    (((u.page n).ring 5).enable = false → exec (.eqHead t n v true) s = .next u) ∧
    (((u.page n).ring 4).enable = true → v < ((u.page n).ring 4).size →
      ((u.page n).ring 4).acked v ≤ ((u.page n).ring 4).wr - ((u.page n).ring 4).ack → (u.page n).refused = [] →
      exec (.cqHead t n v true) s = .next (u.setPage n (Page.setRing
        { u.page n with retained := (u.page n).retained.drop (((u.page n).ring 4).acked v) } 4
        { (u.page n).ring 4 with ack := ((u.page n).ring 4).ack + ((u.page n).ring 4).acked v, tail := v }))) ∧
    (((u.page n).ring 5).enable = true → v < ((u.page n).ring 5).size →
      ((u.page n).ring 5).acked v ≤ ((u.page n).ring 5).wr - ((u.page n).ring 5).ack → (u.page n).staging = [] →
      ∃ x, exec (.eqHead t n v true) s = .next x ∧ x.drive = u.drive ∧ ((x.page n).ring 5).tail = v ∧
        ((x.page n).ring 5).ack = ((u.page n).ring 5).ack + ((u.page n).ring 5).acked v ∧
        ∃ l, (x.page n).evWritten = (u.page n).evWritten.drop (((u.page n).ring 5).acked v) ++ l ∧ ((u.page n).lostEv = none → l = [])) ∧
    (∀ off bytes, exec (.urgentStage t n off bytes) s = .next (u.setPage n { u.page n with
      stage := (overwrite (fitTo 64 (u.page n).stage) off (bytes.take (64 - off))).take 64 })))

/-- A ready descriptor of a served ring is fetched: the ring's head and the slot's fetches move on, and the descriptor is accepted. An urgent commit
whose sequence is the staged descriptor's accepts it ahead of all fetching, and fetching waits for it; with another sequence it completes with
`URGENT_REFUSED` under the sequence committed. A ring that is off or empty, or a tenant with 12 descriptors of it outstanding, fetches nothing.
Commands shown to complete: `DESCRIPTOR_FETCH`, `URGENT_COMMIT`. Rules: R324, R327. -/
def Obligations.DescriptorsAccepted : Prop :=
  (∀ (s u w : State) (t : Time) (n r : Nat) (bytes : List Byte), s.power = .running → u = s.at t → n < 1024 → (u.tenant n).active = true →
    r < 4 → ((u.page n).ring r).enable = true → ((u.page n).ring r).head ≠ ((u.page n).ring r).tail → (u.page n).window < 12 →
    u.mayFetch n = true → opDefined (byteAt bytes 4) = true →
    w = { u.setPage n ((u.page n).setRing r { (u.page n).ring r with head := (((u.page n).ring r).head + 1) % ((u.page n).ring r).size }) with
      sec := { u.sec with fetchesLeft := u.sec.fetchesLeft - 1 } } →
    exec (.descriptorFetch t n r bytes) s = .next (w.accept (byteAt bytes 4) (descOf n r bytes u.now)).1) ∧
  (∀ (s u : State) (t : Time) (n r : Nat) (bytes : List Byte), s.power = .running → u = s.at t → n < 1024 →
    (((u.page n).ring r).enable = false ∨ ((u.page n).ring r).head = ((u.page n).ring r).tail ∨ 12 ≤ (u.page n).window ∨ u.mayFetch n = false) →
    exec (.descriptorFetch t n r bytes) s = .next u) ∧
  ∀ (s u : State) (t : Time) (n v : Nat) (d : Desc), s.power = .running → u = s.at t → n < 1024 → (u.tenant n).active = true →
    (u.page n).window < 16 → d = descOf n 4 (fitTo 64 (u.page n).stage) u.now → (
    (d.seq ≠ v → exec (.urgentCommit t n v true) s = .next (u.postCompletion n
      { seq := v, status := 0x000B, op := byteAt (fitTo 64 (u.page n).stage) 4, flags := d.flags % 16, series := 4, result := [] })) ∧
    (d.seq = v → opDefined (byteAt (fitTo 64 (u.page n).stage) 4) = true → (u.accept (byteAt (fitTo 64 (u.page n).stage) 4) d).2 = true →
      ∃ x, exec (.urgentCommit t n v true) s = .next x ∧ x.sys.urgentBusy = u.sys.urgentBusy ++ [(n, d.seq)] ∧
        (x.page n).find d.series d.seq = ((u.accept (byteAt (fitTo 64 (u.page n).stage) 4) d).1.page n).find d.series d.seq ∧
        ∀ m, x.mayFetch m = false))

/-- Rings on and off, interrupt holdoffs, the PCIe link, coalescing, shed counts; a holdoff, a window or a count that is not there changes nothing.
Events shown to complete: those named here. Rules: R315, R318, R337, R445, R447, R484. -/
def Obligations.RingEvents : Prop :=
  ∀ (s u : State) (t : Time), s.power = .running → u = s.at t → (
    (∀ v, exec (.ringEnable t v) s = .next (u.ringsOnBy v)) ∧
    (∀ v, exec (.ringDisable t v) s = .next (u.ringsOffBy v)) ∧
    (∀ n r w, n < 1024 → ((u.page n).ring r).irqLast = some w → w + ((u.page n).ring r).holdoff * 1000 ≤ u.now →
      0 < ((u.page n).ring r).irqPend → exec (.irqHoldoffExpiry t n r) s = .next ((u.setPage n ((u.page n).setRing r
        { (u.page n).ring r with irqPend := 0, irqLast := some u.now })).fireVector ((u.page n).ring r).vector)) ∧
    (∀ n r, n < 1024 → ((u.page n).ring r).irqPend = 0 → exec (.irqHoldoffExpiry t n r) s = .next u) ∧
    (∃ x, exec (.pcieLinkLoss t) s = .next x ∧ x.drive = { u.drive with sys := { u.drive.sys with linkUp := false, linkWord := 0 } } ∧
      ∀ n r, r < 6 → ((x.page n).ring r).enable = false) ∧
    (∀ word, exec (.pcieLinkUp t word) s = .next { u with sys := { u.sys with
      linkUp := true
      linkWord := min (if s.regField 0x2004 0 6 3 = 0 then 8 else s.regField 0x2004 0 6 3) (word % 16) +
        16 * min (if s.regField 0x2004 0 2 0 = 0 then 4 else s.regField 0x2004 0 2 0) (bits word 6 4) + 128 + bits word 13 8 * 256 } }) ∧
    (∀ n src code c, n < 1024 → ((u.page n).coal.find? fun c => c.src = src ∧ c.code = code ∧ c.ends ≤ u.now) = some c → c.count ≠ 0 →
      exec (.coalesceWindowEnd t n src code) s = .next
        ((u.setPage n { u.page n with coal := (u.page n).coal.filter fun x => x ≠ c }).recordEvent n c.cls (severityOf c.cls) src code c.count
          c.time c.data)) ∧
    (∀ n src code, n < 1024 → ((u.page n).coal.find? fun c => c.src = src ∧ c.code = code ∧ c.ends ≤ u.now) = none →
      exec (.coalesceWindowEnd t n src code) s = .next u) ∧
    (∀ n cls path ended, n < 1024 → ((u.page n).shed.find? fun x => x.cls = cls ∧ x.path = path ∧ x.count ≠ 0) = none →
      exec (.shedCount t n cls path ended) s = .next u) ∧
    (∀ n cls path ended x, n < 1024 → ((u.page n).shed.find? fun x => x.cls = cls ∧ x.path = path ∧ x.count ≠ 0) = some x →
      exec (.shedCount t n cls path ended) s = .next
        ((u.setPage n { u.page n with shed := (u.page n).shed.map fun y =>
          if y.cls = cls ∧ y.path = path then { y with count := 0, open_ := !ended } else y }).recordEvent n 8 (severityOf cls) (srcTenant n)
          0x0016 1 x.last x.data)))

/-- The end of a write that the device issued: a host buffer written ends its descriptor with the status it stands at, a write that failed ends it
with `BUFFER_ERROR`; a completion record that could not be written stops its ring, and a fetch that fails the ring it was for; with no such write
issued nothing changes. Event shown to complete: `HOST_DMA_COMPLETION`. Rules: R317. -/
def Obligations.DmaCompletes : Prop :=
  ∀ (s u : State) (t : Time) (n r : Nat) (p : Post) (rest : List Post), s.power = .running → u = s.at t → n < 1024 → (
    (∀ a, takePost .buffer n r u.outbox = some (p, rest) → (u.page n).find p.series p.seq = some a → a.await = .dma →
      exec (.hostDmaCompletion t 3 n r true) s = .next ((State.release { u with outbox := rest }).finish n p.series p.seq a.status a.result)) ∧
    (∀ a, takePost .buffer n r u.outbox = some (p, rest) → (u.page n).find p.series p.seq = some a → a.await = .dma →
      exec (.hostDmaCompletion t 3 n r false) s = .next (State.finish
        { State.release { u with outbox := rest } with
          sys := { (State.release { u with outbox := rest }).sys with errDma := holdAt 255 ((State.release { u with outbox := rest }).sys.errDma + 1) } }
        n p.series p.seq 0x000D a.result)) ∧
    (exec (.hostDmaCompletion t 0 n r false) s = .next (if ((u.page n).ring r).enable = true then u.ringError n r 5 else u)) ∧
    (exec (.hostDmaCompletion t 0 n r true) s = .next u) ∧
    (takePost .buffer n r u.outbox = none → ∀ ok, exec (.hostDmaCompletion t 3 n r ok) s = .next u) ∧
    (takePost .completion n r u.outbox = some (p, rest) →
      exec (.hostDmaCompletion t 1 n r true) s = .next (State.release { u with outbox := rest })) ∧
    (takePost .completion n r u.outbox = some (p, rest) →
      exec (.hostDmaCompletion t 1 n r false) s = .next ((State.release { u with outbox := rest }).ringError n 4 6)))

/-- Leases and certified slots, self-tests, telemetry and bulk work as time goes on; an event whose condition does not hold changes nothing. Events
shown to complete: those named here. Rules: R29, R30, R244, R346, R443, R491. -/
def Obligations.HousekeepingEvents : Prop :=
  ∀ (s u : State) (t : Time), s.power = .running → u = s.at t → (
    (∀ n series seq r, (u.leaseQ.find? fun r => r.tenant = n ∧ r.series = series ∧ r.seq = seq) = some r → r.began + r.timeout ≤ u.now →
      ∃ x, exec (.leaseTimeout t n series seq) s = .next x ∧ x.drive = State.drive { u with leaseQ := u.leaseQ.filter fun x => x ≠ r }) ∧
    (∀ n series seq, (u.leaseQ.find? fun r => r.tenant = n ∧ r.series = series ∧ r.seq = seq) = none →
      exec (.leaseTimeout t n series seq) s = .next u) ∧
    (exec (.certifiedSlotStart t) s = .next (State.release { u with sec := { u.sec with
      slot := u.now / 15625 % 64
      schedule := if u.now / 15625 % 64 = 0 then u.sec.nextSchedule.getD u.sec.schedule else u.sec.schedule
      nextSchedule := if u.now / 15625 % 64 = 0 then none else u.sec.nextSchedule
      fetchesLeft := 8
      bytesLeft := 8192 } })) ∧
    (∀ r, r < 8 → (u.region r).bulkAt = none → exec (.bulkWait t r) s = .next
      ((u.setRegion r { u.region r with bulkAt := some u.now }).warn (srcRegion r) 0x0015
        (zeros 4 ++ fitTo 4 (Config.evData 0x0015 [(r : Q), (u.now : Q)])))) ∧
    (∀ r w, r < 8 → (u.region r).bulkAt = some w → exec (.bulkWait t r) s = .next
      (if w + 100000000 ≤ u.now then (u.setRegion r { u.region r with bulkAt := some u.now }).warn (srcRegion r) 0x0015
          (zeros 4 ++ fitTo 4 (Config.evData 0x0015 [(r : Q), (u.now : Q)])) else u)) ∧
    (∀ l, l < 1024 → exec (.testLinkSilenceEnd t l) s = .next
      (if (u.lane l).silenced = true ∧ (u.lane l).testUntil ≤ u.now then u.setLane l { u.lane l with silenced := false, testUntil := 0 }
       else u)) ∧
    (∀ p failed, p < 8 → (u.protOf p).testing = none → exec (.protSelftestDone t p failed) s = .next u) ∧
    (∀ n sub load, n < 1024 → Tab.get (u.page n).streams none sub = none → exec (.telemSample t n sub load) s = .next u) ∧
    (∀ n sub load x, n < 1024 → Tab.get (u.page n).streams none sub = some x → ((u.tenant n).active = false ∨ u.reads n x.part = false) →
      exec (.telemSample t n sub load) s = .next (u.setStream n sub none)) ∧
    (∀ p n series seq scope, p < 8 → (u.protOf p).testing = some (n, series, seq, scope) → exec (.protSelftestDone t p []) s = .next
      (((u.setProt p { u.protOf p with
        testing := none, failed := 0, passedAt := if scope.testBit 0 then some u.now else (u.protOf p).passedAt }).finish n series seq 0
          ((u.setProt p { u.protOf p with
            testing := none, failed := 0, passedAt := if scope.testBit 0 then some u.now else (u.protOf p).passedAt }).protResult p)).auxResume p)) ∧
    (∀ n sub load x, n < 1024 → Tab.get (u.page n).streams none sub = some x → (u.tenant n).active = true → u.reads n x.part = true →
      u.sys.urgentBusy = [] → u.dieThrottle = false → load ≤ u.telemLoad → exec (.telemSample t n sub load) s = .next
        ((u.setStream n sub (some { x with seq := x.seq + 1, skipped := 0 })).post
          { kind := .telem, page := n, ring := sub
            addr := (u.tenant n).winBase + x.buffer + u.recordSize x.part x.mask x.cellArm * (x.seq % x.count)
            bytes := fitTo (u.recordSize x.part x.mask x.cellArm) (leBytes 4 x.seq ++ leBytes 2 x.skipped ++ leBytes 1 sub ++
              leBytes 1 (u.part x.part).st.code ++ leBytes 8 u.now ++ u.sample x.part x.mask x.cellArm) })) ∧
    (∀ n sub load x, n < 1024 → Tab.get (u.page n).streams none sub = some x → (u.tenant n).active = true → u.reads n x.part = true →
      u.telemLoad < load → exec (.telemSample t n sub load) s = .next
        (u.setStream n sub (some { x with seq := x.seq + 1, skipped := holdAt 0xFFFF (x.skipped + 1) }))))

/-! ### Lanes and the cell cycle -/

/-- What happens to a lane that a partition uses: it locks, goes down, gives up, searches, is trained again. Events shown to complete: those named
here. Rules: R269, R270, R271. -/
def Obligations.LaneEvents : Prop :=
  ∀ (s u : State) (t : Time) (l : Nat), s.power = .running → u = s.at t → l < 1024 → (
    ((u.cell l).used = true → (u.lane l).lstate = 1 → exec (.laneLockAcquired t l) s = .next
      (u.setLane l { u.lane l with lstate := 3, locked := true, down := false, idFrame := [], idCount := 0 })) ∧
    ((u.cell l).used = true → (u.lane l).lstate ≠ 0 → (u.lane l).lstate ≠ 5 → (u.lane l).down = false → exec (.linkDown t l) s = .next
      ((u.setLane l { (u.lane l).acquire u.now with down := true, downAt := u.now, downs := holdAt 255 ((u.lane l).downs + 1) }).inform
        (srcLane l) 0x1002 [])) ∧
    ((u.lane l).lstate ≠ 5 → (u.lane l).down = true → (u.lane l).downAt + u.retryMs (u.cell l).part * 1000000 ≤ u.now →
      ((u.cell l).st = .bypassed ∨ (u.cell l).st = .isolated) →
      exec (.linkRetryExpiry t l) s = .next (u.setLane l { u.lane l with lstate := 2 })) ∧
    ((u.lane l).lstate ≠ 5 → (u.lane l).down = true → (u.lane l).downAt + u.retryMs (u.cell l).part * 1000000 ≤ u.now →
      (u.cell l).st ≠ .bypassed → (u.cell l).st ≠ .isolated → exec (.linkRetryExpiry t l) s = .next
        ((u.setLane l { u.lane l with lstate := 2 }).setCell l { u.cell l with st := .absent, admitting := false })) ∧
    ((u.lane l).lstate = 2 → exec (.linkSearchInterval t l) s = .next
      (u.setLane l { (u.lane l).acquire u.now with down := true, downAt := (u.lane l).downAt })) ∧
    (((u.lane l).lstate = 1 ∨ ((u.lane l).lstate = 3 ∧ (u.lane l).idCount < 3)) → (u.lane l).trainFrom + 10000000 ≤ u.now →
      exec (.trainingTimeout t l) s = .next (u.setLane l { (u.lane l).acquire u.now with tooLong := (u.lane l).tooLong })) ∧
    (∀ w, (u.lane l).silentUntil = some w → w ≤ u.now →
      exec (.retrainSilenceEnd t l) s = .next (u.setLane l ((u.lane l).acquire u.now))))

/-- Frames and alarms from a cell: a frame with an error is counted; a frame in a trained lane tells the cell's state; an alarm of either kind takes
the cell out, and one of an unsafe cell trips its partition and stays asserted while the cell's up-frames report it; a standby only records; a symbol
that is no alarm is dropped. Events shown to complete: those named here. Rules: R64, R234, R235, R264, R269. -/
def Obligations.CellFrames : Prop :=
  ∀ (s u : State) (t : Time) (l : Nat), s.power = .running → u = s.at t → l < 1024 → (
    (∀ bytes chars rtt, (u.cell l).used = true → (u.lane l).lstate ≠ 0 → (u.lane l).lstate ≠ 5 → upValid bytes chars = false →
      exec (.upFrameReceived t l bytes chars rtt) s = .next (u.setLane l { (u.lane l).broken with rxErr := holdAt 0xFFFF ((u.lane l).rxErr + 1) })) ∧
    (∀ bytes chars rtt, (u.cell l).used = true → (u.lane l).lstate = 4 → upValid bytes chars = true →
      ¬ upWindowEnd (u.cycleNs (u.cell l).part) < u.now % u.cycleNs (u.cell l).part →
      leNat bytes 0 2 = u.cycleNo (u.cell l).part % 65536 → byteAt bytes 5 ≠ 1 →
      byteAt bytes 4 = (u.part (u.cell l).part).epoch → (u.part (u.cell l).part).epoch < 256 → leNat bytes 20 2 = (u.cell l).boots →
      exec (.upFrameReceived t l bytes chars rtt) s = .next
        (((u.ranged l (if leNat bytes 6 2 = 0xFFFF then none else some (((rtt : Q) - (leNat bytes 6 2 : Nat)) / 2))).statusFrame l bytes).precharge1
          (u.cell l).part)) ∧
    (∀ clean, u.takesAlarm l clean = false → exec (.alarmSReceived t l clean) s = .next (u.dropAlarm l) ∧
      exec (.alarmUReceived t l clean) s = .next (u.dropAlarm l)) ∧
    (∀ clean v w, u.takesAlarm l clean = true → v = u.countAlarm l 0 →
      w = (if (byteAt (v.lane l).lastFrame 8).testBit 4 then v else v.releaseSource (u.cell l).part 0x0904 l) →
      exec (.alarmSReceived t l clean) s = .next
        (if (w.lane l).standby then w.setCell l { w.cell l with st := .bypassed, reason := 2 } else w.loseCell l 2)) ∧
    (∀ clean v, u.takesAlarm l clean = true → v = u.countAlarm l 1 → exec (.alarmUReceived t l clean) s = .next
      (if (v.lane l).standby then v.setCell l { v.cell l with st := .bypassed, reason := 2 }
       else ((v.setProt (u.cell l).part { v.protOf (u.cell l).part with
          alarms := l :: (v.protOf (u.cell l).part).alarms.filter (· ≠ l) }).assertSource (u.cell l).part 0x0904 l 0 0xFFFF).cellFault l)) ∧
    ((u.cell l).st = .charging → (u.cell l).admitAt + nsOf (u.readmitTimeout (u.cell l).part) ≤ u.now →
      exec (.readmitTimeout t l) s = .next (u.loseCell l 4)) ∧
    ((u.cell l).test = 1 → (u.cell l).testFrom + nsOf (u.stTimeout (u.cell l).part) ≤ u.now → (u.cell l).admitting = true →
      exec (.selftestTimeout t l) s = .next ((u.setCell l { u.cell l with test := 3, admitting := false }).loseCell l 4)) ∧
    ((u.cell l).test = 1 → (u.cell l).testFrom + nsOf (u.stTimeout (u.cell l).part) ≤ u.now → (u.cell l).admitting = false →
      exec (.selftestTimeout t l) s = .next ((u.setCell l { u.cell l with test := 3 }).precharge1 (u.cell l).part)))

/-- A cell that is lost while it is used, and neither bypassed nor isolated, is out of use afterwards: isolated if its bypass failed, else bypassed.
Rules: R51, R54. -/
def Obligations.LostCellIsOut : Prop :=
  ∀ (s : State) (l reason : Nat), (s.cell l).used = true → (s.cell l).st ≠ .bypassed → (s.cell l).st ≠ .isolated →
    ((s.loseCell l reason).cell l).st = (if reason = 6 then .isolated else .bypassed) ∧ ((s.loseCell l reason).cell l).reason = reason ∧
      ∀ m, m ≠ l → ((s.loseCell l reason).cell m).st = (s.cell m).st

/-- The events of a partition's cell cycle. At its start stored `CELL_POLICY` bytes come into force, the inputs' measurements are latched, and a
configured partition latches its arms and its feedback; at the end of the up window lanes that sent nothing are counted; in the compute window every
capacitor voltage is predicted; an arm is placed between the start of the compute window and the placement cut-off, once its references are there or
the cut-off has come; a current-loop step runs the loop, publishes its references and tells partner and standby; a speed step takes the tandem's
replies and runs the speed loop; at the down window every lane of the partition gets its frame. For the partner of a bonded partition, whose lanes its
owner serves, all but the two windows do nothing. Events shown to complete: `CELL_CYCLE_START`, `UP_FRAME_WINDOW_END`, `COMPUTE_WINDOW_START`,
`ARM_PLACEMENT`, `CURRENT_LOOP_STEP`, `SPEED_STEP`, `DOWN_FRAME_WINDOW_START`. Rules: R33, R45, R67, R74, R75, R76, R81, R82, R98, R99, R261. -/
def Obligations.CycleEvents : Prop :=
  ∀ (s u : State) (t : Time) (p : Nat), s.power = .running → u = s.at t → p < 8 → (
    (∀ now mean count ages counts, u.bondPartner p = true → exec (.cellCycleStart t p now mean count ages counts) s = .next u) ∧
    (∀ now mean count ages counts, u.bondPartner p = false → (u.part p).st = .unconfigured → exec (.cellCycleStart t p now mean count ages counts) s = .next
      ((u.settle [0x16] p).latchFrom (16 * p) (now.take (if (u.part p).bonded then 32 else 16))
        (mean.take (if (u.part p).bonded then 32 else 16)))) ∧
    (∀ now mean count ages counts v w, u.bondPartner p = false → (u.part p).st ≠ .unconfigured →
      v = (u.settle [0x16] p).latchFrom (16 * p) (now.take (if (u.part p).bonded then 32 else 16))
        (mean.take (if (u.part p).bonded then 32 else 16)) →
      w = (v.armsOf p).foldl (fun x a => x.latchArm p (v.cycleNo p) a) v →
      exec (.cellCycleStart t p now mean count ages counts) s = .next
        (((State.setPart { w with cycle := v.cycleNo p } p { w.part p with published := false }).latchFeedback p count (ages.zip counts)).record p 0)) ∧
    (exec (.upFrameWindowEnd t p) s = .next (((u.lanesOf p).foldl (fun x l => x.countMissing l) u).countObeying p)) ∧
    (exec (.computeWindowStart t p) s = .next (u.predictArm p (u.partCells p))) ∧
    (∀ arm, u.bondPartner p = false → u.fencedPart p = false → u.armGiven p arm = true → upWindowEnd (u.cycleNs p) ≤ u.now % u.cycleNs p →
      u.now % u.cycleNs p ≤ downWindowStart (u.cycleNs p) - placeNs (u.cycleNs p) →
      (u.awaitsRefs p arm (u.cycleNo p + 1) = true →
        u.now % u.cycleNs p = downWindowStart (u.cycleNs p) - placeNs (u.cycleNs p)) →
      exec (.armPlacement t p arm) s = .next ((u.predictArm p (u.cellsOf p arm)).placeArm p arm (u.cycleNo p + 1))) ∧
    (∀ arm, (u.bondPartner p = true ∨ u.fencedPart p = true ∨ u.armGiven p arm = false ∨ u.now % u.cycleNs p < upWindowEnd (u.cycleNs p) ∨
        downWindowStart (u.cycleNs p) - placeNs (u.cycleNs p) < u.now % u.cycleNs p) → exec (.armPlacement t p arm) s = .next u) ∧
    (∀ v, u.bondPartner p = false → (u.part p).st ≠ .unconfigured → v = u.countOverrun p →
      exec (.downFrameWindowStart t p) s = .next ((v.lanesOf p).foldl (fun x l => x.sendDown l (x.cycleNo p + 1)) v)) ∧
    ((u.bondPartner p = true ∨ (u.part p).st = .unconfigured) → exec (.downFrameWindowStart t p) s = .next u) ∧
    (∀ fresh pd pq pt, u.bondPartner p = false → (u.part p).st ≠ .unconfigured → u.shape p ≠ 6 →
      (u.fencedPart p = true → (u.part p).st = .tripped) → exec (.currentLoopStep t p fresh pd pq pt) s = .next
        (((((u.stepBoundary p).loopStep p fresh pd pq pt).publish p).sendPartner p).sendMirror p |>.record p 1)) ∧
    (∀ fresh pd pq pt, (u.bondPartner p = true ∨ (u.part p).st = .unconfigured ∨ u.shape p = 6 ∨
        (u.fencedPart p = true ∧ (u.part p).st ≠ .tripped)) → exec (.currentLoopStep t p fresh pd pq pt) s = .next u) ∧
    (∀ who caps torques speeds states limits, u.bondPartner p = false → (u.part p).st ≠ .unconfigured → u.shape p ≠ 6 →
      exec (.speedStep t p who caps torques speeds states limits) s = .next
        ((((u.takeReplies p who caps torques speeds states limits).speedStep p).gearStep p).record p 2)) ∧
    (∀ who caps torques speeds states limits, (u.bondPartner p = true ∨ (u.part p).st = .unconfigured ∨ u.shape p = 6) →
      exec (.speedStep t p who caps torques speeds states limits) s = .next u))

/-! ### Partitions and control in time -/

/-- A trip of an energised partition takes it to TRIPPED and keeps the first cause, its source and its time. Rules: R227, R230. -/
def Obligations.TripKeepsFirstCause : Prop :=
  ∀ (s : State) (p cause source : Nat) (value : Q) (tenant : Nat), (s.part p).st.energised = true →
    ¬ (lastingCause cause = true ∧ (s.protOf p).active.contains (cause, source) = true) →
    ((s.assertSource p cause source value tenant).part p).st = .tripped ∧
      ((s.assertSource p cause source value tenant).protOf p).firstAt = some s.now ∧
      ((s.assertSource p cause source value tenant).protOf p).firstCause = cause ∧
      ((s.assertSource p cause source value tenant).protOf p).firstSource = source ∧
      ((s.assertSource p cause source value tenant).protOf p).later = 0 ∧
      ∀ q, q ≠ p → ((s.assertSource p cause source value tenant).part q).st = (s.part q).st

/-- Pre-charge, ready and disable in time: each phase goes on when its condition holds, its timeout trips the partition, READY ends below its floor,
and a ramp that ends takes the partition to READY and completes the `DISABLE` descriptors that wait; an event whose condition does not hold changes
nothing. Events shown to complete: `PRECHARGE_PASSIVE_DONE`, `PRECHARGE_COMPLETE`, `PRECHARGE_TIMEOUT`, `DISABLE_COMPLETE`, `READY_FLOOR_EXPIRY`.
Rules: R57, R60. -/
def Obligations.StartEvents : Prop :=
  ∀ (s u : State) (t : Time) (p : Nat), s.power = .running → u = s.at t → p < 8 → (
    (((u.part p).st ≠ .precharge ∨ (u.part p).phase ≠ 2 ∨ u.passiveReached p = false) → exec (.prechargePassiveDone t p) s = .next u) ∧
    ((u.part p).st = .precharge → (u.part p).phase = 2 → u.passiveReached p = true → (isMmc (u.shape p) = true ∨ u.shape p = 4) →
      exec (.prechargePassiveDone t p) s = .next (u.setPart p { u.part p with phase := 3 })) ∧
    (∀ v, (u.part p).st = .precharge → (u.part p).phase = 2 → u.passiveReached p = true → isMmc (u.shape p) = false → u.shape p ≠ 4 →
      v = (u.setPart p { u.part p with phase := 4 }).decideCells p → exec (.prechargePassiveDone t p) s = .next
        (if (v.part p).st = .precharge then (v.setPart p { v.part p with phase := 5 }).judgeArms p else v)) ∧
    (((u.part p).st ≠ .precharge ∨ ((u.part p).phase ≠ 3 ∧ (u.part p).phase ≠ 5)) → exec (.prechargeComplete t p) s = .next u) ∧
    ((u.part p).st = .precharge → (u.part p).phase = 5 → exec (.prechargeComplete t p) s = .next (u.prechargeEnds p)) ∧
    (∀ v w, (u.part p).st = .precharge → (u.part p).phase = 3 → v = (u.setPart p { u.part p with phase := 4 }).decideCells p →
      w = (v.setPart p { v.part p with phase := 5 }).judgeArms p → exec (.prechargeComplete t p) s = .next
        (if ∀ a ∈ u.armsOf p, absQ (u.armAverage p a - u.vCellNom p a) ≤ u.qualBand p * u.vCellNom p a then
          if (v.part p).st = .precharge then if (w.part p).st = .precharge then w.prechargeEnds p else w else v
        else u)) ∧
    (exec (.prechargeTimeout t p) s = .next
      (if (u.part p).st = .precharge ∧ (u.part p).stamp + nsOf (u.prechargeTimeout p) ≤ u.now then u.assertSource p 0x0104 0xFFFF 0 0xFFFF
       else u)) ∧
    (exec (.disableComplete t p) s = .next
      (if (u.brkOf p).rampDown = true ∧ ((u.part p).st = .running ∨ (u.part p).st = .braking) ∧
          (u.shape p = 6 ∨ stoodFor (u.brkOf p).lowSince u.now 1000000 = true) then
        (u.part p).disabling.foldl (fun (x : State) (e : Nat × Nat × Nat) => x.finish e.1 e.2.1 e.2.2 0 [])
          ((u.setPart p { u.part p with disabling := [] }).toReady p)
       else u)) ∧
    ((u.part p).st = .ready → Tab.get u.sd 0 (u.sdVdc p) < u.readyFloor p * u.vdcNom p →
      ∃ x, exec (.readyFloorExpiry t p) s = .next x ∧ x = (u.quiet p).setPState p .blocked ∧ (x.part p).st = .blocked) ∧
    (¬ ((u.part p).st = .ready ∧ Tab.get u.sd 0 (u.sdVdc p) < u.readyFloor p * u.vdcNom p) →
      exec (.readyFloorExpiry t p) s = .next u))

/-- The machine cores, the exciter, the supply's loop and the watches over control: each acts where its condition holds, and changes nothing where it
does not. Events shown to complete: those named here. Rules: R21, R100, R108, R110, R115, R116, R117. -/
def Obligations.ControlEvents : Prop :=
  ∀ (s u : State) (t : Time) (p : Nat), s.power = .running → u = s.at t → p < 8 → (
    (∀ x, x = (u.setPart p { u.part p with
        migrating := false, core1 := !(u.part p).core1, epoch := ((u.part p).epoch + 1) % 256, epochAt := u.now, lowMargin := 0,
        migDesc := [], migWait := (u.part p).migWait ++ (u.part p).migDesc }).inform (srcPart p) 0x0309 [] →
      exec (.migration t p) s = .next (if (u.part p).migrating = true then if x.shape p = 6 then x.migrationDone p 0 else x else u)) ∧
    (∀ ok, exec (.machineCoreSelftest t p 0 ok) s = .next (u.setPart p { u.part p with
      core0Failed := !ok
      migrating := (u.part p).migrating || (!ok && !(u.part p).core1 && !(u.part p).core1Failed && decide ((u.part p).st ≠ .unconfigured)) })) ∧
    (∀ ok, exec (.machineCoreSelftest t p 1 ok) s = .next (u.setPart p { u.part p with core1Failed := !ok })) ∧
    (exec (.setpointTimeout t p) s = .next
      (if (u.part p).st = .running ∧ (u.ctlOf p).mode = 0 ∧ (u.motOf p).source = 0 ∧ u.spdP p 32 ≠ 0 ∧ ¬ (u.ctlOf p).spTimedOut = true ∧
          stoodFor (u.ctlOf p).spAt u.now (nsOf (u.spdP p 32)) = true then
        (u.setCtl p { u.ctlOf p with spTimedOut := true }).inform (srcPart p) 0x0306 []
       else u)) ∧
    (exec (.exciterReady t p) s = .next
      (if (u.part p).st = .ready ∧ (u.ctlOf p).enWait.isSome = true ∧ u.machine p = 4 ∧ (u.fbOf p).restart ≠ 2 ∧
          absQ (u.fieldI p - u.fieldRef p) ≤ 5 / 100 * u.fieldRef p then u.begin p else u)) ∧
    (∀ n series seq w, (u.ctlOf p).enWait = some (n, series, seq, w) → exec (.exciterEnableTimeout t p) s = .next
      (if u.machine p = 4 ∧ (u.fbOf p).restart ≠ 2 ∧ w + 2000000000 ≤ u.now then
        ((u.setCtl p { u.ctlOf p with enWait := none }).setFb p { u.fbOf p with restart := 0 }).finish n series seq 0x0301 []
       else u)) ∧
    ((u.ctlOf p).enWait = none → exec (.exciterEnableTimeout t p) s = .next u) ∧
    (exec (.exciterFault t p) s = .next
      (if u.machine p = 4 ∧ stoodFor (u.ctlOf p).excSince u.now 20000000 = true then
        u.assertSource p 0x0301 0xFFFF (u.ctlOf p).iF 0xFFFF else u)) ∧
    (exec (.earthCurrent t p) s = .next
      (if 5 ≤ (u.ctlOf p).iz then u.assertSource p 0x0303 0xFFFF (sumQ (u.phaseI p)) 0xFFFF else u)) ∧
    (exec (.positionLost t p) s = .next
      (if u.machineRuns p = true ∧ u.synchronous p = true ∧ (u.fbOf p).st = 0 ∧ stoodFor (u.fbOf p).noneAt u.now 1000000 = true then
        u.assertSource p 0x0304 0xFFFF 0 0xFFFF else u)) ∧
    (exec (.pllLocked t p) s = .next
      (if u.shape p = 2 ∧ stoodFor (u.ctlOf p).pllGood u.now 20000000 = true then
        u.setCtl p { u.ctlOf p with locked := true, pllBad := none } else u)) ∧
    (exec (.pllLost t p) s = .next
      (if u.shape p = 2 ∧ ¬ (u.ctlOf p).locked = true ∧ stoodFor (u.ctlOf p).pllBad u.now 100000000 = true then
        u.assertSource p 0x0305 0xFFFF 0 0xFFFF else u)) ∧
    (exec (.currentSaturationAlarm t p) s = .next
      (if stoodFor (u.ctlOf p).satSince u.now 100000000 = true ∧ ¬ (u.ctlOf p).satAlarm = true then
        (u.setCtl p { u.ctlOf p with satAlarm := true }).alarm (srcPart p) (Config.eventCode 1) [] else u)) ∧
    (exec (.observerDivergence t p) s = .next
      (if stoodFor (u.ctlOf p).divSince u.now 20000000 = true then
        (u.setCtl p { u.ctlOf p with tl := u.teTotal p (u.ctlOf p).te, wHat := u.speed p, ffOff := some u.now, divSince := none }).alarm
          (srcPart p) (Config.eventCode 2) []
       else u)) ∧
    (exec (.partnerLost t p) s = .next
      (if u.winding p ≠ 0 ∧ 5 ≤ (u.ctlOf p).parAge ∧ ¬ (u.ctlOf p).parLost = true then
        (u.setCtl p { u.ctlOf p with parLost := true, parD := 0, parQ := 0, parT := 0 }).inform (srcPart p) 0x0307 [] else u)))

/-! ### Motion and feedback in time -/

/-- Yields, lever, heave, limit inputs and tandems; an event whose condition does not hold changes nothing. Events shown to complete: those named here.
Rules: R130, R132, R140, R142, R170, R176, R178. -/
def Obligations.MotionEvents : Prop :=
  ∀ (s u : State) (t : Time) (p : Nat), s.power = .running → u = s.at t → p < 8 → (
    (exec (.yieldHoldReached t p) s = .next
      (if (u.motOf p).yst = 1 ∧ nsOf (u.shockP p 32) ≤ (u.motOf p).hold then u.setMot p { u.motOf p with yst := 2, planned := false } else u)) ∧
    (exec (.yieldTimeout t p) s = .next
      (if (u.motOf p).yst = 1 ∧ (u.motOf p).yStart + nsOf (u.shockP p 36) ≤ u.now then
        (u.setMot p { u.motOf p with yst := 2, planned := false }).alarm (srcPart p) 0x0409 [] else u)) ∧
    (((u.motOf p).lost = true ∨ u.given 0x41 p 0 = false) → exec (.curveInputLost t p) s = .next u) ∧
    ((u.motOf p).lost = false → u.given 0x41 p 0 = true → u.curveByte p 17 = 1 → exec (.curveInputLost t p) s = .next
      (if u.leverWild p = true ∧ (Tab.get u.sdFlags 0 (u.curveByte p 18)).testBit 1 = false then
        (u.setMot p { u.motOf p with lost := true, lostAt := some u.now }).alarm (srcPart p) 0x040A [] else u)) ∧
    (∀ w, (u.motOf p).lost = false → u.given 0x41 p 0 = true → u.curveByte p 17 ≠ 1 → (u.motOf p).uAt = some w →
      exec (.curveInputLost t p) s = .next (if w + nsOf (u.curveP p 36) ≤ u.now then
        (u.setMot p { u.motOf p with lost := true, lostAt := some u.now }).alarm (srcPart p) 0x040A [] else u)) ∧
    (∀ node ts z vz, exec (.heaveSampleReceived t p node ts z vz) s = .next
      (if u.heaveSrc p = 1 ∧ u.heaveNode p = node then u.takeHeave p ts z vz else u)) ∧
    (∀ dir, (2 ≤ dir ∨ u.limByte p (16 + dir) 0xFF = 0xFF ∨ (u.fbOf p).limits.testBit dir = true) →
      exec (.hardLimitActive t p dir) s = .next u) ∧
    (∀ dir a b c, dir < 2 → u.limByte p (16 + dir) 0xFF ≠ 0xFF → (u.fbOf p).limits.testBit dir = false →
      a = (u.setFb p { u.fbOf p with limits := setBit (u.fbOf p).limits dir true }).alarm (srcPart p) 0x040B (evd 0x040B [(dir : Q)]) →
      b = (if (a.fbOf p).limits = 3 then a.alarm (srcPart p) 0x0507 [] else a) →
      c = (if (b.motOf p).moving = true then b.dropProfile p else b) →
      exec (.hardLimitActive t p dir) s = .next
        (if (c.motOf p).calibrated = true ∧
            c.vlimP p 28 < (if dir = 0 then (c.vlimits p).2 - c.payout p else c.payout p - (c.vlimits p).1) then c.loseDrum p else c)) ∧
    (∀ dir, dir < 2 → exec (.hardLimitInactive t p dir) s = .next
      (u.setFb p { u.fbOf p with limits := setBit (u.fbOf p).limits dir false })) ∧
    (∀ dir, 2 ≤ dir → exec (.hardLimitInactive t p dir) s = .next u) ∧
    (∀ src epoch step share ty nc ramp target shaft,
      exec (.tandemMessageReceived t p src epoch step share ty nc ramp target shaft) s = .next
        ((u.takeTandem p { src := src, epoch := epoch, step := step, share := share, tY := ty, nC := nc, ramp := ramp, target := target,
                           total := shaft.total, active := shaft.active, delay := shaft.delay }).sendReply p)) ∧
    (∀ active announced, exec (.tandemMasterLost t p active announced) s = .next
      (if u.follows p = true ∧ (announced = true ∨ u.masterGone p = true) then u.loseMaster p active else u)))

/-- The feedback interface that serves a partition: index pulses, illegal transitions, resolver samples, serial frames. An interface that serves no
partition, or one with a sensor of another type, changes nothing. Events shown to complete: those named here. Rules: R151, R152, R153, R156,
R158, R160. -/
def Obligations.FeedbackEvents : Prop :=
  (∀ (s u : State) (t : Time) (e : Nat), s.power = .running → u = s.at t → e < 8 →
    (∀ p, u.servedBy e = some p → u.fbType p ≠ 1) → ∀ count, exec (.indexPulse t e count) s = .next u ∧
      exec (.indexMissing t e count) s = .next u ∧ exec (.encIllegalTransition t e) s = .next u) ∧
  ∀ (s u : State) (t : Time) (e p : Nat), s.power = .running → u = s.at t → e < 8 → u.servedBy e = some p → (
    (∀ count, u.fbType p = 1 → u.useIndex p = false → exec (.indexPulse t e count) s = .next u ∧ exec (.indexMissing t e count) s = .next u) ∧
    (∀ count, u.fbType p = 1 → u.useIndex p = true → (u.fbOf p).idxAt = none → exec (.indexMissing t e count) s = .next u ∧
      exec (.indexPulse t e count) s = .next ((u.setFb p
        { u.fbOf p with idxAt := some count, zero := count, consec := 0, idxMiss := 0, absolute := true }).fbOk p)) ∧
    (∀ count c0 x, u.fbType p = 1 → u.useIndex p = true → (u.fbOf p).idxAt = some c0 →
      x = u.setFb p { u.fbOf p with idxAt := some count, zero := count, idxMiss := 0 } → exec (.indexPulse t e count) s = .next
        (if u.encP p 24 < absQ ((((count - c0).natAbs : Nat) : Q) - u.encTurn p) then x.indexFail p 1 (count - c0)
         else (x.setFb p { x.fbOf p with consec := 0, absolute := true }).fbOk p)) ∧
    (∀ count c0, u.fbType p = 1 → u.useIndex p = true → (u.fbOf p).idxAt = some c0 → exec (.indexMissing t e count) s = .next
      (if 5 / 4 * u.encTurn p * (((u.fbOf p).idxMiss + 1 : Nat) : Q) ≤ (((count - c0).natAbs : Nat) : Q) then
        (u.setFb p { u.fbOf p with idxMiss := (u.fbOf p).idxMiss + 1 }).indexFail p 2 0 else u)) ∧
    (∀ x, u.fbType p = 1 → x = (u.setFb p { u.fbOf p with
      illegal := holdAt 0xFFFF ((u.fbOf p).illegal + 1)
      illegalAt := (u.now :: (u.fbOf p).illegalAt.filter fun w => decide (u.now < w + 1000000)).take 4 }).fbBit p 0 →
      exec (.encIllegalTransition t e) s = .next
        (if 3 ≤ ((u.fbOf p).illegalAt.filter fun w => decide (u.now < w + 1000000)).length then x.fbInvalid p 0 else x)) ∧
    (∀ sins coss, u.fbType p = 2 → ((Tab.get u.sdFlags 0 (u.resByte p 24 0)).testBit 1 = true ∨
        (Tab.get u.sdFlags 0 (u.resByte p 25 0)).testBit 1 = true) → exec (.resolverSample t e sins coss) s = .next
      (u.setFb p { u.fbOf p with thT := (u.fbOf p).thT + (u.fbOf p).wT * (1 / (2 * u.resP p 16)), lastAt := u.now })) ∧
    (∀ sins coss err w, u.fbType p = 2 → (Tab.get u.sdFlags 0 (u.resByte p 24 0)).testBit 1 = false →
      (Tab.get u.sdFlags 0 (u.resByte p 25 0)).testBit 1 = false →
      err = u.demodulate p sins * Config.cos (u.fbOf p).thT - u.demodulate p coss * Config.sin (u.fbOf p).thT →
      w = (u.fbOf p).wT + u.resP p 32 * u.resP p 32 * err * (1 / (2 * u.resP p 16)) →
      ∃ x, exec (.resolverSample t e sins coss) s = .next x ∧ (x.fbOf p).wT = w ∧
        (x.fbOf p).thT = (u.fbOf p).thT + (w + 14 / 10 * u.resP p 32 * err) * (1 / (2 * u.resP p 16)) ∧ (x.fbOf p).lastAt = u.now) ∧
    (u.fbType p = 3 → (∀ w, (u.fbOf p).frameAt = some w → w + u.bissN p 20 2 2000 ≤ u.now) →
      exec (.bissRequest t e) s = .next (u.setFb p { u.fbOf p with reqAt := some u.now })) ∧
    (∀ w, u.fbType p = 3 → (u.fbOf p).frameAt = some w → u.now < w + u.bissN p 20 2 2000 → exec (.bissRequest t e) s = .next u) ∧
    (∀ n w0 w1 w2 w3 x y, u.fbType p = 3 → y = u.setFb p { u.fbOf p with frameAt := some u.now } →
      (∀ w, y.bissFrame p n [w0, w1, w2, w3] = some w → y.bissData p w = none) →
      x = (y.setFb p { y.fbOf p with
        crcErr := holdAt 0xFFFF ((u.fbOf p).crcErr + 1), bad := (u.fbOf p).bad + 1, good := 0, reqAt := none }).fbBit p 5 →
      exec (.bissFrameEnd t e n w0 w1 w2 w3) s = .next (if x.bissN p 22 1 3 ≤ (u.fbOf p).bad + 1 then x.fbInvalid p 5 else x)) ∧
    (∀ n w0 w1 w2 w3 w b, u.fbType p = 3 → u.bissFrame p n [w0, w1, w2, w3] = some w → u.bissData p w = some b → u.bissN p 19 1 2 ≠ 2 → ((u.fbOf p).valid = true ∨ (u.fbOf p).good < 15) →
      ∃ x, exec (.bissFrameEnd t e n w0 w1 w2 w3) s = .next x ∧ (x.fbOf p).thT = u.bissAngle p b.st b.mt ∧ (x.fbOf p).raw = b.st ∧
        (x.fbOf p).mt = b.mt ∧ (x.fbOf p).bad = 0 ∧ (x.fbOf p).good = (u.fbOf p).good + 1 ∧ (x.fbOf p).reqAt = none ∧
        (x.fbOf p).lastAt = (u.fbOf p).reqAt.getD u.now ∧ (x.fbOf p).frameAt = some u.now ∧ (x.fbOf p).valid = (u.fbOf p).valid))

/-- The start of a running machine: the two zero-voltage pulses, the first of which runs the machine from standstill where it drives no current and
else begins the wait of 2 ms for the second; the hold at standstill; the end of the blend. Events shown to complete: `ZERO_VOLTAGE_PULSE_END`,
`STANDSTILL_HOLD_END`, `OPEN_LOOP_BLEND_END`. Rules: R163, R166, R167. -/
def Obligations.RestartEvents : Prop :=
  ∀ (s u : State) (t : Time) (p : Nat), s.power = .running → u = s.at t → p < 8 → (
    (∀ iu iv iw w, (u.part p).st = .ready → (u.fbOf p).restart = 2 → (u.ctlOf p).enWait.isSome = true → (u.fbOf p).zvFirst = none →
      (u.fbOf p).zvAt = some w → w ≤ u.now → (w + nsOf (u.rsP p 40) ≤ u.now ∨
        1 / 2 * u.iMachMax p ≤ maxQ (absQ iu) (maxQ (absQ iv) (absQ iw))) →
      2 / 100 * u.iMachMax p ≤ maxQ (absQ iu) (maxQ (absQ iv) (absQ iw)) → exec (.zeroVoltagePulseEnd t p iu iv iw) s = .next
        (u.setFb p { u.fbOf p with
          zvFirst := some (u.now, Config.atan2 (park (u.forward p) 0 [iu, iv, iw]).2 (park (u.forward p) 0 [iu, iv, iw]).1)
          zvAt := some (u.now + 2000000) })) ∧
    (∀ iu iv iw w n series seq w0, (u.part p).st = .ready → (u.fbOf p).restart = 2 → (u.ctlOf p).enWait = some (n, series, seq, w0) →
      (u.fbOf p).zvFirst = none → (u.fbOf p).zvAt = some w → w ≤ u.now → w + nsOf (u.rsP p 40) ≤ u.now →
      maxQ (absQ iu) (maxQ (absQ iv) (absQ iw)) < 2 / 100 * u.iMachMax p → exec (.zeroVoltagePulseEnd t p iu iv iw) s = .next
        ((((u.setCtl p { u.ctlOf p with wObs := 0 }).fbEnter p 3).enterRunning p).finish n series seq 0 [])) ∧
    (∀ iu iv iw, ((u.part p).st ≠ .ready ∨ (u.fbOf p).restart ≠ 2 ∨ (u.ctlOf p).enWait = none ∨ (u.fbOf p).zvAt = none) →
      exec (.zeroVoltagePulseEnd t p iu iv iw) s = .next u) ∧
    (∀ w, (u.fbOf p).stillAt = some w → exec (.standstillHoldEnd t p) s = .next
      (if (u.fbOf p).stopFirst = true ∧ w + nsOf (u.rsP p 28) ≤ u.now then u.setFb p { u.fbOf p with stopFirst := false, restart := 4 }
       else u)) ∧
    ((u.fbOf p).stillAt = none → exec (.standstillHoldEnd t p) s = .next u) ∧
    (∀ w, (u.fbOf p).blendAt = some w → exec (.openLoopBlendEnd t p) s = .next
      (if (u.fbOf p).st = 3 ∧ w + 20000000 ≤ u.now then (u.fbEnter p (if u.blendsToSensor p = true then 1 else 2)).bumpless p else u)) ∧
    ((u.fbOf p).blendAt = none → exec (.openLoopBlendEnd t p) s = .next u))

/-! ### Plant, braking, protection in time -/

/-- The rounds of the allocator: what is published, received, computed and applied; a record of this node or of a failed one, and a round other than
the one computed, change nothing. Events shown to complete: `ALLOC_ROUND_PUBLISH`, `ROUND_RECORD_RECEIVED`, `ALLOC_ROUND_COMPUTE`, `GRANT_APPLY`.
Rules: R184, R185, R186. -/
def Obligations.AllocatorRounds : Prop :=
  ∀ (s u : State) (t : Time), s.power = .running → u = s.at t → (
    (∀ round who pmax mot gen, ∃ x r, exec (.allocRoundPublish t round who pmax mot gen) s = .next x ∧
      Tab.get x.plant.rounds none u.node = some r ∧ r.node = u.node ∧ r.round = round ∧ r.epoch = u.sys.nodeEpoch ∧
      r.digest = u.plant.digest ∧ r.sups = u.plant.supplies.filterMap fun e => e.2) ∧
    (∀ r, r.node ≠ u.node → u.fab.failed.contains r.node = false → r.sups = [] → r.ils = [] → r.cons = [] → u.plant.round + 1 ≠ r.round →
      exec (.roundRecordReceived t r) s = .next
        (u.setPlant { u.plant with rounds := Tab.set u.plant.rounds none r.node (some r), differs := u.plant.differs })) ∧
    (∀ r, r.node ≠ u.node → u.fab.failed.contains r.node = false →
      ∃ x, exec (.roundRecordReceived t r) s = .next x ∧ Tab.get x.plant.rounds none r.node = some r) ∧
    (∀ r, (r.node = u.node ∨ u.fab.failed.contains r.node = true) → exec (.roundRecordReceived t r) s = .next u) ∧
    (∀ round, ∃ x, exec (.allocRoundCompute t round) s = .next x ∧ x.plant.round = round ∧ x.plant.applied = false ∧
      x.plant.differs = false ∧ x.plant.digest = Config.digest (setNumbers ((u.calveRound round).roundSet round))) ∧
    (∀ round, (u.plant.round ≠ round ∨ u.plant.applied = true) → exec (.grantApply t round) s = .next u) ∧
    (∀ round, u.plant.round = round → u.plant.applied = false → ∃ x, exec (.grantApply t round) s = .next x ∧ x.plant.applied = true ∧
      x.plant.inForce = round ∧ (u.consumers = [] → x = u.setPlant { u.plant with applied := true, inForce := round })) ∧
    (∀ round p g, u.plant.round = round → u.plant.applied = false → u.consumers = [p] →
      (u.plant.grants.find? fun g => g.id = u.consN p 16 2) = some g → u.plant.diverged = false → (u.calveOf (u.section_ p)).level = 0 →
      ∃ x, exec (.grantApply t round) s = .next x ∧ (x.consOf p).mot = risen (u.consOf p).mot g.mot (u.consP p 48) ∧
        (x.consOf p).regen = risen (u.consOf p).regen g.regen (u.consP p 48) ∧ x.plant.inForce = round))

/-- Supplies, breakers, calves and reservations of the plant in time; an event whose condition does not hold changes nothing. Events shown to
complete: those named here. Rules: R183, R187, R188, R191. -/
def Obligations.PlantEvents : Prop :=
  ∀ (s u : State) (t : Time), s.power = .running → u = s.at t → (
    (∀ sec next v, sec < 8 → next = (if Tab.get u.plant.arrived 0 sec + 1000000000 ≤ u.now then 2 else 1) →
      v = u.setPlant { u.plant with stale := Tab.set u.plant.stale 0 sec (max (Tab.get u.plant.stale 0 sec) next) } →
      exec (.supplyStale t sec) s = .next
        (if ((Tab.get u.plant.supplies none sec).isSome = true ∨ (u.consumers.any fun p => u.section_ p = sec) = true) ∧
            Tab.get u.plant.arrived 0 sec + 100000000 ≤ u.now then
          if Tab.get u.plant.stale 0 sec = 0 then v.alarm srcChip 0x070A [] else v
         else u)) ∧
    (∀ k, k < 4 → exec (.breakerInputActive t k) s = .next
      (if u.calveByte (16 + k) 0xFF ≠ 0xFF ∧ u.calveByte (20 + k) 0 ≠ 0 ∧ u.inputActive (u.calveByte (16 + k) 0xFF) = true then
        u.originateCalve (u.calveByte (20 + k) 0) (u.calveByte (24 + k) 1) else u)) ∧
    (∀ p why, p < 8 → exec (.busCollapseDetected t p why) s = .next
      (if u.shape p = 2 ∧ u.isConsumer p = true ∧ u.calveByte 52 1 ≠ 0 ∧ u.collapsing p why = true then
        u.originateCalve (2 ^ u.section_ p) (u.calveByte 52 1) else u)) ∧
    (∀ node seq sections level, exec (.calvingEventReceived t node seq sections level) s = .next
      (if u.plant.seen.contains (node, seq) = true ∨ level = 0 ∨ 4 < level then u
       else (u.setPlant { u.plant with seen := (node, seq) :: u.plant.seen }).applyCalve (sections % 256) level false)) ∧
    (∀ node tenant part stamp, part < 8 → (∀ h ∈ u.plant.holds, h.part ≠ part) →
      exec (.reserveRequestReceived t node tenant part stamp) s = .next
        ((u.grantHold { part := part, node := node, tenant := tenant, stamp := stamp }).syncReserved)) ∧
    (∀ node tenant part stamp g h, part < 8 → (u.plant.holds.find? fun x => x.part = part) = some g →
      h = { part := part, node := node, tenant := tenant, stamp := stamp } → (
      (g = h → exec (.reserveRequestReceived t node tenant part stamp) s = .next (u.fabSend 1 node 8 (leBytes 1 part ++ leBytes 8 stamp))) ∧
      (g ≠ h → h.older g = true → exec (.reserveRequestReceived t node tenant part stamp) s = .next
        ((((u.setPlant { u.plant with holds := u.plant.holds.filter fun x => ¬ (x.node = g.node ∧ x.stamp = g.stamp) }).grantHold h).fabSend
          1 g.node 9 (leBytes 8 g.stamp)).serveWaits.syncReserved)) ∧
      (g ≠ h → h.older g = false → exec (.reserveRequestReceived t node tenant part stamp) s = .next
        (if u.plant.waits.contains h = true then u else u.setPlant { u.plant with waits := u.plant.waits ++ [h] })))) ∧
    (∀ handle r w, (u.plant.reqs.find? fun r => r.handle = handle) = some r → r.retryAt = some w → exec (.reserveRetry t handle) s = .next
      (if w + 1000000 ≤ u.now then
        (u.setReqs fun x => if x.handle = handle then { x with retryAt := none } else x).sendReserve { r with retryAt := none } else u)) ∧
    (∀ handle, (u.plant.reqs.find? fun r => r.handle = handle) = none → exec (.reserveRetry t handle) s = .next u ∧
      exec (.reserveTimeout t handle) s = .next u) ∧
    (∀ handle r, (u.plant.reqs.find? fun r => r.handle = handle) = some r → exec (.reserveTimeout t handle) s = .next
      (if r.done = false ∧ r.deadline ≤ u.now then
        ((u.sendRelease r).setPlant { (u.sendRelease r).plant with
          reqs := u.plant.reqs.filter fun x => x.handle ≠ handle }).finish r.page r.series r.seq 0x0705 []
       else u)))

/-- Braking in time: orders fall due, standstill ends them, holds and releases run out, a ride-through ends; an event whose condition does not hold
changes nothing. Events shown to complete: those named here. Rules: R205, R206, R207, R208, R209, R210, R214, R215, R219. -/
def Obligations.BrakingEvents : Prop :=
  ∀ (s u : State) (t : Time) (p : Nat), s.power = .running → u = s.at t → p < 8 → (
    (∀ w, ((u.part p).st = .running ∨ (u.part p).st = .braking) → (u.brkOf p).sc = none → (u.brkOf p).ss1 = none →
      (u.brkOf p).scDenied = false → (u.brkOf p).vScAt = some w → w + nsOf (u.brkP p 48) ≤ u.now →
      exec (.scBrakingOrder t p) s = .next (u.orderSc p 0)) ∧
    (∀ w, ((u.part p).st = .running ∨ (u.part p).st = .braking) → (u.brkOf p).sc = none → (u.brkOf p).ss1 = none →
      (u.brkOf p).scDenied = false → (u.brkOf p).vScAt = none → (u.brkOf p).clipAt = some w → exec (.scBrakingOrder t p) s = .next
        (if w + nsOf (u.brkP p 48) ≤ u.now then u.orderSc p 1 else u)) ∧
    ((((u.part p).st ≠ .running ∧ (u.part p).st ≠ .braking) ∨ (u.brkOf p).sc.isSome = true ∨ (u.brkOf p).ss1.isSome = true ∨
      (u.brkOf p).scDenied = true) → exec (.scBrakingOrder t p) s = .next u) ∧
    (exec (.scBrakingEnd t p) s = .next (if (u.brkOf p).sc.isSome = true ∧ u.stillLong p = true then u.toReady p else u)) ∧
    (exec (.scArmsAlternate t p) s = .next
      (if (u.brkOf p).sc.isSome = true ∧ u.brkByte p 18 2 = 2 ∧ (u.brkOf p).scSwapAt + 100000000 ≤ u.now then
        u.setBrk p { u.brkOf p with scGroup := 1 - (u.brkOf p).scGroup, scSwapAt := u.now } else u)) ∧
    (exec (.estopStandstill t p) s = .next
      (if ¬ u.stillLong p = true then u else if (u.brkOf p).ss1.isSome = true then u.assertSto p (u.ss1Group p)
       else if (u.brkOf p).estop = 1 then u.setBrakes p else u)) ∧
    (exec (.brakeSetHoldEnd t p) s = .next
      (if (u.brkOf p).estop = 2 ∧ (u.brkOf p).setAt + nsOf (u.emP p 28) ≤ u.now then
        (u.setBrk p { u.brkOf p with estop := 3 }).windDown p else u)) ∧
    (exec (.brakeRelease t p) s = .next
      (if (u.part p).st = .running ∧ (u.brkOf p).relWait = true ∧ (u.brkOf p).relAt = none then
        (u.driveBrakes p true).setBrk p { (u.driveBrakes p true).brkOf p with relAt := some u.now } else u)) ∧
    (∀ w, (u.brkOf p).relAt = some w → exec (.brakeReleaseHoldEnd t p) s = .next
      (if w + nsOf (u.emP p 32) ≤ u.now then u.setBrk p { u.brkOf p with relAt := none, relWait := false } else u)) ∧
    ((u.brkOf p).relAt = none → exec (.brakeReleaseHoldEnd t p) s = .next u) ∧
    ((u.brkOf p).qr = true → u.ropeLen p ≤ u.payout p → exec (.quickReleaseEnd t p) s = .next (u.setBrakes p)) ∧
    (∀ w, (u.brkOf p).qr = true → u.payout p < u.ropeLen p → (u.brkOf p).qrSlow = some w → exec (.quickReleaseEnd t p) s = .next
      (if w + 1000000000 ≤ u.now then u.setBrakes p else u)) ∧
    (((u.brkOf p).qr = false ∨ (u.payout p < u.ropeLen p ∧ (u.brkOf p).qrSlow = none)) → exec (.quickReleaseEnd t p) s = .next u) ∧
    (exec (.rideThroughResyncDone t p) s = .next
      (if ((u.brkOf p).rt = 2 ∨ (u.brkOf p).rt = 3) ∧ u.supplyBack p = true then u.setBrk p { u.brkOf p with rt := 4, rtWait := u.now }
       else u)) ∧
    (exec (.rideThroughDelayEnd t p) s = .next
      (if (u.brkOf p).rt = 4 ∧ (u.brkOf p).rtWait + nsOf (u.shaftDelay p) ≤ u.now then u.endRide p 0 else u)) ∧
    ((u.brkOf p).rt ≠ 0 → (absQ (u.speed p) < u.rideP p 40 * u.nMax p ∨ ∃ w, (u.brkOf p).rtAt = some w ∧ w + nsOf (u.rideP p 32) ≤ u.now) →
      exec (.rideThroughExpiry t p) s = .next
        (((u.setBrk p { u.brkOf p with crash := none, render := false }).endRide p 1).windDown p)) ∧
    (((u.brkOf p).rt = 0 ∨ (u.rideP p 40 * u.nMax p ≤ absQ (u.speed p) ∧
      ∀ w, (u.brkOf p).rtAt = some w → u.now < w + nsOf (u.rideP p 32))) → exec (.rideThroughExpiry t p) s = .next u) ∧
    (∀ w group, (u.brkOf p).ss1 = some (w, group) → exec (.ss1Timeout t p) s = .next
      (if w + nsOf (u.emP p 52) ≤ u.now then u.assertSto p (u.ss1Group p) else u)) ∧
    ((u.brkOf p).ss1 = none → exec (.ss1Timeout t p) s = .next u))

/-- The trip inputs, the safety inputs and the trip network; and what fails in the chip: a region's supervisor is fenced off, a host core or the time
base takes the chip to its failure state, a word with errors is judged by their number with those injected. Events shown to complete:
`TRIPIN_ASSERT`, `TRIPIN_RELEASE`, `FAST_WINDOW_CROSS`, `REMOTE_TRIP_RECEIVED`, `TRIP_NET_DISAGREE`, `STO_ASSERT`, `SS1_REQUEST`, `STO_RELEASE`,
`STO_DISCREPANCY`, `SUPERVISOR_WATCHDOG_EXPIRY`, `HOST_CORE_WATCHDOG_EXPIRY`, `TIME_BASE_FAILURE`, `SCRUB_WORD`. Rules: R22, R31, R33, R57, R218,
R219, R220, R226, R231, R232, R236, R240, R429. -/
def Obligations.SafetyEvents : Prop :=
  ∀ (s u : State) (t : Time), s.power = .running → u = s.at t → (
    (∀ i x, i < 4 → x = { u with tripin := setBit u.tripin i true } →
      exec (.tripinAssert t i) s = .next ((x.tripinParts i).foldl (fun y p => y.assertSource p 0x0900 i 0 0xFFFF) x)) ∧
    (∀ i x, i < 4 → x = { u with tripin := setBit u.tripin i false } → exec (.tripinRelease t i) s = .next
      ((List.range 8).foldl (fun y p => if (y.protOf p).active.contains (0x0900, i) then y.releaseSource p 0x0900 i else y) x)) ∧
    (∀ d v, d < 128 → exec (.fastWindowCross t d v) s = .next ((List.range 8).foldl (fun x p =>
      if (x.part p).st = .unconfigured then x
      else if (x.currentWindow p d v).given 0x10 p 0 = true ∧ (x.currentWindow p d v).sdVdc p = d then (x.currentWindow p d v).dcWindow p d v
      else x.currentWindow p d v) u)) ∧
    (∀ node mask epoch, (∀ e, u.epochOf node = some e → epochNewer e epoch = false) → exec (.remoteTripReceived t node mask epoch) s = .next
      (if ((maskList 8 mask).any fun p => (u.peers p).any fun e => e.accept && e.node = node) = true then
        ((maskList 8 mask).filter fun p => (u.peers p).any fun e => e.accept && e.node = node).foldl
          (fun (x : State) p => x.assertSource p 0x0905 node 0 0xFFFF) u
       else (maskList 8 mask).foldl (fun (x : State) p => x.setProt p { x.protOf p with discarded := (x.protOf p).discarded + 1 }) u)) ∧
    (∀ node mask epoch e, u.epochOf node = some e → epochNewer e epoch = true → exec (.remoteTripReceived t node mask epoch) s = .next u) ∧
    (∀ signal, exec (.tripNetDisagree t signal) s = .next
      ((State.chipTrip { u with sys := { u.sys with netDisagree := some signal } } 0x090E signal).chipFail 3)) ∧
    (∀ group chanB, group < 2 → exec (.stoAssert t group chanB) s = .next (u.stoChannel group chanB)) ∧
    (∀ group chanB, group < 2 → exec (.ss1Request t group chanB) s = .next (u.stoChannel group chanB)) ∧
    (∀ group, group < 2 → exec (.stoRelease t group) s = .next
      (if (u.stoOf group).needBoth = true ∧ (u.stoOf group).bothSeen = false then
        u.setSto group { u.stoOf group with lowA := false, lowB := false }
       else (u.setSto group {}).leaveSafeOff)) ∧
    (∀ group lowA lowB us x, group < 2 →
      x = u.setSto group { u.stoOf group with lowA := lowA, lowB := lowB, needBoth := true, bothSeen := false } →
      exec (.stoDiscrepancy t group lowA lowB us) s = .next (x.alarm srcChip 0x0808 (leBytes 1 group ++
        leBytes 1 ((if lowA then 1 else 0) + (if lowB then 2 else 0)) ++ zeros 2 ++ leBytes 1 (x.stoMap group) ++ zeros 3 ++
        leBytes 4 (holdAt 0xFFFFFFFF us)))) ∧
    (∀ r, r < 8 → exec (.supervisorWatchdogExpiry t r) s = .next (if u.watchdogOut r = true then u.closeFence r else u)) ∧
    (exec (.hostCoreWatchdogExpiry t) s = .next (u.chipFail 1)) ∧
    (exec (.timeBaseFailure t) s = .next (u.chipFail 2)) ∧
    (∀ area index off bits, exec (.scrubWord t area index off bits) s = .next (State.wordErrors
      { u with ecc := u.ecc.filter fun e => ¬ (e.1 = area ∧ e.2.1 = index ∧ e.2.2.1 = off) } area index off
      (bits + ((u.ecc.filter fun e => e.1 = area ∧ e.2.1 = index ∧ e.2.2.1 = off).map fun e => e.2.2.2).foldl (· + ·) 0))))

/-! ### Thermal, auxiliary channels in time -/

/-- A sensor: a pass over a region reads, judges and derates; a suspect sensor fails after its time; a level confirmed by four readings is acted on.
Events shown to complete: `THERMAL_EVALUATION`, `SENSOR_FAILED`, `THERMAL_LEVEL_RISE`. Rules: R300, R303, R304. -/
def Obligations.ThermalEvents : Prop :=
  ∀ (s u : State) (t : Time), s.power = .running → u = s.at t → (
    (∀ r die cool, r < 8 → (u.region r).fenced = true → exec (.thermalEvaluation t r die cool) s = .next u) ∧
    (∀ r die cool a b c e f, r < 8 → (u.region r).fenced = false →
      a = (List.range 8).foldl (fun x i => x.readSensor (.die (8 * r + i)) (die.getD i 0)) u →
      b = (a.cellSites r).foldl (fun x y => match y with
        | .cell l k => x.readSensor y (if k = 0 then (x.cell l).tempA else (x.cell l).tempB)
        | _ => x) a →
      c = (b.coolSites r).foldl (fun x i =>
        if (Tab.get x.sdFlags 0 (x.coolByte r (16 + i) 0xFF)).testBit 1 then x
        else x.readSensor (.cool r i) (if x.sdOn (x.coolByte r (16 + i) 0xFF) then x.sdScale (x.coolByte r (16 + i) 0xFF) (cool.getD i 0) else 0)) b →
      e = (((List.range 8).map fun i => Site.die (8 * r + i)) ++ c.partSites r).foldl State.checkSensor c →
      f = (((List.range 8).map fun i => Site.die (8 * r + i)) ++ c.partSites r).foldl State.levelSensor e →
      exec (.thermalEvaluation t r die cool) s = .next (((f.derateStep r).watchBlind r).releaseBulk)) ∧
    (∀ i x, i < 64 → x = Site.die i → (u.sensor x.key).suspect = true → (u.sensor x.key).failed = false →
      (u.limitsOf x).ms ≤ (u.sensor x.key).susp → ∃ v, exec (.sensorFailed t 0 i) s = .next v ∧
        (v.sensor x.key).eff = ((u.failSensor x).effOf x).1 ∧
        (v.sensor x.key).level = fallTo (u.limitsOf x) ((u.failSensor x).sensor x.key).level ((u.failSensor x).effOf x).1) ∧
    (∀ i x, i < 64 → x = Site.die i → ((u.sensor x.key).suspect = false ∨ (u.sensor x.key).failed = true ∨
      (u.sensor x.key).susp < (u.limitsOf x).ms) → exec (.sensorFailed t 0 i) s = .next u) ∧
    (∀ cls idx x top, cls < 3 → x = (if cls = 0 then Site.die (idx % 64) else if cls = 1 then .cell (idx / 2 % 1024) (idx % 2)
        else .cool (idx / 4 % 8) (idx % 4)) →
      top = (if 4 ≤ (u.sensor x.key).n3 then
          if (u.sensor x.key).suspect = true ∧ (u.sensor x.key).failed = false ∧ u.confirmed x = false then 2 else 3
        else if 4 ≤ (u.sensor x.key).n2 then 2 else if 4 ≤ (u.sensor x.key).n1 then 1 else 0) →
      exec (.thermalLevelRise t cls idx) s = .next
        (if top ≤ (u.sensor x.key).level then u
         else (u.setSensor x.key { u.sensor x.key with level := top }).levelAction x top u.dieThrottle)))

/-- A motor's channel in time, brushless and stepper: each event acts where the channel stands as its rule asks, and where it does not, changes
nothing. Events shown to complete: those named here. Rules: R274, R278, R279, R280, R281, R283, R284, R285, R286, R287, R288, R290. -/
def Obligations.MotorEvents : Prop :=
  (∀ (s u : State) (t : Time) (m : Nat), s.power = .running → u = s.at t → m < 16 → u.auxMode m = 1 → (
    (∀ f sector, ((u.auxOf m).st ≠ 2 ∨ (u.auxOf m).retryAt.isSome = true) → exec (.bldcCheckEnd t m f sector) s = .next u) ∧
    (∀ f sector, (u.auxOf m).st = 2 → (u.auxOf m).retryAt = none → u.bldcP m 28 ≤ f → (u.auxOf m).lastRun = none →
      exec (.bldcCheckEnd t m f sector) s = .next
        (u.bldcRun m (sector % 6) (u.bldcP m 36) (u.bldcSpeed m f) (nsOf (1 / (6 * f))))) ∧
    (∀ f sector w0 d0, (u.auxOf m).st = 2 → (u.auxOf m).retryAt = none → u.bldcP m 28 ≤ f → (u.auxOf m).lastRun = some (w0, d0) →
      exec (.bldcCheckEnd t m f sector) s = .next
        (u.bldcRun m (sector % 6) (if w0 = 0 then u.bldcP m 36 else clampQ 0 1 (d0 * u.bldcSpeed m f / w0)) (u.bldcSpeed m f)
          (nsOf (1 / (6 * f))))) ∧
    (∀ f sector, (u.auxOf m).st = 2 → (u.auxOf m).retryAt = none → u.bldcP m 28 / 4 ≤ f → f < u.bldcP m 28 →
      exec (.bldcCheckEnd t m f sector) s = .next
        (u.setAux m { u.auxOf m with wm := u.bldcSpeed m (absQ f), waitSince := some ((u.auxOf m).waitSince.getD u.now) })) ∧
    (∀ f sector, (u.auxOf m).st = 2 → (u.auxOf m).retryAt = none → f < u.bldcP m 28 / 4 → -u.bldcP m 28 / 4 < f → f < u.bldcP m 28 →
      exec (.bldcCheckEnd t m f sector) s = .next
        ((u.setAux m { u.auxOf m with
          wm := u.bldcSpeed m (absQ f), waitSince := none, sector := 0, duty := u.bldcP m 20 }).auxGo m 3)) ∧
    (∀ w, (u.auxOf m).waitSince = some w → exec (.bldcCheckWaitTimeout t m) s = .next
      (if (u.auxOf m).st = 2 ∧ w + 30000000000 ≤ u.now then u.bldcFail m else u)) ∧
    ((u.auxOf m).waitSince = none → exec (.bldcCheckWaitTimeout t m) s = .next u) ∧
    (exec (.bldcAlignEnd t m) s = .next
      (if (u.auxOf m).st = 3 ∧ (u.auxOf m).stAt + nsOf (u.bldcP m 24) ≤ u.now then
        (u.setAux m { u.auxOf m with duty := u.bldcP m 36, crossRow := 0, ivals := [], lastComm := u.now }).auxGo m 4 else u)) ∧
    (∀ order n x y iv, (u.auxOf m).st = 4 → iv = nsOf (1 / (6 * u.rampHz m)) →
      n = (if order && (u.auxOf m).nearCrossing u.now iv (iv / 4) then (u.auxOf m).crossRow + 1 else 0) →
      x = u.setAux m { u.auxOf m with crossRow := n } →
      y = x.bldcRun m (u.auxOf m).sector (u.bldcP m 36) (u.bldcSpeed m (u.rampHz m)) iv →
      exec (.bldcZeroCrossing t m order) s = .next
        (if 6 ≤ n ∧ u.bldcP m 28 / 2 ≤ u.rampHz m then
          y.setAux m { y.auxOf m with lastComm := (u.auxOf m).lastComm, nextComm := some (u.now + iv / 2) } else x)) ∧
    (∀ order, ((u.auxOf m).st = 5 ∨ (u.auxOf m).st = 6) → exec (.bldcZeroCrossing t m order) s = .next
      (if order = true ∧ ((u.auxOf m).extrap = false ∨
          (u.auxOf m).nearCrossing u.now (u.auxOf m).meanIval ((u.auxOf m).meanIval / 8) = true) then
        u.setAux m { u.auxOf m with nextComm := some (u.now + (u.auxOf m).meanIval / 2), missRow := 0 } else u)) ∧
    ((u.auxOf m).st = 4 → exec (.bldcCommutation t m) s = .next
      (u.setAux m { u.auxOf m with
        sector := if u.bldcByte m 17 0 = 0 then ((u.auxOf m).sector + 1) % 6 else ((u.auxOf m).sector + 5) % 6, lastComm := u.now
        wm := if u.now - (u.auxOf m).lastComm = 0 then (u.auxOf m).wm
          else Config.pi / 3 / (secOf (u.now - (u.auxOf m).lastComm) * (u.bldcByte m 16 1 : Q)) })) ∧
    (∀ good, (u.auxOf m).st ≠ 4 → (u.auxOf m).st ≠ 5 → (u.auxOf m).st ≠ 6 → exec (.bldcZeroCrossing t m good) s = .next u ∧
      exec (.bldcCommutation t m) s = .next u) ∧
    (∀ w, (u.auxOf m).st = 5 → (u.auxOf m).nextComm = some w → ∃ x, exec (.bldcCommutation t m) s = .next x ∧ (x.auxOf m).st = 5 ∧
      (x.auxOf m).sector = (if u.bldcByte m 17 0 = 0 then ((u.auxOf m).sector + 1) % 6 else ((u.auxOf m).sector + 5) % 6) ∧
      (x.auxOf m).lastComm = u.now ∧ (x.auxOf m).nextComm = none ∧ (x.auxOf m).missed = (u.auxOf m).missed ∧ (x.auxOf m).missRow = 0) ∧
    (exec (.bldcRampEnd t m) s = .next
      (if (u.auxOf m).st = 4 ∧ (u.auxOf m).stAt + nsOf (u.bldcP m 32) ≤ u.now then u.bldcFail m else u)) ∧
    (∀ w, (u.auxOf m).retryAt = some w → exec (.bldcStartRetry t m) s = .next
      (if w ≤ u.now then (u.setAux m { u.auxOf m with retryAt := none, waitSince := none }).auxGo m 2 else u)) ∧
    ((u.auxOf m).retryAt = none → exec (.bldcStartRetry t m) s = .next u) ∧
    (exec (.bldcPeakComparator t m false) s = .next (u.setAux m { u.auxOf m with cutAt := some u.now, peakAt := none })) ∧
    ((u.auxOf m).st ≠ 7 → (u.auxOf m).peakAt = none → exec (.bldcPeakComparator t m true) s = .next
      (u.setAux m { u.auxOf m with cutAt := some u.now, peakAt := some u.now })) ∧
    ((u.claimed m = true ∨ (u.region (auxRegion m)).fenced = true) → exec (.auxOuterLoop t m) s = .next u) ∧
    (u.claimed m = false → (u.region (auxRegion m)).fenced = false → (u.auxOf m).st = 7 → (u.bldcInput m).2 = false →
      exec (.auxOuterLoop t m) s = .next (u.setAux m { u.auxOf m with
        curveOn := if (u.auxOf m).curveOn = false ∧ u.bcurP m 28 ≤ (u.bldcInput m).1 then true
          else if (u.auxOf m).curveOn = true ∧ (u.bldcInput m).1 < u.bcurP m 32 then false else (u.auxOf m).curveOn
        inLost := false })) ∧
    (∀ x, (u.auxOf m).st = 7 → (u.auxOf m).stAt + nsOf (u.bldcP m 60) ≤ u.now → x = u.auxHalt m → exec (.scHoldEnd t m) s = .next
      (if (u.auxOf m).scCheck = true then
        (u.setAux m { u.auxOf m with scCheck := false, waitSince := none, retryAt := none, wm := 0 }).auxGo m 2
       else x.setAux m { x.auxOf m with run := (u.auxOf m).run, wm := 0 })) ∧
    (¬ ((u.auxOf m).st = 7 ∧ (u.auxOf m).stAt + nsOf (u.bldcP m 60) ≤ u.now) → exec (.scHoldEnd t m) s = .next u))) ∧
  (∀ (s u : State) (t : Time) (m : Nat), s.power = .running → u = s.at t → m < 16 → u.auxMode m = 2 → (
    (∀ e, u.stepNext m = none → exec (.stepTimer t m e) s = .next (u.setAux m { u.auxOf m with timer := none })) ∧
    (∀ e d iv w, u.stepNext m = some (d, iv) → (u.auxOf m).st = 5 → (u.auxOf m).timer = some w → u.now < (u.auxOf m).stepAt + w →
      exec (.stepTimer t m e) s = .next u) ∧
    (∀ e d iv, u.stepNext m = some (d, iv) → (u.auxOf m).st = 5 →
      (∀ w, (u.auxOf m).timer = some w → (u.auxOf m).stepAt + w ≤ u.now) → coilZero ((u.auxOf m).pos + d * u.stepUnit m) = false →
      ∃ x, exec (.stepTimer t m e) s = .next x ∧ (x.auxOf m).pos = (u.auxOf m).pos + d * u.stepUnit m ∧ (x.auxOf m).st = 5 ∧
        (x.auxOf m).timer = some iv ∧ (x.auxOf m).stepAt = u.now) ∧
    (exec (.stepperStandstill t m) s = .next
      (if (u.auxOf m).st = 5 ∧ (u.auxOf m).stepAt + nsOf (u.stepP m 48) ≤ u.now then
        u.setAux m { u.auxOf m with
          st := 8, stAt := u.now, shorted := decide (u.stepByte m 17 1 = 1), coarseAt := none, timer := none }
       else u)) ∧
    (∀ coilB, exec (.stepperChopComparator t m coilB) s = .next
      (if (u.auxOf m).st = 5 ∨ (u.auxOf m).wakeAt.isSome = true then
        u.setAux m (if coilB = true then { u.auxOf m with seenB := true, chopB := u.chopFrom m (u.auxOf m).chopB }
          else { u.auxOf m with seenA := true, chopA := u.chopFrom m (u.auxOf m).chopA }) else u)) ∧
    (∀ sw dirHigh, sw < 32 → u.srcByte m 16 = 1 → u.srcByte m 17 = 0x20 + sw → (u.auxOf m).st = 8 →
      (∀ k < 16, k ≠ m → u.auxMode k ≠ 2) → exec (.stepInputEdge t sw dirHigh) s = .next (u.setAux m { u.auxOf m with
        coarse := (u.auxOf m).coarse ++ [(if dirHigh then 1 else -1, 2 ^ (u.stepByte m 16 5 - u.srcByte m 19), u.stepFloor m)]
        coarseAt := some u.now })))) ∧
  (∀ (s u : State) (t : Time) (m : Nat), s.power = .running → u = s.at t → m < 16 → (
    (u.auxMode m ≠ 1 → exec (.bldcAlignEnd t m) s = .next u ∧ exec (.bldcCommutation t m) s = .next u ∧ exec (.bldcRampEnd t m) s = .next u ∧
      exec (.auxOuterLoop t m) s = .next u) ∧
    (u.auxMode m ≠ 2 → exec (.stepperStandstill t m) s = .next u)))

/-- Solenoid switches, supply sags and diagnoses in time; an event whose condition does not hold changes nothing. Events shown to complete: those
named here. Rules: R292, R293, R294. -/
def Obligations.SwitchEvents : Prop :=
  ∀ (s u : State) (t : Time), s.power = .running → u = s.at t → (
    (∀ n acc c x late, n < 32 → c = 0x20 + n → late = decide ((u.auxOf c).onAt + nsOf (u.swP c 28) < u.now) →
      x = u.setAux c { u.auxOf c with trips := holdAt 0xFFFF ((u.auxOf c).trips + 1) } → exec (.switchComparatorAssert t n acc) s = .next
        (if (u.auxOf c).st = 4 ∨ u.claimedInput c = true then u.setAux c { u.auxOf c with sense := decide (0 < acc) }
         else if (u.auxOf c).st = 2 ∨ ((u.auxOf c).st = 3 ∧ u.sagActive c = true) then if late = true then x.auxFault c 0x0A03 [] else u
         else if (u.auxOf c).st = 3 ∧ nsOf (u.swP c 32) ≤ acc then x.auxFault c 0x0A04 [] else u)) ∧
    (∀ n c, n < 32 → c = 0x20 + n → exec (.switchInrushEnd t n) s = .next
      (if (u.auxOf c).st = 2 ∧ u.sagActive c = false ∧ (u.auxOf c).stAt + (u.auxOf c).paused + nsOf (u.swP c 16) ≤ u.now then
        u.setAux c { u.auxOf c with st := 3, stAt := u.now, pulled := decide ((u.auxOf c).onAt + nsOf (u.swP c 36) ≤ u.now) } else u)) ∧
    (∀ n c, n < 32 → c = 0x20 + n → exec (.switchPullEnd t n) s = .next
      (if (u.auxOf c).st = 3 ∧ (u.auxOf c).onAt + nsOf (u.swP c 36) ≤ u.now then u.setAux c { u.auxOf c with pulled := true } else u)) ∧
    (∀ r g, r < 8 → g < 4 → u.sag.testBit (4 * r + g) = false → u.sagInput (4 * r + g) ≠ 0xFF →
      ∃ x, exec (.sagGroupActive t r g) s = .next x ∧ x.sag = setBit u.sag (4 * r + g) true ∧ ∀ c ∈ u.sagMembers (4 * r + g),
        (x.auxOf c).sags = holdAt 0xFFFF ((u.auxOf c).sags + 1) ∧
          (x.auxOf c).pauseAt = if (u.auxOf c).st = 2 then some u.now else none) ∧
    (∀ r g, r < 8 → g < 4 → (u.sag.testBit (4 * r + g) = true ∨ u.sagInput (4 * r + g) = 0xFF) →
      exec (.sagGroupActive t r g) s = .next u) ∧
    (∀ r g, r < 8 → g < 4 → u.sag.testBit (4 * r + g) = true → ∃ x, exec (.sagGroupInactive t r g) s = .next x ∧
      x.sag = setBit u.sag (4 * r + g) false ∧
      ∀ c ∈ u.sagMembers (4 * r + g), (x.auxOf c).pauseAt = none) ∧
    (∀ r g, r < 8 → g < 4 → u.sag.testBit (4 * r + g) = false → exec (.sagGroupInactive t r g) s = .next u) ∧
    (∀ chan volts, auxCodes.contains chan = true → exec (.auxDiagStep t chan volts) s = .next
      ((List.range 8).foldl (fun x p => x.prechargeGoes p)
        (if (u.auxOf chan).st = 1 ∧ (u.auxOf chan).stAt + nsOf (u.diagP chan 28) ≤ u.now then u.diagStep chan volts else u))))

/-! ### Fabric and CAN in time -/

/-- Ports, frames, nodes and time of the fabric, the mirror of a standby and its takeover; an event whose condition does not hold changes nothing.
Events shown to complete: those named here. Rules: R389, R390, R393, R394, R396, R399, R400, R401,
R402, R403, R404, R406, R409. -/
def Obligations.FabricEvents : Prop :=
  ∀ (s u : State) (t : Time), s.power = .running → u = s.at t → (
    (∀ port node peerPort epoch v, port < 8 → v = u.setPort port { up := true, peer := node, epoch := epoch, delay := 0, acks := 0 } →
      exec (.fabPortUp t port node peerPort epoch) s = .next
        (if ¬ (u.regField 0x9004 0 7 0).testBit port = true then u
         else if node = u.node then u.alarm srcChip 0x0D08 (leBytes 1 port)
         else (if v.epochOf node = some epoch then v else v.takeLink
            { node := node, epoch := epoch, nbrs := [(peerPort, v.node)], partner := 0xFFFF, role := 0, prio := 255, pps := false }).fabChanged)) ∧
    (∀ port, port < 8 → exec (.fabPortDown t port) s = .next (u.portDown port)) ∧
    (∀ port bytes n v, port < 8 → v = u.acked port n → exec (.fabFrameReceived t port bytes n) s = .next
      (if (v.port port).up = true ∧ goodFrame bytes = true then
        (v.setPort port { v.port port with acks := (v.port port).acks + 1 }).takeFrame port bytes else v)) ∧
    (∀ port n v, port < 8 → v = u.acked port n → exec (.fabRetransmit t port n) s = .next
      (if (v.fab.tx.any fun f => f.port = port && decide (f.at_ + 2000 ≤ v.now)) = false then v
       else if (v.fab.tx.any fun f => (f.port = port && decide (f.at_ + 2000 ≤ v.now)) && decide (8 ≤ f.tries)) = true then v.portDown port
       else { v with fab := { v.fab with
        tx := v.fab.tx.map fun f => if f.port = port then { f with tries := f.tries + 1, at_ := v.now } else f } })) ∧
    (∀ dst seq m, (u.fab.ctl.find? fun m => m.dst = dst && m.seq = seq) = some m → exec (.controlResend t dst seq) s = .next
      (if u.now < m.at_ + 50000 then u else if 3 ≤ m.tries then u.ctlAcked dst seq m.txn
       else State.launch { u with fab := { u.fab with
        ctl := u.fab.ctl.map fun x => if x = m then { x with tries := x.tries + 1, at_ := u.now } else x } } 1 (u.deliverTo 1 m.kind dst) m.kind seq m.txn
          m.body)) ∧
    (∀ dst seq, (u.fab.ctl.find? fun m => m.dst = dst && m.seq = seq) = none → exec (.controlResend t dst seq) s = .next u) ∧
    (exec (.linkStateFlood t) s = .next u.floodLink) ∧
    (∀ r, exec (.linkStateReceived t r) s = .next (u.takeLink r).retopology) ∧
    (∀ node announced, node < 1024 → node ≠ u.node → u.fab.failed.contains node = false →
      (announced = true ∨ ∃ w, Tab.get u.fab.unreach none node = some w ∧ w + 100000 ≤ u.now) →
      exec (.nodeFailed t node announced) s = .next (u.failNode node)) ∧
    (∀ node announced, node < 1024 → (node = u.node ∨ u.fab.failed.contains node = true ∨
        (announced = false ∧ ∀ w, Tab.get u.fab.unreach none node = some w → u.now < w + 100000)) →
      exec (.nodeFailed t node announced) s = .next u) ∧
    (∀ port t1 t2 t3 t4, port < 8 → (u.port port).up = false → exec (.timeExchange t port t1 t2 t3 t4) s = .next u) ∧
    (∀ (port : Nat) (t1 t2 t3 t4 : Time) (v : State) (delay : Q), port < 8 → (u.port port).up = true →
      delay = (((((t4 : Int) - t1) - ((t3 : Int) - t2) : Int) : Q)) / 2 - u.asym port →
      v = u.setPort port { u.port port with delay := delay } → v.upstream ≠ some port → exec (.timeExchange t port t1 t2 t3 t4) s = .next v) ∧
    (∀ (port : Nat) (t1 t2 t3 t4 : Time) (v : State) (delay : Q) (off : Int), port < 8 → (u.port port).up = true →
      delay = (((((t4 : Int) - t1) - ((t3 : Int) - t2) : Int) : Q)) / 2 - u.asym port →
      v = u.setPort port { u.port port with delay := delay } → v.upstream = some port → off = nearest ((t4 : Q) - t3 - delay) →
      v.fab.joined = true → exec (.timeExchange t port t1 t2 t3 t4) s = .next { v with fab := { v.fab with
        off := off, good := if -20 ≤ off ∧ off ≤ 20 then v.fab.good + 1 else 0 } }) ∧
    (∀ w, u.fab.hold = some w → exec (.holdoverTimeout t) s = .next
      (if w + 10000000 ≤ u.now ∧ u.fab.unlocked = false then
        State.alarm { u with fab := { u.fab with unlocked := true, joined := false } } srcChip 0x0D09 [] else u)) ∧
    (u.fab.hold = none → exec (.holdoverTimeout t) s = .next u) ∧
    (∀ l v, l = (u.fab.pps ++ [u.now]).drop ((u.fab.pps ++ [u.now]).length - 4) →
      v = { u with fab := { u.fab with pps := l, ppsValid := l.length = 4 && ppsEven l } } → exec (.ppsInEdge t) s = .next
        (if (l.length = 4 && ppsEven l) = u.fab.ppsValid then v else v.fabChanged)) ∧
    (∀ page series seq x, (u.fab.sends.find? fun x => x.page = page && x.series = series && x.seq = seq) = some x →
      exec (.fabSendTimeout t page series seq) s = .next (if u.now < x.began + 1000000000 then u else u.bulkAnswered x.msg 0x0008)) ∧
    (∀ page series seq, (u.fab.sends.find? fun x => x.page = page && x.series = series && x.seq = seq) = none →
      exec (.fabSendTimeout t page series seq) s = .next u) ∧
    (∀ m : Mirror, (u.fab.role ≠ 2 ∨ u.sbParts.testBit m.part = false) → exec (.mirrorRecordReceived t m) s = .next u) ∧
    (∀ m : Mirror, u.fab.role = 2 → u.sbParts.testBit m.part = true → m.digest = u.confDigest m.part →
      ∃ x, exec (.mirrorRecordReceived t m) s = .next x ∧ (x.mirOf m.part).rec_ = some (m.merged (u.mirOf m.part).rec_) ∧ (x.mirOf m.part).got = true ∧
        (x.mirOf m.part).age = 0 ∧ (x.mirOf m.part).differs = false ∧ (x.mirOf m.part).at_ = some u.now ∧ x.fab.mirrorLost = false) ∧
    (∀ p, u.fab.role = 2 → p ∈ u.pairParts → (u.mirOf p).at_ = none → (u.hops u.sbPartner).isSome = true → u.fab.mirrorLost = false →
      exec (.mirrorTimeout t) s = .next (State.alarm { u with fab := { u.fab with mirrorLost := true } } srcChip 0x0D05 [])) ∧
    ((u.fab.role ≠ 2 ∨ u.hops u.sbPartner = none ∨ u.fab.mirrorLost = true) → exec (.mirrorTimeout t) s = .next u) ∧
    (∀ states, u.fab.role = 2 → u.fab.orderDesc = none → exec (.standbyTakeover t true states) s = .next
      (State.takeOver { u with fab := { u.fab with order := false, orderDesc := none } } (some states))) ∧
    (∀ n series seq states, u.fab.role = 2 → u.fab.orderDesc = some (n, series, seq) → exec (.standbyTakeover t true states) s = .next
      ((State.takeOver { u with fab := { u.fab with order := false, orderDesc := none } } (some states)).finish n series seq 0 [])) ∧
    (∀ announced states, u.fab.role ≠ 2 → exec (.standbyTakeover t announced states) s = .next u) ∧
    (∀ w states, u.fab.role = 2 → u.fab.orderDesc = none → Tab.get u.fab.unreach none u.sbPartner = some w → w + 2000 ≤ u.now →
      exec (.standbyTakeover t false states) s = .next
        (State.takeOver { u with fab := { u.fab with order := false, orderDesc := none } } none)) ∧
    (∀ p, p < 8 → exec (.deposed t p) s = .next
      (if u.fab.role ≠ 1 ∨ Tab.get u.fab.deposeRow 0 p < 2 then u
       else State.alarm { u.setRole 2 with fab := { (u.setRole 2).fab with deposeRow := [] } } (srcPart p) 0x0D04 [])))

/-- The CAN ports in time: a frame received is delivered, a frame sent completes, errors count and take the port off the bus, which returns; a search
dwells on each candidate; a port that is off, or not as the event asks, stays as it is. Events shown to complete: those named here. Rules: R415, R416, R420, R421. -/
def Obligations.CanEvents : Prop :=
  ∀ (s u : State) (t : Time) (c : Nat), s.power = .running → u = s.at t → c < 4 → (
    (∀ frame, (u.can c).mode ≠ 0 → (u.can c).err ≠ 2 → exec (.canFrameReceived t c frame) s = .next
      (((((u.setCan c { u.can c with rxSeq := ((u.can c).rxSeq + 1) % 65536, rec_ := recDown (u.can c).rec_ }).canDeliver c
        ((fitTo 80 frame).take 14 ++ leBytes 2 (u.can c).rxSeq ++ (fitTo 80 frame).drop 16)).canJudge c none).canCandFrame c))) ∧
    (∀ frame, ((u.can c).mode = 0 ∨ (u.can c).err = 2) → exec (.canFrameReceived t c frame) s = .next u) ∧
    (∀ b rest, (u.can c).rx = b :: rest → exec (.canRxFlush t c) s = .next
      (if 0 < b.written ∧ b.firstAt + nsOf (u.canP c 32) ≤ u.now then u.canRxDone c else u)) ∧
    ((u.can c).rx = [] → exec (.canRxFlush t c) s = .next u) ∧
    (∀ sof cause, u.canSends c = false → exec (.canTxAttemptEnd t c sof cause) s = .next u) ∧
    (∀ sof k f, u.canSends c = true → u.canChoice c sof = some k → Tab.get (u.can c).tx none k = some f →
      exec (.canTxAttemptEnd t c sof 0) s = .next
        (((u.setCan c { u.can c with tec := (u.can c).tec - 1 }).canTxDone c k 0 (leBytes 8 sof)).canJudge c none)) ∧
    (∀ sof k f x, u.canSends c = true → u.canChoice c sof = some k → Tab.get (u.can c).tx none k = some f → f.dead = false → k ≠ 2 →
      u.canN c 19 = 0 → x = (u.setCan c { u.can c with
        tx := Tab.set (u.can c).tx none k (some { f with tries := f.tries + 1, cause := 6 })
        tec := (u.can c).tec, errors := (u.can c).errors }).canJudge c (some k) →
      x.canN c 19 = 0 → exec (.canTxAttemptEnd t c sof 6) s = .next x) ∧
    ((u.can c).err = 2 → (u.can c).busOffs.length < 3 → exec (.canBusOn t c) s = .next
      ((u.setCan c { u.can c with err := 0, tec := 0, rec_ := 0, holdUntil := none, busOffs := (u.can c).busOffs }).canEmit c 4 0x0E04 [])) ∧
    ((u.can c).err ≠ 2 → exec (.canBusOn t c) s = .next u) ∧
    ((u.can c).err = 2 → 3 ≤ (u.can c).busOffs.length → exec (.canBusOn t c) s = .next
      ((u.setCan c { u.can c with err := 0, tec := 0, rec_ := 0, holdUntil := some (u.now + 1000000000), busOffs := [] }).canEmit c 4 0x0E04 [])) ∧
    (∀ w, (u.can c).holdUntil = some w → exec (.canTxHoldoffEnd t c) s = .next
      (if w ≤ u.now then u.setCan c { u.can c with holdUntil := none } else u)) ∧
    ((u.can c).holdUntil = none → exec (.canTxHoldoffEnd t c) s = .next u) ∧
    (∀ q, (u.can c).search = some q → exec (.canDetectDwellEnd t c) s = .next (if q.candAt + q.dwell ≤ u.now then u.canNextCand c else u)) ∧
    ((u.can c).search = none → exec (.canDetectDwellEnd t c) s = .next u) ∧
    (∀ add, (u.can c).mode = 0 → exec (.canBusError t c add) s = .next u) ∧
    (∀ add, (u.can c).mode ≠ 0 → exec (.canBusError t c add) s = .next
      (((u.setCan c { u.can c with rec_ := (u.can c).rec_ + add, errors := holdAt 0xFFFF ((u.can c).errors + 1) }).canJudge c none).canNextCand c)))

/-! ### Storage, power, freeze -/

/-- Storage in time: records are committed, audit entries written, captures closed and flushed, the medium scrubbed; an operation that ends is
answered; an event whose condition does not hold changes nothing. Events shown to complete: those named here. Rules: R357, R368, R371, R377, R378, R379, R380. -/
def Obligations.StorageEvents : Prop :=
  ∀ (s u : State) (t : Time), s.power = .running → u = s.at t → (
    (∀ upTo spare, u.stor.keeps = true → exec (.firnCommitDone t upTo spare) s = .next
      ((u.commitFirn upTo).setSpares [Tab.get u.stor.medium.spares 200 0, spare])) ∧
    (∀ upTo spare, u.stor.keeps = false → exec (.firnCommitDone t upTo spare) s = .next s) ∧
    (exec (.auditCommit t) s = .next
      (if 32 ≤ u.sec.staged.length ∨ (u.sec.staged ≠ [] ∧ u.sec.oldestStaged + 10000000 ≤ u.now) then u.commitAudit else u)) ∧
    (exec (.auditCheckpoint t) s = .next
      (if 256 ≤ u.sec.sinceCheck ∨ (0 < u.sec.sinceCheck ∧ u.sec.lastCheck + 60000000000 ≤ u.now) then u.checkpoint else u)) ∧
    (∀ tAvg most spares moved, exec (.retentionScrubPass t tAvg most spares moved) s = .next
      (if u.scrubbing = true ∧ u.dieThrottle = false then
        (((moved.take 5).mapIdx fun k e => (k, e)).foldl (fun (s : State) e => s.scrubArea e.1 e.2.1 e.2.2)
          (u.setMedium { u.stor.medium with lastScrub := u.now, scrubInterval := u.scrubNext tAvg most })).setSpares spares
       else u)) ∧
    (∀ p, p < 8 → (u.bufOf p = none ∨ ∃ b, u.bufOf p = some b ∧ b.trigged = none) → exec (.morainePostWindowEnd t p) s = .next u) ∧
    (∀ p b cause code t0 c v fresh, p < 8 → u.bufOf p = some b → b.trigged = some (cause, code, t0) → t0 + nsOf b.post ≤ u.now → b.pages ≠ 0 →
      c = { record := u.stor.nextRecord, part := p, priority := b.priority, poisoned := b.poisoned, cause := cause, t := t0
            length := (b.samples.map fun e => e.2.length).foldl (· + ·) 0, code := code, rate := b.rate, rep := b.rep
            mask := b.mask, pages := b.pages, samples := b.samples } →
      v = u.setStor { u.stor with captures := u.stor.captures ++ [c], nextRecord := (u.stor.nextRecord + 1) % 2 ^ 32 } →
      fresh = { b with pages := 0, samples := [], trigged := none, rep := 0, poisoned := false } →
      exec (.morainePostWindowEnd t p) s = .next ((v.setBuf p fresh).takePages p (fresh.need v p) 256)) ∧
    (∀ record, exec (.moraineFlush t record) s = .next
      (if 2 ≤ u.stor.state ∧ u.dieThrottle = false ∧ u.flushNext = some record then u.flushCapture record none else u)) ∧
    (∀ page series seq ok, (u.stor.ops.find? fun o => o.page = page && o.series = series && o.seq = seq) = none →
      exec (.storageOperationDone t page series seq ok) s = .next u) ∧
    (∀ page series seq o, (u.stor.ops.find? fun o => o.page = page && o.series = series && o.seq = seq) = some o → o.held u = false →
      exec (.storageOperationDone t page series seq true) s = .next
        ((u.setStor { u.stor with ops := u.stor.ops.filter fun x => x ≠ o }).opDone o)) ∧
    (∀ page series seq o, (u.stor.ops.find? fun o => o.page = page && o.series = series && o.seq = seq) = some o → o.held u = false →
      exec (.storageOperationDone t page series seq false) s = .next
        ((u.setStor { u.stor with ops := u.stor.ops.filter fun x => x ≠ o }).opFailed o)))

/-- Power fails and returns, resets and boots; an event that the power state does not take changes nothing but the pin it reports. Events shown to complete: those
named here. Rules: R381, R463, R464, R466, R467, R472. -/
def Obligations.PowerEvents : Prop :=
  ∀ (s : State) (t : Time), (
    ((s.power = .running ∨ s.power = .failed) → exec (.pfailNFall t) s = .next
      ((State.at { s with sys := { s.sys with pfailLow := true } } t).startPfail 0)) ∧
    (s.power = .recovery → ∃ x, exec (.pfailNFall t) s = .next x ∧ x.power = .idle ∧ x.sys.pfailLow = true) ∧
    (∀ steps, s.power = .pfail → s.sys.pfReason = 2 → ∃ x, exec (.pfailSequenceEnd t steps false) s = .next x ∧ x.power = .off ∧
      x.sys.offReady = true ∧ x.stor.wp = false) ∧
    (∀ steps, s.power = .pfail → s.sys.pfReason = 0 → ∃ x, exec (.pfailSequenceEnd t steps false) s = .next x ∧ x.power = .idle ∧
      x.stor.wp = false) ∧
    (s.power = .idle → s.sys.pfReason ≠ 3 → ∃ x, exec (.pfailNRestored t) s = .next x ∧ x.power = .warm ∧ x.sys.warmCause = 2 ∧
      x.sys.pfailLow = false) ∧
    (s.power ≠ .idle → exec (.pfailNRestored t) s = .next { s with sys := { s.sys with pfailLow := false } }) ∧
    (∀ steps low, s.power ≠ .pfail → exec (.pfailSequenceEnd t steps low) s = .next s) ∧
    (∀ b, (s.power ≠ .held ∨ s.sys.porst = true) → exec (.boot t b) s = .next s) ∧
    (∀ b, s.power ≠ .warm → exec (.warmReset t b) s = .next s) ∧
    ((s.power ≠ .failed ∨ (s.regWord 0x0410 0).testBit 0 = false ∨ s.sys.dieShutdown = true ∨ s.sys.pfailLow = true) →
      exec (.failRestart t) s = .next s) ∧
    (∀ rail nand, rail < 6 → (s.power = .running ∨ s.power = .failed) → s.sys.pfailLow = false → exec (.railFault t rail nand) s = .next
      (State.startPfail { s.at t with sys := { s.sys with
        excursion := setBit s.sys.excursion rail true, railsIn := setBit s.sys.railsIn rail false } } 3)) ∧
    (exec (.porstNLow t) s = .next s.powerOn ∧ s.powerOn.power = .held ∧ s.powerOn.pending = s.pending) ∧
    (∀ b, s.power = .held → s.sys.porst = false → b.crystal = false → exec (.boot t b) s = .next
      { s.powerOn with
        stor := { s.powerOn.stor with wp := true }
        sys := { s.powerOn.sys with porst := true, railsIn := b.rails % 64, stage := 0xF, failCause := 1 } }) ∧
    (∀ b, s.power = .held → s.sys.porst = false → b.crystal = true → exec (.boot t b) s = .next
      (State.bootFrom { s.powerOn with now := t % 2 ^ 64, sys := { s.powerOn.sys with
        porst := true, railsIn := b.rails % 64, stage := 3, linkUp := b.link.testBit 7
        linkWord := if b.link.testBit 7 then b.link % 2 ^ 14 else 0 } } b 0 (t / 1000000))) ∧
    (∀ b w, s.power = .warm → w = (s.at t).warmKept → exec (.warmReset t b) s = .next
      (State.bootFrom { w with sys := { w.sys with rstKind := 1, rstCause := w.sys.warmCause, stage := 3, railsIn := b.rails % 64 } } b
        w.sys.warmCause ((w.now - w.sys.warmAt) / 1000000))) ∧
    (∀ w, s.power = .failed → (s.regWord 0x0410 0).testBit 0 = true → s.sys.failRecordAt = some w → w + 1000000000 ≤ max s.now t →
      s.sys.lastFailRestart = none → s.sys.dieShutdown = false → s.sys.pfailLow = false → ∃ x, exec (.failRestart t) s = .next x ∧
        x.power = .warm ∧ x.sys.warmCause = 4 ∧ x.sys.lastFailRestart = some (max s.now t)))

/-- Freeze, its read-out and Thaw. Events shown to complete: those named here. Rules: R450, R451, R454, R455, R456. -/
def Obligations.FreezeEvents : Prop :=
  ∀ (s : State) (t : Time), (
    (s.frzPin = true → (s.power = .running ∨ s.power = .failed) → exec (.freezeNLow t) s = .next ((s.at t).beginFreeze true 0xFFFF)) ∧
    ((s.frzPin = false ∨ (s.power ≠ .running ∧ s.power ≠ .failed ∧ s.power ≠ .entering)) → exec (.freezeNLow t) s = .next s) ∧
    (s.power ≠ .entering → exec (.freezeStep2End t) s = .next s) ∧
    (s.power = .entering → (s.at t).unconfirmedLanes ≠ [] → (s.at t).now < (s.at t).frz.tFreeze + 2 * (s.at t).tMaxNs + 20000 →
      exec (.freezeStep2End t) s = .next (s.at t)) ∧
    (s.power = .entering → (s.at t).unconfirmedLanes = [] → s.sec.certified = false → ∃ x, exec (.freezeStep2End t) s = .next x ∧
      x.power = .frozen ∧ x.frz.state = 2 ∧ x.frz.unconfirmed = 0 ∧ x.sec.freezeNonce = zeros 48 ∧
      ∀ p, p < 8 → (x.brkOf p).high = false ∧ (x.brkOf p).string = false) ∧
    (∀ off len, s.power = .frozen → exec (.freezeReadout t off len) s = .next { s with frz := { s.frz with readOut := s.window off len } }) ∧
    (∀ off len, s.power ≠ .frozen → msixTable off = false → exec (.freezeReadout t off len) s = .next
      { s.at t with frz := { (s.at t).frz with readOut := [] } }) ∧
    (∀ sel addr, s.power = .frozen → exec (.tapFrzData t sel addr) s = .next { s with frz := { s.frz with
      tapData := s.window (if sel then addr % 2 ^ 32 - addr % 8 else s.frz.tapAddr) 8
      tapAddr := ((if sel then addr % 2 ^ 32 - addr % 8 else s.frz.tapAddr) + 8) % 2 ^ 32 } }) ∧
    (s.power = .frozen → exec (.frzThaw t 0x54484157 true) s = .next { s with
      power := .warm, frz := { s.frz with state := 3 }, sys := { s.sys with warmCause := 3, warmAt := s.now } }) ∧
    (∀ key pinHigh, ¬ (s.power = .frozen ∧ key = 0x54484157 ∧ pinHigh = true) → exec (.frzThaw t key pinHigh) s = .next s))

/-! ### Voltage scaling, clocks, registers -/

/-- Adaptive voltage and the measurement clocks. Events shown to complete: those named here. Rules: R431, R434, R435, R487. -/
def Obligations.ClockEvents : Prop :=
  ∀ (s u : State) (t : Time), s.power = .running → u = s.at t → (
    (exec (.avsGoalUpdate t) s = .next { u with avs := { u.avs with vGoal := u.goalVoltage, least := none } }) ∧
    (u.avs.fault = false → exec (.avsVoltageWrite t 0) s = .next (
      if u.nextVoltage / 10 = u.avs.vCmd / 10 then { u with avs := { u.avs with probe := false, vCmd := u.nextVoltage } }
      else { u with avs := { u.avs with probe := false, vCmd := u.nextVoltage, fails := 0 } })) ∧
    (∀ n, u.avs.fault = true → exec (.avsVoltageWrite t n) s = .next u) ∧
    (∀ n, u.avs.fault = false → u.avs.probe = false → u.nextVoltage / 10 ≠ u.avs.vCmd / 10 → 2 ≤ n →
      exec (.avsVoltageWrite t n) s = .next (u.avsFailed n)) ∧
    (∀ k v, k < 16 → s.writes 0x0C10 = true → exec (.mclkDivWrite t k v) s = .next (u.writeMclk k v)) ∧
    (∀ k, k < 16 → exec (.mclkRelockEnd t k) s = .next (u.endRelock k)) ∧
    (∀ v, s.writes 0xD004 = true → u.blockLocked 0xD000 = false → exec (.sdCfgWrite t v) s = .next (u.writeSdCfg v)) ∧
    (∀ k, k < 128 → exec (.sdStuck t k) s = .next (if u.sdOn k = true ∧ u.mclkNs k ≠ 0 then u.setSdFlag k 2 true else u)))

/-- Writes of registers that act at once, where the chip's power state and its mode take writes of the register; elsewhere they change nothing. Commands
shown to complete: those named here. Rules: R233, R438, R465, R470, R477,
R480, R481, R484, R489, R490. -/
def Obligations.RegisterWrites : Prop :=
  ∀ (s u : State) (t : Time) (v : Nat), u = s.at t → (
    (exec (.rstCtrlWarm t v) s = .next (if s.writes 0x0408 = true then u.rstCtrl v else s)) ∧
    (exec (.rstCtrlShutdown t v) s = .next (if s.writes 0x0408 = true then u.rstCtrl v else s)) ∧
    (s.writes 0x0028 = true → v.testBit 0 = true → exec (.regHoldClear t v) s = .next { u with sys := { u.sys with
      regFull := u.sys.regFull && !v.testBit 1, regLost := u.sys.regLost && !v.testBit 2
      ignored := if bits v 15 8 = 0 then u.sys.ignored else 0, hold := true } }) ∧
    (s.writes 0x103C = true → u.blockLocked 0x1000 = false → v.testBit 0 = true →
      ∃ x, exec (.tripLock t v) s = .next x ∧ x.sys.tripLock = true) ∧
    (∀ off, lockWord off = true → blockOf off ≠ 0x1000 → s.writes off = true → u.blockLocked (blockOf off) = false → v.testBit 0 = true →
      exec (.blockLock t off v) s = .next { u with sys := { u.sys with locks := blockOf off :: u.sys.locks } }) ∧
    (s.writes 0x2008 = true → v.testBit 31 = true →
      exec (.pcieErrClear t v) s = .next { u with sys := { u.sys with errCorr := 0, errUncorr := 0, errDma := 0 } }) ∧
    (s.writes 0xF004 = true → u.sec.certified = false → u.sec.debugLock = false →
      exec (.dbgTapFull t v) s = .next { u with sys := { u.sys with tapOpen := v.testBit 0 } }) ∧
    (exec (.mbReadCertificate t) s = .next (if s.writes 0xE000 = true then u.readCertificate else s)) ∧
    (exec (.mbWriteRecoveryChunk t) s = .next (if s.writes 0xE000 = true then u.writeChunk else s)) ∧
    (∀ ok svn raises, exec (.mbFinishRecoveryImage t ok svn raises) s = .next (if s.writes 0xE000 = true then u.finishImage ok svn raises else s)) ∧
    (exec (.devTimeLoRead t) s = .next
      (if s.reads_ 0x0C00 = true then { u with sys := { u.sys with devTimeHi := u.now / 2 ^ 32 % 2 ^ 32 } } else s)) ∧
    (∀ off bs, off < 65536 → s.writes off = false → msixTable off = false → exec (.registerWrite t off bs) s = .next s) ∧
    (∀ off bs, off < 65536 → off % 4 = 0 → bs.length = 4 → s.writes off = true → u.writes off = true →
      exec (.registerWrite t off bs) s = .next (u.writeWord off (leNat bs 0 4))))

/-! ### Three rules of the manual, whole -/

/-- R328. The opcodes that the urgent doorbell accepts are `CANCEL` (0x01), `BLOCK` (0x1A), `PROFILE_STOP` (0x48), `CALVE` (0x67), `CRASH_STOP`
(0x74), `ESTOP` (0x75), `WINCH_EMERG` (0x76) and `PROT_TRIP` (0x7B): none of them is refused with `URGENT_REFUSED` (0x000B), and any other opcode
on the urgent doorbell, where no earlier check of R321 fails, completes with it and has no effect. -/
def Obligations.UrgentDoorbellOpcodes : Prop :=
  ∀ (i : Instr) (s : State) (o : Order), s.orderOf i = some o →
    (o.info.op ∈ [0x01, 0x1A, 0x48, 0x67, 0x74, 0x75, 0x76, 0x7B] → (s.taken o).checks o.info o.d o.buf ≠ 0x000B) ∧
    (o.info.op ∉ [0x01, 0x1A, 0x48, 0x67, 0x74, 0x75, 0x76, 0x7B] → s.begins o = true → o.d.series = 4 → o.d.tenant = o.d.page →
      ¬ (o.info.op ≥ 0xF0 ∧ (s.sec.certified = true ∨ o.d.page ≠ 0 ∨ s.sys.tapOpen = false)) → o.d.flags < 16 →
      reservedClear o.info.lay o.d.payload = true → o.d.flags.testBit 1 = true →
      ∃ t, exec i s = .next t ∧ t.drive = (s.at o.d.t).drive ∧ t.completed o 0x000B [])

/-- R442. `EVENT_CONFIG` sets the lowest class of STATE (4), INFO (2) and DEBUG (1) that its sender receives, STATE unless it was ever set, and its
coalescing window; so a tenant takes INFO and DEBUG only where it asked for them; every role may send `EVENT_CONFIG` and `EVENT_STATUS`. -/
def Obligations.EventClassesAsked : Prop :=
  (∀ (d : Desc) (s u : State), Taken (.eventConfig d) s u → ∃ t, exec (.eventConfig d) s = .next t ∧ t.drive = u.drive ∧
    (t.page d.page).minClass = d.u8 16 ∧ (t.page d.page).coalWindow = nsOf (d.f32 20)) ∧
  (∀ n, (State.reset.page n).minClass = 4) ∧
  (∀ (s : State) (n cls : Nat), cls ∈ [1, 2, 4] → s.wants n cls = true → (s.page n).minClass ≤ cls) ∧
  (∀ (s : State) (d : Desc) (i : Instr) (o : Order), i ∈ [Instr.eventConfig d, .eventStatus d] → s.orderOf i = some o →
    s.rightOk o.info d = true)

/-- R290. With no output step for `stand_time` a stepper's channel enters STANDSTILL (8), its coils shorted where `stand_mode` is 1 and its gates off
where it is 0. The next step re-energises the coils where they stand with f = 1, and is issued once both coil comparators have asserted, or after
2 ms. -/
def Obligations.StepperStandsStill : Prop :=
  ∀ (s u : State) (t : Time) (m : Nat), s.power = .running → u = s.at t → m < 16 → u.auxMode m = 2 → (
    ((u.auxOf m).st = 5 → (u.auxOf m).stepAt + nsOf (u.stepP m 48) ≤ u.now → exec (.stepperStandstill t m) s = .next
      (u.setAux m { u.auxOf m with
        st := 8, stAt := u.now, shorted := decide (u.stepByte m 17 1 = 1), coarseAt := none, timer := none })) ∧
    ((u.auxOf m).st = 5 → ¬ (u.auxOf m).stepAt + nsOf (u.stepP m 48) ≤ u.now → exec (.stepperStandstill t m) s = .next u) ∧
    (∀ e d iv, u.stepNext m = some (d, iv) → (u.auxOf m).st = 8 → (u.auxOf m).wakeAt = none → exec (.stepTimer t m e) s = .next
      (u.setAux m { u.auxOf m with wakeAt := some u.now, seenA := false, seenB := false, f := 1, shorted := false })) ∧
    (∀ e d iv w, u.stepNext m = some (d, iv) → (u.auxOf m).st = 8 → (u.auxOf m).wakeAt = some w →
      ¬ ((u.auxOf m).seenA = true ∧ (u.auxOf m).seenB = true) → u.now < w + 2000000 → exec (.stepTimer t m e) s = .next u) ∧
    (∀ e d iv w, u.stepNext m = some (d, iv) → (u.auxOf m).st = 8 → (u.auxOf m).wakeAt = some w →
      (((u.auxOf m).seenA = true ∧ (u.auxOf m).seenB = true) ∨ w + 2000000 ≤ u.now) →
      ∃ x, exec (.stepTimer t m e) s = .next x ∧ (x.auxOf m).pos = (u.auxOf m).pos + d * u.stepUnit m ∧ (x.auxOf m).stepAt = u.now ∧
        (x.auxOf m).wakeAt = none))
end

