-- ==== Sys2Proof/Laws/Arms.lean ====
section
/-!
SUPPORT. Each command's meaning by name: what exec answers on each constructor.
-/
namespace Sys2Proof.Machine
open Sys2Proof

theorem exec_nop (d : Desc) (s : State) : exec (.nop d) s = execNop d s := rfl
theorem exec_cancel (d : Desc) (s : State) : exec (.cancel d) s = execCancel d s := rfl
theorem exec_fence (d : Desc) (s : State) : exec (.fence d) s = execFence d s := rfl
theorem exec_leaseAcquire (d : Desc) (s : State) : exec (.leaseAcquire d) s = execLeaseAcquire d s := rfl
theorem exec_leaseRelease (d : Desc) (s : State) : exec (.leaseRelease d) s = execLeaseRelease d s := rfl
theorem exec_leaseTransfer (d : Desc) (s : State) : exec (.leaseTransfer d) s = execLeaseTransfer d s := rfl
theorem exec_leaseRevoke (d : Desc) (s : State) : exec (.leaseRevoke d) s = execLeaseRevoke d s := rfl
theorem exec_leaseQuery (d : Desc) (s : State) : exec (.leaseQuery d) s = execLeaseQuery d s := rfl
theorem exec_leaseTimeout (t : Time) (page : Nat) (series : Nat) (seq : Nat) (s : State) : exec (.leaseTimeout t page series seq) s = execLeaseTimeout t page series seq s := rfl
theorem exec_partConfig (d : Desc) (s : State) : exec (.partConfig d) s = execPartConfig d s := rfl
theorem exec_armConfig (d : Desc) (s : State) : exec (.armConfig d) s = execArmConfig d s := rfl
theorem exec_laneAssign (d : Desc) (s : State) : exec (.laneAssign d) s = execLaneAssign d s := rfl
theorem exec_partCommit (d : Desc) (s : State) : exec (.partCommit d) s = execPartCommit d s := rfl
theorem exec_partRelease (d : Desc) (s : State) : exec (.partRelease d) s = execPartRelease d s := rfl
theorem exec_prechargeConfig (d : Desc) (s : State) : exec (.prechargeConfig d) s = execPrechargeConfig d s := rfl
theorem exec_cellPolicy (d : Desc) (s : State) : exec (.cellPolicy d) s = execCellPolicy d s := rfl
theorem exec_precharge (d : Desc) (differs : Bool) (s : State) : exec (.precharge d differs) s = execPrecharge d differs s := rfl
theorem exec_enable (d : Desc) (s : State) : exec (.enable d) s = execEnable d s := rfl
theorem exec_disable (d : Desc) (s : State) : exec (.disable d) s = execDisable d s := rfl
theorem exec_block (d : Desc) (s : State) : exec (.block d) s = execBlock d s := rfl
theorem exec_tripReset (d : Desc) (s : State) : exec (.tripReset d) s = execTripReset d s := rfl
theorem exec_cellBypass (d : Desc) (s : State) : exec (.cellBypass d) s = execCellBypass d s := rfl
theorem exec_cellAdmit (d : Desc) (s : State) : exec (.cellAdmit d) s = execCellAdmit d s := rfl
theorem exec_partStatus (d : Desc) (s : State) : exec (.partStatus d) s = execPartStatus d s := rfl
theorem exec_cellStatus (d : Desc) (s : State) : exec (.cellStatus d) s = execCellStatus d s := rfl
theorem exec_modConfig (d : Desc) (s : State) : exec (.modConfig d) s = execModConfig d s := rfl
theorem exec_edgeConfig (d : Desc) (s : State) : exec (.edgeConfig d) s = execEdgeConfig d s := rfl
theorem exec_balanceConfig (d : Desc) (s : State) : exec (.balanceConfig d) s = execBalanceConfig d s := rfl
theorem exec_circConfig (d : Desc) (s : State) : exec (.circConfig d) s = execCircConfig d s := rfl
theorem exec_armSense (d : Desc) (s : State) : exec (.armSense d) s = execArmSense d s := rfl
theorem exec_shareConfig (d : Desc) (s : State) : exec (.shareConfig d) s = execShareConfig d s := rfl
theorem exec_modLimit (d : Desc) (s : State) : exec (.modLimit d) s = execModLimit d s := rfl
theorem exec_modStatus (d : Desc) (s : State) : exec (.modStatus d) s = execModStatus d s := rfl
theorem exec_machConfig (d : Desc) (s : State) : exec (.machConfig d) s = execMachConfig d s := rfl
theorem exec_machParams (d : Desc) (s : State) : exec (.machParams d) s = execMachParams d s := rfl
theorem exec_currentConfig (d : Desc) (s : State) : exec (.currentConfig d) s = execCurrentConfig d s := rfl
theorem exec_observerConfig (d : Desc) (s : State) : exec (.observerConfig d) s = execObserverConfig d s := rfl
theorem exec_speedConfig (d : Desc) (s : State) : exec (.speedConfig d) s = execSpeedConfig d s := rfl
theorem exec_limits (d : Desc) (s : State) : exec (.limits d) s = execLimits d s := rfl
theorem exec_fieldConfig (d : Desc) (s : State) : exec (.fieldConfig d) s = execFieldConfig d s := rfl
theorem exec_supplyConfig (d : Desc) (s : State) : exec (.supplyConfig d) s = execSupplyConfig d s := rfl
theorem exec_setpoint (d : Desc) (s : State) : exec (.setpoint d) s = execSetpoint d s := rfl
theorem exec_supplySetpoint (d : Desc) (s : State) : exec (.supplySetpoint d) s = execSupplySetpoint d s := rfl
theorem exec_exciterConfig (d : Desc) (s : State) : exec (.exciterConfig d) s = execExciterConfig d s := rfl
theorem exec_coreMigrate (d : Desc) (s : State) : exec (.coreMigrate d) s = execCoreMigrate d s := rfl
theorem exec_machStatus (d : Desc) (s : State) : exec (.machStatus d) s = execMachStatus d s := rfl
theorem exec_refSource (d : Desc) (s : State) : exec (.refSource d) s = execRefSource d s := rfl
theorem exec_curveLoad (d : Desc) (s : State) : exec (.curveLoad d) s = execCurveLoad d s := rfl
theorem exec_curveInput (d : Desc) (s : State) : exec (.curveInput d) s = execCurveInput d s := rfl
theorem exec_shockConfig (d : Desc) (s : State) : exec (.shockConfig d) s = execShockConfig d s := rfl
theorem exec_drumConfig (d : Desc) (s : State) : exec (.drumConfig d) s = execDrumConfig d s := rfl
theorem exec_drumSet (d : Desc) (s : State) : exec (.drumSet d) s = execDrumSet d s := rfl
theorem exec_profileLimits (d : Desc) (s : State) : exec (.profileLimits d) s = execProfileLimits d s := rfl
theorem exec_profileMove (d : Desc) (s : State) : exec (.profileMove d) s = execProfileMove d s := rfl
theorem exec_profileStop (d : Desc) (s : State) : exec (.profileStop d) s = execProfileStop d s := rfl
theorem exec_vlimitConfig (d : Desc) (s : State) : exec (.vlimitConfig d) s = execVlimitConfig d s := rfl
theorem exec_tension (d : Desc) (s : State) : exec (.tension d) s = execTension d s := rfl
theorem exec_heaveConfig (d : Desc) (s : State) : exec (.heaveConfig d) s = execHeaveConfig d s := rfl
theorem exec_heaveRef (d : Desc) (s : State) : exec (.heaveRef d) s = execHeaveRef d s := rfl
theorem exec_motionStatus (d : Desc) (s : State) : exec (.motionStatus d) s = execMotionStatus d s := rfl
theorem exec_fbConfig (d : Desc) (s : State) : exec (.fbConfig d) s = execFbConfig d s := rfl
theorem exec_encConfig (d : Desc) (s : State) : exec (.encConfig d) s = execEncConfig d s := rfl
theorem exec_resConfig (d : Desc) (s : State) : exec (.resConfig d) s = execResConfig d s := rfl
theorem exec_bissConfig (d : Desc) (s : State) : exec (.bissConfig d) s = execBissConfig d s := rfl
theorem exec_sensorlessConfig (d : Desc) (s : State) : exec (.sensorlessConfig d) s = execSensorlessConfig d s := rfl
theorem exec_restartConfig (d : Desc) (s : State) : exec (.restartConfig d) s = execRestartConfig d s := rfl
theorem exec_limitConfig (d : Desc) (s : State) : exec (.limitConfig d) s = execLimitConfig d s := rfl
theorem exec_fbStatus (d : Desc) (s : State) : exec (.fbStatus d) s = execFbStatus d s := rfl
theorem exec_thermConfig (d : Desc) (s : State) : exec (.thermConfig d) s = execThermConfig d s := rfl
theorem exec_coolantConfig (d : Desc) (s : State) : exec (.coolantConfig d) s = execCoolantConfig d s := rfl
theorem exec_thermGroups (d : Desc) (s : State) : exec (.thermGroups d) s = execThermGroups d s := rfl
theorem exec_thermSensorReset (d : Desc) (s : State) : exec (.thermSensorReset d) s = execThermSensorReset d s := rfl
theorem exec_thermStatus (d : Desc) (s : State) : exec (.thermStatus d) s = execThermStatus d s := rfl
theorem exec_tandemConfig (d : Desc) (s : State) : exec (.tandemConfig d) s = execTandemConfig d s := rfl
theorem exec_tandemRatio (d : Desc) (s : State) : exec (.tandemRatio d) s = execTandemRatio d s := rfl
theorem exec_tandemMaster (d : Desc) (s : State) : exec (.tandemMaster d) s = execTandemMaster d s := rfl
theorem exec_consumerConfig (d : Desc) (s : State) : exec (.consumerConfig d) s = execConsumerConfig d s := rfl
theorem exec_demandLimit (d : Desc) (s : State) : exec (.demandLimit d) s = execDemandLimit d s := rfl
theorem exec_supplyRecord (d : Desc) (s : State) : exec (.supplyRecord d) s = execSupplyRecord d s := rfl
theorem exec_calveConfig (d : Desc) (s : State) : exec (.calveConfig d) s = execCalveConfig d s := rfl
theorem exec_calve (d : Desc) (s : State) : exec (.calve d) s = execCalve d s := rfl
theorem exec_calveClear (d : Desc) (s : State) : exec (.calveClear d) s = execCalveClear d s := rfl
theorem exec_interleaveConfig (d : Desc) (s : State) : exec (.interleaveConfig d) s = execInterleaveConfig d s := rfl
theorem exec_plantReserve (d : Desc) (s : State) : exec (.plantReserve d) s = execPlantReserve d s := rfl
theorem exec_plantRelease (d : Desc) (s : State) : exec (.plantRelease d) s = execPlantRelease d s := rfl
theorem exec_plantStatus (d : Desc) (s : State) : exec (.plantStatus d) s = execPlantStatus d s := rfl
theorem exec_brakeConfig (d : Desc) (s : State) : exec (.brakeConfig d) s = execBrakeConfig d s := rfl
theorem exec_emergConfig (d : Desc) (s : State) : exec (.emergConfig d) s = execEmergConfig d s := rfl
theorem exec_rideConfig (d : Desc) (s : State) : exec (.rideConfig d) s = execRideConfig d s := rfl
theorem exec_limp (d : Desc) (s : State) : exec (.limp d) s = execLimp d s := rfl
theorem exec_crashStopStart (d : Desc) (s : State) : exec (.crashStopStart d) s = execCrashStopStart d s := rfl
theorem exec_crashStopEnd (d : Desc) (s : State) : exec (.crashStopEnd d) s = execCrashStopEnd d s := rfl
theorem exec_estopControlled (d : Desc) (s : State) : exec (.estopControlled d) s = execEstopControlled d s := rfl
theorem exec_estopShortCircuit (d : Desc) (s : State) : exec (.estopShortCircuit d) s = execEstopShortCircuit d s := rfl
theorem exec_winchEmergEndRender (d : Desc) (s : State) : exec (.winchEmergEndRender d) s = execWinchEmergEndRender d s := rfl
theorem exec_winchEmergRender (d : Desc) (s : State) : exec (.winchEmergRender d) s = execWinchEmergRender d s := rfl
theorem exec_winchEmergQuickRelease (d : Desc) (s : State) : exec (.winchEmergQuickRelease d) s = execWinchEmergQuickRelease d s := rfl
theorem exec_brakeStatus (d : Desc) (s : State) : exec (.brakeStatus d) s = execBrakeStatus d s := rfl
theorem exec_protConfig (d : Desc) (s : State) : exec (.protConfig d) s = execProtConfig d s := rfl
theorem exec_tripLink (d : Desc) (s : State) : exec (.tripLink d) s = execTripLink d s := rfl
theorem exec_protSelftest (d : Desc) (s : State) : exec (.protSelftest d) s = execProtSelftest d s := rfl
theorem exec_protSelftestDone (t : Time) (p : Nat) (failed : List Nat) (s : State) : exec (.protSelftestDone t p failed) s = execProtSelftestDone t p failed s := rfl
theorem exec_protTrip (d : Desc) (s : State) : exec (.protTrip d) s = execProtTrip d s := rfl
theorem exec_protRecord (d : Desc) (s : State) : exec (.protRecord d) s = execProtRecord d s := rfl
theorem exec_regionRestart (d : Desc) (fails : Nat) (s : State) : exec (.regionRestart d fails) s = execRegionRestart d fails s := rfl
theorem exec_protStatus (d : Desc) (s : State) : exec (.protStatus d) s = execProtStatus d s := rfl
theorem exec_linkConfig (d : Desc) (s : State) : exec (.linkConfig d) s = execLinkConfig d s := rfl
theorem exec_linkRetrain (d : Desc) (s : State) : exec (.linkRetrain d) s = execLinkRetrain d s := rfl
theorem exec_linkStatus (d : Desc) (s : State) : exec (.linkStatus d) s = execLinkStatus d s := rfl
theorem exec_auxMode (d : Desc) (s : State) : exec (.auxMode d) s = execAuxMode d s := rfl
theorem exec_bldcConfig (d : Desc) (s : State) : exec (.bldcConfig d) s = execBldcConfig d s := rfl
theorem exec_bldcCurve (d : Desc) (s : State) : exec (.bldcCurve d) s = execBldcCurve d s := rfl
theorem exec_stepConfig (d : Desc) (s : State) : exec (.stepConfig d) s = execStepConfig d s := rfl
theorem exec_stepSource (d : Desc) (s : State) : exec (.stepSource d) s = execStepSource d s := rfl
theorem exec_switchConfig (d : Desc) (s : State) : exec (.switchConfig d) s = execSwitchConfig d s := rfl
theorem exec_sagConfig (d : Desc) (s : State) : exec (.sagConfig d) s = execSagConfig d s := rfl
theorem exec_auxDiag (d : Desc) (s : State) : exec (.auxDiag d) s = execAuxDiag d s := rfl
theorem exec_auxRunStart (d : Desc) (s : State) : exec (.auxRunStart d) s = execAuxRunStart d s := rfl
theorem exec_auxRunStop (d : Desc) (s : State) : exec (.auxRunStop d) s = execAuxRunStop d s := rfl
theorem exec_auxInput (d : Desc) (s : State) : exec (.auxInput d) s = execAuxInput d s := rfl
theorem exec_auxReset (d : Desc) (s : State) : exec (.auxReset d) s = execAuxReset d s := rfl
theorem exec_auxStatus (d : Desc) (s : State) : exec (.auxStatus d) s = execAuxStatus d s := rfl
theorem exec_telemSub (d : Desc) (s : State) : exec (.telemSub d) s = execTelemSub d s := rfl
theorem exec_telemUnsub (d : Desc) (s : State) : exec (.telemUnsub d) s = execTelemUnsub d s := rfl
theorem exec_eventConfig (d : Desc) (s : State) : exec (.eventConfig d) s = execEventConfig d s := rfl
theorem exec_trackerStatus (d : Desc) (s : State) : exec (.trackerStatus d) s = execTrackerStatus d s := rfl
theorem exec_eventLog (d : Desc) (s : State) : exec (.eventLog d) s = execEventLog d s := rfl
theorem exec_freeze (d : Desc) (s : State) : exec (.freeze d) s = execFreeze d s := rfl
theorem exec_eventStatus (d : Desc) (s : State) : exec (.eventStatus d) s = execEventStatus d s := rfl
theorem exec_firnSync (d : Desc) (s : State) : exec (.firnSync d) s = execFirnSync d s := rfl
theorem exec_firnLoad (d : Desc) (signed : Bool) (s : State) : exec (.firnLoad d signed) s = execFirnLoad d signed s := rfl
theorem exec_firnErase (d : Desc) (signed : Bool) (s : State) : exec (.firnErase d signed) s = execFirnErase d signed s := rfl
theorem exec_firnExport (d : Desc) (s : State) : exec (.firnExport d) s = execFirnExport d s := rfl
theorem exec_moraineConfig (d : Desc) (s : State) : exec (.moraineConfig d) s = execMoraineConfig d s := rfl
theorem exec_moraineTrigger (d : Desc) (s : State) : exec (.moraineTrigger d) s = execMoraineTrigger d s := rfl
theorem exec_moraineList (d : Desc) (s : State) : exec (.moraineList d) s = execMoraineList d s := rfl
theorem exec_moraineRead (d : Desc) (s : State) : exec (.moraineRead d) s = execMoraineRead d s := rfl
theorem exec_moraineProtect (d : Desc) (s : State) : exec (.moraineProtect d) s = execMoraineProtect d s := rfl
theorem exec_auditRead (d : Desc) (s : State) : exec (.auditRead d) s = execAuditRead d s := rfl
theorem exec_userWrite (d : Desc) (s : State) : exec (.userWrite d) s = execUserWrite d s := rfl
theorem exec_userRead (d : Desc) (s : State) : exec (.userRead d) s = execUserRead d s := rfl
theorem exec_userDelete (d : Desc) (s : State) : exec (.userDelete d) s = execUserDelete d s := rfl
theorem exec_storFormat (d : Desc) (signed : Bool) (s : State) : exec (.storFormat d signed) s = execStorFormat d signed s := rfl
theorem exec_storStatus (d : Desc) (s : State) : exec (.storStatus d) s = execStorStatus d s := rfl
theorem exec_standbyConfig (d : Desc) (s : State) : exec (.standbyConfig d) s = execStandbyConfig d s := rfl
theorem exec_fabCalConfig (d : Desc) (s : State) : exec (.fabCalConfig d) s = execFabCalConfig d s := rfl
theorem exec_takeover (d : Desc) (ready : Bool) (s : State) : exec (.takeover d ready) s = execTakeover d ready s := rfl
theorem exec_shareSubConfig (d : Desc) (s : State) : exec (.shareSubConfig d) s = execShareSubConfig d s := rfl
theorem exec_sharePublish (d : Desc) (s : State) : exec (.sharePublish d) s = execSharePublish d s := rfl
theorem exec_fabSend (d : Desc) (s : State) : exec (.fabSend d) s = execFabSend d s := rfl
theorem exec_fabRecv (d : Desc) (s : State) : exec (.fabRecv d) s = execFabRecv d s := rfl
theorem exec_fabTrace (d : Desc) (rtt : Nat) (s : State) : exec (.fabTrace d rtt) s = execFabTrace d rtt s := rfl
theorem exec_fabTopology (d : Desc) (s : State) : exec (.fabTopology d) s = execFabTopology d s := rfl
theorem exec_fabStatus (d : Desc) (s : State) : exec (.fabStatus d) s = execFabStatus d s := rfl
theorem exec_canConfig (d : Desc) (s : State) : exec (.canConfig d) s = execCanConfig d s := rfl
theorem exec_canRateConfig (d : Desc) (s : State) : exec (.canRateConfig d) s = execCanRateConfig d s := rfl
theorem exec_canDetect (d : Desc) (s : State) : exec (.canDetect d) s = execCanDetect d s := rfl
theorem exec_canRxPost (d : Desc) (s : State) : exec (.canRxPost d) s = execCanRxPost d s := rfl
theorem exec_canTx (d : Desc) (sof : Nat) (s : State) : exec (.canTx d sof) s = execCanTx d sof s := rfl
theorem exec_canTxAbort (d : Desc) (sof : Nat) (s : State) : exec (.canTxAbort d sof) s = execCanTxAbort d sof s := rfl
theorem exec_canStatus (d : Desc) (s : State) : exec (.canStatus d) s = execCanStatus d s := rfl
theorem exec_tenantCreate (d : Desc) (s : State) : exec (.tenantCreate d) s = execTenantCreate d s := rfl
theorem exec_tenantBind (d : Desc) (s : State) : exec (.tenantBind d) s = execTenantBind d s := rfl
theorem exec_tenantRetire (d : Desc) (s : State) : exec (.tenantRetire d) s = execTenantRetire d s := rfl
theorem exec_slotSchedule (d : Desc) (s : State) : exec (.slotSchedule d) s = execSlotSchedule d s := rfl
theorem exec_secCtrlEnter (d : Desc) (signed : Bool) (s : State) : exec (.secCtrlEnter d signed) s = execSecCtrlEnter d signed s := rfl
theorem exec_secCtrlLeave (d : Desc) (signed : Bool) (s : State) : exec (.secCtrlLeave d signed) s = execSecCtrlLeave d signed s := rfl
theorem exec_secCtrlConsent (d : Desc) (s : State) : exec (.secCtrlConsent d) s = execSecCtrlConsent d s := rfl
theorem exec_secCtrlEnrolKey (d : Desc) (signed : Bool) (s : State) : exec (.secCtrlEnrolKey d signed) s = execSecCtrlEnrolKey d signed s := rfl
theorem exec_secCtrlRevokeKey (d : Desc) (signed : Bool) (s : State) : exec (.secCtrlRevokeKey d signed) s = execSecCtrlRevokeKey d signed s := rfl
theorem exec_fwUpdate (d : Desc) (valid : Bool) (svn : Nat) (raises : Bool) (s : State) : exec (.fwUpdate d valid svn raises) s = execFwUpdate d valid svn raises s := rfl
theorem exec_attest (d : Desc) (s : State) : exec (.attest d) s = execAttest d s := rfl
theorem exec_tenantStatus (d : Desc) (s : State) : exec (.tenantStatus d) s = execTenantStatus d s := rfl
theorem exec_testEccInject (d : Desc) (s : State) : exec (.testEccInject d) s = execTestEccInject d s := rfl
theorem exec_testWdogStop (d : Desc) (s : State) : exec (.testWdogStop d) s = execTestWdogStop d s := rfl
theorem exec_testLinkSilence (d : Desc) (s : State) : exec (.testLinkSilence d) s = execTestLinkSilence d s := rfl
theorem exec_testLinkSilenceEnd (t : Time) (lane : Nat) (s : State) : exec (.testLinkSilenceEnd t lane) s = execTestLinkSilenceEnd t lane s := rfl
theorem exec_sqTail (t : Time) (page : Nat) (ring : Nat) (v : Nat) (whole : Bool) (s : State) : exec (.sqTail t page ring v whole) s = execSqTail t page ring v whole s := rfl
theorem exec_descriptorFetch (t : Time) (page : Nat) (ring : Nat) (bytes : List Byte) (s : State) : exec (.descriptorFetch t page ring bytes) s = execDescriptorFetch t page ring bytes s := rfl
theorem exec_cqHead (t : Time) (page : Nat) (v : Nat) (whole : Bool) (s : State) : exec (.cqHead t page v whole) s = execCqHead t page v whole s := rfl
theorem exec_eqHead (t : Time) (page : Nat) (v : Nat) (whole : Bool) (s : State) : exec (.eqHead t page v whole) s = execEqHead t page v whole s := rfl
theorem exec_urgentStage (t : Time) (page : Nat) (off : Nat) (bytes : List Byte) (s : State) : exec (.urgentStage t page off bytes) s = execUrgentStage t page off bytes s := rfl
theorem exec_urgentCommit (t : Time) (page : Nat) (v : Nat) (whole : Bool) (s : State) : exec (.urgentCommit t page v whole) s = execUrgentCommit t page v whole s := rfl
theorem exec_ringEnable (t : Time) (v : Nat) (s : State) : exec (.ringEnable t v) s = execRingEnable t v s := rfl
theorem exec_ringDisable (t : Time) (v : Nat) (s : State) : exec (.ringDisable t v) s = execRingDisable t v s := rfl
theorem exec_irqHoldoffExpiry (t : Time) (page : Nat) (ring : Nat) (s : State) : exec (.irqHoldoffExpiry t page ring) s = execIrqHoldoffExpiry t page ring s := rfl
theorem exec_pcieLinkLoss (t : Time) (s : State) : exec (.pcieLinkLoss t) s = execPcieLinkLoss t s := rfl
theorem exec_coalesceWindowEnd (t : Time) (page : Nat) (src : Nat) (code : Nat) (s : State) : exec (.coalesceWindowEnd t page src code) s = execCoalesceWindowEnd t page src code s := rfl
theorem exec_shedCount (t : Time) (page : Nat) (cls : Nat) (path : Nat) (ended : Bool) (s : State) : exec (.shedCount t page cls path ended) s = execShedCount t page cls path ended s := rfl
theorem exec_telemSample (t : Time) (page : Nat) (sub : Nat) (load : Nat) (s : State) : exec (.telemSample t page sub load) s = execTelemSample t page sub load s := rfl
theorem exec_certifiedSlotStart (t : Time) (s : State) : exec (.certifiedSlotStart t) s = execCertifiedSlotStart t s := rfl
theorem exec_bulkWait (t : Time) (r : Nat) (s : State) : exec (.bulkWait t r) s = execBulkWait t r s := rfl
theorem exec_cellCycleStart (t : Time) (p : Nat) (now : List Q) (mean : List Q) (count : Int) (ages : List Nat) (counts : List Int) (s : State) : exec (.cellCycleStart t p now mean count ages counts) s = execCellCycleStart t p now mean count ages counts s := rfl
theorem exec_upFrameReceived (t : Time) (lane : Nat) (bytes : List Byte) (chars : Bool) (rtt : Nat) (s : State) : exec (.upFrameReceived t lane bytes chars rtt) s = execUpFrameReceived t lane bytes chars rtt s := rfl
theorem exec_alarmSReceived (t : Time) (lane : Nat) (clean : Bool) (s : State) : exec (.alarmSReceived t lane clean) s = execAlarmSReceived t lane clean s := rfl
theorem exec_alarmUReceived (t : Time) (lane : Nat) (clean : Bool) (s : State) : exec (.alarmUReceived t lane clean) s = execAlarmUReceived t lane clean s := rfl
theorem exec_upFrameWindowEnd (t : Time) (p : Nat) (s : State) : exec (.upFrameWindowEnd t p) s = execUpFrameWindowEnd t p s := rfl
theorem exec_computeWindowStart (t : Time) (p : Nat) (s : State) : exec (.computeWindowStart t p) s = execComputeWindowStart t p s := rfl
theorem exec_armPlacement (t : Time) (p : Nat) (arm : Nat) (s : State) : exec (.armPlacement t p arm) s = execArmPlacement t p arm s := rfl
theorem exec_currentLoopStep (t : Time) (p : Nat) (fresh : Bool) (pd : Q) (pq : Q) (pt : Q) (s : State) : exec (.currentLoopStep t p fresh pd pq pt) s = execCurrentLoopStep t p fresh pd pq pt s := rfl
theorem exec_downFrameWindowStart (t : Time) (p : Nat) (s : State) : exec (.downFrameWindowStart t p) s = execDownFrameWindowStart t p s := rfl
theorem exec_speedStep (t : Time) (p : Nat) (who : List Nat) (caps : List Q) (torques : List Q) (speeds : List Q) (states : List Nat) (limits : List Nat) (s : State) : exec (.speedStep t p who caps torques speeds states limits) s = execSpeedStep t p who caps torques speeds states limits s := rfl
theorem exec_migration (t : Time) (p : Nat) (s : State) : exec (.migration t p) s = execMigration t p s := rfl
theorem exec_machineCoreSelftest (t : Time) (p : Nat) (core : Nat) (ok : Bool) (s : State) : exec (.machineCoreSelftest t p core ok) s = execMachineCoreSelftest t p core ok s := rfl
theorem exec_prechargePassiveDone (t : Time) (p : Nat) (s : State) : exec (.prechargePassiveDone t p) s = execPrechargePassiveDone t p s := rfl
theorem exec_prechargeComplete (t : Time) (p : Nat) (s : State) : exec (.prechargeComplete t p) s = execPrechargeComplete t p s := rfl
theorem exec_prechargeTimeout (t : Time) (p : Nat) (s : State) : exec (.prechargeTimeout t p) s = execPrechargeTimeout t p s := rfl
theorem exec_disableComplete (t : Time) (p : Nat) (s : State) : exec (.disableComplete t p) s = execDisableComplete t p s := rfl
theorem exec_readyFloorExpiry (t : Time) (p : Nat) (s : State) : exec (.readyFloorExpiry t p) s = execReadyFloorExpiry t p s := rfl
theorem exec_readmitTimeout (t : Time) (lane : Nat) (s : State) : exec (.readmitTimeout t lane) s = execReadmitTimeout t lane s := rfl
theorem exec_selftestTimeout (t : Time) (lane : Nat) (s : State) : exec (.selftestTimeout t lane) s = execSelftestTimeout t lane s := rfl
theorem exec_laneLockAcquired (t : Time) (lane : Nat) (s : State) : exec (.laneLockAcquired t lane) s = execLaneLockAcquired t lane s := rfl
theorem exec_linkDown (t : Time) (lane : Nat) (s : State) : exec (.linkDown t lane) s = execLinkDown t lane s := rfl
theorem exec_linkRetryExpiry (t : Time) (lane : Nat) (s : State) : exec (.linkRetryExpiry t lane) s = execLinkRetryExpiry t lane s := rfl
theorem exec_linkSearchInterval (t : Time) (lane : Nat) (s : State) : exec (.linkSearchInterval t lane) s = execLinkSearchInterval t lane s := rfl
theorem exec_trainingTimeout (t : Time) (lane : Nat) (s : State) : exec (.trainingTimeout t lane) s = execTrainingTimeout t lane s := rfl
theorem exec_tripinAssert (t : Time) (i : Nat) (s : State) : exec (.tripinAssert t i) s = execTripinAssert t i s := rfl
theorem exec_fastWindowCross (t : Time) (d : Nat) (v : Q) (s : State) : exec (.fastWindowCross t d v) s = execFastWindowCross t d v s := rfl
theorem exec_remoteTripReceived (t : Time) (node : Nat) (mask : Nat) (epoch : Nat) (s : State) : exec (.remoteTripReceived t node mask epoch) s = execRemoteTripReceived t node mask epoch s := rfl
theorem exec_tripNetDisagree (t : Time) (signal : Nat) (s : State) : exec (.tripNetDisagree t signal) s = execTripNetDisagree t signal s := rfl
theorem exec_stoAssert (t : Time) (group : Nat) (chanB : Bool) (s : State) : exec (.stoAssert t group chanB) s = execStoAssert t group chanB s := rfl
theorem exec_stoRelease (t : Time) (group : Nat) (s : State) : exec (.stoRelease t group) s = execStoRelease t group s := rfl
theorem exec_ss1Request (t : Time) (group : Nat) (chanB : Bool) (s : State) : exec (.ss1Request t group chanB) s = execSs1Request t group chanB s := rfl
theorem exec_ss1Timeout (t : Time) (p : Nat) (s : State) : exec (.ss1Timeout t p) s = execSs1Timeout t p s := rfl
theorem exec_stoDiscrepancy (t : Time) (group : Nat) (lowA : Bool) (lowB : Bool) (us : Nat) (s : State) : exec (.stoDiscrepancy t group lowA lowB us) s = execStoDiscrepancy t group lowA lowB us s := rfl
theorem exec_supervisorWatchdogExpiry (t : Time) (r : Nat) (s : State) : exec (.supervisorWatchdogExpiry t r) s = execSupervisorWatchdogExpiry t r s := rfl
theorem exec_hostCoreWatchdogExpiry (t : Time) (s : State) : exec (.hostCoreWatchdogExpiry t) s = execHostCoreWatchdogExpiry t s := rfl
theorem exec_scrubWord (t : Time) (area : Nat) (index : Nat) (off : Nat) (bits : Nat) (s : State) : exec (.scrubWord t area index off bits) s = execScrubWord t area index off bits s := rfl
theorem exec_timeBaseFailure (t : Time) (s : State) : exec (.timeBaseFailure t) s = execTimeBaseFailure t s := rfl
theorem exec_failRestart (t : Time) (s : State) : exec (.failRestart t) s = execFailRestart t s := rfl
theorem exec_setpointTimeout (t : Time) (p : Nat) (s : State) : exec (.setpointTimeout t p) s = execSetpointTimeout t p s := rfl
theorem exec_exciterReady (t : Time) (p : Nat) (s : State) : exec (.exciterReady t p) s = execExciterReady t p s := rfl
theorem exec_exciterEnableTimeout (t : Time) (p : Nat) (s : State) : exec (.exciterEnableTimeout t p) s = execExciterEnableTimeout t p s := rfl
theorem exec_exciterFault (t : Time) (p : Nat) (s : State) : exec (.exciterFault t p) s = execExciterFault t p s := rfl
theorem exec_earthCurrent (t : Time) (p : Nat) (s : State) : exec (.earthCurrent t p) s = execEarthCurrent t p s := rfl
theorem exec_positionLost (t : Time) (p : Nat) (s : State) : exec (.positionLost t p) s = execPositionLost t p s := rfl
theorem exec_pllLocked (t : Time) (p : Nat) (s : State) : exec (.pllLocked t p) s = execPllLocked t p s := rfl
theorem exec_pllLost (t : Time) (p : Nat) (s : State) : exec (.pllLost t p) s = execPllLost t p s := rfl
theorem exec_currentSaturationAlarm (t : Time) (p : Nat) (s : State) : exec (.currentSaturationAlarm t p) s = execCurrentSaturationAlarm t p s := rfl
theorem exec_observerDivergence (t : Time) (p : Nat) (s : State) : exec (.observerDivergence t p) s = execObserverDivergence t p s := rfl
theorem exec_partnerLost (t : Time) (p : Nat) (s : State) : exec (.partnerLost t p) s = execPartnerLost t p s := rfl
theorem exec_tandemMessageReceived (t : Time) (p : Nat) (src : Nat) (epoch : Nat) (step : Time) (share ty nc ramp target : Q) (shaft : Machine.TandemShaft) (s : State) : exec (.tandemMessageReceived t p src epoch step share ty nc ramp target shaft) s = execTandemMessageReceived t p src epoch step share ty nc ramp target shaft s := rfl
theorem exec_tandemMasterLost (t : Time) (p : Nat) (active : List Nat) (announced : Bool) (s : State) : exec (.tandemMasterLost t p active announced) s = execTandemMasterLost t p active announced s := rfl
theorem exec_yieldHoldReached (t : Time) (p : Nat) (s : State) : exec (.yieldHoldReached t p) s = execYieldHoldReached t p s := rfl
theorem exec_yieldTimeout (t : Time) (p : Nat) (s : State) : exec (.yieldTimeout t p) s = execYieldTimeout t p s := rfl
theorem exec_curveInputLost (t : Time) (p : Nat) (s : State) : exec (.curveInputLost t p) s = execCurveInputLost t p s := rfl
theorem exec_heaveSampleReceived (t : Time) (p : Nat) (node : Nat) (ts : Nat) (z : Q) (vz : Q) (s : State) : exec (.heaveSampleReceived t p node ts z vz) s = execHeaveSampleReceived t p node ts z vz s := rfl
theorem exec_hardLimitActive (t : Time) (p : Nat) (dir : Nat) (s : State) : exec (.hardLimitActive t p dir) s = execHardLimitActive t p dir s := rfl
theorem exec_hardLimitInactive (t : Time) (p : Nat) (dir : Nat) (s : State) : exec (.hardLimitInactive t p dir) s = execHardLimitInactive t p dir s := rfl
theorem exec_indexPulse (t : Time) (e : Nat) (count : Int) (s : State) : exec (.indexPulse t e count) s = execIndexPulse t e count s := rfl
theorem exec_indexMissing (t : Time) (e : Nat) (count : Int) (s : State) : exec (.indexMissing t e count) s = execIndexMissing t e count s := rfl
theorem exec_resolverSample (t : Time) (e : Nat) (sins : List (Nat × Q)) (coss : List (Nat × Q)) (s : State) : exec (.resolverSample t e sins coss) s = execResolverSample t e sins coss s := rfl
theorem exec_bissRequest (t : Time) (e : Nat) (s : State) : exec (.bissRequest t e) s = execBissRequest t e s := rfl
theorem exec_bissFrameEnd (t : Time) (e : Nat) (n w0 w1 w2 w3 : Nat) (s : State) : exec (.bissFrameEnd t e n w0 w1 w2 w3) s = execBissFrameEnd t e n w0 w1 w2 w3 s := rfl
theorem exec_zeroVoltagePulseEnd (t : Time) (p : Nat) (iu : Q) (iv : Q) (iw : Q) (s : State) : exec (.zeroVoltagePulseEnd t p iu iv iw) s = execZeroVoltagePulseEnd t p iu iv iw s := rfl
theorem exec_standstillHoldEnd (t : Time) (p : Nat) (s : State) : exec (.standstillHoldEnd t p) s = execStandstillHoldEnd t p s := rfl
theorem exec_openLoopBlendEnd (t : Time) (p : Nat) (s : State) : exec (.openLoopBlendEnd t p) s = execOpenLoopBlendEnd t p s := rfl
theorem exec_allocRoundPublish (t : Time) (round : Nat) (who : List Nat) (pmax : List Q) (mot : List Q) (gen : List Q) (s : State) : exec (.allocRoundPublish t round who pmax mot gen) s = execAllocRoundPublish t round who pmax mot gen s := rfl
theorem exec_roundRecordReceived (t : Time) (r : Machine.RoundRec) (s : State) : exec (.roundRecordReceived t r) s = execRoundRecordReceived t r s := rfl
theorem exec_allocRoundCompute (t : Time) (round : Nat) (s : State) : exec (.allocRoundCompute t round) s = execAllocRoundCompute t round s := rfl
theorem exec_grantApply (t : Time) (round : Nat) (s : State) : exec (.grantApply t round) s = execGrantApply t round s := rfl
theorem exec_supplyStale (t : Time) (sec : Nat) (s : State) : exec (.supplyStale t sec) s = execSupplyStale t sec s := rfl
theorem exec_breakerInputActive (t : Time) (k : Nat) (s : State) : exec (.breakerInputActive t k) s = execBreakerInputActive t k s := rfl
theorem exec_busCollapseDetected (t : Time) (p : Nat) (why : Nat) (s : State) : exec (.busCollapseDetected t p why) s = execBusCollapseDetected t p why s := rfl
theorem exec_calvingEventReceived (t : Time) (node : Nat) (seq : Nat) (sections : Nat) (level : Nat) (s : State) : exec (.calvingEventReceived t node seq sections level) s = execCalvingEventReceived t node seq sections level s := rfl
theorem exec_reserveRequestReceived (t : Time) (node : Nat) (tenant : Nat) (part : Nat) (stamp : Time) (s : State) : exec (.reserveRequestReceived t node tenant part stamp) s = execReserveRequestReceived t node tenant part stamp s := rfl
theorem exec_reserveRetry (t : Time) (handle : Nat) (s : State) : exec (.reserveRetry t handle) s = execReserveRetry t handle s := rfl
theorem exec_reserveTimeout (t : Time) (handle : Nat) (s : State) : exec (.reserveTimeout t handle) s = execReserveTimeout t handle s := rfl
theorem exec_scBrakingOrder (t : Time) (p : Nat) (s : State) : exec (.scBrakingOrder t p) s = execScBrakingOrder t p s := rfl
theorem exec_scBrakingEnd (t : Time) (p : Nat) (s : State) : exec (.scBrakingEnd t p) s = execScBrakingEnd t p s := rfl
theorem exec_scArmsAlternate (t : Time) (p : Nat) (s : State) : exec (.scArmsAlternate t p) s = execScArmsAlternate t p s := rfl
theorem exec_estopStandstill (t : Time) (p : Nat) (s : State) : exec (.estopStandstill t p) s = execEstopStandstill t p s := rfl
theorem exec_brakeSetHoldEnd (t : Time) (p : Nat) (s : State) : exec (.brakeSetHoldEnd t p) s = execBrakeSetHoldEnd t p s := rfl
theorem exec_brakeRelease (t : Time) (p : Nat) (s : State) : exec (.brakeRelease t p) s = execBrakeRelease t p s := rfl
theorem exec_brakeReleaseHoldEnd (t : Time) (p : Nat) (s : State) : exec (.brakeReleaseHoldEnd t p) s = execBrakeReleaseHoldEnd t p s := rfl
theorem exec_quickReleaseEnd (t : Time) (p : Nat) (s : State) : exec (.quickReleaseEnd t p) s = execQuickReleaseEnd t p s := rfl
theorem exec_rideThroughResyncDone (t : Time) (p : Nat) (s : State) : exec (.rideThroughResyncDone t p) s = execRideThroughResyncDone t p s := rfl
theorem exec_rideThroughDelayEnd (t : Time) (p : Nat) (s : State) : exec (.rideThroughDelayEnd t p) s = execRideThroughDelayEnd t p s := rfl
theorem exec_rideThroughExpiry (t : Time) (p : Nat) (s : State) : exec (.rideThroughExpiry t p) s = execRideThroughExpiry t p s := rfl
theorem exec_thermalEvaluation (t : Time) (r : Nat) (die : List Q) (cool : List Q) (s : State) : exec (.thermalEvaluation t r die cool) s = execThermalEvaluation t r die cool s := rfl
theorem exec_sensorFailed (t : Time) (cls : Nat) (idx : Nat) (s : State) : exec (.sensorFailed t cls idx) s = execSensorFailed t cls idx s := rfl
theorem exec_thermalLevelRise (t : Time) (cls : Nat) (idx : Nat) (s : State) : exec (.thermalLevelRise t cls idx) s = execThermalLevelRise t cls idx s := rfl
theorem exec_bldcCheckEnd (t : Time) (m : Nat) (f : Q) (sector : Nat) (s : State) : exec (.bldcCheckEnd t m f sector) s = execBldcCheckEnd t m f sector s := rfl
theorem exec_bldcCheckWaitTimeout (t : Time) (m : Nat) (s : State) : exec (.bldcCheckWaitTimeout t m) s = execBldcCheckWaitTimeout t m s := rfl
theorem exec_bldcAlignEnd (t : Time) (m : Nat) (s : State) : exec (.bldcAlignEnd t m) s = execBldcAlignEnd t m s := rfl
theorem exec_bldcZeroCrossing (t : Time) (m : Nat) (order : Bool) (s : State) : exec (.bldcZeroCrossing t m order) s = execBldcZeroCrossing t m order s := rfl
theorem exec_bldcCommutation (t : Time) (m : Nat) (s : State) : exec (.bldcCommutation t m) s = execBldcCommutation t m s := rfl
theorem exec_bldcRampEnd (t : Time) (m : Nat) (s : State) : exec (.bldcRampEnd t m) s = execBldcRampEnd t m s := rfl
theorem exec_bldcStartRetry (t : Time) (m : Nat) (s : State) : exec (.bldcStartRetry t m) s = execBldcStartRetry t m s := rfl
theorem exec_bldcPeakComparator (t : Time) (m : Nat) (atBlankEnd : Bool) (s : State) : exec (.bldcPeakComparator t m atBlankEnd) s = execBldcPeakComparator t m atBlankEnd s := rfl
theorem exec_auxOuterLoop (t : Time) (m : Nat) (s : State) : exec (.auxOuterLoop t m) s = execAuxOuterLoop t m s := rfl
theorem exec_scHoldEnd (t : Time) (m : Nat) (s : State) : exec (.scHoldEnd t m) s = execScHoldEnd t m s := rfl
theorem exec_stepTimer (t : Time) (m : Nat) (e : Q) (s : State) : exec (.stepTimer t m e) s = execStepTimer t m e s := rfl
theorem exec_stepInputEdge (t : Time) (sw : Nat) (dirHigh : Bool) (s : State) : exec (.stepInputEdge t sw dirHigh) s = execStepInputEdge t sw dirHigh s := rfl
theorem exec_stepperStandstill (t : Time) (m : Nat) (s : State) : exec (.stepperStandstill t m) s = execStepperStandstill t m s := rfl
theorem exec_switchComparatorAssert (t : Time) (n : Nat) (acc : Nat) (s : State) : exec (.switchComparatorAssert t n acc) s = execSwitchComparatorAssert t n acc s := rfl
theorem exec_switchInrushEnd (t : Time) (n : Nat) (s : State) : exec (.switchInrushEnd t n) s = execSwitchInrushEnd t n s := rfl
theorem exec_switchPullEnd (t : Time) (n : Nat) (s : State) : exec (.switchPullEnd t n) s = execSwitchPullEnd t n s := rfl
theorem exec_sagGroupActive (t : Time) (region : Nat) (group : Nat) (s : State) : exec (.sagGroupActive t region group) s = execSagGroupActive t region group s := rfl
theorem exec_sagGroupInactive (t : Time) (region : Nat) (group : Nat) (s : State) : exec (.sagGroupInactive t region group) s = execSagGroupInactive t region group s := rfl
theorem exec_auxDiagStep (t : Time) (chan : Nat) (volts : List Q) (s : State) : exec (.auxDiagStep t chan volts) s = execAuxDiagStep t chan volts s := rfl
theorem exec_fabPortUp (t : Time) (port : Nat) (node : Nat) (peerPort : Nat) (epoch : Nat) (s : State) : exec (.fabPortUp t port node peerPort epoch) s = execFabPortUp t port node peerPort epoch s := rfl
theorem exec_fabPortDown (t : Time) (port : Nat) (s : State) : exec (.fabPortDown t port) s = execFabPortDown t port s := rfl
theorem exec_fabFrameReceived (t : Time) (port : Nat) (bytes : List Byte) (acked : Nat) (s : State) : exec (.fabFrameReceived t port bytes acked) s = execFabFrameReceived t port bytes acked s := rfl
theorem exec_fabRetransmit (t : Time) (port : Nat) (acked : Nat) (s : State) : exec (.fabRetransmit t port acked) s = execFabRetransmit t port acked s := rfl
theorem exec_controlResend (t : Time) (dst : Nat) (seq : Nat) (s : State) : exec (.controlResend t dst seq) s = execControlResend t dst seq s := rfl
theorem exec_linkStateFlood (t : Time) (s : State) : exec (.linkStateFlood t) s = execLinkStateFlood t s := rfl
theorem exec_linkStateReceived (t : Time) (r : Machine.LinkRec) (s : State) : exec (.linkStateReceived t r) s = execLinkStateReceived t r s := rfl
theorem exec_nodeFailed (t : Time) (node : Nat) (announced : Bool) (s : State) : exec (.nodeFailed t node announced) s = execNodeFailed t node announced s := rfl
theorem exec_timeExchange (t : Time) (port : Nat) (t1 : Time) (t2 : Time) (t3 : Time) (t4 : Time) (s : State) : exec (.timeExchange t port t1 t2 t3 t4) s = execTimeExchange t port t1 t2 t3 t4 s := rfl
theorem exec_holdoverTimeout (t : Time) (s : State) : exec (.holdoverTimeout t) s = execHoldoverTimeout t s := rfl
theorem exec_ppsInEdge (t : Time) (s : State) : exec (.ppsInEdge t) s = execPpsInEdge t s := rfl
theorem exec_mirrorRecordReceived (t : Time) (m : Machine.Mirror) (s : State) : exec (.mirrorRecordReceived t m) s = execMirrorRecordReceived t m s := rfl
theorem exec_mirrorTimeout (t : Time) (s : State) : exec (.mirrorTimeout t) s = execMirrorTimeout t s := rfl
theorem exec_standbyTakeover (t : Time) (announced : Bool) (states : List Nat) (s : State) : exec (.standbyTakeover t announced states) s = execStandbyTakeover t announced states s := rfl
theorem exec_deposed (t : Time) (p : Nat) (s : State) : exec (.deposed t p) s = execDeposed t p s := rfl
theorem exec_canFrameReceived (t : Time) (c : Nat) (frame : List Byte) (s : State) : exec (.canFrameReceived t c frame) s = execCanFrameReceived t c frame s := rfl
theorem exec_canRxFlush (t : Time) (c : Nat) (s : State) : exec (.canRxFlush t c) s = execCanRxFlush t c s := rfl
theorem exec_canTxAttemptEnd (t : Time) (c : Nat) (sof : Nat) (cause : Nat) (s : State) : exec (.canTxAttemptEnd t c sof cause) s = execCanTxAttemptEnd t c sof cause s := rfl
theorem exec_canBusOn (t : Time) (c : Nat) (s : State) : exec (.canBusOn t c) s = execCanBusOn t c s := rfl
theorem exec_canTxHoldoffEnd (t : Time) (c : Nat) (s : State) : exec (.canTxHoldoffEnd t c) s = execCanTxHoldoffEnd t c s := rfl
theorem exec_canDetectDwellEnd (t : Time) (c : Nat) (s : State) : exec (.canDetectDwellEnd t c) s = execCanDetectDwellEnd t c s := rfl
theorem exec_firnCommitDone (t : Time) (upTo : Nat) (spare : Nat) (s : State) : exec (.firnCommitDone t upTo spare) s = execFirnCommitDone t upTo spare s := rfl
theorem exec_auditCommit (t : Time) (s : State) : exec (.auditCommit t) s = execAuditCommit t s := rfl
theorem exec_auditCheckpoint (t : Time) (s : State) : exec (.auditCheckpoint t) s = execAuditCheckpoint t s := rfl
theorem exec_retentionScrubPass (t : Time) (tAvg : Q) (most : Nat) (spares : List Nat) (moved : List (Nat × Nat)) (s : State) : exec (.retentionScrubPass t tAvg most spares moved) s = execRetentionScrubPass t tAvg most spares moved s := rfl
theorem exec_morainePostWindowEnd (t : Time) (p : Nat) (s : State) : exec (.morainePostWindowEnd t p) s = execMorainePostWindowEnd t p s := rfl
theorem exec_moraineFlush (t : Time) (record : Nat) (s : State) : exec (.moraineFlush t record) s = execMoraineFlush t record s := rfl
theorem exec_pfailNFall (t : Time) (s : State) : exec (.pfailNFall t) s = execPfailNFall t s := rfl
theorem exec_pfailSequenceEnd (t : Time) (steps : Nat) (frzLow : Bool) (s : State) : exec (.pfailSequenceEnd t steps frzLow) s = execPfailSequenceEnd t steps frzLow s := rfl
theorem exec_pfailNRestored (t : Time) (s : State) : exec (.pfailNRestored t) s = execPfailNRestored t s := rfl
theorem exec_railFault (t : Time) (rail : Nat) (nand : Bool) (s : State) : exec (.railFault t rail nand) s = execRailFault t rail nand s := rfl
theorem exec_porstNLow (t : Time) (s : State) : exec (.porstNLow t) s = execPorstNLow t s := rfl
theorem exec_boot (t : Time) (b : Machine.Boot) (s : State) : exec (.boot t b) s = execBoot t b s := rfl
theorem exec_warmReset (t : Time) (b : Machine.Boot) (s : State) : exec (.warmReset t b) s = execWarmReset t b s := rfl
theorem exec_rstCtrlWarm (t : Time) (v : Nat) (s : State) : exec (.rstCtrlWarm t v) s = execRstCtrlWarm t v s := rfl
theorem exec_rstCtrlShutdown (t : Time) (v : Nat) (s : State) : exec (.rstCtrlShutdown t v) s = execRstCtrlShutdown t v s := rfl
theorem exec_freezeNLow (t : Time) (s : State) : exec (.freezeNLow t) s = execFreezeNLow t s := rfl
theorem exec_freezeStep2End (t : Time) (s : State) : exec (.freezeStep2End t) s = execFreezeStep2End t s := rfl
theorem exec_freezeReadout (t : Time) (off : Nat) (len : Nat) (s : State) : exec (.freezeReadout t off len) s = execFreezeReadout t off len s := rfl
theorem exec_tapFrzData (t : Time) (sel : Bool) (addr : Nat) (s : State) : exec (.tapFrzData t sel addr) s = execTapFrzData t sel addr s := rfl
theorem exec_frzThaw (t : Time) (key : Nat) (pinHigh : Bool) (s : State) : exec (.frzThaw t key pinHigh) s = execFrzThaw t key pinHigh s := rfl
theorem exec_avsGoalUpdate (t : Time) (s : State) : exec (.avsGoalUpdate t) s = execAvsGoalUpdate t s := rfl
theorem exec_avsVoltageWrite (t : Time) (fails : Nat) (s : State) : exec (.avsVoltageWrite t fails) s = execAvsVoltageWrite t fails s := rfl
theorem exec_mclkDivWrite (t : Time) (k : Nat) (v : Nat) (s : State) : exec (.mclkDivWrite t k v) s = execMclkDivWrite t k v s := rfl
theorem exec_mclkRelockEnd (t : Time) (k : Nat) (s : State) : exec (.mclkRelockEnd t k) s = execMclkRelockEnd t k s := rfl
theorem exec_sdCfgWrite (t : Time) (v : Nat) (s : State) : exec (.sdCfgWrite t v) s = execSdCfgWrite t v s := rfl
theorem exec_sdStuck (t : Time) (k : Nat) (s : State) : exec (.sdStuck t k) s = execSdStuck t k s := rfl
theorem exec_regHoldClear (t : Time) (v : Nat) (s : State) : exec (.regHoldClear t v) s = execRegHoldClear t v s := rfl
theorem exec_tripLock (t : Time) (v : Nat) (s : State) : exec (.tripLock t v) s = execTripLock t v s := rfl
theorem exec_blockLock (t : Time) (off : Nat) (v : Nat) (s : State) : exec (.blockLock t off v) s = execBlockLock t off v s := rfl
theorem exec_pcieErrClear (t : Time) (v : Nat) (s : State) : exec (.pcieErrClear t v) s = execPcieErrClear t v s := rfl
theorem exec_dbgTapFull (t : Time) (v : Nat) (s : State) : exec (.dbgTapFull t v) s = execDbgTapFull t v s := rfl
theorem exec_mbReadCertificate (t : Time) (s : State) : exec (.mbReadCertificate t) s = execMbReadCertificate t s := rfl
theorem exec_mbWriteRecoveryChunk (t : Time) (s : State) : exec (.mbWriteRecoveryChunk t) s = execMbWriteRecoveryChunk t s := rfl
theorem exec_mbFinishRecoveryImage (t : Time) (ok : Bool) (svn : Nat) (raises : Bool) (s : State) : exec (.mbFinishRecoveryImage t ok svn raises) s = execMbFinishRecoveryImage t ok svn raises s := rfl
theorem exec_devTimeLoRead (t : Time) (s : State) : exec (.devTimeLoRead t) s = execDevTimeLoRead t s := rfl
theorem exec_registerWrite (t : Time) (off : Nat) (bs : List Byte) (s : State) : exec (.registerWrite t off bs) s = execRegisterWrite t off bs s := rfl
theorem exec_hostDmaCompletion (t : Time) (kind : Nat) (page : Nat) (ring : Nat) (ok : Bool) (s : State) : exec (.hostDmaCompletion t kind page ring ok) s = execHostDmaCompletion t kind page ring ok s := rfl
theorem exec_storageOperationDone (t : Time) (page : Nat) (series : Nat) (seq : Nat) (ok : Bool) (s : State) : exec (.storageOperationDone t page series seq ok) s = execStorageOperationDone t page series seq ok s := rfl
theorem exec_pcieLinkUp (t : Time) (word : Nat) (s : State) : exec (.pcieLinkUp t word) s = execPcieLinkUp t word s := rfl
theorem exec_canBusError (t : Time) (c : Nat) (add : Nat) (s : State) : exec (.canBusError t c add) s = execCanBusError t c add s := rfl
theorem exec_stepperChopComparator (t : Time) (m : Nat) (coilB : Bool) (s : State) : exec (.stepperChopComparator t m coilB) s = execStepperChopComparator t m coilB s := rfl
theorem exec_encIllegalTransition (t : Time) (e : Nat) (s : State) : exec (.encIllegalTransition t e) s = execEncIllegalTransition t e s := rfl
theorem exec_retrainSilenceEnd (t : Time) (lane : Nat) (s : State) : exec (.retrainSilenceEnd t lane) s = execRetrainSilenceEnd t lane s := rfl
theorem exec_tripinRelease (t : Time) (i : Nat) (s : State) : exec (.tripinRelease t i) s = execTripinRelease t i s := rfl
theorem exec_fabSendTimeout (t : Time) (page : Nat) (series : Nat) (seq : Nat) (s : State) : exec (.fabSendTimeout t page series seq) s = execFabSendTimeout t page series seq s := rfl

end Sys2Proof.Machine
end

