-- ==== Sys2Proof/Laws/Outcome.lean ====
section
/-!
SUPPORT. What the guards of event commands answer: a next state for an element the chip has, a fault for one that it has not.
-/
namespace Sys2Proof.Machine
open Sys2Proof

theorem within_next {n top : Nat} (s : State) (f : State → State) (h : n < top) : within n top s f = .next (f s) := if_pos h
theorem within_fault {n top : Nat} (s : State) (f : State → State) (h : ¬ n < top) : within n top s f = .fault .noSuchElement := if_neg h

/-- A guard on an element's number answers a next state or the one fault. -/
theorem within_cases (n top : Nat) (s : State) (f : State → State) :
    (n < top ∧ within n top s f = .next (f s)) ∨ (¬ n < top ∧ within n top s f = .fault .noSuchElement) := by
  by_cases h : n < top
  · exact .inl ⟨h, if_pos h⟩
  · exact .inr ⟨h, if_neg h⟩

theorem motorEvent_cases (t : Time) (m mode : Nat) (s : State) (f : State → State) :
    (m < 16 ∧ ∃ u, motorEvent t m mode s f = .next u) ∨ (¬ m < 16 ∧ motorEvent t m mode s f = .fault .noSuchElement) := by
  by_cases h : m < 16
  · exact .inl ⟨h, _, if_pos h⟩
  · exact .inr ⟨h, if_neg h⟩

theorem switchEvent_cases (t : Time) (n : Nat) (s : State) (f : State → Nat → State) :
    (n < 32 ∧ ∃ u, switchEvent t n s f = .next u) ∨ (¬ n < 32 ∧ switchEvent t n s f = .fault .noSuchElement) := by
  by_cases h : n < 32
  · exact .inl ⟨h, _, if_pos h⟩
  · exact .inr ⟨h, if_neg h⟩

theorem fbEvent_cases (t : Time) (e ty : Nat) (s : State) (f : State → Nat → State) :
    (e < 8 ∧ ∃ u, fbEvent t e ty s f = .next u) ∨ (¬ e < 8 ∧ fbEvent t e ty s f = .fault .noSuchElement) := by
  by_cases h : e < 8
  · exact .inl ⟨h, _, if_pos h⟩
  · exact .inr ⟨h, if_neg h⟩

theorem siteEvent_cases (t : Time) (cls idx : Nat) (s : State) (f : State → Site → State) :
    (cls < 3 ∧ ∃ u, siteEvent t cls idx s f = .next u) ∨ (¬ cls < 3 ∧ siteEvent t cls idx s f = .fault .noSuchElement) := by
  by_cases h : cls < 3
  · exact .inl ⟨h, _, if_pos h⟩
  · exact .inr ⟨h, if_neg h⟩

/-- A running chip takes an event. -/
theorem live_running {s : State} (h : s.power = .running) (t : Time) (f : State → State) : s.live t f = f (s.at t) := if_pos h
theorem live_other {s : State} (h : s.power ≠ .running) (t : Time) (f : State → State) : s.live t f = s := if_neg h
theorem awake_running {s : State} (h : s.power = .running) (t : Time) (f : State → State) : s.awake t f = f (s.at t) := if_pos (.inl h)
theorem awake_other {s : State} (h : s.stopped = true) (t : Time) (f : State → State) : s.awake t f = s := by
  unfold State.awake
  rw [if_neg]
  rintro (h' | h' | h') <;> simp [State.stopped, h'] at h
theorem live_stopped {s : State} (h : s.stopped = true) (t : Time) (f : State → State) : s.live t f = s := by
  refine if_neg fun h' => ?_
  simp [State.stopped, h'] at h

/-- Device time moves on to the time given while the chip runs. -/
theorem at_running {s : State} (h : s.power = .running) (t : Time) : s.at t = { s with now := max s.now (t % 2 ^ 64) } := by
  unfold State.at
  rw [if_neg]
  simp [h]

end Sys2Proof.Machine
end

