-- ==== Sys2Proof/Laws/Tab.lean ====
section
/-!
SUPPORT. Tables: what a read gives after a write, and that every write keeps the canonical form.
-/
namespace Sys2Proof

variable {α : Type}

theorem Tab.get_drop (m : Tab α) (d : α) (k j : Nat) : Tab.get (Tab.drop m k) d j = if j = k then d else Tab.get m d j := by
  induction m with
  | nil => simp [Tab.drop, Tab.get]
  | cons e r ih =>
    obtain ⟨i, v⟩ := e
    by_cases hi : i = k
    · subst hi
      simp only [Tab.drop, if_pos]
      rw [ih]
      by_cases hj : j = i
      · simp [hj]
      · simp [Tab.get, hj, Ne.symm hj]
    · simp only [Tab.drop, if_neg hi, Tab.get]
      by_cases hij : i = j
      · subst hij; simp [hi]
      · simp only [if_neg hij]; exact ih

theorem Tab.get_insert (m : Tab α) (d : α) (k j : Nat) (v : α) (h : ∀ e ∈ m, e.1 ≠ k) :
    Tab.get (Tab.insert m k v) d j = if j = k then v else Tab.get m d j := by
  induction m with
  | nil =>
    by_cases hj : j = k
    · simp [Tab.insert, Tab.get, hj]
    · simp [Tab.insert, Tab.get, hj, Ne.symm hj]
  | cons e r ih =>
    obtain ⟨i, w⟩ := e
    have hi : i ≠ k := h (i, w) (by simp)
    unfold Tab.insert
    split
    · by_cases hj : j = k
      · simp [Tab.get, hj]
      · simp [Tab.get, hj, Ne.symm hj]
    · simp only [Tab.get]
      by_cases hij : i = j
      · subst hij; simp [hi]
      · simp only [if_neg hij]
        exact ih fun e he => h e (by simp [he])

theorem Tab.drop_keys (m : Tab α) (k : Nat) : ∀ e ∈ Tab.drop m k, e.1 ≠ k ∧ e ∈ m := by
  induction m with
  | nil => simp [Tab.drop]
  | cons e r ih =>
    obtain ⟨i, v⟩ := e
    intro x hx
    by_cases hi : i = k
    · simp only [Tab.drop, if_pos hi] at hx
      exact ⟨(ih x hx).1, by simp [(ih x hx).2]⟩
    · simp only [Tab.drop, if_neg hi, List.mem_cons] at hx
      rcases hx with rfl | hx
      · exact ⟨hi, by simp⟩
      · exact ⟨(ih x hx).1, by simp [(ih x hx).2]⟩

/-- A read after a write: the value at the key written, what was there before at every other key. -/
theorem Tab.get_set [DecidableEq α] (m : Tab α) (d : α) (k j : Nat) (v : α) :
    Tab.get (Tab.set m d k v) d j = if j = k then v else Tab.get m d j := by
  unfold Tab.set
  split
  · rename_i h; rw [Tab.get_drop, h]
  · rw [Tab.get_insert _ _ _ _ _ fun e he => (Tab.drop_keys m k e he).1, Tab.get_drop]
    split <;> rfl

@[simp] theorem Tab.get_set_self [DecidableEq α] (m : Tab α) (d : α) (k : Nat) (v : α) : Tab.get (Tab.set m d k v) d k = v := by
  rw [Tab.get_set, if_pos rfl]

theorem Tab.get_set_ne [DecidableEq α] (m : Tab α) (d : α) (k j : Nat) (v : α) (h : j ≠ k) :
    Tab.get (Tab.set m d k v) d j = Tab.get m d j := by
  rw [Tab.get_set, if_neg h]

@[simp] theorem Tab.get_nil (d : α) (k : Nat) : Tab.get ([] : Tab α) d k = d := rfl

theorem Tab.above_drop (m : Tab α) (n k : Nat) (h : Tab.above n m = true) : Tab.above n (Tab.drop m k) = true := by
  simp only [Tab.above, List.all_eq_true, decide_eq_true_eq] at h ⊢
  exact fun e he => h e (Tab.drop_keys m k e he).2

theorem Tab.rising_drop (m : Tab α) (k : Nat) (h : Tab.rising m = true) : Tab.rising (Tab.drop m k) = true := by
  induction m with
  | nil => rfl
  | cons e r ih =>
    obtain ⟨i, v⟩ := e
    simp only [Tab.rising, Bool.and_eq_true] at h
    by_cases hi : i = k
    · simp only [Tab.drop, if_pos hi]; exact ih h.2
    · simp only [Tab.drop, if_neg hi, Tab.rising, Bool.and_eq_true]
      exact ⟨Tab.above_drop r (i + 1) k h.1, ih h.2⟩

theorem Tab.mem_insert (m : Tab α) (k : Nat) (v : α) : ∀ e ∈ Tab.insert m k v, e = (k, v) ∨ e ∈ m := by
  induction m with
  | nil => simp [Tab.insert]
  | cons e r ih =>
    obtain ⟨i, w⟩ := e
    intro x hx
    unfold Tab.insert at hx
    split at hx
    · simpa using hx
    · rcases List.mem_cons.mp hx with rfl | hx
      · simp
      · rcases ih x hx with h | h
        · exact .inl h
        · simp [h]

theorem Tab.rising_insert (m : Tab α) (k : Nat) (v : α) (h : Tab.rising m = true) (hk : ∀ e ∈ m, e.1 ≠ k) :
    Tab.rising (Tab.insert m k v) = true := by
  induction m with
  | nil => rfl
  | cons e r ih =>
    obtain ⟨i, w⟩ := e
    have hi : i ≠ k := hk (i, w) (by simp)
    have hr := h
    simp only [Tab.rising, Bool.and_eq_true] at h
    unfold Tab.insert
    split
    · rename_i hlt
      simp only [Tab.rising, Bool.and_eq_true] at hr ⊢
      refine ⟨?_, hr⟩
      simp only [Tab.above, List.all_eq_true, decide_eq_true_eq, List.mem_cons] at h ⊢
      rintro x (rfl | hx)
      · exact hlt
      · have := h.1 x hx; omega
    · rename_i hge
      simp only [Tab.rising, Bool.and_eq_true]
      refine ⟨?_, ih h.2 fun e he => hk e (by simp [he])⟩
      simp only [Tab.above, List.all_eq_true, decide_eq_true_eq] at h ⊢
      intro x hx
      rcases Tab.mem_insert r k v x hx with rfl | hx
      · simp only; omega
      · exact h.1 x hx

/-- A write keeps the canonical form. -/
theorem Tab.set_wf [DecidableEq α] (m : Tab α) (d : α) (k : Nat) (v : α) (h : Tab.wf m d = true) : Tab.wf (Tab.set m d k v) d = true := by
  simp only [Tab.wf, Bool.and_eq_true, List.all_eq_true, decide_eq_true_eq] at h ⊢
  unfold Tab.set
  split
  · exact ⟨Tab.rising_drop m k h.1, fun e he => h.2 e (Tab.drop_keys m k e he).2⟩
  · rename_i hv
    refine ⟨Tab.rising_insert _ k v (Tab.rising_drop m k h.1) fun e he => (Tab.drop_keys m k e he).1, fun e he => ?_⟩
    rcases Tab.mem_insert _ k v e he with rfl | he
    · exact hv
    · exact h.2 e (Tab.drop_keys m k e he).2

end Sys2Proof
end

