-- ==== Sys2Proof/Laws/Pages.lean ====
section
/-!
SUPPORT. Tenants' pages: reads after writes, and completion records that stay until the host acknowledges them.
-/
namespace Sys2Proof.Machine
open Sys2Proof

@[simp] theorem page_setPage_self (s : State) (n : Nat) (p : Page) : (s.setPage n p).page n = p := Tab.get_set_self _ _ _ _
theorem page_setPage (s : State) (n m : Nat) (p : Page) : (s.setPage n p).page m = if m = n then p else s.page m := Tab.get_set _ _ _ _ _

theorem post_pages (s : State) (x : Post) : (s.post x).pages = s.pages := by
  unfold State.post
  split <;> rfl

theorem post_page (s : State) (x : Post) (m : Nat) : (s.post x).page m = s.page m := by
  unfold State.page
  rw [post_pages]

theorem fireVector_page (s : State) (v m : Nat) : (s.fireVector v).page m = s.page m := by
  unfold State.fireVector
  simp only
  split
  · rfl
  · exact post_page s _ m

/-- Two states' pages differ in nothing but their rings. -/
def ringsOnly (a s : State) (m : Nat) : Prop := ∃ g : Tab Ring, a.page m = { s.page m with rings := g }

theorem ringsOnly_ite {c : Prop} [Decidable c] {a b s : State} {m : Nat} (ha : ringsOnly a s m) (hb : ringsOnly b s m) :
    ringsOnly (if c then a else b) s m := by
  split
  · exact ha
  · exact hb

theorem setRing_page (s : State) (n r : Nat) (x : Ring) (m : Nat) : ringsOnly (s.setPage n ((s.page n).setRing r x)) s m := by
  unfold ringsOnly
  rw [page_setPage]
  split
  · rename_i h; subst h; exact ⟨_, rfl⟩
  · exact ⟨_, rfl⟩

/-- A signal changes nothing of a page but its rings. -/
theorem signal_page (s : State) (n r : Nat) (b : Bool) (m : Nat) : ringsOnly (s.signal n r b) s m := by
  unfold State.signal
  refine ringsOnly_ite ?_ (setRing_page s n r _ m)
  obtain ⟨g, hg⟩ := setRing_page s n r { (s.page n).ring r with irqPend := 0, irqLast := some s.now } m
  exact ⟨g, (fireVector_page _ _ _).trans hg⟩

/-- A completion record posted joins the tenant's records; the accepted descriptors and every other page's records stay. -/
theorem postCompletion_page (s : State) (n : Nat) (c : CRec) (m : Nat) :
    ((s.postCompletion n c).page m).acc = (s.page m).acc ∧
      (∀ x, x ∈ ((s.postCompletion n c).page m).records ↔ x ∈ (s.page m).records ∨ (m = n ∧ x = c)) := by
  unfold State.postCompletion
  simp only
  split
  · rename_i en
    clear en
    let w : Post := { kind := .completion, page := n, ring := 4, addr := ((s.page n).ring 4).base + 16 * (((s.page n).ring 4).wr % ((s.page n).ring 4).size),
                      bytes := c.bytes (((s.page n).ring 4).phase ((s.page n).ring 4).wr), series := c.series, seq := c.seq }
    let u := (s.post w).setPage n
      ({ s.page n with retained := (s.page n).retained ++ [c] }.setRing 4 { (s.page n).ring 4 with wr := ((s.page n).ring 4).wr + 1 })
    obtain ⟨g, hg⟩ : ringsOnly (if s.goes w then u.signal n 4 (decide (c.series = 4)) else u) u m :=
      ringsOnly_ite (signal_page u n 4 _ m) ⟨_, rfl⟩
    change (State.page (if s.goes w then u.signal n 4 (decide (c.series = 4)) else u) m).acc = _ ∧
      ∀ x, x ∈ (State.page (if s.goes w then u.signal n 4 (decide (c.series = 4)) else u) m).records ↔ _
    rw [hg, page_setPage]
    split
    · rename_i h
      subst h
      refine ⟨rfl, fun x => ?_⟩
      simp only [Page.records, Page.setRing, List.mem_append, List.mem_singleton]
      tauto
    · rename_i h
      rw [post_page]
      refine ⟨rfl, fun x => ?_⟩
      simp [Page.records, h]
  · rw [page_setPage]
    split
    · rename_i h
      subst h
      refine ⟨rfl, fun x => ?_⟩
      simp only [Page.records, List.mem_append, List.mem_singleton]
      tauto
    · rename_i h
      refine ⟨rfl, fun x => ?_⟩
      simp [h]

/-- Records stay when others are posted. -/
theorem foldl_post_records (n : Nat) (l : List CRec) (s : State) (m : Nat) (x : CRec) (h : x ∈ (s.page m).records) :
    x ∈ ((l.foldl (fun (s : State) c => s.postCompletion n c) s).page m).records := by
  induction l generalizing s with
  | nil => exact h
  | cons c r ih => exact ih _ (((postCompletion_page s n c m).2 x).mpr (.inl h))

theorem urgentDone_page (s : State) (n x q m : Nat) : (s.urgentDone n x q).page m = s.page m := by
  unfold State.urgentDone
  split <;> rfl

/-- Records stay when fences at the head of the list complete. -/
theorem fencesDone_records (n : Nat) (l : List Acc) (s : State) (m : Nat) (x : CRec) (h : x ∈ (s.page m).records) :
    x ∈ ((s.fencesDone n l).page m).records := by
  induction l generalizing s with
  | nil => exact h
  | cons a r ih =>
    unfold State.fencesDone
    split
    · have hk : x ∈ (((s.setPage n ((s.page n).remove a.series a.seq)).page m).records) := by
        rw [page_setPage]
        split
        · rename_i hm; subst hm; exact h
        · exact h
      refine ih _ ?_
      split
      · exact hk
      · exact ((postCompletion_page _ n _ m).2 x).mpr (.inl hk)
    · exact h

/-- The end of a descriptor's work posts its record, unless it was completed on acceptance (R320, R324). -/
theorem finish_records (s : State) (n x q st : Nat) (res : List Byte) (a : Acc) (ha : (s.page n).find x q = some a) (he : a.early = false) :
    a.record st res ∈ ((s.finish n x q st res).page n).records := by
  unfold State.finish
  simp only [ha, he]
  apply fencesDone_records
  rw [urgentDone_page]
  rw [show ∀ (l : List Acc) (u : State), l.foldl (fun (s : State) y => s.postCompletion n (y.record 1 [])) u
      = (l.map fun y => y.record 1 []).foldl (fun (s : State) c => s.postCompletion n c) u from fun l u => by
        rw [List.foldl_map]]
  apply foldl_post_records
  exact ((postCompletion_page _ n _ n).2 _).mpr (.inr ⟨rfl, rfl⟩)

/-- A page's accepted descriptors and completion records. -/
def State.desk (s : State) (m : Nat) : List Acc × List CRec × List CRec := ((s.page m).acc, (s.page m).retained, (s.page m).held)

theorem setPage_desk (s : State) (n : Nat) (p : Page) (m : Nat) (h : (p.acc, p.retained, p.held) = s.desk n) :
    (s.setPage n p).desk m = s.desk m := by
  unfold State.desk
  rw [page_setPage]
  split
  · rename_i hm; subst hm; exact h
  · rfl

theorem foldl_desk {α : Type} (f : State → α → State) (m : Nat) (h : ∀ s a, (f s a).desk m = s.desk m) (l : List α) (s : State) :
    (l.foldl f s).desk m = s.desk m := by
  induction l generalizing s with
  | nil => rfl
  | cons a r ih => exact (ih (f s a)).trans (h s a)

theorem post_desk (s : State) (x : Post) (m : Nat) : (s.post x).desk m = s.desk m := by
  unfold State.desk
  rw [post_page]

theorem signal_desk (s : State) (n r : Nat) (b : Bool) (m : Nat) : (s.signal n r b).desk m = s.desk m := by
  obtain ⟨g, hg⟩ := signal_page s n r b m
  unfold State.desk
  rw [hg]

theorem postEvent_desk (s : State) (n : Nat) (e : ERec) (m : Nat) : (s.postEvent n e).desk m = s.desk m := by
  unfold State.postEvent
  simp only
  split
  · rw [signal_desk]
    refine (setPage_desk _ n _ m ?_).trans (post_desk s _ m)
    exact (post_desk s _ n).symm
  · refine (setPage_desk _ n _ m ?_).trans (post_desk s _ m)
    exact (post_desk s _ n).symm

theorem recordEvent_desk (s : State) (n cls sev src code rep : Nat) (time : Time) (data : List Byte) (m : Nat) :
    (s.recordEvent n cls sev src code rep time data).desk m = s.desk m := by
  unfold State.recordEvent
  simp only
  repeat' split
  all_goals first
    | exact setPage_desk s n _ m rfl
    | exact (postEvent_desk _ n _ m).trans (setPage_desk s n _ m rfl)

theorem deliver_desk (s : State) (n cls src code : Nat) (data : List Byte) (m : Nat) :
    (s.deliver n cls src code data).desk m = s.desk m := by
  unfold State.deliver
  simp only
  repeat' split
  all_goals first
    | exact setPage_desk s n _ m rfl
    | exact recordEvent_desk s n _ _ _ _ _ _ _ m
    | exact (recordEvent_desk _ n _ _ _ _ _ _ _ m).trans (setPage_desk s n _ m rfl)

theorem ite_pages {c : Prop} [Decidable c] {a b s : State} (ha : a.pages = s.pages) (hb : b.pages = s.pages) :
    (if c then a else b).pages = s.pages := by
  split
  · exact ha
  · exact hb

theorem logEvent_pages (s : State) (cls src code : Nat) (data : List Byte) : (s.logEvent cls src code data).pages = s.pages := by
  unfold State.logEvent
  exact ite_pages rfl rfl

theorem moraine_pages (s : State) (p cause code : Nat) : (s.moraine p cause code).pages = s.pages := by
  unfold State.moraine
  split
  · rfl
  · exact ite_pages rfl rfl

theorem alarmTrigger_pages (s : State) (cls src code : Nat) : (s.alarmTrigger cls src code).pages = s.pages := by
  unfold State.alarmTrigger
  exact ite_pages rfl (ite_pages (moraine_pages _ _ _ _) (ite_pages (moraine_pages _ _ _ _) rfl))

theorem desk_of_pages {s t : State} (h : t.pages = s.pages) (m : Nat) : t.desk m = s.desk m := by
  unfold State.desk State.page
  rw [h]

/-- An event raised leaves accepted descriptors and completion records as they are. -/
theorem emit_desk (s : State) (cls src code : Nat) (data : List Byte) (m : Nat) : (s.emit cls src code data).desk m = s.desk m := by
  unfold State.emit State.emitTo
  simp only
  rw [foldl_desk _ m fun s n => deliver_desk s n cls src code _ m]
  exact desk_of_pages ((alarmTrigger_pages _ _ _ _).trans (logEvent_pages _ _ _ _ _)) m

theorem audit_desk (s : State) (n op tg st : Nat) (det : List Byte) (m : Nat) : (s.audit n op tg st det).desk m = s.desk m := by
  unfold State.audit
  simp only
  rw [emit_desk]
  rfl

theorem auditRefusal_desk (s : State) (n op tg m : Nat) : (s.auditRefusal n op tg).desk m = s.desk m := by
  unfold State.auditRefusal
  simp only
  split
  · split
    · rfl
    · rw [audit_desk]; rfl
  · rw [audit_desk]; rfl

theorem find_desk (s t : State) (n x q : Nat) (h : t.desk n = s.desk n) : (t.page n).find x q = (s.page n).find x q := by
  unfold Page.find
  rw [show (t.page n).acc = (s.page n).acc from congrArg Prod.fst h]

/-- Records stay when a descriptor's work ends. -/
theorem finish_keeps (s : State) (n x q st : Nat) (res : List Byte) (m : Nat) (c : CRec) (h : c ∈ (s.page m).records) :
    c ∈ ((s.finish n x q st res).page m).records := by
  have ext : ∀ u v : State, u.desk m = v.desk m → c ∈ (v.page m).records → c ∈ (u.page m).records := by
    intro u v huv hv
    unfold State.desk at huv
    simp only [Prod.mk.injEq] at huv
    unfold Page.records at hv ⊢
    rw [huv.2.1, huv.2.2]
    exact hv
  unfold State.finish
  simp only
  split
  · exact h
  · apply fencesDone_records
    rw [urgentDone_page]
    rw [show ∀ (l : List Acc) (u : State), l.foldl (fun (s : State) y => s.postCompletion n (y.record 1 [])) u
        = (l.map fun y => y.record 1 []).foldl (fun (s : State) c => s.postCompletion n c) u from fun l u => by
          rw [List.foldl_map]]
    apply foldl_post_records
    have hs : ∀ p : Page, p.records = (s.page n).records → c ∈ ((s.setPage n p).page m).records := by
      intro p hp
      rw [page_setPage]
      split
      · rename_i hm; subst hm; rw [hp]; exact h
      · exact h
    split
    · split
      · exact hs _ rfl
      · exact ext _ _ (emit_desk _ _ _ _ _ _) (hs _ rfl)
    · exact ((postCompletion_page _ _ _ _).2 _).mpr (.inl (hs _ rfl))

end Sys2Proof.Machine
end

