-- ==== Sys2Proof/Laws/PerInstr.lean ====
section
/-!
SUPPORT. A law of every command, one lemma per constructor: the descriptor that a command is, is well-formed exactly when the
command is; an event is no descriptor.
-/
namespace Sys2Proof.Laws.Shape
open Sys2Proof Sys2Proof.Machine

/-- The descriptor that a command is, is well-formed exactly when the command is. -/
def Statement (i : Instr) : Prop := ∀ (s : State) (o : Order), s.orderOf i = some o → o.d.wf = i.wf

/-- A command that is the descriptor d, well-formed as d is. -/
theorem of_desc {i : Instr} (f : State → Order) (h : ∀ s, s.orderOf i = some (f s)) (hd : ∀ s, (f s).d.wf = i.wf) : Statement i := by
  intro s o ho
  rw [h s] at ho
  cases ho
  exact hd s

/-- A command that is an event. -/
theorem of_event {i : Instr} (h : ∀ s : State, s.orderOf i = none) : Statement i := by
  intro s o ho
  rw [h s] at ho
  cases ho


theorem nop (d : Desc) : Statement (.nop d) := of_desc _ (fun _ => rfl) fun _ => rfl
theorem cancel (d : Desc) : Statement (.cancel d) := of_desc _ (fun _ => rfl) fun _ => rfl
theorem fence (d : Desc) : Statement (.fence d) := of_desc _ (fun _ => rfl) fun _ => rfl
theorem leaseAcquire (d : Desc) : Statement (.leaseAcquire d) := of_desc _ (fun _ => rfl) fun _ => rfl
theorem leaseRelease (d : Desc) : Statement (.leaseRelease d) := of_desc _ (fun _ => rfl) fun _ => rfl
theorem leaseTransfer (d : Desc) : Statement (.leaseTransfer d) := of_desc _ (fun _ => rfl) fun _ => rfl
theorem leaseRevoke (d : Desc) : Statement (.leaseRevoke d) := of_desc _ (fun _ => rfl) fun _ => rfl
theorem leaseQuery (d : Desc) : Statement (.leaseQuery d) := of_desc _ (fun _ => rfl) fun _ => rfl
theorem leaseTimeout (t : Time) (page : Nat) (series : Nat) (seq : Nat) : Statement (.leaseTimeout t page series seq) := of_event fun _ => rfl
theorem partConfig (d : Desc) : Statement (.partConfig d) := of_desc _ (fun _ => rfl) fun _ => rfl
theorem armConfig (d : Desc) : Statement (.armConfig d) := of_desc _ (fun _ => rfl) fun _ => rfl
theorem laneAssign (d : Desc) : Statement (.laneAssign d) := of_desc _ (fun _ => rfl) fun _ => rfl
theorem partCommit (d : Desc) : Statement (.partCommit d) := of_desc _ (fun _ => rfl) fun _ => rfl
theorem partRelease (d : Desc) : Statement (.partRelease d) := of_desc _ (fun _ => rfl) fun _ => rfl
theorem prechargeConfig (d : Desc) : Statement (.prechargeConfig d) := of_desc _ (fun _ => rfl) fun _ => rfl
theorem cellPolicy (d : Desc) : Statement (.cellPolicy d) := of_desc _ (fun _ => rfl) fun _ => rfl
theorem precharge (d : Desc) (differs : Bool) : Statement (.precharge d differs) := of_desc _ (fun _ => rfl) fun _ => rfl
theorem enable (d : Desc) : Statement (.enable d) := of_desc _ (fun _ => rfl) fun _ => rfl
theorem disable (d : Desc) : Statement (.disable d) := of_desc _ (fun _ => rfl) fun _ => rfl
theorem block (d : Desc) : Statement (.block d) := of_desc _ (fun _ => rfl) fun _ => rfl
theorem tripReset (d : Desc) : Statement (.tripReset d) := of_desc _ (fun _ => rfl) fun _ => rfl
theorem cellBypass (d : Desc) : Statement (.cellBypass d) := of_desc _ (fun _ => rfl) fun _ => rfl
theorem cellAdmit (d : Desc) : Statement (.cellAdmit d) := of_desc _ (fun _ => rfl) fun _ => rfl
theorem partStatus (d : Desc) : Statement (.partStatus d) := of_desc _ (fun _ => rfl) fun _ => rfl
theorem cellStatus (d : Desc) : Statement (.cellStatus d) := of_desc _ (fun _ => rfl) fun _ => rfl
theorem modConfig (d : Desc) : Statement (.modConfig d) := of_desc _ (fun _ => rfl) fun _ => rfl
theorem edgeConfig (d : Desc) : Statement (.edgeConfig d) := of_desc _ (fun _ => rfl) fun _ => rfl
theorem balanceConfig (d : Desc) : Statement (.balanceConfig d) := of_desc _ (fun _ => rfl) fun _ => rfl
theorem circConfig (d : Desc) : Statement (.circConfig d) := of_desc _ (fun _ => rfl) fun _ => rfl
theorem armSense (d : Desc) : Statement (.armSense d) := of_desc _ (fun _ => rfl) fun _ => rfl
theorem shareConfig (d : Desc) : Statement (.shareConfig d) := of_desc _ (fun _ => rfl) fun _ => rfl
theorem modLimit (d : Desc) : Statement (.modLimit d) := of_desc _ (fun _ => rfl) fun _ => rfl
theorem modStatus (d : Desc) : Statement (.modStatus d) := of_desc _ (fun _ => rfl) fun _ => rfl
theorem machConfig (d : Desc) : Statement (.machConfig d) := of_desc _ (fun _ => rfl) fun _ => rfl
theorem machParams (d : Desc) : Statement (.machParams d) := of_desc _ (fun _ => rfl) fun _ => rfl
theorem currentConfig (d : Desc) : Statement (.currentConfig d) := of_desc _ (fun _ => rfl) fun _ => rfl
theorem observerConfig (d : Desc) : Statement (.observerConfig d) := of_desc _ (fun _ => rfl) fun _ => rfl
theorem speedConfig (d : Desc) : Statement (.speedConfig d) := of_desc _ (fun _ => rfl) fun _ => rfl
theorem limits (d : Desc) : Statement (.limits d) := of_desc _ (fun _ => rfl) fun _ => rfl
theorem fieldConfig (d : Desc) : Statement (.fieldConfig d) := of_desc _ (fun _ => rfl) fun _ => rfl
theorem supplyConfig (d : Desc) : Statement (.supplyConfig d) := of_desc _ (fun _ => rfl) fun _ => rfl
theorem setpoint (d : Desc) : Statement (.setpoint d) := of_desc _ (fun _ => rfl) fun _ => rfl
theorem supplySetpoint (d : Desc) : Statement (.supplySetpoint d) := of_desc _ (fun _ => rfl) fun _ => rfl
theorem exciterConfig (d : Desc) : Statement (.exciterConfig d) := of_desc _ (fun _ => rfl) fun _ => rfl
theorem coreMigrate (d : Desc) : Statement (.coreMigrate d) := of_desc _ (fun _ => rfl) fun _ => rfl
theorem machStatus (d : Desc) : Statement (.machStatus d) := of_desc _ (fun _ => rfl) fun _ => rfl
theorem refSource (d : Desc) : Statement (.refSource d) := of_desc _ (fun _ => rfl) fun _ => rfl
theorem curveLoad (d : Desc) : Statement (.curveLoad d) := of_desc _ (fun _ => rfl) fun _ => rfl
theorem curveInput (d : Desc) : Statement (.curveInput d) := of_desc _ (fun _ => rfl) fun _ => rfl
theorem shockConfig (d : Desc) : Statement (.shockConfig d) := of_desc _ (fun _ => rfl) fun _ => rfl
theorem drumConfig (d : Desc) : Statement (.drumConfig d) := of_desc _ (fun _ => rfl) fun _ => rfl
theorem drumSet (d : Desc) : Statement (.drumSet d) := of_desc _ (fun _ => rfl) fun _ => rfl
theorem profileLimits (d : Desc) : Statement (.profileLimits d) := of_desc _ (fun _ => rfl) fun _ => rfl
theorem profileMove (d : Desc) : Statement (.profileMove d) := of_desc _ (fun _ => rfl) fun _ => rfl
theorem profileStop (d : Desc) : Statement (.profileStop d) := of_desc _ (fun _ => rfl) fun _ => rfl
theorem vlimitConfig (d : Desc) : Statement (.vlimitConfig d) := of_desc _ (fun _ => rfl) fun _ => rfl
theorem tension (d : Desc) : Statement (.tension d) := of_desc _ (fun _ => rfl) fun _ => rfl
theorem heaveConfig (d : Desc) : Statement (.heaveConfig d) := of_desc _ (fun _ => rfl) fun _ => rfl
theorem heaveRef (d : Desc) : Statement (.heaveRef d) := of_desc _ (fun _ => rfl) fun _ => rfl
theorem motionStatus (d : Desc) : Statement (.motionStatus d) := of_desc _ (fun _ => rfl) fun _ => rfl
theorem fbConfig (d : Desc) : Statement (.fbConfig d) := of_desc _ (fun _ => rfl) fun _ => rfl
theorem encConfig (d : Desc) : Statement (.encConfig d) := of_desc _ (fun _ => rfl) fun _ => rfl
theorem resConfig (d : Desc) : Statement (.resConfig d) := of_desc _ (fun _ => rfl) fun _ => rfl
theorem bissConfig (d : Desc) : Statement (.bissConfig d) := of_desc _ (fun _ => rfl) fun _ => rfl
theorem sensorlessConfig (d : Desc) : Statement (.sensorlessConfig d) := of_desc _ (fun _ => rfl) fun _ => rfl
theorem restartConfig (d : Desc) : Statement (.restartConfig d) := of_desc _ (fun _ => rfl) fun _ => rfl
theorem limitConfig (d : Desc) : Statement (.limitConfig d) := of_desc _ (fun _ => rfl) fun _ => rfl
theorem fbStatus (d : Desc) : Statement (.fbStatus d) := of_desc _ (fun _ => rfl) fun _ => rfl
theorem thermConfig (d : Desc) : Statement (.thermConfig d) := of_desc _ (fun _ => rfl) fun _ => rfl
theorem coolantConfig (d : Desc) : Statement (.coolantConfig d) := of_desc _ (fun _ => rfl) fun _ => rfl
theorem thermGroups (d : Desc) : Statement (.thermGroups d) := of_desc _ (fun _ => rfl) fun _ => rfl
theorem thermSensorReset (d : Desc) : Statement (.thermSensorReset d) := of_desc _ (fun _ => rfl) fun _ => rfl
theorem thermStatus (d : Desc) : Statement (.thermStatus d) := of_desc _ (fun _ => rfl) fun _ => rfl
theorem tandemConfig (d : Desc) : Statement (.tandemConfig d) := of_desc _ (fun _ => rfl) fun _ => rfl
theorem tandemRatio (d : Desc) : Statement (.tandemRatio d) := of_desc _ (fun _ => rfl) fun _ => rfl
theorem tandemMaster (d : Desc) : Statement (.tandemMaster d) := of_desc _ (fun _ => rfl) fun _ => rfl
theorem consumerConfig (d : Desc) : Statement (.consumerConfig d) := of_desc _ (fun _ => rfl) fun _ => rfl
theorem demandLimit (d : Desc) : Statement (.demandLimit d) := of_desc _ (fun _ => rfl) fun _ => rfl
theorem supplyRecord (d : Desc) : Statement (.supplyRecord d) := of_desc _ (fun _ => rfl) fun _ => rfl
theorem calveConfig (d : Desc) : Statement (.calveConfig d) := of_desc _ (fun _ => rfl) fun _ => rfl
theorem calve (d : Desc) : Statement (.calve d) := of_desc _ (fun _ => rfl) fun _ => rfl
theorem calveClear (d : Desc) : Statement (.calveClear d) := of_desc _ (fun _ => rfl) fun _ => rfl
theorem interleaveConfig (d : Desc) : Statement (.interleaveConfig d) := of_desc _ (fun _ => rfl) fun _ => rfl
theorem plantReserve (d : Desc) : Statement (.plantReserve d) := of_desc _ (fun _ => rfl) fun _ => rfl
theorem plantRelease (d : Desc) : Statement (.plantRelease d) := of_desc _ (fun _ => rfl) fun _ => rfl
theorem plantStatus (d : Desc) : Statement (.plantStatus d) := of_desc _ (fun _ => rfl) fun _ => rfl
theorem brakeConfig (d : Desc) : Statement (.brakeConfig d) := of_desc _ (fun _ => rfl) fun _ => rfl
theorem emergConfig (d : Desc) : Statement (.emergConfig d) := of_desc _ (fun _ => rfl) fun _ => rfl
theorem rideConfig (d : Desc) : Statement (.rideConfig d) := of_desc _ (fun _ => rfl) fun _ => rfl
theorem limp (d : Desc) : Statement (.limp d) := of_desc _ (fun _ => rfl) fun _ => rfl
theorem crashStopStart (d : Desc) : Statement (.crashStopStart d) := of_desc _ (fun _ => rfl) fun _ => rfl
theorem crashStopEnd (d : Desc) : Statement (.crashStopEnd d) := of_desc _ (fun _ => rfl) fun _ => rfl
theorem estopControlled (d : Desc) : Statement (.estopControlled d) := of_desc _ (fun _ => rfl) fun _ => rfl
theorem estopShortCircuit (d : Desc) : Statement (.estopShortCircuit d) := of_desc _ (fun _ => rfl) fun _ => rfl
theorem winchEmergEndRender (d : Desc) : Statement (.winchEmergEndRender d) := of_desc _ (fun _ => rfl) fun _ => rfl
theorem winchEmergRender (d : Desc) : Statement (.winchEmergRender d) := of_desc _ (fun _ => rfl) fun _ => rfl
theorem winchEmergQuickRelease (d : Desc) : Statement (.winchEmergQuickRelease d) := of_desc _ (fun _ => rfl) fun _ => rfl
theorem brakeStatus (d : Desc) : Statement (.brakeStatus d) := of_desc _ (fun _ => rfl) fun _ => rfl
theorem protConfig (d : Desc) : Statement (.protConfig d) := of_desc _ (fun _ => rfl) fun _ => rfl
theorem tripLink (d : Desc) : Statement (.tripLink d) := of_desc _ (fun _ => rfl) fun _ => rfl
theorem protSelftest (d : Desc) : Statement (.protSelftest d) := of_desc _ (fun _ => rfl) fun _ => rfl
theorem protSelftestDone (t : Time) (p : Nat) (failed : List Nat) : Statement (.protSelftestDone t p failed) := of_event fun _ => rfl
theorem protTrip (d : Desc) : Statement (.protTrip d) := of_desc _ (fun _ => rfl) fun _ => rfl
theorem protRecord (d : Desc) : Statement (.protRecord d) := of_desc _ (fun _ => rfl) fun _ => rfl
theorem regionRestart (d : Desc) (fails : Nat) : Statement (.regionRestart d fails) := of_desc _ (fun _ => rfl) fun _ => rfl
theorem protStatus (d : Desc) : Statement (.protStatus d) := of_desc _ (fun _ => rfl) fun _ => rfl
theorem linkConfig (d : Desc) : Statement (.linkConfig d) := of_desc _ (fun _ => rfl) fun _ => rfl
theorem linkRetrain (d : Desc) : Statement (.linkRetrain d) := of_desc _ (fun _ => rfl) fun _ => rfl
theorem linkStatus (d : Desc) : Statement (.linkStatus d) := of_desc _ (fun _ => rfl) fun _ => rfl
theorem auxMode (d : Desc) : Statement (.auxMode d) := of_desc _ (fun _ => rfl) fun _ => rfl
theorem bldcConfig (d : Desc) : Statement (.bldcConfig d) := of_desc _ (fun _ => rfl) fun _ => rfl
theorem bldcCurve (d : Desc) : Statement (.bldcCurve d) := of_desc _ (fun _ => rfl) fun _ => rfl
theorem stepConfig (d : Desc) : Statement (.stepConfig d) := of_desc _ (fun _ => rfl) fun _ => rfl
theorem stepSource (d : Desc) : Statement (.stepSource d) := of_desc _ (fun _ => rfl) fun _ => rfl
theorem switchConfig (d : Desc) : Statement (.switchConfig d) := of_desc _ (fun _ => rfl) fun _ => rfl
theorem sagConfig (d : Desc) : Statement (.sagConfig d) := of_desc _ (fun _ => rfl) fun _ => rfl
theorem auxDiag (d : Desc) : Statement (.auxDiag d) := of_desc _ (fun _ => rfl) fun _ => rfl
theorem auxRunStart (d : Desc) : Statement (.auxRunStart d) := of_desc _ (fun _ => rfl) fun _ => rfl
theorem auxRunStop (d : Desc) : Statement (.auxRunStop d) := of_desc _ (fun _ => rfl) fun _ => rfl
theorem auxInput (d : Desc) : Statement (.auxInput d) := of_desc _ (fun _ => rfl) fun _ => rfl
theorem auxReset (d : Desc) : Statement (.auxReset d) := of_desc _ (fun _ => rfl) fun _ => rfl
theorem auxStatus (d : Desc) : Statement (.auxStatus d) := of_desc _ (fun _ => rfl) fun _ => rfl
theorem telemSub (d : Desc) : Statement (.telemSub d) := of_desc _ (fun _ => rfl) fun _ => rfl
theorem telemUnsub (d : Desc) : Statement (.telemUnsub d) := of_desc _ (fun _ => rfl) fun _ => rfl
theorem eventConfig (d : Desc) : Statement (.eventConfig d) := of_desc _ (fun _ => rfl) fun _ => rfl
theorem trackerStatus (d : Desc) : Statement (.trackerStatus d) := of_desc _ (fun _ => rfl) fun _ => rfl
theorem eventLog (d : Desc) : Statement (.eventLog d) := of_desc _ (fun _ => rfl) fun _ => rfl
theorem freeze (d : Desc) : Statement (.freeze d) := of_desc _ (fun _ => rfl) fun _ => rfl
theorem eventStatus (d : Desc) : Statement (.eventStatus d) := of_desc _ (fun _ => rfl) fun _ => rfl
theorem firnSync (d : Desc) : Statement (.firnSync d) := of_desc _ (fun _ => rfl) fun _ => rfl
theorem firnLoad (d : Desc) (signed : Bool) : Statement (.firnLoad d signed) := of_desc _ (fun _ => rfl) fun _ => rfl
theorem firnErase (d : Desc) (signed : Bool) : Statement (.firnErase d signed) := of_desc _ (fun _ => rfl) fun _ => rfl
theorem firnExport (d : Desc) : Statement (.firnExport d) := of_desc _ (fun _ => rfl) fun _ => rfl
theorem moraineConfig (d : Desc) : Statement (.moraineConfig d) := of_desc _ (fun _ => rfl) fun _ => rfl
theorem moraineTrigger (d : Desc) : Statement (.moraineTrigger d) := of_desc _ (fun _ => rfl) fun _ => rfl
theorem moraineList (d : Desc) : Statement (.moraineList d) := of_desc _ (fun _ => rfl) fun _ => rfl
theorem moraineRead (d : Desc) : Statement (.moraineRead d) := of_desc _ (fun _ => rfl) fun _ => rfl
theorem moraineProtect (d : Desc) : Statement (.moraineProtect d) := of_desc _ (fun _ => rfl) fun _ => rfl
theorem auditRead (d : Desc) : Statement (.auditRead d) := of_desc _ (fun _ => rfl) fun _ => rfl
theorem userWrite (d : Desc) : Statement (.userWrite d) := of_desc _ (fun _ => rfl) fun _ => rfl
theorem userRead (d : Desc) : Statement (.userRead d) := of_desc _ (fun _ => rfl) fun _ => rfl
theorem userDelete (d : Desc) : Statement (.userDelete d) := of_desc _ (fun _ => rfl) fun _ => rfl
theorem storFormat (d : Desc) (signed : Bool) : Statement (.storFormat d signed) := of_desc _ (fun _ => rfl) fun _ => rfl
theorem storStatus (d : Desc) : Statement (.storStatus d) := of_desc _ (fun _ => rfl) fun _ => rfl
theorem standbyConfig (d : Desc) : Statement (.standbyConfig d) := of_desc _ (fun _ => rfl) fun _ => rfl
theorem fabCalConfig (d : Desc) : Statement (.fabCalConfig d) := of_desc _ (fun _ => rfl) fun _ => rfl
theorem takeover (d : Desc) (ready : Bool) : Statement (.takeover d ready) := of_desc _ (fun _ => rfl) fun _ => rfl
theorem shareSubConfig (d : Desc) : Statement (.shareSubConfig d) := of_desc _ (fun _ => rfl) fun _ => rfl
theorem sharePublish (d : Desc) : Statement (.sharePublish d) := of_desc _ (fun _ => rfl) fun _ => rfl
theorem fabSend (d : Desc) : Statement (.fabSend d) := of_desc _ (fun _ => rfl) fun _ => rfl
theorem fabRecv (d : Desc) : Statement (.fabRecv d) := of_desc _ (fun _ => rfl) fun _ => rfl
theorem fabTrace (d : Desc) (rtt : Nat) : Statement (.fabTrace d rtt) := of_desc _ (fun _ => rfl) fun _ => rfl
theorem fabTopology (d : Desc) : Statement (.fabTopology d) := of_desc _ (fun _ => rfl) fun _ => rfl
theorem fabStatus (d : Desc) : Statement (.fabStatus d) := of_desc _ (fun _ => rfl) fun _ => rfl
theorem canConfig (d : Desc) : Statement (.canConfig d) := of_desc _ (fun _ => rfl) fun _ => rfl
theorem canRateConfig (d : Desc) : Statement (.canRateConfig d) := of_desc _ (fun _ => rfl) fun _ => rfl
theorem canDetect (d : Desc) : Statement (.canDetect d) := of_desc _ (fun _ => rfl) fun _ => rfl
theorem canRxPost (d : Desc) : Statement (.canRxPost d) := of_desc _ (fun _ => rfl) fun _ => rfl
theorem canTx (d : Desc) (sof : Nat) : Statement (.canTx d sof) := of_desc _ (fun _ => rfl) fun _ => rfl
theorem canTxAbort (d : Desc) (sof : Nat) : Statement (.canTxAbort d sof) := of_desc _ (fun _ => rfl) fun _ => rfl
theorem canStatus (d : Desc) : Statement (.canStatus d) := of_desc _ (fun _ => rfl) fun _ => rfl
theorem tenantCreate (d : Desc) : Statement (.tenantCreate d) := of_desc _ (fun _ => rfl) fun _ => rfl
theorem tenantBind (d : Desc) : Statement (.tenantBind d) := of_desc _ (fun _ => rfl) fun _ => rfl
theorem tenantRetire (d : Desc) : Statement (.tenantRetire d) := of_desc _ (fun _ => rfl) fun _ => rfl
theorem slotSchedule (d : Desc) : Statement (.slotSchedule d) := of_desc _ (fun _ => rfl) fun _ => rfl
theorem secCtrlEnter (d : Desc) (signed : Bool) : Statement (.secCtrlEnter d signed) := of_desc _ (fun _ => rfl) fun _ => rfl
theorem secCtrlLeave (d : Desc) (signed : Bool) : Statement (.secCtrlLeave d signed) := of_desc _ (fun _ => rfl) fun _ => rfl
theorem secCtrlConsent (d : Desc) : Statement (.secCtrlConsent d) := of_desc _ (fun _ => rfl) fun _ => rfl
theorem secCtrlEnrolKey (d : Desc) (signed : Bool) : Statement (.secCtrlEnrolKey d signed) := of_desc _ (fun _ => rfl) fun _ => rfl
theorem secCtrlRevokeKey (d : Desc) (signed : Bool) : Statement (.secCtrlRevokeKey d signed) := of_desc _ (fun _ => rfl) fun _ => rfl
theorem fwUpdate (d : Desc) (valid : Bool) (svn : Nat) (raises : Bool) : Statement (.fwUpdate d valid svn raises) := of_desc _ (fun _ => rfl) fun _ => rfl
theorem attest (d : Desc) : Statement (.attest d) := of_desc _ (fun _ => rfl) fun _ => rfl
theorem tenantStatus (d : Desc) : Statement (.tenantStatus d) := of_desc _ (fun _ => rfl) fun _ => rfl
theorem testEccInject (d : Desc) : Statement (.testEccInject d) := of_desc _ (fun _ => rfl) fun _ => rfl
theorem testWdogStop (d : Desc) : Statement (.testWdogStop d) := of_desc _ (fun _ => rfl) fun _ => rfl
theorem testLinkSilence (d : Desc) : Statement (.testLinkSilence d) := of_desc _ (fun _ => rfl) fun _ => rfl
theorem testLinkSilenceEnd (t : Time) (lane : Nat) : Statement (.testLinkSilenceEnd t lane) := of_event fun _ => rfl
theorem sqTail (t : Time) (page : Nat) (ring : Nat) (v : Nat) (whole : Bool) : Statement (.sqTail t page ring v whole) := of_event fun _ => rfl
theorem descriptorFetch (t : Time) (page : Nat) (ring : Nat) (bytes : List Byte) : Statement (.descriptorFetch t page ring bytes) := of_event fun _ => rfl
theorem cqHead (t : Time) (page : Nat) (v : Nat) (whole : Bool) : Statement (.cqHead t page v whole) := of_event fun _ => rfl
theorem eqHead (t : Time) (page : Nat) (v : Nat) (whole : Bool) : Statement (.eqHead t page v whole) := of_event fun _ => rfl
theorem urgentStage (t : Time) (page : Nat) (off : Nat) (bytes : List Byte) : Statement (.urgentStage t page off bytes) := of_event fun _ => rfl
theorem urgentCommit (t : Time) (page : Nat) (v : Nat) (whole : Bool) : Statement (.urgentCommit t page v whole) := of_event fun _ => rfl
theorem ringEnable (t : Time) (v : Nat) : Statement (.ringEnable t v) := of_event fun _ => rfl
theorem ringDisable (t : Time) (v : Nat) : Statement (.ringDisable t v) := of_event fun _ => rfl
theorem irqHoldoffExpiry (t : Time) (page : Nat) (ring : Nat) : Statement (.irqHoldoffExpiry t page ring) := of_event fun _ => rfl
theorem pcieLinkLoss (t : Time) : Statement (.pcieLinkLoss t) := of_event fun _ => rfl
theorem coalesceWindowEnd (t : Time) (page : Nat) (src : Nat) (code : Nat) : Statement (.coalesceWindowEnd t page src code) := of_event fun _ => rfl
theorem shedCount (t : Time) (page : Nat) (cls : Nat) (path : Nat) (ended : Bool) : Statement (.shedCount t page cls path ended) := of_event fun _ => rfl
theorem telemSample (t : Time) (page : Nat) (sub : Nat) (load : Nat) : Statement (.telemSample t page sub load) := of_event fun _ => rfl
theorem certifiedSlotStart (t : Time) : Statement (.certifiedSlotStart t) := of_event fun _ => rfl
theorem bulkWait (t : Time) (r : Nat) : Statement (.bulkWait t r) := of_event fun _ => rfl
theorem cellCycleStart (t : Time) (p : Nat) (now : List Q) (mean : List Q) (count : Int) (ages : List Nat) (counts : List Int) : Statement (.cellCycleStart t p now mean count ages counts) := of_event fun _ => rfl
theorem upFrameReceived (t : Time) (lane : Nat) (bytes : List Byte) (chars : Bool) (rtt : Nat) : Statement (.upFrameReceived t lane bytes chars rtt) := of_event fun _ => rfl
theorem alarmSReceived (t : Time) (lane : Nat) (clean : Bool) : Statement (.alarmSReceived t lane clean) := of_event fun _ => rfl
theorem alarmUReceived (t : Time) (lane : Nat) (clean : Bool) : Statement (.alarmUReceived t lane clean) := of_event fun _ => rfl
theorem upFrameWindowEnd (t : Time) (p : Nat) : Statement (.upFrameWindowEnd t p) := of_event fun _ => rfl
theorem computeWindowStart (t : Time) (p : Nat) : Statement (.computeWindowStart t p) := of_event fun _ => rfl
theorem armPlacement (t : Time) (p : Nat) (arm : Nat) : Statement (.armPlacement t p arm) := of_event fun _ => rfl
theorem currentLoopStep (t : Time) (p : Nat) (fresh : Bool) (pd : Q) (pq : Q) (pt : Q) : Statement (.currentLoopStep t p fresh pd pq pt) := of_event fun _ => rfl
theorem downFrameWindowStart (t : Time) (p : Nat) : Statement (.downFrameWindowStart t p) := of_event fun _ => rfl
theorem speedStep (t : Time) (p : Nat) (who : List Nat) (caps : List Q) (torques : List Q) (speeds : List Q) (states : List Nat) (limits : List Nat) : Statement (.speedStep t p who caps torques speeds states limits) := of_event fun _ => rfl
theorem migration (t : Time) (p : Nat) : Statement (.migration t p) := of_event fun _ => rfl
theorem machineCoreSelftest (t : Time) (p : Nat) (core : Nat) (ok : Bool) : Statement (.machineCoreSelftest t p core ok) := of_event fun _ => rfl
theorem prechargePassiveDone (t : Time) (p : Nat) : Statement (.prechargePassiveDone t p) := of_event fun _ => rfl
theorem prechargeComplete (t : Time) (p : Nat) : Statement (.prechargeComplete t p) := of_event fun _ => rfl
theorem prechargeTimeout (t : Time) (p : Nat) : Statement (.prechargeTimeout t p) := of_event fun _ => rfl
theorem disableComplete (t : Time) (p : Nat) : Statement (.disableComplete t p) := of_event fun _ => rfl
theorem readyFloorExpiry (t : Time) (p : Nat) : Statement (.readyFloorExpiry t p) := of_event fun _ => rfl
theorem readmitTimeout (t : Time) (lane : Nat) : Statement (.readmitTimeout t lane) := of_event fun _ => rfl
theorem selftestTimeout (t : Time) (lane : Nat) : Statement (.selftestTimeout t lane) := of_event fun _ => rfl
theorem laneLockAcquired (t : Time) (lane : Nat) : Statement (.laneLockAcquired t lane) := of_event fun _ => rfl
theorem linkDown (t : Time) (lane : Nat) : Statement (.linkDown t lane) := of_event fun _ => rfl
theorem linkRetryExpiry (t : Time) (lane : Nat) : Statement (.linkRetryExpiry t lane) := of_event fun _ => rfl
theorem linkSearchInterval (t : Time) (lane : Nat) : Statement (.linkSearchInterval t lane) := of_event fun _ => rfl
theorem trainingTimeout (t : Time) (lane : Nat) : Statement (.trainingTimeout t lane) := of_event fun _ => rfl
theorem tripinAssert (t : Time) (i : Nat) : Statement (.tripinAssert t i) := of_event fun _ => rfl
theorem fastWindowCross (t : Time) (d : Nat) (v : Q) : Statement (.fastWindowCross t d v) := of_event fun _ => rfl
theorem remoteTripReceived (t : Time) (node : Nat) (mask : Nat) (epoch : Nat) : Statement (.remoteTripReceived t node mask epoch) := of_event fun _ => rfl
theorem tripNetDisagree (t : Time) (signal : Nat) : Statement (.tripNetDisagree t signal) := of_event fun _ => rfl
theorem stoAssert (t : Time) (group : Nat) (chanB : Bool) : Statement (.stoAssert t group chanB) := of_event fun _ => rfl
theorem stoRelease (t : Time) (group : Nat) : Statement (.stoRelease t group) := of_event fun _ => rfl
theorem ss1Request (t : Time) (group : Nat) (chanB : Bool) : Statement (.ss1Request t group chanB) := of_event fun _ => rfl
theorem ss1Timeout (t : Time) (p : Nat) : Statement (.ss1Timeout t p) := of_event fun _ => rfl
theorem stoDiscrepancy (t : Time) (group : Nat) (lowA : Bool) (lowB : Bool) (us : Nat) : Statement (.stoDiscrepancy t group lowA lowB us) := of_event fun _ => rfl
theorem supervisorWatchdogExpiry (t : Time) (r : Nat) : Statement (.supervisorWatchdogExpiry t r) := of_event fun _ => rfl
theorem hostCoreWatchdogExpiry (t : Time) : Statement (.hostCoreWatchdogExpiry t) := of_event fun _ => rfl
theorem scrubWord (t : Time) (area : Nat) (index : Nat) (off : Nat) (bits : Nat) : Statement (.scrubWord t area index off bits) := of_event fun _ => rfl
theorem timeBaseFailure (t : Time) : Statement (.timeBaseFailure t) := of_event fun _ => rfl
theorem failRestart (t : Time) : Statement (.failRestart t) := of_event fun _ => rfl
theorem setpointTimeout (t : Time) (p : Nat) : Statement (.setpointTimeout t p) := of_event fun _ => rfl
theorem exciterReady (t : Time) (p : Nat) : Statement (.exciterReady t p) := of_event fun _ => rfl
theorem exciterEnableTimeout (t : Time) (p : Nat) : Statement (.exciterEnableTimeout t p) := of_event fun _ => rfl
theorem exciterFault (t : Time) (p : Nat) : Statement (.exciterFault t p) := of_event fun _ => rfl
theorem earthCurrent (t : Time) (p : Nat) : Statement (.earthCurrent t p) := of_event fun _ => rfl
theorem positionLost (t : Time) (p : Nat) : Statement (.positionLost t p) := of_event fun _ => rfl
theorem pllLocked (t : Time) (p : Nat) : Statement (.pllLocked t p) := of_event fun _ => rfl
theorem pllLost (t : Time) (p : Nat) : Statement (.pllLost t p) := of_event fun _ => rfl
theorem currentSaturationAlarm (t : Time) (p : Nat) : Statement (.currentSaturationAlarm t p) := of_event fun _ => rfl
theorem observerDivergence (t : Time) (p : Nat) : Statement (.observerDivergence t p) := of_event fun _ => rfl
theorem partnerLost (t : Time) (p : Nat) : Statement (.partnerLost t p) := of_event fun _ => rfl
theorem tandemMessageReceived (t : Time) (p : Nat) (src : Nat) (epoch : Nat) (step : Time) (share ty nc ramp target : Q) (shaft : Machine.TandemShaft) : Statement (.tandemMessageReceived t p src epoch step share ty nc ramp target shaft) := of_event fun _ => rfl
theorem tandemMasterLost (t : Time) (p : Nat) (active : List Nat) (announced : Bool) : Statement (.tandemMasterLost t p active announced) := of_event fun _ => rfl
theorem yieldHoldReached (t : Time) (p : Nat) : Statement (.yieldHoldReached t p) := of_event fun _ => rfl
theorem yieldTimeout (t : Time) (p : Nat) : Statement (.yieldTimeout t p) := of_event fun _ => rfl
theorem curveInputLost (t : Time) (p : Nat) : Statement (.curveInputLost t p) := of_event fun _ => rfl
theorem heaveSampleReceived (t : Time) (p : Nat) (node : Nat) (ts : Nat) (z : Q) (vz : Q) : Statement (.heaveSampleReceived t p node ts z vz) := of_event fun _ => rfl
theorem hardLimitActive (t : Time) (p : Nat) (dir : Nat) : Statement (.hardLimitActive t p dir) := of_event fun _ => rfl
theorem hardLimitInactive (t : Time) (p : Nat) (dir : Nat) : Statement (.hardLimitInactive t p dir) := of_event fun _ => rfl
theorem indexPulse (t : Time) (e : Nat) (count : Int) : Statement (.indexPulse t e count) := of_event fun _ => rfl
theorem indexMissing (t : Time) (e : Nat) (count : Int) : Statement (.indexMissing t e count) := of_event fun _ => rfl
theorem resolverSample (t : Time) (e : Nat) (sins : List (Nat × Q)) (coss : List (Nat × Q)) : Statement (.resolverSample t e sins coss) := of_event fun _ => rfl
theorem bissRequest (t : Time) (e : Nat) : Statement (.bissRequest t e) := of_event fun _ => rfl
theorem bissFrameEnd (t : Time) (e : Nat) (n w0 w1 w2 w3 : Nat) : Statement (.bissFrameEnd t e n w0 w1 w2 w3) := of_event fun _ => rfl
theorem zeroVoltagePulseEnd (t : Time) (p : Nat) (iu : Q) (iv : Q) (iw : Q) : Statement (.zeroVoltagePulseEnd t p iu iv iw) := of_event fun _ => rfl
theorem standstillHoldEnd (t : Time) (p : Nat) : Statement (.standstillHoldEnd t p) := of_event fun _ => rfl
theorem openLoopBlendEnd (t : Time) (p : Nat) : Statement (.openLoopBlendEnd t p) := of_event fun _ => rfl
theorem allocRoundPublish (t : Time) (round : Nat) (who : List Nat) (pmax : List Q) (mot : List Q) (gen : List Q) : Statement (.allocRoundPublish t round who pmax mot gen) := of_event fun _ => rfl
theorem roundRecordReceived (t : Time) (r : Machine.RoundRec) : Statement (.roundRecordReceived t r) := of_event fun _ => rfl
theorem allocRoundCompute (t : Time) (round : Nat) : Statement (.allocRoundCompute t round) := of_event fun _ => rfl
theorem grantApply (t : Time) (round : Nat) : Statement (.grantApply t round) := of_event fun _ => rfl
theorem supplyStale (t : Time) (sec : Nat) : Statement (.supplyStale t sec) := of_event fun _ => rfl
theorem breakerInputActive (t : Time) (k : Nat) : Statement (.breakerInputActive t k) := of_event fun _ => rfl
theorem busCollapseDetected (t : Time) (p : Nat) (why : Nat) : Statement (.busCollapseDetected t p why) := of_event fun _ => rfl
theorem calvingEventReceived (t : Time) (node : Nat) (seq : Nat) (sections : Nat) (level : Nat) : Statement (.calvingEventReceived t node seq sections level) := of_event fun _ => rfl
theorem reserveRequestReceived (t : Time) (node : Nat) (tenant : Nat) (part : Nat) (stamp : Time) : Statement (.reserveRequestReceived t node tenant part stamp) := of_event fun _ => rfl
theorem reserveRetry (t : Time) (handle : Nat) : Statement (.reserveRetry t handle) := of_event fun _ => rfl
theorem reserveTimeout (t : Time) (handle : Nat) : Statement (.reserveTimeout t handle) := of_event fun _ => rfl
theorem scBrakingOrder (t : Time) (p : Nat) : Statement (.scBrakingOrder t p) := of_event fun _ => rfl
theorem scBrakingEnd (t : Time) (p : Nat) : Statement (.scBrakingEnd t p) := of_event fun _ => rfl
theorem scArmsAlternate (t : Time) (p : Nat) : Statement (.scArmsAlternate t p) := of_event fun _ => rfl
theorem estopStandstill (t : Time) (p : Nat) : Statement (.estopStandstill t p) := of_event fun _ => rfl
theorem brakeSetHoldEnd (t : Time) (p : Nat) : Statement (.brakeSetHoldEnd t p) := of_event fun _ => rfl
theorem brakeRelease (t : Time) (p : Nat) : Statement (.brakeRelease t p) := of_event fun _ => rfl
theorem brakeReleaseHoldEnd (t : Time) (p : Nat) : Statement (.brakeReleaseHoldEnd t p) := of_event fun _ => rfl
theorem quickReleaseEnd (t : Time) (p : Nat) : Statement (.quickReleaseEnd t p) := of_event fun _ => rfl
theorem rideThroughResyncDone (t : Time) (p : Nat) : Statement (.rideThroughResyncDone t p) := of_event fun _ => rfl
theorem rideThroughDelayEnd (t : Time) (p : Nat) : Statement (.rideThroughDelayEnd t p) := of_event fun _ => rfl
theorem rideThroughExpiry (t : Time) (p : Nat) : Statement (.rideThroughExpiry t p) := of_event fun _ => rfl
theorem thermalEvaluation (t : Time) (r : Nat) (die : List Q) (cool : List Q) : Statement (.thermalEvaluation t r die cool) := of_event fun _ => rfl
theorem sensorFailed (t : Time) (cls : Nat) (idx : Nat) : Statement (.sensorFailed t cls idx) := of_event fun _ => rfl
theorem thermalLevelRise (t : Time) (cls : Nat) (idx : Nat) : Statement (.thermalLevelRise t cls idx) := of_event fun _ => rfl
theorem bldcCheckEnd (t : Time) (m : Nat) (f : Q) (sector : Nat) : Statement (.bldcCheckEnd t m f sector) := of_event fun _ => rfl
theorem bldcCheckWaitTimeout (t : Time) (m : Nat) : Statement (.bldcCheckWaitTimeout t m) := of_event fun _ => rfl
theorem bldcAlignEnd (t : Time) (m : Nat) : Statement (.bldcAlignEnd t m) := of_event fun _ => rfl
theorem bldcZeroCrossing (t : Time) (m : Nat) (order : Bool) : Statement (.bldcZeroCrossing t m order) := of_event fun _ => rfl
theorem bldcCommutation (t : Time) (m : Nat) : Statement (.bldcCommutation t m) := of_event fun _ => rfl
theorem bldcRampEnd (t : Time) (m : Nat) : Statement (.bldcRampEnd t m) := of_event fun _ => rfl
theorem bldcStartRetry (t : Time) (m : Nat) : Statement (.bldcStartRetry t m) := of_event fun _ => rfl
theorem bldcPeakComparator (t : Time) (m : Nat) (atBlankEnd : Bool) : Statement (.bldcPeakComparator t m atBlankEnd) := of_event fun _ => rfl
theorem auxOuterLoop (t : Time) (m : Nat) : Statement (.auxOuterLoop t m) := of_event fun _ => rfl
theorem scHoldEnd (t : Time) (m : Nat) : Statement (.scHoldEnd t m) := of_event fun _ => rfl
theorem stepTimer (t : Time) (m : Nat) (e : Q) : Statement (.stepTimer t m e) := of_event fun _ => rfl
theorem stepInputEdge (t : Time) (sw : Nat) (dirHigh : Bool) : Statement (.stepInputEdge t sw dirHigh) := of_event fun _ => rfl
theorem stepperStandstill (t : Time) (m : Nat) : Statement (.stepperStandstill t m) := of_event fun _ => rfl
theorem switchComparatorAssert (t : Time) (n : Nat) (acc : Nat) : Statement (.switchComparatorAssert t n acc) := of_event fun _ => rfl
theorem switchInrushEnd (t : Time) (n : Nat) : Statement (.switchInrushEnd t n) := of_event fun _ => rfl
theorem switchPullEnd (t : Time) (n : Nat) : Statement (.switchPullEnd t n) := of_event fun _ => rfl
theorem sagGroupActive (t : Time) (region : Nat) (group : Nat) : Statement (.sagGroupActive t region group) := of_event fun _ => rfl
theorem sagGroupInactive (t : Time) (region : Nat) (group : Nat) : Statement (.sagGroupInactive t region group) := of_event fun _ => rfl
theorem auxDiagStep (t : Time) (chan : Nat) (volts : List Q) : Statement (.auxDiagStep t chan volts) := of_event fun _ => rfl
theorem fabPortUp (t : Time) (port : Nat) (node : Nat) (peerPort : Nat) (epoch : Nat) : Statement (.fabPortUp t port node peerPort epoch) := of_event fun _ => rfl
theorem fabPortDown (t : Time) (port : Nat) : Statement (.fabPortDown t port) := of_event fun _ => rfl
theorem fabFrameReceived (t : Time) (port : Nat) (bytes : List Byte) (acked : Nat) : Statement (.fabFrameReceived t port bytes acked) := of_event fun _ => rfl
theorem fabRetransmit (t : Time) (port : Nat) (acked : Nat) : Statement (.fabRetransmit t port acked) := of_event fun _ => rfl
theorem controlResend (t : Time) (dst : Nat) (seq : Nat) : Statement (.controlResend t dst seq) := of_event fun _ => rfl
theorem linkStateFlood (t : Time) : Statement (.linkStateFlood t) := of_event fun _ => rfl
theorem linkStateReceived (t : Time) (r : Machine.LinkRec) : Statement (.linkStateReceived t r) := of_event fun _ => rfl
theorem nodeFailed (t : Time) (node : Nat) (announced : Bool) : Statement (.nodeFailed t node announced) := of_event fun _ => rfl
theorem timeExchange (t : Time) (port : Nat) (t1 : Time) (t2 : Time) (t3 : Time) (t4 : Time) : Statement (.timeExchange t port t1 t2 t3 t4) := of_event fun _ => rfl
theorem holdoverTimeout (t : Time) : Statement (.holdoverTimeout t) := of_event fun _ => rfl
theorem ppsInEdge (t : Time) : Statement (.ppsInEdge t) := of_event fun _ => rfl
theorem mirrorRecordReceived (t : Time) (m : Machine.Mirror) : Statement (.mirrorRecordReceived t m) := of_event fun _ => rfl
theorem mirrorTimeout (t : Time) : Statement (.mirrorTimeout t) := of_event fun _ => rfl
theorem standbyTakeover (t : Time) (announced : Bool) (states : List Nat) : Statement (.standbyTakeover t announced states) := of_event fun _ => rfl
theorem deposed (t : Time) (p : Nat) : Statement (.deposed t p) := of_event fun _ => rfl
theorem canFrameReceived (t : Time) (c : Nat) (frame : List Byte) : Statement (.canFrameReceived t c frame) := of_event fun _ => rfl
theorem canRxFlush (t : Time) (c : Nat) : Statement (.canRxFlush t c) := of_event fun _ => rfl
theorem canTxAttemptEnd (t : Time) (c : Nat) (sof : Nat) (cause : Nat) : Statement (.canTxAttemptEnd t c sof cause) := of_event fun _ => rfl
theorem canBusOn (t : Time) (c : Nat) : Statement (.canBusOn t c) := of_event fun _ => rfl
theorem canTxHoldoffEnd (t : Time) (c : Nat) : Statement (.canTxHoldoffEnd t c) := of_event fun _ => rfl
theorem canDetectDwellEnd (t : Time) (c : Nat) : Statement (.canDetectDwellEnd t c) := of_event fun _ => rfl
theorem firnCommitDone (t : Time) (upTo : Nat) (spare : Nat) : Statement (.firnCommitDone t upTo spare) := of_event fun _ => rfl
theorem auditCommit (t : Time) : Statement (.auditCommit t) := of_event fun _ => rfl
theorem auditCheckpoint (t : Time) : Statement (.auditCheckpoint t) := of_event fun _ => rfl
theorem retentionScrubPass (t : Time) (tAvg : Q) (most : Nat) (spares : List Nat) (moved : List (Nat × Nat)) : Statement (.retentionScrubPass t tAvg most spares moved) := of_event fun _ => rfl
theorem morainePostWindowEnd (t : Time) (p : Nat) : Statement (.morainePostWindowEnd t p) := of_event fun _ => rfl
theorem moraineFlush (t : Time) (record : Nat) : Statement (.moraineFlush t record) := of_event fun _ => rfl
theorem pfailNFall (t : Time) : Statement (.pfailNFall t) := of_event fun _ => rfl
theorem pfailSequenceEnd (t : Time) (steps : Nat) (frzLow : Bool) : Statement (.pfailSequenceEnd t steps frzLow) := of_event fun _ => rfl
theorem pfailNRestored (t : Time) : Statement (.pfailNRestored t) := of_event fun _ => rfl
theorem railFault (t : Time) (rail : Nat) (nand : Bool) : Statement (.railFault t rail nand) := of_event fun _ => rfl
theorem porstNLow (t : Time) : Statement (.porstNLow t) := of_event fun _ => rfl
theorem boot (t : Time) (b : Machine.Boot) : Statement (.boot t b) := of_event fun _ => rfl
theorem warmReset (t : Time) (b : Machine.Boot) : Statement (.warmReset t b) := of_event fun _ => rfl
theorem rstCtrlWarm (t : Time) (v : Nat) : Statement (.rstCtrlWarm t v) := of_event fun _ => rfl
theorem rstCtrlShutdown (t : Time) (v : Nat) : Statement (.rstCtrlShutdown t v) := of_event fun _ => rfl
theorem freezeNLow (t : Time) : Statement (.freezeNLow t) := of_event fun _ => rfl
theorem freezeStep2End (t : Time) : Statement (.freezeStep2End t) := of_event fun _ => rfl
theorem freezeReadout (t : Time) (off : Nat) (len : Nat) : Statement (.freezeReadout t off len) := of_event fun _ => rfl
theorem tapFrzData (t : Time) (sel : Bool) (addr : Nat) : Statement (.tapFrzData t sel addr) := of_event fun _ => rfl
theorem frzThaw (t : Time) (key : Nat) (pinHigh : Bool) : Statement (.frzThaw t key pinHigh) := of_event fun _ => rfl
theorem avsGoalUpdate (t : Time) : Statement (.avsGoalUpdate t) := of_event fun _ => rfl
theorem avsVoltageWrite (t : Time) (fails : Nat) : Statement (.avsVoltageWrite t fails) := of_event fun _ => rfl
theorem mclkDivWrite (t : Time) (k : Nat) (v : Nat) : Statement (.mclkDivWrite t k v) := of_event fun _ => rfl
theorem mclkRelockEnd (t : Time) (k : Nat) : Statement (.mclkRelockEnd t k) := of_event fun _ => rfl
theorem sdCfgWrite (t : Time) (v : Nat) : Statement (.sdCfgWrite t v) := of_event fun _ => rfl
theorem sdStuck (t : Time) (k : Nat) : Statement (.sdStuck t k) := of_event fun _ => rfl
theorem regHoldClear (t : Time) (v : Nat) : Statement (.regHoldClear t v) := of_event fun _ => rfl
theorem tripLock (t : Time) (v : Nat) : Statement (.tripLock t v) := of_event fun _ => rfl
theorem blockLock (t : Time) (off : Nat) (v : Nat) : Statement (.blockLock t off v) := of_event fun _ => rfl
theorem pcieErrClear (t : Time) (v : Nat) : Statement (.pcieErrClear t v) := of_event fun _ => rfl
theorem dbgTapFull (t : Time) (v : Nat) : Statement (.dbgTapFull t v) := of_event fun _ => rfl
theorem mbReadCertificate (t : Time) : Statement (.mbReadCertificate t) := of_event fun _ => rfl
theorem mbWriteRecoveryChunk (t : Time) : Statement (.mbWriteRecoveryChunk t) := of_event fun _ => rfl
theorem mbFinishRecoveryImage (t : Time) (ok : Bool) (svn : Nat) (raises : Bool) : Statement (.mbFinishRecoveryImage t ok svn raises) := of_event fun _ => rfl
theorem devTimeLoRead (t : Time) : Statement (.devTimeLoRead t) := of_event fun _ => rfl
theorem registerWrite (t : Time) (off : Nat) (bs : List Byte) : Statement (.registerWrite t off bs) := of_event fun _ => rfl
theorem hostDmaCompletion (t : Time) (kind : Nat) (page : Nat) (ring : Nat) (ok : Bool) : Statement (.hostDmaCompletion t kind page ring ok) := of_event fun _ => rfl
theorem storageOperationDone (t : Time) (page : Nat) (series : Nat) (seq : Nat) (ok : Bool) : Statement (.storageOperationDone t page series seq ok) := of_event fun _ => rfl
theorem pcieLinkUp (t : Time) (word : Nat) : Statement (.pcieLinkUp t word) := of_event fun _ => rfl
theorem canBusError (t : Time) (c : Nat) (add : Nat) : Statement (.canBusError t c add) := of_event fun _ => rfl
theorem stepperChopComparator (t : Time) (m : Nat) (coilB : Bool) : Statement (.stepperChopComparator t m coilB) := of_event fun _ => rfl
theorem encIllegalTransition (t : Time) (e : Nat) : Statement (.encIllegalTransition t e) := of_event fun _ => rfl
theorem retrainSilenceEnd (t : Time) (lane : Nat) : Statement (.retrainSilenceEnd t lane) := of_event fun _ => rfl
theorem tripinRelease (t : Time) (i : Nat) : Statement (.tripinRelease t i) := of_event fun _ => rfl
theorem fabSendTimeout (t : Time) (page : Nat) (series : Nat) (seq : Nat) : Statement (.fabSendTimeout t page series seq) := of_event fun _ => rfl

end Sys2Proof.Laws.Shape
end

