-- ==== Sys2Proof/Laws/Report.lean ====
section
/-!
SUPPORT. Reports, completions and staged records change nothing but the host side of the machine.
-/
namespace Sys2Proof.Machine
open Sys2Proof

/-- A fold of steps that leave the drive alone leaves it alone. -/
theorem foldl_drive {α : Type} (f : State → α → State) (h : ∀ s a, (f s a).drive = s.drive) (l : List α) (s : State) :
    (l.foldl f s).drive = s.drive := by
  induction l generalizing s with
  | nil => rfl
  | cons a r ih => exact (ih (f s a)).trans (h s a)

/-- A choice between two states that both leave the drive alone. -/
theorem ite_drive {c : Prop} [Decidable c] {a b s : State} (ha : a.drive = s.drive) (hb : b.drive = s.drive) :
    (if c then a else b).drive = s.drive := by
  split
  · exact ha
  · exact hb

@[simp] theorem setPage_drive (s : State) (n : Nat) (p : Page) : (s.setPage n p).drive = s.drive := rfl
@[simp] theorem changeAcc_drive (s : State) (n x q : Nat) (f : Acc → Acc) : (s.changeAcc n x q f).drive = s.drive := rfl

@[simp] theorem noteHigh_drive (s : State) (k used : Nat) : (s.noteHigh k used).drive = s.drive := rfl

@[simp] theorem post_drive (s : State) (p : Post) : (s.post p).drive = s.drive := by
  unfold State.post
  split
  · rw [noteHigh_drive]
    split <;> rfl
  · rfl

@[simp] theorem fireVector_drive (s : State) (v : Nat) : (s.fireVector v).drive = s.drive := by
  unfold State.fireVector
  simp only
  split
  · rfl
  · exact post_drive s _

@[simp] theorem signal_drive (s : State) (n r : Nat) (b : Bool) : (s.signal n r b).drive = s.drive := by
  unfold State.signal
  exact ite_drive (fireVector_drive _ _) rfl

@[simp] theorem postEvent_drive (s : State) (n : Nat) (e : ERec) : (s.postEvent n e).drive = s.drive := by
  unfold State.postEvent
  simp only
  split <;> simp only [signal_drive, setPage_drive, post_drive]

@[simp] theorem drainStaging_drive (n : Nat) (l : List ERec) (s : State) : (s.drainStaging n l).drive = s.drive := by
  induction l generalizing s with
  | nil =>
    unfold State.drainStaging
    simp only
    split
    · split
      · simp only [postEvent_drive, setPage_drive]
      · rfl
    · rfl
  | cons e r ih =>
    unfold State.drainStaging
    simp only
    split
    · rw [ih, postEvent_drive, setPage_drive]
    · rfl

@[simp] theorem recordEvent_drive (s : State) (n cls sev src code rep : Nat) (time : Time) (data : List Byte) :
    (s.recordEvent n cls sev src code rep time data).drive = s.drive := by
  unfold State.recordEvent
  simp only
  repeat' split
  all_goals simp only [setPage_drive, postEvent_drive]

@[simp] theorem deliver_drive (s : State) (n cls src code : Nat) (data : List Byte) :
    (s.deliver n cls src code data).drive = s.drive := by
  unfold State.deliver
  simp only
  repeat' split
  all_goals simp only [setPage_drive, recordEvent_drive]

theorem setTel_drive (s : State) (x : Tel) : State.drive { s with tel := x } = s.drive := rfl

@[simp] theorem logEvent_drive (s : State) (cls src code : Nat) (data : List Byte) : (s.logEvent cls src code data).drive = s.drive := by
  unfold State.logEvent
  exact ite_drive (setTel_drive s _) rfl

@[simp] theorem moraine_drive (s : State) (p cause code : Nat) : (s.moraine p cause code).drive = s.drive := by
  unfold State.moraine
  split
  · rfl
  · split <;> rfl

@[simp] theorem alarmTrigger_drive (s : State) (cls src code : Nat) : (s.alarmTrigger cls src code).drive = s.drive := by
  unfold State.alarmTrigger
  simp only
  repeat' split
  all_goals simp only [moraine_drive]

@[simp] theorem emitTo_drive (s : State) (who : Option Nat) (cls src code : Nat) (data : List Byte) :
    (s.emitTo who cls src code data).drive = s.drive := by
  unfold State.emitTo
  simp only
  rw [foldl_drive _ (fun s n => deliver_drive s n cls src code _), alarmTrigger_drive, logEvent_drive]

@[simp] theorem emit_drive (s : State) (cls src code : Nat) (data : List Byte) : (s.emit cls src code data).drive = s.drive :=
  emitTo_drive s none cls src code data
@[simp] theorem alarm_drive (s : State) (src code : Nat) (data : List Byte) : (s.alarm src code data).drive = s.drive :=
  emit_drive s 6 src code data
@[simp] theorem warn_drive (s : State) (src code : Nat) (data : List Byte) : (s.warn src code data).drive = s.drive :=
  emit_drive s 5 src code data
@[simp] theorem inform_drive (s : State) (src code : Nat) (data : List Byte) : (s.inform src code data).drive = s.drive :=
  emit_drive s 4 src code data

@[simp] theorem postCompletion_drive (s : State) (n : Nat) (c : CRec) : (s.postCompletion n c).drive = s.drive := by
  unfold State.postCompletion
  simp only
  repeat' split
  all_goals simp only [signal_drive, setPage_drive, post_drive]

@[simp] theorem urgentDone_drive (s : State) (n x q : Nat) : (s.urgentDone n x q).drive = s.drive := by
  unfold State.urgentDone
  split <;> rfl

@[simp] theorem fencesDone_drive (n : Nat) (l : List Acc) (s : State) : (s.fencesDone n l).drive = s.drive := by
  induction l generalizing s with
  | nil => rfl
  | cons a r ih =>
    unfold State.fencesDone
    split
    · rw [ih]
      split <;> simp only [postCompletion_drive, setPage_drive]
    · rfl

@[simp] theorem finish_drive (s : State) (n x q st : Nat) (res : List Byte) : (s.finish n x q st res).drive = s.drive := by
  unfold State.finish
  simp only
  split
  · rfl
  · rw [fencesDone_drive, urgentDone_drive, foldl_drive _ (fun s x => postCompletion_drive s n _)]
    repeat' split
    all_goals simp only [alarm_drive, postCompletion_drive, setPage_drive]

@[simp] theorem stageRec_drive (s : State) (k a b c n : Nat) (body : List Byte) : (s.stageRec k a b c n body).drive = s.drive := by
  unfold State.stageRec
  simp only
  split <;> rfl

@[simp] theorem stageDevice_drive (s : State) (k key : Nat) (body : List Byte) : (s.stageDevice k key body).drive = s.drive :=
  stageRec_drive s 3 k 0xFFFF key 0xFFFF body

@[simp] theorem audit_drive (s : State) (n op tg st : Nat) (det : List Byte) : (s.audit n op tg st det).drive = s.drive := by
  unfold State.audit
  simp only [emit_drive]
  rfl

@[simp] theorem auditRefusal_drive (s : State) (n op tg : Nat) : (s.auditRefusal n op tg).drive = s.drive := by
  unfold State.auditRefusal
  simp only
  split
  · split
    · rfl
    · rw [audit_drive]; rfl
  · rw [audit_drive]; rfl

@[simp] theorem bufWrite_drive (s : State) (d : Desc) (bs : List Byte) : (s.bufWrite d bs).drive = s.drive := post_drive s _

@[simp] theorem crevasse_drive (s : State) (n x a b : Nat) : (s.crevasse n x a b).drive = s.drive := by
  unfold State.crevasse
  simp only
  split <;> simp only [recordEvent_drive]

@[simp] theorem mark_drive (s : State) (k e u : Nat) : (s.mark k e u).drive = s.drive := by
  unfold State.mark
  exact ite_drive ((warn_drive _ _ _ _).trans rfl) rfl

@[simp] theorem accept_drive (s : State) (op : Nat) (d : Desc) : ((s.accept op d).1).drive = s.drive := by
  unfold State.accept
  simp only
  split
  · rfl
  · repeat' split
    all_goals simp only [mark_drive, setPage_drive, postCompletion_drive, crevasse_drive]

end Sys2Proof.Machine
end

