-- ==== Sys2Proof/Laws/Serve.lean ====
section
/-!
SUPPORT. What a descriptor does once it is taken: its own effect on the drive, its stored bytes, its completion record.
-/
namespace Sys2Proof.Machine
open Sys2Proof

/-- The stored bytes of a retained descriptor join the configuration (R372); those in force before stay so where they change later. -/
def State.keep (s : State) (i : OpInfo) (d : Desc) (r : Reply) : State :=
  let s := if i.kept then s.lag i.op d.target else s
  if i.kept = true ∧ ¬ r.ownRec = true then { s with cfg := Tab.set s.cfg [] (cfgKey i.op d.target r.keyC) (d.payload ++ d.host) } else s

theorem lag_drive (x : State) (op target : Nat) : (x.lag op target).drive = x.drive.lag op target := by
  unfold State.lag
  simp only
  show _ = if (!lagOps.contains op || x.lagged.any fun e => e.1 = cfgKey op target 0) = true then x.drive else _
  split <;> rfl

theorem setCfg_drive (x : State) (k : Nat) (b : List Byte) :
    State.drive { x with cfg := Tab.set x.cfg [] k b } = { x.drive with cfg := Tab.set x.drive.cfg [] k b } := rfl

/-- What follows the effect of a descriptor whose work succeeds: the drive is that of the effect, with the bytes kept. -/
theorem perform_drive (s : State) (i : OpInfo) (d : Desc) (eff : State → Reply) (h0 : (eff s).status = 0) (hw : (eff s).waits = false)
    (hq : (eff s).queued = false) (hh : (eff s).handled = false) :
    (s.perform i d eff).drive = ((eff s).st.keep i d (eff s)).drive := by
  unfold State.perform
  simp only [h0, hw, hq, hh, ne_eq, not_true_eq_false, if_false, Bool.false_eq_true]
  unfold State.keep
  by_cases hi : i.kept = true
  · have key : ∀ x : State, x.drive = (eff s).st.drive → ∀ b,
        State.drive (State.stageRec { x.lag i.op d.target with
            cfg := Tab.set (x.lag i.op d.target).cfg [] (cfgKey i.op d.target (eff s).keyC) (d.payload ++ d.host) } 1 i.op d.target
          (eff s).keyC d.page b) = State.drive { (eff s).st.lag i.op d.target with
            cfg := Tab.set ((eff s).st.lag i.op d.target).cfg [] (cfgKey i.op d.target (eff s).keyC) (d.payload ++ d.host) } := by
      intro x hx b
      rw [stageRec_drive, setCfg_drive, setCfg_drive, lag_drive, lag_drive, hx]
    have bare : ∀ x : State, x.drive = (eff s).st.drive → (x.lag i.op d.target).drive = ((eff s).st.lag i.op d.target).drive := by
      intro x hx
      rw [lag_drive, lag_drive, hx]
    simp only [if_pos hi]
    by_cases hk : i.kept = true ∧ ¬ (eff s).ownRec = true
    · simp only [if_pos hk]
      split
      · rw [changeAcc_drive, bufWrite_drive]
        apply key
        repeat' split
        all_goals simp only [urgentDone_drive, postCompletion_drive, changeAcc_drive, audit_drive]
      · repeat' split
        all_goals try rw [changeAcc_drive]
        all_goals try rw [finish_drive]
        all_goals apply key
        all_goals simp only [urgentDone_drive, postCompletion_drive, changeAcc_drive, audit_drive]
    · simp only [if_neg hk]
      split
      · rw [changeAcc_drive, bufWrite_drive]
        apply bare
        repeat' split
        all_goals simp only [urgentDone_drive, postCompletion_drive, changeAcc_drive, audit_drive]
      · repeat' split
        all_goals try rw [changeAcc_drive]
        all_goals try rw [finish_drive]
        all_goals apply bare
        all_goals simp only [urgentDone_drive, postCompletion_drive, changeAcc_drive, audit_drive]
  · have hk : ¬ (i.kept = true ∧ ¬ (eff s).ownRec = true) := fun h => hi h.1
    simp only [if_neg hi, if_neg hk]
    split
    · rw [changeAcc_drive, bufWrite_drive]
      repeat' split
      all_goals simp only [urgentDone_drive, postCompletion_drive, changeAcc_drive, audit_drive]
    · repeat' split
      all_goals simp only [finish_drive, urgentDone_drive, postCompletion_drive, changeAcc_drive, audit_drive]

/-- A descriptor whose completion its own work has arranged, or that waits: the drive is that of its effect. -/
theorem perform_drive_handled (s : State) (i : OpInfo) (d : Desc) (eff : State → Reply) (h0 : (eff s).status = 0)
    (hh : (eff s).queued = true ∨ (eff s).handled = true) : (s.perform i d eff).drive = (eff s).st.drive := by
  unfold State.perform
  simp only [h0, ne_eq, not_true_eq_false, if_false]
  by_cases hw : (eff s).waits = true
  · simp only [hw, if_true]
  simp only [hw, if_false, Bool.false_eq_true]
  by_cases hq : (eff s).queued = true
  · simp only [hq, if_true, changeAcc_drive]
  · simp only [hq, hh.resolve_left hq, if_true, Bool.false_eq_true, if_false]
    split <;> simp only [audit_drive]

/-- A descriptor whose work ends with a status: the drive is that of its effect. -/
theorem perform_drive_refused (s : State) (i : OpInfo) (d : Desc) (eff : State → Reply) (h0 : (eff s).status ≠ 0) :
    (s.perform i d eff).drive = (eff s).st.drive := by
  unfold State.perform
  simp only [h0, ne_eq, not_false_eq_true, if_true, finish_drive]
  repeat' split
  all_goals simp only [audit_drive, auditRefusal_drive]

theorem taken_drive (s : State) (o : Order) : (s.taken o).drive = (s.at o.d.t).drive := accept_drive _ _ _

/-- A descriptor that is taken does its work on the state in which it is accepted. -/
theorem serve_takes (s : State) (o : Order) (eff : State → Reply) (h : s.takes o = true) :
    serve o.info o.d o.buf eff s = (s.taken o).perform o.info o.d eff := by
  simp only [State.takes, State.begins, Bool.and_eq_true, Bool.not_eq_true', decide_eq_true_eq, Bool.and_eq_false_iff,
    decide_eq_false_iff_not] at h
  obtain ⟨⟨⟨⟨⟨⟨⟨⟨h1, h2⟩, _⟩, h4⟩, h5⟩, h6⟩, h7⟩, h8⟩, h9⟩ := h
  unfold serve
  simp only [h1, h2, not_true_eq_false, if_false]
  change (if ((s.taken o).page o.d.page).heldBack o.d = true then s.taken o else _) = _
  rw [h4]
  simp only [Bool.false_eq_true, if_false]
  change (if (s.taken o).checks o.info o.d o.buf ≠ 0 then _ else _) = _
  rw [h5]
  simp only [ne_eq, not_true_eq_false, if_false]
  have e6 : ¬ (o.info.audit = true ∧ 256 ≤ (s.taken o).sec.staged.length) := by
    rcases h6 with h | h
    · simp [h]
    · exact fun x => h x.2
  have e7 : ¬ (o.info.kept = true ∧ (s.taken o).stor.firnRo = true) := by
    rcases h7 with h | h <;> simp [h]
  have e8 : ¬ (o.info.kept = true ∧ (s.taken o).stor.keeps = true ∧ (s.taken o).stor.pendLimit <
      (s.taken o).stor.pendBytes + 24 + o.d.payload.length + o.d.host.length) := by
    rcases h8 with (h | h) | h
    · simp [h]
    · simp [h]
    · exact fun x => h x.2.2
  have e9 : ¬ (o.buf.isSome = true ∧ ¬ o.d.dmaOk = true) := by
    rcases h9 with h | h
    · simp [h]
    · simp only [Bool.not_eq_false'] at h
      exact fun x => x.2 h
  change (if o.info.audit = true ∧ 256 ≤ (s.taken o).sec.staged.length then s.taken o else
    if o.info.kept = true ∧ (s.taken o).stor.firnRo = true then _ else
    if o.info.kept = true ∧ (s.taken o).stor.keeps = true ∧ (s.taken o).stor.pendLimit <
      (s.taken o).stor.pendBytes + 24 + o.d.payload.length + o.d.host.length then s.taken o else
    if o.buf.isSome = true ∧ ¬ o.d.dmaOk = true then _ else (s.taken o).perform o.info o.d eff) = _
  rw [if_neg e6, if_neg e7, if_neg e8, if_neg e9]

/-- A descriptor that a check turns away has no effect but its completion. -/
theorem serve_turnsAway (s : State) (o : Order) (eff : State → Reply) (st : Nat) (h : s.turnsAway o st = true) :
    (serve o.info o.d o.buf eff s).drive = (s.at o.d.t).drive ∧ (serve o.info o.d o.buf eff s).completed o st [] := by
  simp only [State.turnsAway, State.begins, Bool.and_eq_true, Bool.not_eq_true', decide_eq_true_eq] at h
  obtain ⟨⟨⟨⟨⟨h1, h2⟩, h3⟩, h4⟩, h5⟩, h6⟩ := h
  have hs : serve o.info o.d o.buf eff s =
      (if st = 0x0005 then (s.taken o).auditRefusal o.d.page o.info.op o.d.target else s.taken o).finish o.d.page o.d.series o.d.seq st [] := by
    unfold serve
    simp only [h1, h2, not_true_eq_false, if_false]
    change (if ((s.taken o).page o.d.page).heldBack o.d = true then s.taken o else _) = _
    rw [h4]
    simp only [Bool.false_eq_true, if_false]
    change (if (s.taken o).checks o.info o.d o.buf ≠ 0 then _ else _) = _
    rw [if_pos (by rw [h5]; exact h6), ← h5]
    rfl
  rw [hs]
  constructor
  · rw [finish_drive]
    split
    · rw [auditRefusal_drive, taken_drive]
    · exact taken_drive s o
  · have hf : ∀ u : State, u.desk o.d.page = (s.taken o).desk o.d.page → (u.finish o.d.page o.d.series o.d.seq st []).completed o st [] :=
      fun u hu => finish_records u _ _ _ st [] o.entry ((find_desk _ _ _ _ _ hu).trans h3) rfl
    split
    · exact hf _ (auditRefusal_desk _ _ _ _ _)
    · exact hf _ rfl

/-- A descriptor command that is taken gives its effect with its bytes kept. -/
theorem gives_of_serve {i : Instr} {s u e : State} {o : Order} {eff : State → Reply} (ho : s.orderOf i = some o)
    (he : exec i s = .next (serve o.info o.d o.buf eff s)) (ht : Taken i s u) (h0 : (eff u).status = 0) (hwt : (eff u).waits = false)
    (hq : (eff u).queued = false) (hh : (eff u).handled = false) (hst : ((eff u).st.keep o.info o.d (eff u)).drive = e.drive) : Gives i s e := by
  obtain ⟨o', ho', htk, rfl⟩ := ht
  obtain rfl : o = o' := Option.some.inj (ho.symm.trans ho')
  exact ⟨_, he, by rw [serve_takes s o eff htk, perform_drive _ _ _ _ h0 hwt hq hh, hst]⟩

/-- A descriptor command that is taken and arranges its own completion, or waits, gives its effect. -/
theorem gives_of_handled {i : Instr} {s u e : State} {o : Order} {eff : State → Reply} (ho : s.orderOf i = some o)
    (he : exec i s = .next (serve o.info o.d o.buf eff s)) (ht : Taken i s u) (h0 : (eff u).status = 0)
    (hh : (eff u).queued = true ∨ (eff u).handled = true) (hst : (eff u).st.drive = e.drive) : Gives i s e := by
  obtain ⟨o', ho', htk, rfl⟩ := ht
  obtain rfl : o = o' := Option.some.inj (ho.symm.trans ho')
  exact ⟨_, he, by rw [serve_takes s o eff htk, perform_drive_handled _ _ _ _ h0 hh, hst]⟩

/-- The entry of a descriptor whose work begins, changed in place. -/
theorem change_find (p : Page) (x q : Nat) (f : Acc → Acc) (hf : ∀ a, (f a).series = a.series ∧ (f a).seq = a.seq) :
    (p.change x q f).find x q = (p.find x q).map f := by
  unfold Page.change Page.find
  simp only
  induction p.acc with
  | nil => rfl
  | cons a r ih =>
    simp only [List.map_cons, List.find?_cons]
    by_cases h : a.series = x ∧ a.seq = q
    · simp [h, hf a]
    · simp only [if_neg h, decide_eq_false h]
      exact ih

theorem changeAcc_find (s : State) (n x q : Nat) (f : Acc → Acc) (hf : ∀ a, (f a).series = a.series ∧ (f a).seq = a.seq) :
    ((s.changeAcc n x q f).page n).find x q = ((s.page n).find x q).map f := by
  unfold State.changeAcc
  rw [page_setPage_self, change_find _ _ _ _ hf]

/-- A descriptor that is not retained, gives its result at once and writes no host buffer completes with `OK`. -/
theorem perform_completed (s : State) (o : Order) (eff : State → Reply) (hk : o.info.kept = false) (h0 : (eff s).status = 0)
    (hwt : (eff s).waits = false) (hq : (eff s).queued = false) (hh : (eff s).handled = false) (hw : (eff s).write = none) (ha : (eff s).await = none)
    (hf : ((eff s).st.page o.d.page).find o.d.series o.d.seq = some o.entry)
    (hg : o.info.gives = true ∨ (eff s).result = []) : (s.perform o.info o.d eff).completed o 0 (eff s).result := by
  unfold State.perform
  simp only [h0, hwt, hq, hh, hw, ha, hk, ne_eq, not_true_eq_false, if_false, Bool.false_eq_true, false_and, Option.isSome_none]
  have h1 := changeAcc_find (eff s).st o.d.page o.d.series o.d.seq
    (fun a => { a with started := true, applied := true, await := (none : Option Await).getD .own, result := (eff s).result }) (fun _ => ⟨rfl, rfl⟩)
  rw [hf] at h1
  simp only [Option.map_some] at h1
  generalize ((eff s).st.changeAcc o.d.page o.d.series o.d.seq
    (fun a => { a with started := true, applied := true, await := (none : Option Await).getD .own, result := (eff s).result })) = v at h1 ⊢
  have h2 : (((if o.info.audit = true then v.audit o.d.page o.info.op o.d.target 0 [] else v)).page o.d.page).find o.d.series o.d.seq =
      some { o.entry with started := true, applied := true, await := (none : Option Await).getD .own, result := (eff s).result } := by
    split
    · rw [find_desk v _ _ _ _ (audit_desk v _ _ _ _ _ _), h1]
    · exact h1
  generalize (if o.info.audit = true then v.audit o.d.page o.info.op o.d.target 0 [] else v) = w at h2 ⊢
  unfold State.completed
  split
  · rename_i he
    have hr : (eff s).result = [] := by
      rcases hg with h | h
      · exact absurd h he.2
      · exact h
    have h3 := (changeAcc_find w o.d.page o.d.series o.d.seq (fun a => { a with early := true }) (fun _ => ⟨rfl, rfl⟩))
    rw [h2] at h3
    simp only [Option.map_some] at h3
    generalize (w.changeAcc o.d.page o.d.series o.d.seq (fun a => { a with early := true })) = z at h3 ⊢
    have hp := postCompletion_page z o.d.page (recordOf o.d o.info.op 0) o.d.page
    have hrec : recordOf o.d o.info.op 0 = o.record 0 (eff s).result := by rw [hr]; rfl
    have h4 : o.record 0 (eff s).result ∈ (((z.postCompletion o.d.page (recordOf o.d o.info.op 0)).urgentDone o.d.page o.d.series o.d.seq).page
        o.d.page).records := by
      rw [urgentDone_page]
      exact (hp.2 _).mpr (.inr ⟨rfl, hrec.symm⟩)
    have h5 : (((z.postCompletion o.d.page (recordOf o.d o.info.op 0)).urgentDone o.d.page o.d.series o.d.seq).page o.d.page).find
        o.d.series o.d.seq = (z.page o.d.page).find o.d.series o.d.seq := by
      rw [urgentDone_page]
      unfold Page.find
      rw [hp.1]
    exact finish_keeps _ _ _ _ _ _ _ _ h4
  · exact finish_records w o.d.page o.d.series o.d.seq 0 (eff s).result _ h2 rfl

/-- A descriptor command that is taken, is not retained and answers at once. -/
theorem answers_of_serve {i : Instr} {s u e : State} {o : Order} {eff : State → Reply} (ho : s.orderOf i = some o)
    (he : exec i s = .next (serve o.info o.d o.buf eff s)) (ht : Taken i s u) (hk : o.info.kept = false) (h0 : (eff u).status = 0)
    (hwt : (eff u).waits = false) (hq : (eff u).queued = false) (hh : (eff u).handled = false) (hw : (eff u).write = none) (ha : (eff u).await = none)
    (hst : (eff u).st.drive = e.drive) (hd : (eff u).st.desk o.d.page = u.desk o.d.page)
    (hg : o.info.gives = true ∨ (eff u).result = []) : Answers i s e (eff u).result := by
  obtain ⟨o', ho', htk, rfl⟩ := ht
  obtain rfl : o = o' := Option.some.inj (ho.symm.trans ho')
  refine ⟨_, o, ho, he, ?_, ?_⟩
  · rw [serve_takes s o eff htk, perform_drive _ _ _ _ h0 hwt hq hh]
    unfold State.keep
    rw [if_neg (by simp [hk]), if_neg (by simp [hk]), hst]
  · rw [serve_takes s o eff htk]
    refine perform_completed _ o eff hk h0 hwt hq hh hw ha ?_ hg
    rw [find_desk _ _ _ _ _ hd]
    simp only [State.takes, State.begins, Bool.and_eq_true, decide_eq_true_eq] at htk
    exact htk.1.1.1.1.1.1.2

/-- A write into a host buffer is on its way once it is issued. -/
theorem bufWrite_wrote (s : State) (o : Order) (bs : List Byte) (n x q : Nat) (f : Acc → Acc) :
    ((s.bufWrite o.d bs).changeAcc n x q f).wrote o bs := by
  unfold State.bufWrite State.post
  split
  · exact ⟨_, List.mem_append_left _ (List.mem_append_right _ (List.mem_singleton.mpr rfl)), rfl, rfl, rfl, rfl⟩
  · exact ⟨_, List.mem_append_right _ (List.mem_append_right _ (List.mem_singleton.mpr rfl)), rfl, rfl, rfl, rfl⟩

/-- A taken descriptor whose effect names bytes for its host buffer issues them. -/
theorem writes_of_serve {i : Instr} {s u e : State} {o : Order} {eff : State → Reply} {bs : List Byte} (ho : s.orderOf i = some o)
    (he : exec i s = .next (serve o.info o.d o.buf eff s)) (ht : Taken i s u) (hk : o.info.kept = false) (h0 : (eff u).status = 0)
    (hwt : (eff u).waits = false) (hq : (eff u).queued = false) (hh : (eff u).handled = false) (hw : (eff u).write = some bs)
    (hst : (eff u).st.drive = e.drive) : Writes i s e bs := by
  obtain ⟨o', ho', htk, rfl⟩ := ht
  obtain rfl : o = o' := Option.some.inj (ho.symm.trans ho')
  refine ⟨_, o, ho, he, ?_, ?_⟩
  · rw [serve_takes s o eff htk, perform_drive _ _ _ _ h0 hwt hq hh]
    unfold State.keep
    rw [if_neg (by simp [hk]), if_neg (by simp [hk]), hst]
  · rw [serve_takes s o eff htk]
    unfold State.perform
    simp only [h0, hwt, hq, hh, hw, hk, ne_eq, not_true_eq_false, if_false, Bool.false_eq_true, false_and]
    exact bufWrite_wrote _ o bs _ _ _ _

theorem keeps_drive (x : State) : x.drive.stor.keeps = x.stor.keeps := rfl
theorem staging_drive (x : State) : x.drive.staging = x.staging := rfl
theorem lag_desk (x : State) (op target n : Nat) : (x.lag op target).desk n = x.desk n := by
  unfold State.lag; simp only; split <;> rfl
/-- Nothing is staged without a medium. -/
theorem stageRec_none (x : State) (h : x.stor.keeps = false) (k a b c n : Nat) (body : List Byte) : x.stageRec k a b c n body = x := by
  unfold State.stageRec
  rw [if_neg (by simp [h])]
/-- A record staged is among the pending ones. -/
theorem stageRec_pend (x : State) (h : x.stor.keeps = true) (h2 : x.staging = true) (k a b c n : Nat) (body : List Byte) :
    ∃ r ∈ (x.stageRec k a b c n body).stor.pend, r.kind = k ∧ r.keyA = a ∧ r.keyB = b ∧ r.keyC = c ∧ r.tenant = n ∧ r.body = body := by
  unfold State.stageRec
  rw [if_pos ⟨h, h2⟩]
  exact ⟨_, List.mem_append_right _ (List.mem_singleton.mpr rfl), rfl, rfl, rfl, rfl, rfl, rfl⟩
theorem records_of_desk (s t : State) (n : Nat) (h : t.desk n = s.desk n) : (t.page n).records = (s.page n).records := by
  unfold State.desk at h
  simp only [Prod.mk.injEq] at h
  unfold Page.records
  rw [h.2.1, h.2.2]
/-- A retained descriptor that gives no result at once: without a medium it completes with `OK`, with one its record is staged. -/
theorem perform_retained (s : State) (o : Order) (eff : State → Reply) (hk : o.info.kept = true) (hr : (eff s).ownRec = false)
    (h0 : (eff s).status = 0) (hwt : (eff s).waits = false) (hq : (eff s).queued = false) (hh : (eff s).handled = false)
    (hw : (eff s).write = none) (ha : (eff s).await = none) (hres : (eff s).result = [])
    (hf : ((eff s).st.page o.d.page).find o.d.series o.d.seq = some o.entry) (hs : (eff s).st.staging = true) :
    ((eff s).st.stor.keeps = false → (s.perform o.info o.d eff).completed o 0 []) ∧
    ((eff s).st.stor.keeps = true → ∃ r ∈ (s.perform o.info o.d eff).stor.pend, r.kind = 1 ∧ r.keyA = o.info.op ∧ r.keyB = o.d.target ∧
      r.keyC = (eff s).keyC ∧ r.tenant = o.d.page ∧ r.body = o.d.payload ++ o.d.host) := by
  unfold State.perform
  simp only [h0, hwt, hq, hh, hw, ha, hk, hr, ne_eq, not_true_eq_false, if_false, Bool.false_eq_true, Option.isSome_none, true_and, not_false_eq_true, if_true, and_self]
  have h1 := changeAcc_find (eff s).st o.d.page o.d.series o.d.seq
    (fun a => { a with started := true, applied := true, await := (none : Option Await).getD .own, result := (eff s).result }) (fun _ => ⟨rfl, rfl⟩)
  rw [hf] at h1
  simp only [Option.map_some] at h1
  have d1 := changeAcc_drive (eff s).st o.d.page o.d.series o.d.seq
    (fun a => { a with started := true, applied := true, await := (none : Option Await).getD .own, result := (eff s).result })
  generalize ((eff s).st.changeAcc o.d.page o.d.series o.d.seq
    (fun a => { a with started := true, applied := true, await := (none : Option Await).getD .own, result := (eff s).result })) = v at h1 d1 ⊢
  have h2 : (((if o.info.audit = true then v.audit o.d.page o.info.op o.d.target 0 [] else v)).page o.d.page).find o.d.series o.d.seq =
      some { o.entry with started := true, applied := true, await := (none : Option Await).getD .own, result := (eff s).result } := by
    split
    · rw [find_desk v _ _ _ _ (audit_desk v _ _ _ _ _ _), h1]
    · exact h1
  have d2 : (if o.info.audit = true then v.audit o.d.page o.info.op o.d.target 0 [] else v).drive = (eff s).st.drive := by
    split
    · rw [audit_drive, d1]
    · exact d1
  generalize (if o.info.audit = true then v.audit o.d.page o.info.op o.d.target 0 [] else v) = w at h2 d2 ⊢
  have d3 : (if o.d.flags.testBit 2 = true ∧ ¬ o.info.gives = true then
      ((w.changeAcc o.d.page o.d.series o.d.seq fun a => { a with early := true }).postCompletion o.d.page (recordOf o.d o.info.op 0)).urgentDone
          o.d.page o.d.series o.d.seq else w).drive = (eff s).st.drive := by
    split
    · rw [urgentDone_drive, postCompletion_drive, changeAcc_drive, d2]
    · exact d2
  have c3 : ∀ x : State, x.desk o.d.page = (if o.d.flags.testBit 2 = true ∧ ¬ o.info.gives = true then
      ((w.changeAcc o.d.page o.d.series o.d.seq fun a => { a with early := true }).postCompletion o.d.page (recordOf o.d o.info.op 0)).urgentDone
          o.d.page o.d.series o.d.seq else w).desk o.d.page → (x.finish o.d.page o.d.series o.d.seq 0 (eff s).result).completed o 0 [] := by
    intro x
    unfold State.completed
    split
    · rename_i he
      intro hx
      have h3 := (changeAcc_find w o.d.page o.d.series o.d.seq (fun a => { a with early := true }) (fun _ => ⟨rfl, rfl⟩))
      generalize (w.changeAcc o.d.page o.d.series o.d.seq (fun a => { a with early := true })) = z at h3 hx
      have hp := postCompletion_page z o.d.page (recordOf o.d o.info.op 0) o.d.page
      have hrec : recordOf o.d o.info.op 0 = o.record 0 [] := rfl
      apply finish_keeps
      rw [records_of_desk _ _ _ hx, urgentDone_page]
      exact (hp.2 _).mpr (.inr ⟨rfl, hrec.symm⟩)
    · intro hx
      have := finish_records x o.d.page o.d.series o.d.seq 0 (eff s).result _ ((find_desk _ _ _ _ _ hx).trans h2) rfl
      rw [hres] at this ⊢
      exact this
  generalize (if o.d.flags.testBit 2 = true ∧ ¬ o.info.gives = true then
      ((w.changeAcc o.d.page o.d.series o.d.seq fun a => { a with early := true }).postCompletion o.d.page (recordOf o.d o.info.op 0)).urgentDone
          o.d.page o.d.series o.d.seq else w) = x at d3 c3 ⊢
  have k4 : ∀ c, ({ x.lag o.info.op o.d.target with cfg := c } : State).stor.keeps = (eff s).st.stor.keeps := by
    intro c
    show (x.lag o.info.op o.d.target).stor.keeps = _
    have : (x.lag o.info.op o.d.target).stor = x.stor := by unfold State.lag; simp only; split <;> rfl
    rw [this, ← keeps_drive x, d3, keeps_drive]
  have g4 : ∀ c, ({ x.lag o.info.op o.d.target with cfg := c } : State).staging = true := by
    intro c
    show (x.lag o.info.op o.d.target).staging = _
    have : (x.lag o.info.op o.d.target).staging = x.staging := by unfold State.lag; simp only; split <;> rfl
    rw [this, ← staging_drive x, d3, staging_drive, hs]
  constructor
  · intro hn
    rw [stageRec_none _ (by rw [k4, hn])]
    rw [if_neg (by rw [k4, hn]; simp)]
    exact c3 _ (lag_desk _ _ _ _)
  · intro hn
    have hs2 := stageRec_pend _ ((k4 (Tab.set (x.lag o.info.op o.d.target).cfg [] (cfgKey o.info.op o.d.target (eff s).keyC) (o.d.payload ++ o.d.host))).trans hn) (g4 _) 1 o.info.op o.d.target (eff s).keyC o.d.page (o.d.payload ++ o.d.host)
    obtain ⟨r, hr1, hr2⟩ := hs2
    refine ⟨r, ?_, hr2⟩
    split
    · exact hr1
    · rename_i hx
      exfalso; apply hx
      have : ∀ y : State, y.stor.keeps = true → (y.stageRec 1 o.info.op o.d.target (eff s).keyC o.d.page (o.d.payload ++ o.d.host)).stor.keeps = true := by
        intro y hy; unfold State.stageRec; split <;> exact hy
      exact this _ ((k4 _).trans hn)
/-- A retained descriptor command that is taken is answered as `Retains` says. -/
theorem retains_of_serve {i : Instr} {s u : State} {o : Order} {eff : State → Reply} (ho : s.orderOf i = some o)
    (he : exec i s = .next (serve o.info o.d o.buf eff s)) (ht : Taken i s u) (hk : o.info.kept = true) (hr : (eff u).ownRec = false)
    (h0 : (eff u).status = 0) (hwt : (eff u).waits = false) (hq : (eff u).queued = false) (hh : (eff u).handled = false)
    (hw : (eff u).write = none) (ha : (eff u).await = none) (hres : (eff u).result = [])
    (hd : (eff u).st.desk o.d.page = u.desk o.d.page) (hst : (eff u).st.stor = u.stor) (hp : (eff u).st.power = u.power) {kc : Nat}
    (hkc : (eff u).keyC = kc) : Retains i s u o.info.op kc := by
  subst hkc
  obtain ⟨o', ho', htk, rfl⟩ := ht
  obtain rfl : o = o' := Option.some.inj (ho.symm.trans ho')
  have hpw : (s.taken o).staging = true := by
    have hsv : s.serving o.d = true := by
      simp only [State.takes, State.begins, Bool.and_eq_true] at htk
      exact htk.1.1.1.1.1.1.1.1
    simp only [State.serving, Bool.and_eq_true, decide_eq_true_eq] at hsv
    rw [← staging_drive, taken_drive, staging_drive]
    unfold State.staging
    rw [at_running hsv.1.1]
    simp [hsv.1.1]
  have key := perform_retained (s.taken o) o eff hk hr h0 hwt hq hh hw ha hres (by
    rw [find_desk _ _ _ _ _ hd]
    simp only [State.takes, State.begins, Bool.and_eq_true, decide_eq_true_eq] at htk
    exact htk.1.1.1.1.1.1.2) (by unfold State.staging at hpw ⊢; rw [hp]; exact hpw)
  rw [hst] at key
  refine ⟨_, o, ho, he, ?_⟩
  rw [serve_takes s o eff htk]
  exact key

end Sys2Proof.Machine
end

