-- ==== Sys2Proof/Laws/State.lean ====
section
/-!
SUPPORT. The updates of State: what a read of the written place gives after one, and that every other field is as it was.
-/
namespace Sys2Proof.Machine
open Sys2Proof

/-! ### `setPage` -/

@[simp] theorem setPage_self (s : State) (k : Nat) (x : Page) : (s.setPage k x).page k = x := Tab.get_set_self _ _ _ _
@[simp] theorem setPage_other (s : State) (k j : Nat) (x : Page) (h : j ≠ k) : (s.setPage k x).page j = s.page j := by
  simp only [State.setPage, State.page, Tab.get_set, if_neg h]
@[simp] theorem setPage_frame (s : State) (k : Nat) (x : Page) :
    (s.setPage k x).now = s.now ∧ (s.setPage k x).power = s.power ∧ (s.setPage k x).pending = s.pending ∧ (s.setPage k x).draws = s.draws ∧
    (s.setPage k x).sys = s.sys ∧ (s.setPage k x).tenants = s.tenants ∧ (s.setPage k x).leases = s.leases ∧ (s.setPage k x).leaseQ =
    s.leaseQ ∧ (s.setPage k x).reserved = s.reserved ∧ (s.setPage k x).sec = s.sec ∧ (s.setPage k x).outbox = s.outbox ∧ (s.setPage k
    x).waitbox = s.waitbox ∧ (s.setPage k x).msix = s.msix ∧ (s.setPage k x).regs = s.regs ∧ (s.setPage k x).mailbox = s.mailbox ∧
    (s.setPage k x).cfg = s.cfg ∧ (s.setPage k x).lagged = s.lagged ∧ (s.setPage k x).stor = s.stor ∧ (s.setPage k x).tel = s.tel ∧
    (s.setPage k x).frz = s.frz ∧ (s.setPage k x).parts = s.parts ∧ (s.setPage k x).cells = s.cells ∧ (s.setPage k x).regions = s.regions ∧
    (s.setPage k x).bypass = s.bypass ∧ (s.setPage k x).lanes = s.lanes ∧ (s.setPage k x).mods = s.mods ∧ (s.setPage k x).sd = s.sd ∧
    (s.setPage k x).sdFlags = s.sdFlags ∧ (s.setPage k x).prot = s.prot ∧ (s.setPage k x).alarmLog = s.alarmLog ∧ (s.setPage k x).plant =
    s.plant ∧ (s.setPage k x).fab = s.fab ∧ (s.setPage k x).cycle = s.cycle ∧ (s.setPage k x).ctl = s.ctl ∧ (s.setPage k x).fb = s.fb ∧
    (s.setPage k x).mot = s.mot ∧ (s.setPage k x).brk = s.brk ∧ (s.setPage k x).sto = s.sto ∧ (s.setPage k x).sdMean = s.sdMean ∧ (s.setPage
    k x).aux = s.aux ∧ (s.setPage k x).sag = s.sag ∧ (s.setPage k x).precWait = s.precWait ∧ (s.setPage k x).ecc = s.ecc ∧ (s.setPage k
    x).tripin = s.tripin ∧ (s.setPage k x).tan = s.tan ∧ (s.setPage k x).therm = s.therm ∧ (s.setPage k x).sense = s.sense ∧ (s.setPage k
    x).cons = s.cons ∧ (s.setPage k x).cans = s.cans ∧ (s.setPage k x).avs = s.avs ∧ (s.setPage k x).mclkOld = s.mclkOld := by
  simp only [State.setPage, and_self]

/-! ### `setTenant` -/

@[simp] theorem setTenant_self (s : State) (k : Nat) (x : Tenant) : (s.setTenant k x).tenant k = x := Tab.get_set_self _ _ _ _
@[simp] theorem setTenant_other (s : State) (k j : Nat) (x : Tenant) (h : j ≠ k) : (s.setTenant k x).tenant j = s.tenant j := by
  simp only [State.setTenant, State.tenant, Tab.get_set, if_neg h]
@[simp] theorem setTenant_frame (s : State) (k : Nat) (x : Tenant) :
    (s.setTenant k x).now = s.now ∧ (s.setTenant k x).power = s.power ∧ (s.setTenant k x).pending = s.pending ∧ (s.setTenant k x).draws =
    s.draws ∧ (s.setTenant k x).sys = s.sys ∧ (s.setTenant k x).pages = s.pages ∧ (s.setTenant k x).leases = s.leases ∧ (s.setTenant k
    x).leaseQ = s.leaseQ ∧ (s.setTenant k x).reserved = s.reserved ∧ (s.setTenant k x).sec = s.sec ∧ (s.setTenant k x).outbox = s.outbox ∧
    (s.setTenant k x).waitbox = s.waitbox ∧ (s.setTenant k x).msix = s.msix ∧ (s.setTenant k x).regs = s.regs ∧ (s.setTenant k x).mailbox =
    s.mailbox ∧ (s.setTenant k x).cfg = s.cfg ∧ (s.setTenant k x).lagged = s.lagged ∧ (s.setTenant k x).stor = s.stor ∧ (s.setTenant k
    x).tel = s.tel ∧ (s.setTenant k x).frz = s.frz ∧ (s.setTenant k x).parts = s.parts ∧ (s.setTenant k x).cells = s.cells ∧ (s.setTenant k
    x).regions = s.regions ∧ (s.setTenant k x).bypass = s.bypass ∧ (s.setTenant k x).lanes = s.lanes ∧ (s.setTenant k x).mods = s.mods ∧
    (s.setTenant k x).sd = s.sd ∧ (s.setTenant k x).sdFlags = s.sdFlags ∧ (s.setTenant k x).prot = s.prot ∧ (s.setTenant k x).alarmLog =
    s.alarmLog ∧ (s.setTenant k x).plant = s.plant ∧ (s.setTenant k x).fab = s.fab ∧ (s.setTenant k x).cycle = s.cycle ∧ (s.setTenant k
    x).ctl = s.ctl ∧ (s.setTenant k x).fb = s.fb ∧ (s.setTenant k x).mot = s.mot ∧ (s.setTenant k x).brk = s.brk ∧ (s.setTenant k x).sto =
    s.sto ∧ (s.setTenant k x).sdMean = s.sdMean ∧ (s.setTenant k x).aux = s.aux ∧ (s.setTenant k x).sag = s.sag ∧ (s.setTenant k x).precWait
    = s.precWait ∧ (s.setTenant k x).ecc = s.ecc ∧ (s.setTenant k x).tripin = s.tripin ∧ (s.setTenant k x).tan = s.tan ∧ (s.setTenant k
    x).therm = s.therm ∧ (s.setTenant k x).sense = s.sense ∧ (s.setTenant k x).cons = s.cons ∧ (s.setTenant k x).cans = s.cans ∧
    (s.setTenant k x).avs = s.avs ∧ (s.setTenant k x).mclkOld = s.mclkOld := by
  simp only [State.setTenant, and_self]

/-! ### `setLease` -/

@[simp] theorem setLease_self (s : State) (k : Nat) (x : Lease) : (s.setLease k x).lease k = x := Tab.get_set_self _ _ _ _
@[simp] theorem setLease_other (s : State) (k j : Nat) (x : Lease) (h : j ≠ k) : (s.setLease k x).lease j = s.lease j := by
  simp only [State.setLease, State.lease, Tab.get_set, if_neg h]
@[simp] theorem setLease_frame (s : State) (k : Nat) (x : Lease) :
    (s.setLease k x).now = s.now ∧ (s.setLease k x).power = s.power ∧ (s.setLease k x).pending = s.pending ∧ (s.setLease k x).draws =
    s.draws ∧ (s.setLease k x).sys = s.sys ∧ (s.setLease k x).pages = s.pages ∧ (s.setLease k x).tenants = s.tenants ∧ (s.setLease k
    x).leaseQ = s.leaseQ ∧ (s.setLease k x).reserved = s.reserved ∧ (s.setLease k x).sec = s.sec ∧ (s.setLease k x).outbox = s.outbox ∧
    (s.setLease k x).waitbox = s.waitbox ∧ (s.setLease k x).msix = s.msix ∧ (s.setLease k x).regs = s.regs ∧ (s.setLease k x).mailbox =
    s.mailbox ∧ (s.setLease k x).cfg = s.cfg ∧ (s.setLease k x).lagged = s.lagged ∧ (s.setLease k x).stor = s.stor ∧ (s.setLease k x).tel =
    s.tel ∧ (s.setLease k x).frz = s.frz ∧ (s.setLease k x).parts = s.parts ∧ (s.setLease k x).cells = s.cells ∧ (s.setLease k x).regions =
    s.regions ∧ (s.setLease k x).bypass = s.bypass ∧ (s.setLease k x).lanes = s.lanes ∧ (s.setLease k x).mods = s.mods ∧ (s.setLease k x).sd
    = s.sd ∧ (s.setLease k x).sdFlags = s.sdFlags ∧ (s.setLease k x).prot = s.prot ∧ (s.setLease k x).alarmLog = s.alarmLog ∧ (s.setLease k
    x).plant = s.plant ∧ (s.setLease k x).fab = s.fab ∧ (s.setLease k x).cycle = s.cycle ∧ (s.setLease k x).ctl = s.ctl ∧ (s.setLease k
    x).fb = s.fb ∧ (s.setLease k x).mot = s.mot ∧ (s.setLease k x).brk = s.brk ∧ (s.setLease k x).sto = s.sto ∧ (s.setLease k x).sdMean =
    s.sdMean ∧ (s.setLease k x).aux = s.aux ∧ (s.setLease k x).sag = s.sag ∧ (s.setLease k x).precWait = s.precWait ∧ (s.setLease k x).ecc =
    s.ecc ∧ (s.setLease k x).tripin = s.tripin ∧ (s.setLease k x).tan = s.tan ∧ (s.setLease k x).therm = s.therm ∧ (s.setLease k x).sense =
    s.sense ∧ (s.setLease k x).cons = s.cons ∧ (s.setLease k x).cans = s.cans ∧ (s.setLease k x).avs = s.avs ∧ (s.setLease k x).mclkOld =
    s.mclkOld := by
  simp only [State.setLease, and_self]

/-! ### `setPart` -/

@[simp] theorem setPart_self (s : State) (k : Nat) (x : Part) : (s.setPart k x).part k = x := Tab.get_set_self _ _ _ _
@[simp] theorem setPart_other (s : State) (k j : Nat) (x : Part) (h : j ≠ k) : (s.setPart k x).part j = s.part j := by
  simp only [State.setPart, State.part, Tab.get_set, if_neg h]
@[simp] theorem setPart_frame (s : State) (k : Nat) (x : Part) :
    (s.setPart k x).now = s.now ∧ (s.setPart k x).power = s.power ∧ (s.setPart k x).pending = s.pending ∧ (s.setPart k x).draws = s.draws ∧
    (s.setPart k x).sys = s.sys ∧ (s.setPart k x).pages = s.pages ∧ (s.setPart k x).tenants = s.tenants ∧ (s.setPart k x).leases = s.leases
    ∧ (s.setPart k x).leaseQ = s.leaseQ ∧ (s.setPart k x).reserved = s.reserved ∧ (s.setPart k x).sec = s.sec ∧ (s.setPart k x).outbox =
    s.outbox ∧ (s.setPart k x).waitbox = s.waitbox ∧ (s.setPart k x).msix = s.msix ∧ (s.setPart k x).regs = s.regs ∧ (s.setPart k x).mailbox
    = s.mailbox ∧ (s.setPart k x).cfg = s.cfg ∧ (s.setPart k x).lagged = s.lagged ∧ (s.setPart k x).stor = s.stor ∧ (s.setPart k x).tel =
    s.tel ∧ (s.setPart k x).frz = s.frz ∧ (s.setPart k x).cells = s.cells ∧ (s.setPart k x).regions = s.regions ∧ (s.setPart k x).bypass =
    s.bypass ∧ (s.setPart k x).lanes = s.lanes ∧ (s.setPart k x).mods = s.mods ∧ (s.setPart k x).sd = s.sd ∧ (s.setPart k x).sdFlags =
    s.sdFlags ∧ (s.setPart k x).prot = s.prot ∧ (s.setPart k x).alarmLog = s.alarmLog ∧ (s.setPart k x).plant = s.plant ∧ (s.setPart k
    x).fab = s.fab ∧ (s.setPart k x).cycle = s.cycle ∧ (s.setPart k x).ctl = s.ctl ∧ (s.setPart k x).fb = s.fb ∧ (s.setPart k x).mot = s.mot
    ∧ (s.setPart k x).brk = s.brk ∧ (s.setPart k x).sto = s.sto ∧ (s.setPart k x).sdMean = s.sdMean ∧ (s.setPart k x).aux = s.aux ∧
    (s.setPart k x).sag = s.sag ∧ (s.setPart k x).precWait = s.precWait ∧ (s.setPart k x).ecc = s.ecc ∧ (s.setPart k x).tripin = s.tripin ∧
    (s.setPart k x).tan = s.tan ∧ (s.setPart k x).therm = s.therm ∧ (s.setPart k x).sense = s.sense ∧ (s.setPart k x).cons = s.cons ∧
    (s.setPart k x).cans = s.cans ∧ (s.setPart k x).avs = s.avs ∧ (s.setPart k x).mclkOld = s.mclkOld := by
  simp only [State.setPart, and_self]

/-! ### `setCell` -/

@[simp] theorem setCell_self (s : State) (k : Nat) (x : Cell) : (s.setCell k x).cell k = x := Tab.get_set_self _ _ _ _
@[simp] theorem setCell_other (s : State) (k j : Nat) (x : Cell) (h : j ≠ k) : (s.setCell k x).cell j = s.cell j := by
  simp only [State.setCell, State.cell, Tab.get_set, if_neg h]
@[simp] theorem setCell_frame (s : State) (k : Nat) (x : Cell) :
    (s.setCell k x).now = s.now ∧ (s.setCell k x).power = s.power ∧ (s.setCell k x).pending = s.pending ∧ (s.setCell k x).draws = s.draws ∧
    (s.setCell k x).sys = s.sys ∧ (s.setCell k x).pages = s.pages ∧ (s.setCell k x).tenants = s.tenants ∧ (s.setCell k x).leases = s.leases
    ∧ (s.setCell k x).leaseQ = s.leaseQ ∧ (s.setCell k x).reserved = s.reserved ∧ (s.setCell k x).sec = s.sec ∧ (s.setCell k x).outbox =
    s.outbox ∧ (s.setCell k x).waitbox = s.waitbox ∧ (s.setCell k x).msix = s.msix ∧ (s.setCell k x).regs = s.regs ∧ (s.setCell k x).mailbox
    = s.mailbox ∧ (s.setCell k x).cfg = s.cfg ∧ (s.setCell k x).lagged = s.lagged ∧ (s.setCell k x).stor = s.stor ∧ (s.setCell k x).tel =
    s.tel ∧ (s.setCell k x).frz = s.frz ∧ (s.setCell k x).parts = s.parts ∧ (s.setCell k x).regions = s.regions ∧ (s.setCell k x).bypass =
    s.bypass ∧ (s.setCell k x).lanes = s.lanes ∧ (s.setCell k x).mods = s.mods ∧ (s.setCell k x).sd = s.sd ∧ (s.setCell k x).sdFlags =
    s.sdFlags ∧ (s.setCell k x).prot = s.prot ∧ (s.setCell k x).alarmLog = s.alarmLog ∧ (s.setCell k x).plant = s.plant ∧ (s.setCell k
    x).fab = s.fab ∧ (s.setCell k x).cycle = s.cycle ∧ (s.setCell k x).ctl = s.ctl ∧ (s.setCell k x).fb = s.fb ∧ (s.setCell k x).mot = s.mot
    ∧ (s.setCell k x).brk = s.brk ∧ (s.setCell k x).sto = s.sto ∧ (s.setCell k x).sdMean = s.sdMean ∧ (s.setCell k x).aux = s.aux ∧
    (s.setCell k x).sag = s.sag ∧ (s.setCell k x).precWait = s.precWait ∧ (s.setCell k x).ecc = s.ecc ∧ (s.setCell k x).tripin = s.tripin ∧
    (s.setCell k x).tan = s.tan ∧ (s.setCell k x).therm = s.therm ∧ (s.setCell k x).sense = s.sense ∧ (s.setCell k x).cons = s.cons ∧
    (s.setCell k x).cans = s.cans ∧ (s.setCell k x).avs = s.avs ∧ (s.setCell k x).mclkOld = s.mclkOld := by
  simp only [State.setCell, and_self]

/-! ### `setRegion` -/

@[simp] theorem setRegion_self (s : State) (k : Nat) (x : Region) : (s.setRegion k x).region k = x := Tab.get_set_self _ _ _ _
@[simp] theorem setRegion_other (s : State) (k j : Nat) (x : Region) (h : j ≠ k) : (s.setRegion k x).region j = s.region j := by
  simp only [State.setRegion, State.region, Tab.get_set, if_neg h]
@[simp] theorem setRegion_frame (s : State) (k : Nat) (x : Region) :
    (s.setRegion k x).now = s.now ∧ (s.setRegion k x).power = s.power ∧ (s.setRegion k x).pending = s.pending ∧ (s.setRegion k x).draws =
    s.draws ∧ (s.setRegion k x).sys = s.sys ∧ (s.setRegion k x).pages = s.pages ∧ (s.setRegion k x).tenants = s.tenants ∧ (s.setRegion k
    x).leases = s.leases ∧ (s.setRegion k x).leaseQ = s.leaseQ ∧ (s.setRegion k x).reserved = s.reserved ∧ (s.setRegion k x).sec = s.sec ∧
    (s.setRegion k x).outbox = s.outbox ∧ (s.setRegion k x).waitbox = s.waitbox ∧ (s.setRegion k x).msix = s.msix ∧ (s.setRegion k x).regs =
    s.regs ∧ (s.setRegion k x).mailbox = s.mailbox ∧ (s.setRegion k x).cfg = s.cfg ∧ (s.setRegion k x).lagged = s.lagged ∧ (s.setRegion k
    x).stor = s.stor ∧ (s.setRegion k x).tel = s.tel ∧ (s.setRegion k x).frz = s.frz ∧ (s.setRegion k x).parts = s.parts ∧ (s.setRegion k
    x).cells = s.cells ∧ (s.setRegion k x).bypass = s.bypass ∧ (s.setRegion k x).lanes = s.lanes ∧ (s.setRegion k x).mods = s.mods ∧
    (s.setRegion k x).sd = s.sd ∧ (s.setRegion k x).sdFlags = s.sdFlags ∧ (s.setRegion k x).prot = s.prot ∧ (s.setRegion k x).alarmLog =
    s.alarmLog ∧ (s.setRegion k x).plant = s.plant ∧ (s.setRegion k x).fab = s.fab ∧ (s.setRegion k x).cycle = s.cycle ∧ (s.setRegion k
    x).ctl = s.ctl ∧ (s.setRegion k x).fb = s.fb ∧ (s.setRegion k x).mot = s.mot ∧ (s.setRegion k x).brk = s.brk ∧ (s.setRegion k x).sto =
    s.sto ∧ (s.setRegion k x).sdMean = s.sdMean ∧ (s.setRegion k x).aux = s.aux ∧ (s.setRegion k x).sag = s.sag ∧ (s.setRegion k x).precWait
    = s.precWait ∧ (s.setRegion k x).ecc = s.ecc ∧ (s.setRegion k x).tripin = s.tripin ∧ (s.setRegion k x).tan = s.tan ∧ (s.setRegion k
    x).therm = s.therm ∧ (s.setRegion k x).sense = s.sense ∧ (s.setRegion k x).cons = s.cons ∧ (s.setRegion k x).cans = s.cans ∧
    (s.setRegion k x).avs = s.avs ∧ (s.setRegion k x).mclkOld = s.mclkOld := by
  simp only [State.setRegion, and_self]

/-! ### `setSensor` -/

@[simp] theorem setSensor_self (s : State) (k : Nat) (x : Sense) : (s.setSensor k x).sensor k = x := Tab.get_set_self _ _ _ _
@[simp] theorem setSensor_other (s : State) (k j : Nat) (x : Sense) (h : j ≠ k) : (s.setSensor k x).sensor j = s.sensor j := by
  simp only [State.setSensor, State.sensor, Tab.get_set, if_neg h]
@[simp] theorem setSensor_frame (s : State) (k : Nat) (x : Sense) :
    (s.setSensor k x).now = s.now ∧ (s.setSensor k x).power = s.power ∧ (s.setSensor k x).pending = s.pending ∧ (s.setSensor k x).draws =
    s.draws ∧ (s.setSensor k x).sys = s.sys ∧ (s.setSensor k x).pages = s.pages ∧ (s.setSensor k x).tenants = s.tenants ∧ (s.setSensor k
    x).leases = s.leases ∧ (s.setSensor k x).leaseQ = s.leaseQ ∧ (s.setSensor k x).reserved = s.reserved ∧ (s.setSensor k x).sec = s.sec ∧
    (s.setSensor k x).outbox = s.outbox ∧ (s.setSensor k x).waitbox = s.waitbox ∧ (s.setSensor k x).msix = s.msix ∧ (s.setSensor k x).regs =
    s.regs ∧ (s.setSensor k x).mailbox = s.mailbox ∧ (s.setSensor k x).cfg = s.cfg ∧ (s.setSensor k x).lagged = s.lagged ∧ (s.setSensor k
    x).stor = s.stor ∧ (s.setSensor k x).tel = s.tel ∧ (s.setSensor k x).frz = s.frz ∧ (s.setSensor k x).parts = s.parts ∧ (s.setSensor k
    x).cells = s.cells ∧ (s.setSensor k x).regions = s.regions ∧ (s.setSensor k x).bypass = s.bypass ∧ (s.setSensor k x).lanes = s.lanes ∧
    (s.setSensor k x).mods = s.mods ∧ (s.setSensor k x).sd = s.sd ∧ (s.setSensor k x).sdFlags = s.sdFlags ∧ (s.setSensor k x).prot = s.prot
    ∧ (s.setSensor k x).alarmLog = s.alarmLog ∧ (s.setSensor k x).plant = s.plant ∧ (s.setSensor k x).fab = s.fab ∧ (s.setSensor k x).cycle
    = s.cycle ∧ (s.setSensor k x).ctl = s.ctl ∧ (s.setSensor k x).fb = s.fb ∧ (s.setSensor k x).mot = s.mot ∧ (s.setSensor k x).brk = s.brk
    ∧ (s.setSensor k x).sto = s.sto ∧ (s.setSensor k x).sdMean = s.sdMean ∧ (s.setSensor k x).aux = s.aux ∧ (s.setSensor k x).sag = s.sag ∧
    (s.setSensor k x).precWait = s.precWait ∧ (s.setSensor k x).ecc = s.ecc ∧ (s.setSensor k x).tripin = s.tripin ∧ (s.setSensor k x).tan =
    s.tan ∧ (s.setSensor k x).therm = s.therm ∧ (s.setSensor k x).cons = s.cons ∧ (s.setSensor k x).cans = s.cans ∧ (s.setSensor k x).avs =
    s.avs ∧ (s.setSensor k x).mclkOld = s.mclkOld := by
  simp only [State.setSensor, and_self]

/-! ### `setLane` -/

@[simp] theorem setLane_self (s : State) (k : Nat) (x : Lane) : (s.setLane k x).lane k = x := Tab.get_set_self _ _ _ _
@[simp] theorem setLane_other (s : State) (k j : Nat) (x : Lane) (h : j ≠ k) : (s.setLane k x).lane j = s.lane j := by
  simp only [State.setLane, State.lane, Tab.get_set, if_neg h]
@[simp] theorem setLane_frame (s : State) (k : Nat) (x : Lane) :
    (s.setLane k x).now = s.now ∧ (s.setLane k x).power = s.power ∧ (s.setLane k x).pending = s.pending ∧ (s.setLane k x).draws = s.draws ∧
    (s.setLane k x).sys = s.sys ∧ (s.setLane k x).pages = s.pages ∧ (s.setLane k x).tenants = s.tenants ∧ (s.setLane k x).leases = s.leases
    ∧ (s.setLane k x).leaseQ = s.leaseQ ∧ (s.setLane k x).reserved = s.reserved ∧ (s.setLane k x).sec = s.sec ∧ (s.setLane k x).outbox =
    s.outbox ∧ (s.setLane k x).waitbox = s.waitbox ∧ (s.setLane k x).msix = s.msix ∧ (s.setLane k x).regs = s.regs ∧ (s.setLane k x).mailbox
    = s.mailbox ∧ (s.setLane k x).cfg = s.cfg ∧ (s.setLane k x).lagged = s.lagged ∧ (s.setLane k x).stor = s.stor ∧ (s.setLane k x).tel =
    s.tel ∧ (s.setLane k x).frz = s.frz ∧ (s.setLane k x).parts = s.parts ∧ (s.setLane k x).cells = s.cells ∧ (s.setLane k x).regions =
    s.regions ∧ (s.setLane k x).bypass = s.bypass ∧ (s.setLane k x).mods = s.mods ∧ (s.setLane k x).sd = s.sd ∧ (s.setLane k x).sdFlags =
    s.sdFlags ∧ (s.setLane k x).prot = s.prot ∧ (s.setLane k x).alarmLog = s.alarmLog ∧ (s.setLane k x).plant = s.plant ∧ (s.setLane k
    x).fab = s.fab ∧ (s.setLane k x).cycle = s.cycle ∧ (s.setLane k x).ctl = s.ctl ∧ (s.setLane k x).fb = s.fb ∧ (s.setLane k x).mot = s.mot
    ∧ (s.setLane k x).brk = s.brk ∧ (s.setLane k x).sto = s.sto ∧ (s.setLane k x).sdMean = s.sdMean ∧ (s.setLane k x).aux = s.aux ∧
    (s.setLane k x).sag = s.sag ∧ (s.setLane k x).precWait = s.precWait ∧ (s.setLane k x).ecc = s.ecc ∧ (s.setLane k x).tripin = s.tripin ∧
    (s.setLane k x).tan = s.tan ∧ (s.setLane k x).therm = s.therm ∧ (s.setLane k x).sense = s.sense ∧ (s.setLane k x).cons = s.cons ∧
    (s.setLane k x).cans = s.cans ∧ (s.setLane k x).avs = s.avs ∧ (s.setLane k x).mclkOld = s.mclkOld := by
  simp only [State.setLane, and_self]

/-! ### `setMod` -/

@[simp] theorem setMod_self (s : State) (k : Nat) (x : Mod) : (s.setMod k x).modOf k = x := Tab.get_set_self _ _ _ _
@[simp] theorem setMod_other (s : State) (k j : Nat) (x : Mod) (h : j ≠ k) : (s.setMod k x).modOf j = s.modOf j := by
  simp only [State.setMod, State.modOf, Tab.get_set, if_neg h]
@[simp] theorem setMod_frame (s : State) (k : Nat) (x : Mod) :
    (s.setMod k x).now = s.now ∧ (s.setMod k x).power = s.power ∧ (s.setMod k x).pending = s.pending ∧ (s.setMod k x).draws = s.draws ∧
    (s.setMod k x).sys = s.sys ∧ (s.setMod k x).pages = s.pages ∧ (s.setMod k x).tenants = s.tenants ∧ (s.setMod k x).leases = s.leases ∧
    (s.setMod k x).leaseQ = s.leaseQ ∧ (s.setMod k x).reserved = s.reserved ∧ (s.setMod k x).sec = s.sec ∧ (s.setMod k x).outbox = s.outbox
    ∧ (s.setMod k x).waitbox = s.waitbox ∧ (s.setMod k x).msix = s.msix ∧ (s.setMod k x).regs = s.regs ∧ (s.setMod k x).mailbox = s.mailbox
    ∧ (s.setMod k x).cfg = s.cfg ∧ (s.setMod k x).lagged = s.lagged ∧ (s.setMod k x).stor = s.stor ∧ (s.setMod k x).tel = s.tel ∧ (s.setMod
    k x).frz = s.frz ∧ (s.setMod k x).parts = s.parts ∧ (s.setMod k x).cells = s.cells ∧ (s.setMod k x).regions = s.regions ∧ (s.setMod k
    x).bypass = s.bypass ∧ (s.setMod k x).lanes = s.lanes ∧ (s.setMod k x).sd = s.sd ∧ (s.setMod k x).sdFlags = s.sdFlags ∧ (s.setMod k
    x).prot = s.prot ∧ (s.setMod k x).alarmLog = s.alarmLog ∧ (s.setMod k x).plant = s.plant ∧ (s.setMod k x).fab = s.fab ∧ (s.setMod k
    x).cycle = s.cycle ∧ (s.setMod k x).ctl = s.ctl ∧ (s.setMod k x).fb = s.fb ∧ (s.setMod k x).mot = s.mot ∧ (s.setMod k x).brk = s.brk ∧
    (s.setMod k x).sto = s.sto ∧ (s.setMod k x).sdMean = s.sdMean ∧ (s.setMod k x).aux = s.aux ∧ (s.setMod k x).sag = s.sag ∧ (s.setMod k
    x).precWait = s.precWait ∧ (s.setMod k x).ecc = s.ecc ∧ (s.setMod k x).tripin = s.tripin ∧ (s.setMod k x).tan = s.tan ∧ (s.setMod k
    x).therm = s.therm ∧ (s.setMod k x).sense = s.sense ∧ (s.setMod k x).cons = s.cons ∧ (s.setMod k x).cans = s.cans ∧ (s.setMod k x).avs =
    s.avs ∧ (s.setMod k x).mclkOld = s.mclkOld := by
  simp only [State.setMod, and_self]

/-! ### `setProt` -/

@[simp] theorem setProt_self (s : State) (k : Nat) (x : Prot) : (s.setProt k x).protOf k = x := Tab.get_set_self _ _ _ _
@[simp] theorem setProt_other (s : State) (k j : Nat) (x : Prot) (h : j ≠ k) : (s.setProt k x).protOf j = s.protOf j := by
  simp only [State.setProt, State.protOf, Tab.get_set, if_neg h]
@[simp] theorem setProt_frame (s : State) (k : Nat) (x : Prot) :
    (s.setProt k x).now = s.now ∧ (s.setProt k x).power = s.power ∧ (s.setProt k x).pending = s.pending ∧ (s.setProt k x).draws = s.draws ∧
    (s.setProt k x).sys = s.sys ∧ (s.setProt k x).pages = s.pages ∧ (s.setProt k x).tenants = s.tenants ∧ (s.setProt k x).leases = s.leases
    ∧ (s.setProt k x).leaseQ = s.leaseQ ∧ (s.setProt k x).reserved = s.reserved ∧ (s.setProt k x).sec = s.sec ∧ (s.setProt k x).outbox =
    s.outbox ∧ (s.setProt k x).waitbox = s.waitbox ∧ (s.setProt k x).msix = s.msix ∧ (s.setProt k x).regs = s.regs ∧ (s.setProt k x).mailbox
    = s.mailbox ∧ (s.setProt k x).cfg = s.cfg ∧ (s.setProt k x).lagged = s.lagged ∧ (s.setProt k x).stor = s.stor ∧ (s.setProt k x).tel =
    s.tel ∧ (s.setProt k x).frz = s.frz ∧ (s.setProt k x).parts = s.parts ∧ (s.setProt k x).cells = s.cells ∧ (s.setProt k x).regions =
    s.regions ∧ (s.setProt k x).bypass = s.bypass ∧ (s.setProt k x).lanes = s.lanes ∧ (s.setProt k x).mods = s.mods ∧ (s.setProt k x).sd =
    s.sd ∧ (s.setProt k x).sdFlags = s.sdFlags ∧ (s.setProt k x).alarmLog = s.alarmLog ∧ (s.setProt k x).plant = s.plant ∧ (s.setProt k
    x).fab = s.fab ∧ (s.setProt k x).cycle = s.cycle ∧ (s.setProt k x).ctl = s.ctl ∧ (s.setProt k x).fb = s.fb ∧ (s.setProt k x).mot = s.mot
    ∧ (s.setProt k x).brk = s.brk ∧ (s.setProt k x).sto = s.sto ∧ (s.setProt k x).sdMean = s.sdMean ∧ (s.setProt k x).aux = s.aux ∧
    (s.setProt k x).sag = s.sag ∧ (s.setProt k x).precWait = s.precWait ∧ (s.setProt k x).ecc = s.ecc ∧ (s.setProt k x).tripin = s.tripin ∧
    (s.setProt k x).tan = s.tan ∧ (s.setProt k x).therm = s.therm ∧ (s.setProt k x).sense = s.sense ∧ (s.setProt k x).cons = s.cons ∧
    (s.setProt k x).cans = s.cans ∧ (s.setProt k x).avs = s.avs ∧ (s.setProt k x).mclkOld = s.mclkOld := by
  simp only [State.setProt, and_self]

/-! ### `setCtl` -/

@[simp] theorem setCtl_self (s : State) (k : Nat) (x : Ctl) : (s.setCtl k x).ctlOf k = x := Tab.get_set_self _ _ _ _
@[simp] theorem setCtl_other (s : State) (k j : Nat) (x : Ctl) (h : j ≠ k) : (s.setCtl k x).ctlOf j = s.ctlOf j := by
  simp only [State.setCtl, State.ctlOf, Tab.get_set, if_neg h]
@[simp] theorem setCtl_frame (s : State) (k : Nat) (x : Ctl) :
    (s.setCtl k x).now = s.now ∧ (s.setCtl k x).power = s.power ∧ (s.setCtl k x).pending = s.pending ∧ (s.setCtl k x).draws = s.draws ∧
    (s.setCtl k x).sys = s.sys ∧ (s.setCtl k x).pages = s.pages ∧ (s.setCtl k x).tenants = s.tenants ∧ (s.setCtl k x).leases = s.leases ∧
    (s.setCtl k x).leaseQ = s.leaseQ ∧ (s.setCtl k x).reserved = s.reserved ∧ (s.setCtl k x).sec = s.sec ∧ (s.setCtl k x).outbox = s.outbox
    ∧ (s.setCtl k x).waitbox = s.waitbox ∧ (s.setCtl k x).msix = s.msix ∧ (s.setCtl k x).regs = s.regs ∧ (s.setCtl k x).mailbox = s.mailbox
    ∧ (s.setCtl k x).cfg = s.cfg ∧ (s.setCtl k x).lagged = s.lagged ∧ (s.setCtl k x).stor = s.stor ∧ (s.setCtl k x).tel = s.tel ∧ (s.setCtl
    k x).frz = s.frz ∧ (s.setCtl k x).parts = s.parts ∧ (s.setCtl k x).cells = s.cells ∧ (s.setCtl k x).regions = s.regions ∧ (s.setCtl k
    x).bypass = s.bypass ∧ (s.setCtl k x).lanes = s.lanes ∧ (s.setCtl k x).mods = s.mods ∧ (s.setCtl k x).sd = s.sd ∧ (s.setCtl k x).sdFlags
    = s.sdFlags ∧ (s.setCtl k x).prot = s.prot ∧ (s.setCtl k x).alarmLog = s.alarmLog ∧ (s.setCtl k x).plant = s.plant ∧ (s.setCtl k x).fab
    = s.fab ∧ (s.setCtl k x).cycle = s.cycle ∧ (s.setCtl k x).fb = s.fb ∧ (s.setCtl k x).mot = s.mot ∧ (s.setCtl k x).brk = s.brk ∧
    (s.setCtl k x).sto = s.sto ∧ (s.setCtl k x).sdMean = s.sdMean ∧ (s.setCtl k x).aux = s.aux ∧ (s.setCtl k x).sag = s.sag ∧ (s.setCtl k
    x).precWait = s.precWait ∧ (s.setCtl k x).ecc = s.ecc ∧ (s.setCtl k x).tripin = s.tripin ∧ (s.setCtl k x).tan = s.tan ∧ (s.setCtl k
    x).therm = s.therm ∧ (s.setCtl k x).sense = s.sense ∧ (s.setCtl k x).cons = s.cons ∧ (s.setCtl k x).cans = s.cans ∧ (s.setCtl k x).avs =
    s.avs ∧ (s.setCtl k x).mclkOld = s.mclkOld := by
  simp only [State.setCtl, and_self]

/-! ### `setFb` -/

@[simp] theorem setFb_self (s : State) (k : Nat) (x : Fb) : (s.setFb k x).fbOf k = x := Tab.get_set_self _ _ _ _
@[simp] theorem setFb_other (s : State) (k j : Nat) (x : Fb) (h : j ≠ k) : (s.setFb k x).fbOf j = s.fbOf j := by
  simp only [State.setFb, State.fbOf, Tab.get_set, if_neg h]
@[simp] theorem setFb_frame (s : State) (k : Nat) (x : Fb) :
    (s.setFb k x).now = s.now ∧ (s.setFb k x).power = s.power ∧ (s.setFb k x).pending = s.pending ∧ (s.setFb k x).draws = s.draws ∧ (s.setFb
    k x).sys = s.sys ∧ (s.setFb k x).pages = s.pages ∧ (s.setFb k x).tenants = s.tenants ∧ (s.setFb k x).leases = s.leases ∧ (s.setFb k
    x).leaseQ = s.leaseQ ∧ (s.setFb k x).reserved = s.reserved ∧ (s.setFb k x).sec = s.sec ∧ (s.setFb k x).outbox = s.outbox ∧ (s.setFb k
    x).waitbox = s.waitbox ∧ (s.setFb k x).msix = s.msix ∧ (s.setFb k x).regs = s.regs ∧ (s.setFb k x).mailbox = s.mailbox ∧ (s.setFb k
    x).cfg = s.cfg ∧ (s.setFb k x).lagged = s.lagged ∧ (s.setFb k x).stor = s.stor ∧ (s.setFb k x).tel = s.tel ∧ (s.setFb k x).frz = s.frz ∧
    (s.setFb k x).parts = s.parts ∧ (s.setFb k x).cells = s.cells ∧ (s.setFb k x).regions = s.regions ∧ (s.setFb k x).bypass = s.bypass ∧
    (s.setFb k x).lanes = s.lanes ∧ (s.setFb k x).mods = s.mods ∧ (s.setFb k x).sd = s.sd ∧ (s.setFb k x).sdFlags = s.sdFlags ∧ (s.setFb k
    x).prot = s.prot ∧ (s.setFb k x).alarmLog = s.alarmLog ∧ (s.setFb k x).plant = s.plant ∧ (s.setFb k x).fab = s.fab ∧ (s.setFb k x).cycle
    = s.cycle ∧ (s.setFb k x).ctl = s.ctl ∧ (s.setFb k x).mot = s.mot ∧ (s.setFb k x).brk = s.brk ∧ (s.setFb k x).sto = s.sto ∧ (s.setFb k
    x).sdMean = s.sdMean ∧ (s.setFb k x).aux = s.aux ∧ (s.setFb k x).sag = s.sag ∧ (s.setFb k x).precWait = s.precWait ∧ (s.setFb k x).ecc =
    s.ecc ∧ (s.setFb k x).tripin = s.tripin ∧ (s.setFb k x).tan = s.tan ∧ (s.setFb k x).therm = s.therm ∧ (s.setFb k x).sense = s.sense ∧
    (s.setFb k x).cons = s.cons ∧ (s.setFb k x).cans = s.cans ∧ (s.setFb k x).avs = s.avs ∧ (s.setFb k x).mclkOld = s.mclkOld := by
  simp only [State.setFb, and_self]

/-! ### `setMot` -/

@[simp] theorem setMot_self (s : State) (k : Nat) (x : Mot) : (s.setMot k x).motOf k = x := Tab.get_set_self _ _ _ _
@[simp] theorem setMot_other (s : State) (k j : Nat) (x : Mot) (h : j ≠ k) : (s.setMot k x).motOf j = s.motOf j := by
  simp only [State.setMot, State.motOf, Tab.get_set, if_neg h]
@[simp] theorem setMot_frame (s : State) (k : Nat) (x : Mot) :
    (s.setMot k x).now = s.now ∧ (s.setMot k x).power = s.power ∧ (s.setMot k x).pending = s.pending ∧ (s.setMot k x).draws = s.draws ∧
    (s.setMot k x).sys = s.sys ∧ (s.setMot k x).pages = s.pages ∧ (s.setMot k x).tenants = s.tenants ∧ (s.setMot k x).leases = s.leases ∧
    (s.setMot k x).leaseQ = s.leaseQ ∧ (s.setMot k x).reserved = s.reserved ∧ (s.setMot k x).sec = s.sec ∧ (s.setMot k x).outbox = s.outbox
    ∧ (s.setMot k x).waitbox = s.waitbox ∧ (s.setMot k x).msix = s.msix ∧ (s.setMot k x).regs = s.regs ∧ (s.setMot k x).mailbox = s.mailbox
    ∧ (s.setMot k x).cfg = s.cfg ∧ (s.setMot k x).lagged = s.lagged ∧ (s.setMot k x).stor = s.stor ∧ (s.setMot k x).tel = s.tel ∧ (s.setMot
    k x).frz = s.frz ∧ (s.setMot k x).parts = s.parts ∧ (s.setMot k x).cells = s.cells ∧ (s.setMot k x).regions = s.regions ∧ (s.setMot k
    x).bypass = s.bypass ∧ (s.setMot k x).lanes = s.lanes ∧ (s.setMot k x).mods = s.mods ∧ (s.setMot k x).sd = s.sd ∧ (s.setMot k x).sdFlags
    = s.sdFlags ∧ (s.setMot k x).prot = s.prot ∧ (s.setMot k x).alarmLog = s.alarmLog ∧ (s.setMot k x).plant = s.plant ∧ (s.setMot k x).fab
    = s.fab ∧ (s.setMot k x).cycle = s.cycle ∧ (s.setMot k x).ctl = s.ctl ∧ (s.setMot k x).fb = s.fb ∧ (s.setMot k x).brk = s.brk ∧
    (s.setMot k x).sto = s.sto ∧ (s.setMot k x).sdMean = s.sdMean ∧ (s.setMot k x).aux = s.aux ∧ (s.setMot k x).sag = s.sag ∧ (s.setMot k
    x).precWait = s.precWait ∧ (s.setMot k x).ecc = s.ecc ∧ (s.setMot k x).tripin = s.tripin ∧ (s.setMot k x).tan = s.tan ∧ (s.setMot k
    x).therm = s.therm ∧ (s.setMot k x).sense = s.sense ∧ (s.setMot k x).cons = s.cons ∧ (s.setMot k x).cans = s.cans ∧ (s.setMot k x).avs =
    s.avs ∧ (s.setMot k x).mclkOld = s.mclkOld := by
  simp only [State.setMot, and_self]

/-! ### `setBrk` -/

@[simp] theorem setBrk_self (s : State) (k : Nat) (x : Brk) : (s.setBrk k x).brkOf k = x := Tab.get_set_self _ _ _ _
@[simp] theorem setBrk_other (s : State) (k j : Nat) (x : Brk) (h : j ≠ k) : (s.setBrk k x).brkOf j = s.brkOf j := by
  simp only [State.setBrk, State.brkOf, Tab.get_set, if_neg h]
@[simp] theorem setBrk_frame (s : State) (k : Nat) (x : Brk) :
    (s.setBrk k x).now = s.now ∧ (s.setBrk k x).power = s.power ∧ (s.setBrk k x).pending = s.pending ∧ (s.setBrk k x).draws = s.draws ∧
    (s.setBrk k x).sys = s.sys ∧ (s.setBrk k x).pages = s.pages ∧ (s.setBrk k x).tenants = s.tenants ∧ (s.setBrk k x).leases = s.leases ∧
    (s.setBrk k x).leaseQ = s.leaseQ ∧ (s.setBrk k x).reserved = s.reserved ∧ (s.setBrk k x).sec = s.sec ∧ (s.setBrk k x).outbox = s.outbox
    ∧ (s.setBrk k x).waitbox = s.waitbox ∧ (s.setBrk k x).msix = s.msix ∧ (s.setBrk k x).regs = s.regs ∧ (s.setBrk k x).mailbox = s.mailbox
    ∧ (s.setBrk k x).cfg = s.cfg ∧ (s.setBrk k x).lagged = s.lagged ∧ (s.setBrk k x).stor = s.stor ∧ (s.setBrk k x).tel = s.tel ∧ (s.setBrk
    k x).frz = s.frz ∧ (s.setBrk k x).parts = s.parts ∧ (s.setBrk k x).cells = s.cells ∧ (s.setBrk k x).regions = s.regions ∧ (s.setBrk k
    x).bypass = s.bypass ∧ (s.setBrk k x).lanes = s.lanes ∧ (s.setBrk k x).mods = s.mods ∧ (s.setBrk k x).sd = s.sd ∧ (s.setBrk k x).sdFlags
    = s.sdFlags ∧ (s.setBrk k x).prot = s.prot ∧ (s.setBrk k x).alarmLog = s.alarmLog ∧ (s.setBrk k x).plant = s.plant ∧ (s.setBrk k x).fab
    = s.fab ∧ (s.setBrk k x).cycle = s.cycle ∧ (s.setBrk k x).ctl = s.ctl ∧ (s.setBrk k x).fb = s.fb ∧ (s.setBrk k x).mot = s.mot ∧
    (s.setBrk k x).sto = s.sto ∧ (s.setBrk k x).sdMean = s.sdMean ∧ (s.setBrk k x).aux = s.aux ∧ (s.setBrk k x).sag = s.sag ∧ (s.setBrk k
    x).precWait = s.precWait ∧ (s.setBrk k x).ecc = s.ecc ∧ (s.setBrk k x).tripin = s.tripin ∧ (s.setBrk k x).tan = s.tan ∧ (s.setBrk k
    x).therm = s.therm ∧ (s.setBrk k x).sense = s.sense ∧ (s.setBrk k x).cons = s.cons ∧ (s.setBrk k x).cans = s.cans ∧ (s.setBrk k x).avs =
    s.avs ∧ (s.setBrk k x).mclkOld = s.mclkOld := by
  simp only [State.setBrk, and_self]

/-! ### `setAux` -/

@[simp] theorem setAux_self (s : State) (k : Nat) (x : Aux) : (s.setAux k x).auxOf k = x := Tab.get_set_self _ _ _ _
@[simp] theorem setAux_other (s : State) (k j : Nat) (x : Aux) (h : j ≠ k) : (s.setAux k x).auxOf j = s.auxOf j := by
  simp only [State.setAux, State.auxOf, Tab.get_set, if_neg h]
@[simp] theorem setAux_frame (s : State) (k : Nat) (x : Aux) :
    (s.setAux k x).now = s.now ∧ (s.setAux k x).power = s.power ∧ (s.setAux k x).pending = s.pending ∧ (s.setAux k x).draws = s.draws ∧
    (s.setAux k x).sys = s.sys ∧ (s.setAux k x).pages = s.pages ∧ (s.setAux k x).tenants = s.tenants ∧ (s.setAux k x).leases = s.leases ∧
    (s.setAux k x).leaseQ = s.leaseQ ∧ (s.setAux k x).reserved = s.reserved ∧ (s.setAux k x).sec = s.sec ∧ (s.setAux k x).outbox = s.outbox
    ∧ (s.setAux k x).waitbox = s.waitbox ∧ (s.setAux k x).msix = s.msix ∧ (s.setAux k x).regs = s.regs ∧ (s.setAux k x).mailbox = s.mailbox
    ∧ (s.setAux k x).cfg = s.cfg ∧ (s.setAux k x).lagged = s.lagged ∧ (s.setAux k x).stor = s.stor ∧ (s.setAux k x).tel = s.tel ∧ (s.setAux
    k x).frz = s.frz ∧ (s.setAux k x).parts = s.parts ∧ (s.setAux k x).cells = s.cells ∧ (s.setAux k x).regions = s.regions ∧ (s.setAux k
    x).bypass = s.bypass ∧ (s.setAux k x).lanes = s.lanes ∧ (s.setAux k x).mods = s.mods ∧ (s.setAux k x).sd = s.sd ∧ (s.setAux k x).sdFlags
    = s.sdFlags ∧ (s.setAux k x).prot = s.prot ∧ (s.setAux k x).alarmLog = s.alarmLog ∧ (s.setAux k x).plant = s.plant ∧ (s.setAux k x).fab
    = s.fab ∧ (s.setAux k x).cycle = s.cycle ∧ (s.setAux k x).ctl = s.ctl ∧ (s.setAux k x).fb = s.fb ∧ (s.setAux k x).mot = s.mot ∧
    (s.setAux k x).brk = s.brk ∧ (s.setAux k x).sto = s.sto ∧ (s.setAux k x).sdMean = s.sdMean ∧ (s.setAux k x).sag = s.sag ∧ (s.setAux k
    x).precWait = s.precWait ∧ (s.setAux k x).ecc = s.ecc ∧ (s.setAux k x).tripin = s.tripin ∧ (s.setAux k x).tan = s.tan ∧ (s.setAux k
    x).therm = s.therm ∧ (s.setAux k x).sense = s.sense ∧ (s.setAux k x).cons = s.cons ∧ (s.setAux k x).cans = s.cans ∧ (s.setAux k x).avs =
    s.avs ∧ (s.setAux k x).mclkOld = s.mclkOld := by
  simp only [State.setAux, and_self]

/-! ### `setSto` -/

@[simp] theorem setSto_self (s : State) (k : Nat) (x : Sto) : (s.setSto k x).stoOf k = x := Tab.get_set_self _ _ _ _
@[simp] theorem setSto_other (s : State) (k j : Nat) (x : Sto) (h : j ≠ k) : (s.setSto k x).stoOf j = s.stoOf j := by
  simp only [State.setSto, State.stoOf, Tab.get_set, if_neg h]
@[simp] theorem setSto_frame (s : State) (k : Nat) (x : Sto) :
    (s.setSto k x).now = s.now ∧ (s.setSto k x).power = s.power ∧ (s.setSto k x).pending = s.pending ∧ (s.setSto k x).draws = s.draws ∧
    (s.setSto k x).sys = s.sys ∧ (s.setSto k x).pages = s.pages ∧ (s.setSto k x).tenants = s.tenants ∧ (s.setSto k x).leases = s.leases ∧
    (s.setSto k x).leaseQ = s.leaseQ ∧ (s.setSto k x).reserved = s.reserved ∧ (s.setSto k x).sec = s.sec ∧ (s.setSto k x).outbox = s.outbox
    ∧ (s.setSto k x).waitbox = s.waitbox ∧ (s.setSto k x).msix = s.msix ∧ (s.setSto k x).regs = s.regs ∧ (s.setSto k x).mailbox = s.mailbox
    ∧ (s.setSto k x).cfg = s.cfg ∧ (s.setSto k x).lagged = s.lagged ∧ (s.setSto k x).stor = s.stor ∧ (s.setSto k x).tel = s.tel ∧ (s.setSto
    k x).frz = s.frz ∧ (s.setSto k x).parts = s.parts ∧ (s.setSto k x).cells = s.cells ∧ (s.setSto k x).regions = s.regions ∧ (s.setSto k
    x).bypass = s.bypass ∧ (s.setSto k x).lanes = s.lanes ∧ (s.setSto k x).mods = s.mods ∧ (s.setSto k x).sd = s.sd ∧ (s.setSto k x).sdFlags
    = s.sdFlags ∧ (s.setSto k x).prot = s.prot ∧ (s.setSto k x).alarmLog = s.alarmLog ∧ (s.setSto k x).plant = s.plant ∧ (s.setSto k x).fab
    = s.fab ∧ (s.setSto k x).cycle = s.cycle ∧ (s.setSto k x).ctl = s.ctl ∧ (s.setSto k x).fb = s.fb ∧ (s.setSto k x).mot = s.mot ∧
    (s.setSto k x).brk = s.brk ∧ (s.setSto k x).sdMean = s.sdMean ∧ (s.setSto k x).aux = s.aux ∧ (s.setSto k x).sag = s.sag ∧ (s.setSto k
    x).precWait = s.precWait ∧ (s.setSto k x).ecc = s.ecc ∧ (s.setSto k x).tripin = s.tripin ∧ (s.setSto k x).tan = s.tan ∧ (s.setSto k
    x).therm = s.therm ∧ (s.setSto k x).sense = s.sense ∧ (s.setSto k x).cons = s.cons ∧ (s.setSto k x).cans = s.cans ∧ (s.setSto k x).avs =
    s.avs ∧ (s.setSto k x).mclkOld = s.mclkOld := by
  simp only [State.setSto, and_self]

/-! ### `setCan` -/

@[simp] theorem setCan_self (s : State) (k : Nat) (x : Can) : (s.setCan k x).can k = x := Tab.get_set_self _ _ _ _
@[simp] theorem setCan_other (s : State) (k j : Nat) (x : Can) (h : j ≠ k) : (s.setCan k x).can j = s.can j := by
  simp only [State.setCan, State.can, Tab.get_set, if_neg h]
@[simp] theorem setCan_frame (s : State) (k : Nat) (x : Can) :
    (s.setCan k x).now = s.now ∧ (s.setCan k x).power = s.power ∧ (s.setCan k x).pending = s.pending ∧ (s.setCan k x).draws = s.draws ∧
    (s.setCan k x).sys = s.sys ∧ (s.setCan k x).pages = s.pages ∧ (s.setCan k x).tenants = s.tenants ∧ (s.setCan k x).leases = s.leases ∧
    (s.setCan k x).leaseQ = s.leaseQ ∧ (s.setCan k x).reserved = s.reserved ∧ (s.setCan k x).sec = s.sec ∧ (s.setCan k x).outbox = s.outbox
    ∧ (s.setCan k x).waitbox = s.waitbox ∧ (s.setCan k x).msix = s.msix ∧ (s.setCan k x).regs = s.regs ∧ (s.setCan k x).mailbox = s.mailbox
    ∧ (s.setCan k x).cfg = s.cfg ∧ (s.setCan k x).lagged = s.lagged ∧ (s.setCan k x).stor = s.stor ∧ (s.setCan k x).tel = s.tel ∧ (s.setCan
    k x).frz = s.frz ∧ (s.setCan k x).parts = s.parts ∧ (s.setCan k x).cells = s.cells ∧ (s.setCan k x).regions = s.regions ∧ (s.setCan k
    x).bypass = s.bypass ∧ (s.setCan k x).lanes = s.lanes ∧ (s.setCan k x).mods = s.mods ∧ (s.setCan k x).sd = s.sd ∧ (s.setCan k x).sdFlags
    = s.sdFlags ∧ (s.setCan k x).prot = s.prot ∧ (s.setCan k x).alarmLog = s.alarmLog ∧ (s.setCan k x).plant = s.plant ∧ (s.setCan k x).fab
    = s.fab ∧ (s.setCan k x).cycle = s.cycle ∧ (s.setCan k x).ctl = s.ctl ∧ (s.setCan k x).fb = s.fb ∧ (s.setCan k x).mot = s.mot ∧
    (s.setCan k x).brk = s.brk ∧ (s.setCan k x).sto = s.sto ∧ (s.setCan k x).sdMean = s.sdMean ∧ (s.setCan k x).aux = s.aux ∧ (s.setCan k
    x).sag = s.sag ∧ (s.setCan k x).precWait = s.precWait ∧ (s.setCan k x).ecc = s.ecc ∧ (s.setCan k x).tripin = s.tripin ∧ (s.setCan k
    x).tan = s.tan ∧ (s.setCan k x).therm = s.therm ∧ (s.setCan k x).sense = s.sense ∧ (s.setCan k x).cons = s.cons ∧ (s.setCan k x).avs =
    s.avs ∧ (s.setCan k x).mclkOld = s.mclkOld := by
  simp only [State.setCan, and_self]

/-! ### `setCons` -/

@[simp] theorem setCons_self (s : State) (k : Nat) (x : Cons) : (s.setCons k x).consOf k = x := Tab.get_set_self _ _ _ _
@[simp] theorem setCons_other (s : State) (k j : Nat) (x : Cons) (h : j ≠ k) : (s.setCons k x).consOf j = s.consOf j := by
  simp only [State.setCons, State.consOf, Tab.get_set, if_neg h]
@[simp] theorem setCons_frame (s : State) (k : Nat) (x : Cons) :
    (s.setCons k x).now = s.now ∧ (s.setCons k x).power = s.power ∧ (s.setCons k x).pending = s.pending ∧ (s.setCons k x).draws = s.draws ∧
    (s.setCons k x).sys = s.sys ∧ (s.setCons k x).pages = s.pages ∧ (s.setCons k x).tenants = s.tenants ∧ (s.setCons k x).leases = s.leases
    ∧ (s.setCons k x).leaseQ = s.leaseQ ∧ (s.setCons k x).reserved = s.reserved ∧ (s.setCons k x).sec = s.sec ∧ (s.setCons k x).outbox =
    s.outbox ∧ (s.setCons k x).waitbox = s.waitbox ∧ (s.setCons k x).msix = s.msix ∧ (s.setCons k x).regs = s.regs ∧ (s.setCons k x).mailbox
    = s.mailbox ∧ (s.setCons k x).cfg = s.cfg ∧ (s.setCons k x).lagged = s.lagged ∧ (s.setCons k x).stor = s.stor ∧ (s.setCons k x).tel =
    s.tel ∧ (s.setCons k x).frz = s.frz ∧ (s.setCons k x).parts = s.parts ∧ (s.setCons k x).cells = s.cells ∧ (s.setCons k x).regions =
    s.regions ∧ (s.setCons k x).bypass = s.bypass ∧ (s.setCons k x).lanes = s.lanes ∧ (s.setCons k x).mods = s.mods ∧ (s.setCons k x).sd =
    s.sd ∧ (s.setCons k x).sdFlags = s.sdFlags ∧ (s.setCons k x).prot = s.prot ∧ (s.setCons k x).alarmLog = s.alarmLog ∧ (s.setCons k
    x).plant = s.plant ∧ (s.setCons k x).fab = s.fab ∧ (s.setCons k x).cycle = s.cycle ∧ (s.setCons k x).ctl = s.ctl ∧ (s.setCons k x).fb =
    s.fb ∧ (s.setCons k x).mot = s.mot ∧ (s.setCons k x).brk = s.brk ∧ (s.setCons k x).sto = s.sto ∧ (s.setCons k x).sdMean = s.sdMean ∧
    (s.setCons k x).aux = s.aux ∧ (s.setCons k x).sag = s.sag ∧ (s.setCons k x).precWait = s.precWait ∧ (s.setCons k x).ecc = s.ecc ∧
    (s.setCons k x).tripin = s.tripin ∧ (s.setCons k x).tan = s.tan ∧ (s.setCons k x).therm = s.therm ∧ (s.setCons k x).sense = s.sense ∧
    (s.setCons k x).cans = s.cans ∧ (s.setCons k x).avs = s.avs ∧ (s.setCons k x).mclkOld = s.mclkOld := by
  simp only [State.setCons, and_self]

/-! ### `setTherm` -/

@[simp] theorem setTherm_self (s : State) (k : Nat) (x : Therm) : (s.setTherm k x).thermOf k = x := Tab.get_set_self _ _ _ _
@[simp] theorem setTherm_other (s : State) (k j : Nat) (x : Therm) (h : j ≠ k) : (s.setTherm k x).thermOf j = s.thermOf j := by
  simp only [State.setTherm, State.thermOf, Tab.get_set, if_neg h]
@[simp] theorem setTherm_frame (s : State) (k : Nat) (x : Therm) :
    (s.setTherm k x).now = s.now ∧ (s.setTherm k x).power = s.power ∧ (s.setTherm k x).pending = s.pending ∧ (s.setTherm k x).draws =
    s.draws ∧ (s.setTherm k x).sys = s.sys ∧ (s.setTherm k x).pages = s.pages ∧ (s.setTherm k x).tenants = s.tenants ∧ (s.setTherm k
    x).leases = s.leases ∧ (s.setTherm k x).leaseQ = s.leaseQ ∧ (s.setTherm k x).reserved = s.reserved ∧ (s.setTherm k x).sec = s.sec ∧
    (s.setTherm k x).outbox = s.outbox ∧ (s.setTherm k x).waitbox = s.waitbox ∧ (s.setTherm k x).msix = s.msix ∧ (s.setTherm k x).regs =
    s.regs ∧ (s.setTherm k x).mailbox = s.mailbox ∧ (s.setTherm k x).cfg = s.cfg ∧ (s.setTherm k x).lagged = s.lagged ∧ (s.setTherm k
    x).stor = s.stor ∧ (s.setTherm k x).tel = s.tel ∧ (s.setTherm k x).frz = s.frz ∧ (s.setTherm k x).parts = s.parts ∧ (s.setTherm k
    x).cells = s.cells ∧ (s.setTherm k x).regions = s.regions ∧ (s.setTherm k x).bypass = s.bypass ∧ (s.setTherm k x).lanes = s.lanes ∧
    (s.setTherm k x).mods = s.mods ∧ (s.setTherm k x).sd = s.sd ∧ (s.setTherm k x).sdFlags = s.sdFlags ∧ (s.setTherm k x).prot = s.prot ∧
    (s.setTherm k x).alarmLog = s.alarmLog ∧ (s.setTherm k x).plant = s.plant ∧ (s.setTherm k x).fab = s.fab ∧ (s.setTherm k x).cycle =
    s.cycle ∧ (s.setTherm k x).ctl = s.ctl ∧ (s.setTherm k x).fb = s.fb ∧ (s.setTherm k x).mot = s.mot ∧ (s.setTherm k x).brk = s.brk ∧
    (s.setTherm k x).sto = s.sto ∧ (s.setTherm k x).sdMean = s.sdMean ∧ (s.setTherm k x).aux = s.aux ∧ (s.setTherm k x).sag = s.sag ∧
    (s.setTherm k x).precWait = s.precWait ∧ (s.setTherm k x).ecc = s.ecc ∧ (s.setTherm k x).tripin = s.tripin ∧ (s.setTherm k x).tan =
    s.tan ∧ (s.setTherm k x).sense = s.sense ∧ (s.setTherm k x).cons = s.cons ∧ (s.setTherm k x).cans = s.cans ∧ (s.setTherm k x).avs =
    s.avs ∧ (s.setTherm k x).mclkOld = s.mclkOld := by
  simp only [State.setTherm, and_self]

/-! ### `setTan` -/

@[simp] theorem setTan_self (s : State) (k : Nat) (x : Tan) : (s.setTan k x).tanOf k = x := Tab.get_set_self _ _ _ _
@[simp] theorem setTan_other (s : State) (k j : Nat) (x : Tan) (h : j ≠ k) : (s.setTan k x).tanOf j = s.tanOf j := by
  simp only [State.setTan, State.tanOf, Tab.get_set, if_neg h]
@[simp] theorem setTan_frame (s : State) (k : Nat) (x : Tan) :
    (s.setTan k x).now = s.now ∧ (s.setTan k x).power = s.power ∧ (s.setTan k x).pending = s.pending ∧ (s.setTan k x).draws = s.draws ∧
    (s.setTan k x).sys = s.sys ∧ (s.setTan k x).pages = s.pages ∧ (s.setTan k x).tenants = s.tenants ∧ (s.setTan k x).leases = s.leases ∧
    (s.setTan k x).leaseQ = s.leaseQ ∧ (s.setTan k x).reserved = s.reserved ∧ (s.setTan k x).sec = s.sec ∧ (s.setTan k x).outbox = s.outbox
    ∧ (s.setTan k x).waitbox = s.waitbox ∧ (s.setTan k x).msix = s.msix ∧ (s.setTan k x).regs = s.regs ∧ (s.setTan k x).mailbox = s.mailbox
    ∧ (s.setTan k x).cfg = s.cfg ∧ (s.setTan k x).lagged = s.lagged ∧ (s.setTan k x).stor = s.stor ∧ (s.setTan k x).tel = s.tel ∧ (s.setTan
    k x).frz = s.frz ∧ (s.setTan k x).parts = s.parts ∧ (s.setTan k x).cells = s.cells ∧ (s.setTan k x).regions = s.regions ∧ (s.setTan k
    x).bypass = s.bypass ∧ (s.setTan k x).lanes = s.lanes ∧ (s.setTan k x).mods = s.mods ∧ (s.setTan k x).sd = s.sd ∧ (s.setTan k x).sdFlags
    = s.sdFlags ∧ (s.setTan k x).prot = s.prot ∧ (s.setTan k x).alarmLog = s.alarmLog ∧ (s.setTan k x).plant = s.plant ∧ (s.setTan k x).fab
    = s.fab ∧ (s.setTan k x).cycle = s.cycle ∧ (s.setTan k x).ctl = s.ctl ∧ (s.setTan k x).fb = s.fb ∧ (s.setTan k x).mot = s.mot ∧
    (s.setTan k x).brk = s.brk ∧ (s.setTan k x).sto = s.sto ∧ (s.setTan k x).sdMean = s.sdMean ∧ (s.setTan k x).aux = s.aux ∧ (s.setTan k
    x).sag = s.sag ∧ (s.setTan k x).precWait = s.precWait ∧ (s.setTan k x).ecc = s.ecc ∧ (s.setTan k x).tripin = s.tripin ∧ (s.setTan k
    x).therm = s.therm ∧ (s.setTan k x).sense = s.sense ∧ (s.setTan k x).cons = s.cons ∧ (s.setTan k x).cans = s.cans ∧ (s.setTan k x).avs =
    s.avs ∧ (s.setTan k x).mclkOld = s.mclkOld := by
  simp only [State.setTan, and_self]

/-! ### `setStor` -/

@[simp] theorem setStor_self (s : State) (x : Stor) : (s.setStor x).stor = x := rfl
@[simp] theorem setStor_frame (s : State) (x : Stor) :
    (s.setStor x).now = s.now ∧ (s.setStor x).power = s.power ∧ (s.setStor x).pending = s.pending ∧ (s.setStor x).draws = s.draws ∧
    (s.setStor x).sys = s.sys ∧ (s.setStor x).pages = s.pages ∧ (s.setStor x).tenants = s.tenants ∧ (s.setStor x).leases = s.leases ∧
    (s.setStor x).leaseQ = s.leaseQ ∧ (s.setStor x).reserved = s.reserved ∧ (s.setStor x).sec = s.sec ∧ (s.setStor x).outbox = s.outbox ∧
    (s.setStor x).waitbox = s.waitbox ∧ (s.setStor x).msix = s.msix ∧ (s.setStor x).regs = s.regs ∧ (s.setStor x).mailbox = s.mailbox ∧
    (s.setStor x).cfg = s.cfg ∧ (s.setStor x).lagged = s.lagged ∧ (s.setStor x).tel = s.tel ∧ (s.setStor x).frz = s.frz ∧ (s.setStor
    x).parts = s.parts ∧ (s.setStor x).cells = s.cells ∧ (s.setStor x).regions = s.regions ∧ (s.setStor x).bypass = s.bypass ∧ (s.setStor
    x).lanes = s.lanes ∧ (s.setStor x).mods = s.mods ∧ (s.setStor x).sd = s.sd ∧ (s.setStor x).sdFlags = s.sdFlags ∧ (s.setStor x).prot =
    s.prot ∧ (s.setStor x).alarmLog = s.alarmLog ∧ (s.setStor x).plant = s.plant ∧ (s.setStor x).fab = s.fab ∧ (s.setStor x).cycle = s.cycle
    ∧ (s.setStor x).ctl = s.ctl ∧ (s.setStor x).fb = s.fb ∧ (s.setStor x).mot = s.mot ∧ (s.setStor x).brk = s.brk ∧ (s.setStor x).sto =
    s.sto ∧ (s.setStor x).sdMean = s.sdMean ∧ (s.setStor x).aux = s.aux ∧ (s.setStor x).sag = s.sag ∧ (s.setStor x).precWait = s.precWait ∧
    (s.setStor x).ecc = s.ecc ∧ (s.setStor x).tripin = s.tripin ∧ (s.setStor x).tan = s.tan ∧ (s.setStor x).therm = s.therm ∧ (s.setStor
    x).sense = s.sense ∧ (s.setStor x).cons = s.cons ∧ (s.setStor x).cans = s.cans ∧ (s.setStor x).avs = s.avs ∧ (s.setStor x).mclkOld =
    s.mclkOld := by
  simp only [State.setStor, and_self]

/-! ### `setMedium` -/

@[simp] theorem setMedium_self (s : State) (x : Medium) : (s.setMedium x).stor.medium = x := rfl
@[simp] theorem setMedium_frame (s : State) (x : Medium) :
    (s.setMedium x).now = s.now ∧ (s.setMedium x).power = s.power ∧ (s.setMedium x).pending = s.pending ∧ (s.setMedium x).draws = s.draws ∧
    (s.setMedium x).sys = s.sys ∧ (s.setMedium x).pages = s.pages ∧ (s.setMedium x).tenants = s.tenants ∧ (s.setMedium x).leases = s.leases
    ∧ (s.setMedium x).leaseQ = s.leaseQ ∧ (s.setMedium x).reserved = s.reserved ∧ (s.setMedium x).sec = s.sec ∧ (s.setMedium x).outbox =
    s.outbox ∧ (s.setMedium x).waitbox = s.waitbox ∧ (s.setMedium x).msix = s.msix ∧ (s.setMedium x).regs = s.regs ∧ (s.setMedium x).mailbox
    = s.mailbox ∧ (s.setMedium x).cfg = s.cfg ∧ (s.setMedium x).lagged = s.lagged ∧ (s.setMedium x).tel = s.tel ∧ (s.setMedium x).frz =
    s.frz ∧ (s.setMedium x).parts = s.parts ∧ (s.setMedium x).cells = s.cells ∧ (s.setMedium x).regions = s.regions ∧ (s.setMedium x).bypass
    = s.bypass ∧ (s.setMedium x).lanes = s.lanes ∧ (s.setMedium x).mods = s.mods ∧ (s.setMedium x).sd = s.sd ∧ (s.setMedium x).sdFlags =
    s.sdFlags ∧ (s.setMedium x).prot = s.prot ∧ (s.setMedium x).alarmLog = s.alarmLog ∧ (s.setMedium x).plant = s.plant ∧ (s.setMedium
    x).fab = s.fab ∧ (s.setMedium x).cycle = s.cycle ∧ (s.setMedium x).ctl = s.ctl ∧ (s.setMedium x).fb = s.fb ∧ (s.setMedium x).mot = s.mot
    ∧ (s.setMedium x).brk = s.brk ∧ (s.setMedium x).sto = s.sto ∧ (s.setMedium x).sdMean = s.sdMean ∧ (s.setMedium x).aux = s.aux ∧
    (s.setMedium x).sag = s.sag ∧ (s.setMedium x).precWait = s.precWait ∧ (s.setMedium x).ecc = s.ecc ∧ (s.setMedium x).tripin = s.tripin ∧
    (s.setMedium x).tan = s.tan ∧ (s.setMedium x).therm = s.therm ∧ (s.setMedium x).sense = s.sense ∧ (s.setMedium x).cons = s.cons ∧
    (s.setMedium x).cans = s.cans ∧ (s.setMedium x).avs = s.avs ∧ (s.setMedium x).mclkOld = s.mclkOld := by
  simp only [State.setMedium, and_self]

/-! ### `setPlant` -/

@[simp] theorem setPlant_self (s : State) (x : Plant) : (s.setPlant x).plant = x := rfl
@[simp] theorem setPlant_frame (s : State) (x : Plant) :
    (s.setPlant x).now = s.now ∧ (s.setPlant x).power = s.power ∧ (s.setPlant x).pending = s.pending ∧ (s.setPlant x).draws = s.draws ∧
    (s.setPlant x).sys = s.sys ∧ (s.setPlant x).pages = s.pages ∧ (s.setPlant x).tenants = s.tenants ∧ (s.setPlant x).leases = s.leases ∧
    (s.setPlant x).leaseQ = s.leaseQ ∧ (s.setPlant x).reserved = s.reserved ∧ (s.setPlant x).sec = s.sec ∧ (s.setPlant x).outbox = s.outbox
    ∧ (s.setPlant x).waitbox = s.waitbox ∧ (s.setPlant x).msix = s.msix ∧ (s.setPlant x).regs = s.regs ∧ (s.setPlant x).mailbox = s.mailbox
    ∧ (s.setPlant x).cfg = s.cfg ∧ (s.setPlant x).lagged = s.lagged ∧ (s.setPlant x).stor = s.stor ∧ (s.setPlant x).tel = s.tel ∧
    (s.setPlant x).frz = s.frz ∧ (s.setPlant x).parts = s.parts ∧ (s.setPlant x).cells = s.cells ∧ (s.setPlant x).regions = s.regions ∧
    (s.setPlant x).bypass = s.bypass ∧ (s.setPlant x).lanes = s.lanes ∧ (s.setPlant x).mods = s.mods ∧ (s.setPlant x).sd = s.sd ∧
    (s.setPlant x).sdFlags = s.sdFlags ∧ (s.setPlant x).prot = s.prot ∧ (s.setPlant x).alarmLog = s.alarmLog ∧ (s.setPlant x).fab = s.fab ∧
    (s.setPlant x).cycle = s.cycle ∧ (s.setPlant x).ctl = s.ctl ∧ (s.setPlant x).fb = s.fb ∧ (s.setPlant x).mot = s.mot ∧ (s.setPlant x).brk
    = s.brk ∧ (s.setPlant x).sto = s.sto ∧ (s.setPlant x).sdMean = s.sdMean ∧ (s.setPlant x).aux = s.aux ∧ (s.setPlant x).sag = s.sag ∧
    (s.setPlant x).precWait = s.precWait ∧ (s.setPlant x).ecc = s.ecc ∧ (s.setPlant x).tripin = s.tripin ∧ (s.setPlant x).tan = s.tan ∧
    (s.setPlant x).therm = s.therm ∧ (s.setPlant x).sense = s.sense ∧ (s.setPlant x).cons = s.cons ∧ (s.setPlant x).cans = s.cans ∧
    (s.setPlant x).avs = s.avs ∧ (s.setPlant x).mclkOld = s.mclkOld := by
  simp only [State.setPlant, and_self]

/-! ### `setBox` -/

@[simp] theorem setBox_self (s : State) (x : Mailbox) : (s.setBox x).mailbox = x := rfl
@[simp] theorem setBox_frame (s : State) (x : Mailbox) :
    (s.setBox x).now = s.now ∧ (s.setBox x).power = s.power ∧ (s.setBox x).pending = s.pending ∧ (s.setBox x).draws = s.draws ∧ (s.setBox
    x).sys = s.sys ∧ (s.setBox x).pages = s.pages ∧ (s.setBox x).tenants = s.tenants ∧ (s.setBox x).leases = s.leases ∧ (s.setBox x).leaseQ
    = s.leaseQ ∧ (s.setBox x).reserved = s.reserved ∧ (s.setBox x).sec = s.sec ∧ (s.setBox x).outbox = s.outbox ∧ (s.setBox x).waitbox =
    s.waitbox ∧ (s.setBox x).msix = s.msix ∧ (s.setBox x).regs = s.regs ∧ (s.setBox x).cfg = s.cfg ∧ (s.setBox x).lagged = s.lagged ∧
    (s.setBox x).stor = s.stor ∧ (s.setBox x).tel = s.tel ∧ (s.setBox x).frz = s.frz ∧ (s.setBox x).parts = s.parts ∧ (s.setBox x).cells =
    s.cells ∧ (s.setBox x).regions = s.regions ∧ (s.setBox x).bypass = s.bypass ∧ (s.setBox x).lanes = s.lanes ∧ (s.setBox x).mods = s.mods
    ∧ (s.setBox x).sd = s.sd ∧ (s.setBox x).sdFlags = s.sdFlags ∧ (s.setBox x).prot = s.prot ∧ (s.setBox x).alarmLog = s.alarmLog ∧
    (s.setBox x).plant = s.plant ∧ (s.setBox x).fab = s.fab ∧ (s.setBox x).cycle = s.cycle ∧ (s.setBox x).ctl = s.ctl ∧ (s.setBox x).fb =
    s.fb ∧ (s.setBox x).mot = s.mot ∧ (s.setBox x).brk = s.brk ∧ (s.setBox x).sto = s.sto ∧ (s.setBox x).sdMean = s.sdMean ∧ (s.setBox
    x).aux = s.aux ∧ (s.setBox x).sag = s.sag ∧ (s.setBox x).precWait = s.precWait ∧ (s.setBox x).ecc = s.ecc ∧ (s.setBox x).tripin =
    s.tripin ∧ (s.setBox x).tan = s.tan ∧ (s.setBox x).therm = s.therm ∧ (s.setBox x).sense = s.sense ∧ (s.setBox x).cons = s.cons ∧
    (s.setBox x).cans = s.cans ∧ (s.setBox x).avs = s.avs ∧ (s.setBox x).mclkOld = s.mclkOld := by
  simp only [State.setBox, and_self]

/-! ### Device time -/

theorem at_frame (s : State) (t : Time) :
    (s.at t).power = s.power ∧ (s.at t).pending = s.pending ∧ (s.at t).draws = s.draws ∧ (s.at t).sys = s.sys ∧ (s.at t).pages = s.pages ∧
    (s.at t).tenants = s.tenants ∧ (s.at t).leases = s.leases ∧ (s.at t).leaseQ = s.leaseQ ∧ (s.at t).reserved = s.reserved ∧ (s.at t).sec =
    s.sec ∧ (s.at t).outbox = s.outbox ∧ (s.at t).waitbox = s.waitbox ∧ (s.at t).msix = s.msix ∧ (s.at t).regs = s.regs ∧ (s.at t).mailbox =
    s.mailbox ∧ (s.at t).cfg = s.cfg ∧ (s.at t).lagged = s.lagged ∧ (s.at t).stor = s.stor ∧ (s.at t).tel = s.tel ∧ (s.at t).frz = s.frz ∧
    (s.at t).parts = s.parts ∧ (s.at t).cells = s.cells ∧ (s.at t).regions = s.regions ∧ (s.at t).bypass = s.bypass ∧ (s.at t).lanes =
    s.lanes ∧ (s.at t).mods = s.mods ∧ (s.at t).sd = s.sd ∧ (s.at t).sdFlags = s.sdFlags ∧ (s.at t).prot = s.prot ∧ (s.at t).alarmLog =
    s.alarmLog ∧ (s.at t).plant = s.plant ∧ (s.at t).fab = s.fab ∧ (s.at t).cycle = s.cycle ∧ (s.at t).ctl = s.ctl ∧ (s.at t).fb = s.fb ∧
    (s.at t).mot = s.mot ∧ (s.at t).brk = s.brk ∧ (s.at t).sto = s.sto ∧ (s.at t).sdMean = s.sdMean ∧ (s.at t).aux = s.aux ∧ (s.at t).sag =
    s.sag ∧ (s.at t).precWait = s.precWait ∧ (s.at t).ecc = s.ecc ∧ (s.at t).tripin = s.tripin ∧ (s.at t).tan = s.tan ∧ (s.at t).therm =
    s.therm ∧ (s.at t).sense = s.sense ∧ (s.at t).cons = s.cons ∧ (s.at t).cans = s.cans ∧ (s.at t).avs = s.avs ∧ (s.at t).mclkOld =
    s.mclkOld := by
  unfold State.at
  split <;> simp only [and_self]

end Sys2Proof.Machine
end

