-- ==== Sys2Proof/Tests/Slice0.lean ====
section
/-!
SUPPORT. Own tests: for every statement that has hypotheses a state and operands that meet them, clause by clause; an ill-formed
command for each check of WellFormed; a few worked examples of the manual.
-/
namespace Sys2Proof.Tests

set_option Elab.async false
open Sys2Proof Sys2Proof.Machine

/-! ### Builders -/

/-- Byte string b with the n low bytes of v put at offset k. -/
def put (b : List Byte) (k n v : Nat) : List Byte := b.take k ++ leBytes n v ++ b.drop (k + n)

/-- A value that a field may hold: its default where that lies in range, else the least one. -/
def pick (f : Fld) : Nat :=
  match f.rng with
  | .nat lo hi => if (lo : Q) ≤ f.dflt ∧ f.dflt ≤ (hi : Q) then f.dflt.num.toNat else lo
  | .oneOf l => if l.contains f.dflt.num.toNat then f.dflt.num.toNat else l.headD 0
  | .mask _ => 0
  | .bits _ _ => if (f.dflt.num.toNat) = 0 then 1 else f.dflt.num.toNat
  | .any => if f.ty = .f32 then f32Code f.dflt else f.dflt.num.toNat
  | .int _ _ => 0
  | .q lo hi => f32Code (f32Near (if lo ≤ f.dflt ∧ f.dflt ≤ hi then f.dflt else lo))
  | .zq lo hi => f32Code (f32Near (if lo ≤ f.dflt ∧ f.dflt ≤ hi then f.dflt else 0))
  | .over lo => f32Code (lo + 1)
  | .atLeast lo => f32Code ((if lo ≤ f.dflt then f.dflt else lo).ceil : Q)

/-- A payload whose fields all lie in range. -/
def fill (lay : List Fld) : List Byte := lay.foldl (fun b f => put b (f.off - 16) f.ty.size (pick f)) (zeros 48)

/-- A descriptor of T0 in its first submission ring. -/
def blank : Desc :=
  { page := 0, series := 0, seq := 0, flags := 0, target := 0, tenant := 0, epoch := 1, buffer := 0xFFFFFFFF, payload := zeros 48,
    host := [], dmaOk := true, t := 0 }

/-- The chip runs; T0 has its first ring on and holds every partition. -/
def live : State :=
  { State.reset with
    power := .running
    pages := [(0, { rings := [(0, { enable := true })] })]
    leases := (List.range 8).map fun p => (p, { holder := some 0 }) }

/-- A descriptor of an opcode for a target: every field in range, and the fields listed (offset, bytes, value) as given. -/
def say (mk : Desc → Instr) (target : Nat) (l : List (Nat × Nat × Nat)) : Desc :=
  let lay := match live.orderOf (mk blank) with
    | some o => o.info.lay
    | none => []
  { blank with target := target, payload := l.foldl (fun b e => put b (e.1 - 16) e.2.1 e.2.2) (fill lay) }

/-- The command is a descriptor that the state takes. -/
def takesIt (s : State) (i : Instr) : Bool :=
  match s.orderOf i with
  | some o => s.takes o
  | none => false

/-- The state once the command's descriptor is accepted. -/
def after (s : State) (i : Instr) : State :=
  match s.orderOf i with
  | some o => s.taken o
  | none => s

theorem taken {s : State} {i : Instr} (h : takesIt s i = true) : Taken i s (after s i) := by
  unfold takesIt at h
  unfold after
  cases ho : s.orderOf i with
  | none => rw [ho] at h; cases h
  | some o => rw [ho] at h; exact ⟨o, ho, h, rfl⟩

/-- A partition's state set. -/
def inSt (s : State) (p : Nat) (st : PState) : State := s.setPart p { s.part p with st := st }

/-- A configuration descriptor stored. -/
def give (s : State) (mk : Desc → Instr) (target : Nat) (l : List (Nat × Nat × Nat)) : State :=
  match s.orderOf (mk blank) with
  | some o => s.withStored o.info.op (say mk target l) 0
  | none => s

/-- P0 follows P1 in a tandem of two. -/
def follower : State :=
  let s := give (inSt live 0 .ready) .tandemConfig 0 [(16, 1, 2), (22, 1, 1), (24, 4, 1065353216), (30, 1, 0), (32, 4, 1065353216)]
  s.setTan 0 { s.tanOf 0 with master := some 0 }

/-- A capture of P0 in capture memory. -/
def aCapture : Capture :=
  { record := 1, part := 0, priority := 0, cause := 0, t := 0, length := 32, code := 0, rate := 0, rep := 0, mask := 0, pages := 1, samples := [] }

/-- The chip with a medium. -/
def stocked : State := live.setStor { live.stor with state := 2, captures := [aCapture], geom := 409600 }

/-- A configuration descriptor stored with its buffer. -/
def giveHost (s : State) (mk : Desc → Instr) (target : Nat) (l : List (Nat × Nat × Nat)) (h : List Byte) : State :=
  match s.orderOf (mk blank) with
  | some o => s.withStored o.info.op { say mk target l with host := h } 0
  | none => s

def aRequest : LeaseReq := { tenant := 1, series := 0, seq := 0, parts := 1, buffer := 0, began := 0, timeout := 0 }

/-- Tenant 1 waits for P0. -/
def wanted : State := { live with leaseQ := [aRequest], tenants := [(0, Tenant.owner), (1, { active := true, role := 1, cmdParts := 255 })] }

def aCoal : Coal := { src := 0, code := 0, cls := 4, ends := 1, count := 1, data := [], time := 0 }
def aShed : Shed := { cls := 4, path := 0, count := 1, first := 0, last := 0, open_ := false }
def aFrame : List Byte := zeros 30 ++ leBytes 2 (crc16 (zeros 30))
/-- A trained lane of P0. -/
def framed : State := (live.setCell 5 { used := true }).setLane 5 { lstate := 4 }

def aMirror : Mirror :=
  { part := 0, st := 1, pEpoch := 0, cells := [], ctl := {}, mot := {}, refs := [], holder := 0xFFFF, epoch := 1, cons := none, idents := []
    digest := ({ give live .standbyConfig 0xFFFF [(16, 1, 2), (18, 2, 1), (20, 1, 1)] with fab := { role := 2 } } : State).confDigest 0 }
def anEmptyFrame : List Byte := zeros 24 ++ leBytes 4 (crc32 (zeros 24))
def anAudit : Audit := { num := 0, time := 0, tenant := 0, op := 0, target := 0, status := 0, detail := [], chain := [] }
/-- An input that is on and clocked. -/
def clocked : State := (live.setRegWord 0xD004 0 1).setRegWord 0x0C10 0 50


/-- π lies above 3, whatever its tail is. -/
theorem three_lt_pi : (3 : Q) < Config.pi := by
  unfold Config.pi
  have h : (0 : Q) ≤ (Config.piTail.val : Q) / 10 ^ 33 := by positivity
  linarith

/-- A drum of one layer, 1 m and ten turns, holds 1 m of rope. -/
theorem drum_one {g r : Q} {l : List (Q × Q)} (hg : g = 1) (hr : r = 1) (hl : l = [(1, 10)]) : drumStatus g r l = 0 := by
  subst hg hr hl
  have h := three_lt_pi
  have a : ¬ (¬ (1 : Q) ≤ absQ 1 ∨ [((1 : Q), (10 : Q))].any (fun e => decide (e.1 < f32Near (1/20) ∨ 20 < e.1 ∨ e.2 < 1/2 ∨ 1000 < e.2))) := by
    decide +kernel
  have b : ¬ (([((1 : Q), (10 : Q))].zip ([((1 : Q), (10 : Q))].drop 1)).any (fun e => decide (e.2.1 ≤ e.1.1)) ∨
      sumQ ([((1 : Q), (10 : Q))].map fun e => Config.pi * e.1 * e.2) < 1) := by
    simp [sumQ]
    linarith
  rw [drumStatus, if_neg a, if_neg b]

/-- A staged record of Firn. -/
def aRec : FirnRec := { seq := 1, kind := 16, stepping := 0, keyA := 0, keyB := 0, keyC := 0, tenant := 0, body := [] }

theorem optAll {α : Type} {o : Option α} {P : α → Prop} [DecidablePred P] (h : o.all (fun w => decide (P w)) = true) :
    ∀ w, o = some w → P w := by
  rintro w rfl
  simpa using h

theorem optAny {α : Type} {o : Option α} {P : α → Prop} [DecidablePred P] (h : o.any (fun w => decide (P w)) = true) :
    ∃ w, o = some w ∧ P w := by
  cases o with
  | none => cases h
  | some w => exact ⟨w, rfl, by simpa using h⟩

/-- Quick release with one turn of rope on a drum of one layer, 1 m. -/
def oneTurn : State :=
  ((giveHost live .drumConfig 0 [(16, 1, 1), (20, 4, 1065353216), (24, 4, 1065353216), (28, 4, 0)]
    (leBytes 4 1065353216 ++ leBytes 4 1092616192)).setMot 0 { phi := 1 }).setBrk 0 { qr := true, qrSlow := some 0 }

theorem oneTurn_payout : oneTurn.payout 0 < oneTurn.ropeLen 0 := by
  have hc : oneTurn.drumP 0 28 = 0 := by decide +kernel
  have hl : oneTurn.layers 0 = [(1, 10)] := by decide +kernel
  have hp : (oneTurn.motOf 0).phi = 1 := by decide +kernel
  have h := three_lt_pi
  unfold State.payout
  rw [hp]
  unfold State.wound
  rw [hc, if_pos rfl, hl]
  simp [woundStep]
  linarith


/-! ### The queue, reset, stops -/

theorem witness_StepRunsTheFrontCommand : ∃ (s : State) (c : Instr) (rest : List Instr), s.pending = c :: rest :=
  ⟨{ State.reset with pending := [.nop blank] }, _, _, rfl⟩

theorem witness_EmptyQueueIdles : ∃ s : State, s.pending = [] := ⟨State.reset, rfl⟩

theorem witness_StoppedChipStandsStill : ∃ (s t : State) (c : Instr) (rest : List Instr),
    s.pending = c :: rest ∧ s.stopped = true ∧ restarts c = false ∧ step s = .next t ∧ (s.power = .held ∨ s.power = .frozen) :=
  ⟨{ State.reset with pending := [.nop blank] }, _, _, _, rfl, rfl, rfl, rfl, .inl rfl⟩

theorem witness_WellFormedCommandsRun : ∃ i : Instr, i.wf = true := ⟨.nop blank, by decide +kernel⟩

theorem witness_OnlyMissingElementsFault : ∃ (i : Instr) (s : State) (f : Fault), exec i s = .fault f :=
  ⟨.linkDown 0 1024, State.reset, _, rfl⟩

theorem witness_UnservedDescriptorChangesNothing : ∃ (i : Instr) (s : State) (o : Order),
    s.orderOf i = some o ∧ s.serving o.d = false :=
  ⟨.nop blank, State.reset, _, rfl, rfl⟩

/-! ### Descriptors turned away -/

/-- `NOP` on a partition: its target is the chip. -/
theorem witness_RefusedDescriptorHasNoEffect : ∃ (i : Instr) (s : State) (o : Order) (st : Nat),
    s.orderOf i = some o ∧ s.turnsAway o st = true :=
  ⟨.nop blank, live, _, 0x0003, rfl, by decide +kernel⟩

/-- A sequence one below the expected 0. -/
theorem witness_OldSequenceIsStale : ∃ (i : Instr) (s : State) (o : Order), s.orderOf i = some o ∧ s.serving o.d = true ∧
    (s.page o.d.page).find o.d.series o.d.seq = none ∧
    (o.d.series < 4 → ((s.page o.d.page).ring o.d.series).enable = true ∧ (s.page o.d.page).window < 12) ∧
    (4 ≤ o.d.series → (s.page o.d.page).window < 16) ∧
    o.d.seq ≠ Tab.get (s.page o.d.page).expect 0 o.d.series ∧ newer o.d.seq (Tab.get (s.page o.d.page).expect 0 o.d.series) = false :=
  ⟨.nop { blank with seq := 0xFFFFFFFF }, live, _, rfl, by decide +kernel⟩

theorem witness_UrgentDoorbellOpcodes :
    (∃ (i : Instr) (s : State) (o : Order), s.orderOf i = some o ∧ o.info.op ∈ [0x01, 0x1A, 0x48, 0x67, 0x74, 0x75, 0x76, 0x7B]) ∧
    (∃ (i : Instr) (s : State) (o : Order), s.orderOf i = some o ∧ o.info.op ∉ [0x01, 0x1A, 0x48, 0x67, 0x74, 0x75, 0x76, 0x7B] ∧
      s.begins o = true ∧ o.d.series = 4 ∧ o.d.tenant = o.d.page ∧
      ¬ (o.info.op ≥ 0xF0 ∧ (s.sec.certified = true ∨ o.d.page ≠ 0 ∨ s.sys.tapOpen = false)) ∧ o.d.flags < 16 ∧
      reservedClear o.info.lay o.d.payload = true ∧ o.d.flags.testBit 1 = true) :=
  ⟨⟨.block blank, live, _, rfl, by decide +kernel⟩,
   ⟨.nop { blank with series := 4, flags := 2 }, live, _, rfl, by decide +kernel⟩⟩

theorem witness_EventClassesAsked :
    (∃ (d : Desc) (s u : State), Taken (.eventConfig d) s u) ∧
    (∃ (s : State) (n cls : Nat), cls ∈ [1, 2, 4] ∧ s.wants n cls = true) ∧
    (∃ (s : State) (d : Desc) (i : Instr) (o : Order), i ∈ [Instr.eventConfig d, .eventStatus d] ∧ s.orderOf i = some o) :=
  ⟨⟨say .eventConfig 0xFFFF [], live, _, taken (by decide +kernel)⟩,
   ⟨{ live with pages := [(0, { minClass := 1 })] }, 0, 2, by decide +kernel, by decide +kernel⟩,
   ⟨live, blank, _, _, .head _, rfl⟩⟩

/-! ### Configuration -/

/-- Each opcode of the statement has a descriptor that the running chip takes and whose checks pass. -/
theorem witness_ConfigurationStored :
    ([(Instr.prechargeConfig, 0x15), (.cellPolicy, 0x16), (.modConfig, 0x20), (.edgeConfig, 0x21), (.balanceConfig, 0x22),
      (.circConfig, 0x23), (.armSense, 0x24), (.shareConfig, 0x25), (.modLimit, 0x26), (.machConfig, 0x30), (.machParams, 0x31),
      (.currentConfig, 0x32), (.observerConfig, 0x33), (.speedConfig, 0x34), (.limits, 0x35), (.fieldConfig, 0x36), (.supplyConfig, 0x37),
      (.shockConfig, 0x43), (.encConfig, 0x51), (.resConfig, 0x52), (.restartConfig, 0x55), (.consumerConfig, 0x63),
      (.demandLimit, 0x64), (.brakeConfig, 0x70), (.rideConfig, 0x72), (.protConfig, 0x78),
      (.tripLink, 0x79)] : List ((Desc → Instr) × Nat)).all (fun c =>
        let s := if c.2 = 0x26 ∨ c.2 = 0x64 then inSt live 0 .ready else live
        let d := say c.1 0 (if c.2 = 0x37 then [(16, 1, 1), (17, 1, 2), (18, 1, 3)] else [])
        takesIt s (c.1 d) && ((after s (c.1 d)).withStored c.2 d 0).arrival c.2 0 = 0) = true := by
  decide +kernel

/-- `PART_CONFIG` before and after the commit. -/
theorem witness_ConfigurationStored_partConfig :
    (∃ (d : Desc) (s u : State), Taken (.partConfig d) s u ∧
      ((u.withStored 0x10 d 0).confRegions d.target).contains (sdRegion (d.u16 28)) = true ∧
      (confEffect allChecks 0x10 d 0 u).status = 0 ∧ (u.part d.target).st = .unconfigured) ∧
    (∃ (d : Desc) (s u : State), Taken (.partConfig d) s u ∧
      ((u.withStored 0x10 d 0).confRegions d.target).contains (sdRegion (d.u16 28)) = true ∧
      (confEffect allChecks 0x10 d 0 u).status = 0 ∧ (u.part d.target).st ≠ .unconfigured ∧ (u.withStored 0x10 d 0).reformStatus d.target = 0) :=
  ⟨⟨say .partConfig 0 [], live, _, taken (by decide +kernel), by decide +kernel⟩,
   ⟨say .partConfig 0 [], inSt live 0 .blocked, _, taken (by decide +kernel), by decide +kernel⟩⟩

/-! ### Ill-formed commands -/

/-- A field of a descriptor that does not fit its place, one for each field of Table 5 of R320, and a time beyond 64 bits (R9). -/
theorem test_wf_descriptor :
    [{ blank with page := 1024 }, { blank with series := 5 }, { blank with seq := 2 ^ 32 }, { blank with flags := 256 },
     { blank with target := 65536 }, { blank with tenant := 65536 }, { blank with epoch := 65536 }, { blank with buffer := 2 ^ 32 },
     { blank with payload := zeros 47 }, { blank with t := 2 ^ 64 }].all (fun d => !(Instr.enable d).wf && !d.wf) = true := by
  decide +kernel

/-- An element that the chip does not have, one for each kind of element. -/
theorem test_wf_elements :
    [Instr.cqHead 0 1024 4 0, .bulkWait 0 8, .disableComplete 0 8, .linkDown 0 1024, .tripinAssert 0 4, .fastWindowCross 0 128 0,
     .ss1Request 0 2 false, .stoRelease 0 2, .supervisorWatchdogExpiry 0 8, .supplyStale 0 8, .breakerInputActive 0 4, .indexPulse 0 8 0,
     .sensorFailed 0 3 0, .sensorFailed 0 0 64, .sensorFailed 0 1 2048, .sensorFailed 0 2 32, .auxOuterLoop 0 16,
     .switchInrushEnd 0 32, .sagGroupActive 0 8 0, .sagGroupActive 0 0 4, .auxDiagStep 0 16 [], .auxDiagStep 0 0x40 [], .fabPortDown 0 8,
     .nodeFailed 0 1024 false, .canBusOn 0 4, .railFault 0 6 false, .mclkRelockEnd 0 16, .sdStuck 0 128, .blockLock 0 0 0,
     .registerWrite 0 65536 [], .nodeFailed (2 ^ 64) 0 false].all (fun i => !i.wf) = true := by
  decide +kernel

/-- The last element of each kind is there. -/
theorem test_wf_last_elements :
    [Instr.cqHead 0 1023 4 0, .bulkWait 0 7, .linkDown 0 1023, .tripinAssert 0 3, .fastWindowCross 0 127 0, .stoRelease 0 1,
     .sensorFailed 0 0 63, .sensorFailed 0 1 2047, .sensorFailed 0 2 31, .auxDiagStep 0 0x3F [], .fabPortDown 0 7, .canBusOn 0 3,
     .railFault 0 5 false, .mclkRelockEnd 0 15, .sdStuck 0 127, .registerWrite 0 65532 []].all (fun i => i.wf) = true := by
  decide +kernel

/-! ### Worked examples of the manual -/

def podCell (e : Nat × Q × Int) : NCell := { lane := e.1, v := e.2.1, held := e.2.2, last := -10000, charging := false }

/-- Arm A0 of POD-PA (Table 8 of the chapter on modulation): predicted voltages, and which cells are inserted. -/
def podArm : ArmPlan :=
  nlc { T := 10000, tmin := 1500, tminPulse := 1500, gap := 200, maxSwaps := 4, limit := 88 / 10, charges := true, target := 679882 / 10000000 }
    ([(11, 10960 / 10, 0), (3, 10975 / 10, 1), (17, 10980 / 10, 1), (8, 10990 / 10, 1), (0, 11005 / 10, 1), (14, 11010 / 10, 1),
      (6, 11020 / 10, 0), (9, 11060 / 10, 1)].map podCell) []

/-- Position 11 is inserted at 0, position 9 bypassed at 200 ns, position 6 pulses from 4,061 ns to 5,938 ns, and nothing else moves
(worked example, one pod arm, one cycle). -/
theorem test_pod_arm_plan :
    podArm.plans = [(11, { start := 0, e0 := some (0, 1) }), (3, { start := 1 }), (17, { start := 1 }), (8, { start := 1 }), (0, { start := 1 }),
      (14, { start := 1 }), (6, { start := 0, e0 := some (4061, 1), e1 := some (5938, 0) }), (9, { start := 1, e0 := some (200, 0) })] ∧
    podArm.deferred = 0 := by
  decide +kernel

/-- The carry is −221.7 µV·s to the precision of the example. -/
theorem test_pod_arm_carry : absQ (podArm.carry + 2217 / 10000000) < 5 / 10000000 := by
  decide +kernel

/-- The down-frame to lane L6 (worked example, one frame to the PWM cell of a pod arm): bytes 0 to 21. -/
theorem test_pod_down_frame :
    ({ seq := 0xA2F1, epoch := 5, cmd := 3, mask0 := maskOfLevel 1 0, mask1 := maskOfLevel 1 1, mask2 := maskOfLevel 1 0, e0 := 4061, e1 := 5938
       tSync := tSyncOf 10000 300, uOff := uOffOf 10000 300, cycle := 0, hold := 2, flags := 0 } : Down).bytes.take 22 =
      [0xF1, 0xA2, 0x05, 0x03, 0x12, 0x02, 0xDD, 0x0F, 0x32, 0x17, 0x74, 0x0E, 0x90, 0x01, 0x00, 0x02, 0, 0, 0, 0, 0, 0] := by
  decide +kernel

/-! ### Clause by clause -/

/-! ### Clause by clause -/

theorem witness_CheckedConfigurationStored :
    (∃ (d : Desc) (s : State) (u : State), Taken (.armConfig d) s u ∧ d.u16 20 < d.u16 18 ∧ (confEffect allChecks 0x11 d (d.u8 16) u).status = 0 ∧
      (u.part d.target).st = .unconfigured) ∧
    (∃ (d : Desc) (s : State) (u : State), Taken (.armConfig d) s u ∧ d.u16 20 < d.u16 18 ∧ (confEffect allChecks 0x11 d (d.u8 16) u).status = 0 ∧
      (u.part d.target).st ≠ .unconfigured ∧ (u.withStored 0x11 d (d.u8 16)).reformStatus d.target = 0) ∧
    (∃ (d : Desc) (s : State) (u : State), Taken (.exciterConfig d) s u ∧ d.u8 16 = 1 ∧ (u.confRegions d.target).contains (auxRegion (d.u8 17)) = true
      ∧ u.claimFree (motorClaim (d.u8 17)) 0x3A d.target = true ∧ (u.withStored 0x3A d 0).arrival 0x3A d.target = 0) ∧
    (∃ (d : Desc) (s : State) (u : State), Taken (.exciterConfig d) s u ∧ d.u8 16 ≠ 1 ∧ d.u8 17 < 8 ∧ (u.withStored 0x3A d 0).arrival 0x3A d.target =
      0) ∧
    (∃ (d : Desc) (s : State) (u : State), Taken (.fbConfig d) s u ∧ (d.u8 16 = 0xFF → d.u8 18 = 2) ∧ (d.u8 16 ≠ 0xFF → u.fbTaken d.target (d.u8 16) =
      false) ∧ (u.withStored 0x50 d 0).arrival 0x50 d.target = 0) ∧
    (∃ (d : Desc) (s : State) (u : State), Taken (.sensorlessConfig d) s u ∧ slRange (d.f32 16) (d.f32 20) = true ∧ (u.withStored 0x54 d 0).arrival
      0x54 d.target = 0) ∧
    (∃ (d : Desc) (s : State) (u : State), Taken (.bissConfig d) s u ∧ d.u8 17 + d.u8 18 ≤ 48 ∧ (u.withStored 0x53 d 0).arrival 0x53 d.target = 0) ∧
    (∃ (d : Desc) (s : State) (u : State), Taken (.limitConfig d) s u ∧ firstStatus [u.limitSource d.target (d.u8 16), u.limitSource d.target (d.u8
      17)] = 0 ∧ (u.withStored 0x56 d 0).arrival 0x56 d.target = 0) ∧
    (∃ (d : Desc) (s : State) (u : State), Taken (.curveLoad d) s u ∧ (∀ i < 33, (f32 (leNat d.host (4 * i) 4)).isSome = true) ∧ (u.withStored 0x41 d
      0).curveStatus d.target = 0) ∧
    (∃ (d : Desc) (s : State) (u : State) (lo : _) (hi : _), Taken (.vlimitConfig d) s u ∧ (u.withStored 0x49 d 0).arrival 0x49 d.target = 0 ∧ (lo,
      hi) = (u.withStored 0x49 d 0).vlimits d.target ∧ ((u.motOf d.target).calibrated = true → lo ≤ u.payout d.target ∧ u.payout d.target ≤ hi ∧
      ((u.motOf d.target).moving = true → lo ≤ (u.motOf d.target).target ∧ (u.motOf d.target).target ≤ hi ∧ ∀ y, (u.motOf d.target).follow = some y →
      lo ≤ y ∧ y ≤ hi)) ∧ ((u.motOf d.target).moving = true → stopFits (u.plimP d.target 24) (u.plimP d.target 28) (u.motOf d.target) ((if 0 ≤
      (u.motOf d.target).vRef then hi - (u.motOf d.target).pRef else (u.motOf d.target).pRef - lo) - (u.withStored 0x49 d 0).vlimP d.target 28) =
      true)) ∧
    (∃ (d : Desc) (s : State) (u : State), Taken (.profileLimits d) s u ∧ u.follows d.target = false ∧ (u.brkOf d.target).render = false ∧ ((u.motOf
      d.target).moving = true → (u.motOf d.target).movedAt ≠ some u.now → stopFits (d.f32 24) (d.f32 28) (u.motOf d.target) (minQ (absQ ((u.motOf
      d.target).target - (u.motOf d.target).pRef)) ((if 0 ≤ (u.motOf d.target).vRef then (u.vlimits d.target).2 - (u.motOf d.target).pRef else
      (u.motOf d.target).pRef - (u.vlimits d.target).1) - u.vlimP d.target 28)) = true)) ∧
    (∃ (d : Desc) (s : State) (u : State), Taken (.heaveConfig d) s u) ∧
    (∃ (d : Desc) (s : State) (u : State), Taken (.thermConfig d) s u ∧ orderOk (d.f32 16) (d.f32 20) (d.f32 24) (d.f32 28) = true) ∧
    (∃ (d : Desc) (s : State) (u : State), Taken (.coolantConfig d) s u ∧ orderOk (d.f32 24) (d.f32 28) (d.f32 32) (d.f32 36) = true) ∧
    (∃ (d : Desc) (s : State) (u : State), Taken (.thermGroups d) s u) ∧
    (∃ (d : Desc) (s : State) (u : State), Taken (.tandemRatio d) s u) ∧
    (∃ (d : Desc) (s : State) (u : State), Taken (.interleaveConfig d) s u ∧ d.u8 17 < d.u8 16 ∧ u.method d.target ≠ 1 ∧ (u.withStored 0x69 d
      0).arrival 0x69 d.target = 0) ∧
    (∃ (d : Desc) (s : State) (u : State), Taken (.calveConfig d) s u ∧ (∀ k < 4, d.u8 (16 + k) ≠ 0xFF → u.claimFree (d.u8 (16 + k)) 0x66 0xFFFF =
      true)) ∧
    (∃ (d : Desc) (s : State) (u : State), Taken (.emergConfig d) s u ∧ u.t0Changed d = false ∧ (∀ c ∈ [d.u8 16, d.u8 17], c ≠ 0xFF → (u.confRegions
      d.target).contains (c / 4) = true ∧ u.claimFree (0x20 + c) 0x71 d.target = true) ∧ (d.u8 16 = 0xFF ∨ d.u8 16 ≠ d.u8 17) ∧ (u.withStored 0x71 d
      0).arrival 0x71 d.target = 0) ∧
    (∃ (d : Desc) (s : State) (u : State), Taken (.limp d) s u ∧ ((u.armsOf d.target).any (fun a => u.limpArm d.target a) = true) ∧ d.u16 16 = 0) ∧
    (∃ (d : Desc) (s : State) (u : State), Taken (.linkConfig d) s u) ∧
    (∃ (d : Desc) (s : State) (u : State), Taken (.fabCalConfig d) s u ∧ (u.withStored 0xB1 d (d.u8 16)).arrival 0xB1 d.target = 0) ∧
    (∃ (d : Desc) (s : State) (u : State), Taken (.shareSubConfig d) s u ∧ (∀ k < d.u8 16, d.u16 (20 + 4 * k) ≤ 0x3FF ∧ (d.u16 (22 + 4 * k) ≤ 0x3FF ∨
      d.u16 (22 + 4 * k) = 0xFFFF)) ∧ (u.withStored 0xB3 d 0).arrival 0xB3 d.target = 0) ∧
    (∃ (d : Desc) (s : State) (u : State), Taken (.canRateConfig d) s u ∧ ((u.can d.target).owner = none ∨ (u.can d.target).owner = some d.page) ∧
      (u.can d.target).mode = 0 ∧ (candsOf (d.u8 16) d.host).all candRange = true ∧ (candsOf (d.u8 16) d.host).all candRates = true) ∧
    (∃ (d : Desc) (s : State) (u : State), Taken (.bldcConfig d) s u ∧ u.auxConfBar d true false = 0 ∧ (u.withStored 0x81 d 0).auxLevels d.target =
      false) ∧
    (∃ (d : Desc) (s : State) (u : State), Taken (.stepConfig d) s u ∧ u.auxConfBar d true false = 0 ∧ (u.withStored 0x83 d 0).auxLevels d.target =
      false) ∧
    (∃ (d : Desc) (s : State) (u : State), Taken (.switchConfig d) s u ∧ u.auxConfBar d false false = 0 ∧ (u.withStored 0x85 d 0).auxLevels d.target =
      false) :=
  ⟨⟨say .armConfig 0 [(18, 2, 4), (20, 2, 1)], live, _, taken (by decide +kernel), by decide +kernel⟩,
   ⟨say .armConfig 0 [(18, 2, 4), (20, 2, 1)], give (inSt live 0 .blocked) .partConfig 0 [(16, 1, 1)], _, taken (by decide +kernel),
     by decide +kernel⟩,
   ⟨say .exciterConfig 0 [(16, 1, 1), (17, 1, 1)], live, _, taken (by decide +kernel), by decide +kernel⟩,
   ⟨say .exciterConfig 0 [(16, 1, 2), (17, 1, 1)], live, _, taken (by decide +kernel), by decide +kernel⟩,
   ⟨say .fbConfig 0 [], live, _, taken (by decide +kernel), by decide +kernel⟩,
   ⟨say .sensorlessConfig 0 [], live, _, taken (by decide +kernel), by decide +kernel⟩,
   ⟨say .bissConfig 0 [], live, _, taken (by decide +kernel), by decide +kernel⟩,
   ⟨say .limitConfig 0 [], live, _, taken (by decide +kernel), by decide +kernel⟩,
   ⟨{ say .curveLoad 0 [] with host := zeros 132 }, live, _, taken (by decide +kernel), by decide +kernel⟩,
   ⟨say .vlimitConfig 0 [], live, _, _, _, taken (by decide +kernel), by decide +kernel, rfl, by decide +kernel⟩,
   ⟨say .profileLimits 0 [], inSt live 0 .blocked, _, taken (by decide +kernel), by decide +kernel⟩,
   ⟨say .heaveConfig 0 [], live, _, taken (by decide +kernel)⟩,
   ⟨say .thermConfig 0 [], live, _, taken (by decide +kernel), by decide +kernel⟩,
   ⟨say .coolantConfig 0 [], live, _, taken (by decide +kernel), by decide +kernel⟩,
   ⟨say .thermGroups 0 [], live, _, taken (by decide +kernel)⟩,
   ⟨say .tandemRatio 0 [], inSt live 0 .blocked, _, taken (by decide +kernel)⟩,
   ⟨say .interleaveConfig 0 [(16, 1, 2)], live, _, taken (by decide +kernel), by decide +kernel⟩,
   ⟨say .calveConfig 0xFFFF [], live, _, taken (by decide +kernel), by decide +kernel⟩,
   ⟨say .emergConfig 0 [], live, _, taken (by decide +kernel), by decide +kernel⟩,
   ⟨say .limp 0 [], give (give (inSt live 0 .blocked) .partConfig 0 [(16, 1, 1)]) .armConfig 0 [(18, 2, 4)], _, taken (by decide +kernel),
     by decide +kernel⟩,
   ⟨say .linkConfig 0 [], live, _, taken (by decide +kernel)⟩,
   ⟨say .fabCalConfig 0xFFFF [], live, _, taken (by decide +kernel), by decide +kernel⟩,
   ⟨say .shareSubConfig 0xFFFF [], live, _, taken (by decide +kernel), by decide +kernel⟩,
   ⟨{ say .canRateConfig 0 [] with host := [8, 14, 0, 5, 1, 2, 14, 5] }, live, _, taken (by decide +kernel), by decide +kernel⟩,
   ⟨say .bldcConfig 0 [], live, _, taken (by decide +kernel), by decide +kernel⟩,
   ⟨say .stepConfig 0 [], live, _, taken (by decide +kernel), by decide +kernel⟩,
   ⟨say .switchConfig 0x20 [(20, 4, 1073741824), (24, 4, 1065353216)], live, _, taken (by decide +kernel), by decide +kernel⟩⟩

theorem witness_ConfigurationTakesEffect :
    (∃ (d : Desc) (s : State) (u : State), Taken (.laneAssign d) s u ∧ (∀ e ∈ (u.withStored 0x12 d 0).laneMap d.target, (u.withStored 0x12 d
      0).entryOk d.target e = true) ∧ (confEffect allChecks 0x12 d 0 u).status = 0 ∧ (u.part d.target).st = .unconfigured) ∧
    (∃ (d : Desc) (s : State) (u : State), Taken (.laneAssign d) s u ∧ (∀ e ∈ (u.withStored 0x12 d 0).laneMap d.target, (u.withStored 0x12 d
      0).entryOk d.target e = true) ∧ (confEffect allChecks 0x12 d 0 u).status = 0 ∧ (u.part d.target).st ≠ .unconfigured ∧ (u.withStored 0x12 d
      0).mapStatus d.target = 0) ∧
    (∃ (d : Desc) (s : State) (u : State), Taken (.drumConfig d) s u ∧ drumStatus (d.f32 20) (d.f32 24) (layersOf (d.payload ++ d.host)) = 0 ∧
      (u.withStored 0x44 d 0).arrival 0x44 d.target = 0) ∧
    (∃ (d : Desc) (s : State) (u : State), Taken (.tandemConfig d) s u ∧ tandemRange d = true ∧ u.inTandem d.target = false ∧ (∀ m ∈ membersOf
      d.payload, u.memberHeld d.target (membersOf d.payload) m = true ∧ (m.node = u.node → u.inTandem m.part = false ∧ ((u.part m.part).st =
      .unconfigured ∨ (u.part m.part).st = .blocked)))) ∧
    (∃ (d : Desc) (s : State) (u : State), Taken (.standbyConfig d) s u ∧ (u.withStored 0xB0 d 0).arrival 0xB0 d.target = 0) ∧
    (∃ (d : Desc) (s : State) (u : State), Taken (.auxMode d) s u ∧ u.auxConfBar d (isMotor d.target) false = 0 ∧ (u.withStored 0x80 d 0).auxLevels
      d.target = false ∧ (isMotor d.target = true → d.u8 17 = 0xFF ∧ (d.u8 16 = 1 → d.u8 18 ≠ 0xFF)) ∧ (isMotor d.target = false → d.u8 18 = 0xFF)) ∧
    (∃ (d : Desc) (s : State) (u : State), Taken (.bldcCurve d) s u ∧ u.auxConfBar d true false = 0 ∧ (u.withStored 0x82 d 0).auxLevels d.target =
      false ∧ d.f32 20 < d.f32 24 ∧ d.f32 32 < d.f32 28 ∧ (∀ k < 17, (f32 (leNat d.host (4 * k) 4)).isSome = true ∧ 0 ≤ bufQ (d.payload ++ d.host) (4
      * k) ∧ bufQ (d.payload ++ d.host) (4 * k) ≤ 1000)) ∧
    (∃ (d : Desc) (s : State) (u : State), Taken (.stepSource d) s u ∧ u.auxConfBar d true false = 0 ∧ (u.withStored 0x84 d 0).auxLevels d.target =
      false ∧ d.u8 16 = 1 ∧ (∀ c ∈ [d.u8 17, d.u8 18], switchRegion c = auxRegion d.target ∧ u.claimFree c 0x84 d.target = true) ∧ d.u8 17 ≠ d.u8 18) ∧
    (∃ (d : Desc) (s : State) (u : State), Taken (.stepSource d) s u ∧ u.auxConfBar d true false = 0 ∧ (u.withStored 0x84 d 0).auxLevels d.target =
      false ∧ d.u8 16 ≠ 1 ∧ (u.partRegions (d.u8 20)).contains (auxRegion d.target) = true) ∧
    (∃ (d : Desc) (s : State) (u : State), Taken (.sagConfig d) s u ∧ (∀ c ∈ u.sagMembers (d.target - 0x40), (u.auxOf c).owner = some d.page ∧
      ((u.auxOf c).st = 0 ∨ (u.auxOf c).st = 9 ∨ (u.auxOf c).st = 4)) ∧ (d.u8 16 = 0xFF ∨ d.u8 16 / 16 = (d.target - 0x40) / 4)) ∧
    (∃ (d : Desc) (s : State) (u : State), Taken (.auxDiag d) s u ∧ u.auxConfBar d (isMotor d.target) true = 0 ∧ d.f32 20 < d.f32 24 ∧ (d.u8 17 ≠ 1 ∨
      (u.auxOf d.target).st ≠ 0)) ∧
    (∃ (d : Desc) (s : State) (u : State), Taken (.auxDiag d) s u ∧ u.auxConfBar d (isMotor d.target) true = 0 ∧ d.f32 20 < d.f32 24 ∧ d.u8 17 = 1 ∧
      (u.auxOf d.target).st = 0) ∧
    (∃ (d : Desc) (s : State) (u : State), Taken (.canConfig d) s u ∧ ((u.can d.target).owner = none ∨ (u.can d.target).owner = some d.page) ∧ rateOk
      (d.u8 22) (d.u16 20) (d.u8 23) 10000 1000000 = true ∧ (d.u8 17 = 1 → rateOk (d.u8 25) (d.u8 26) (d.u8 27) 0 8000000 = true) ∧ d.u8 16 = 0) ∧
    (∃ (d : Desc) (s : State) (u : State), Taken (.canConfig d) s u ∧ ((u.can d.target).owner = none ∨ (u.can d.target).owner = some d.page) ∧ rateOk
      (d.u8 22) (d.u16 20) (d.u8 23) 10000 1000000 = true ∧ (d.u8 17 = 1 → rateOk (d.u8 25) (d.u8 26) (d.u8 27) 0 8000000 = true) ∧ d.u8 16 ≠ 0 ∧
      (u.can d.target).mode = 0) :=
  ⟨⟨{ say .laneAssign 0 [(16, 2, 1)] with host := [0, 0, 0, 0] }, give (give live .partConfig 0 [(16, 1, 1)]) .armConfig 0 [(18, 2, 1), (20, 2, 0)],
     _, taken (by decide +kernel), by decide +kernel⟩,
   ⟨{ say .laneAssign 0 [(16, 2, 1)] with host := [0, 0, 0, 0] }, inSt (give (give live .partConfig 0 [(16, 1, 1)]) .armConfig 0 [(18, 2, 1), (20, 2,
     0)]) 0 .blocked, _, taken (by decide +kernel), by decide +kernel⟩,
   ⟨{ say .drumConfig 0 [(16, 1, 1), (20, 4, 1065353216), (24, 4, 1065353216)] with host := leBytes 4 1065353216 ++ leBytes 4 1092616192 }, live, _,
     taken (by decide +kernel), drum_one (by decide +kernel) (by decide +kernel) (by decide +kernel), by decide +kernel⟩,
   ⟨say .tandemConfig 0 [(16, 1, 2), (24, 4, 1065353216), (30, 1, 1), (32, 4, 1065353216)], live, _, taken (by decide +kernel), by decide +kernel⟩,
   ⟨say .standbyConfig 0xFFFF [], live, _, taken (by decide +kernel), by decide +kernel⟩,
   ⟨say .auxMode 0 [], live, _, taken (by decide +kernel), by decide +kernel⟩,
   ⟨{ say .bldcCurve 0 [(24, 4, 1073741824), (28, 4, 1056964608), (32, 4, 1048576000)] with host := zeros 68 }, live, _, taken (by decide +kernel),
     by decide +kernel⟩,
   ⟨say .stepSource 0 [(16, 1, 1), (17, 1, 32), (18, 1, 33)], live, _, taken (by decide +kernel), by decide +kernel⟩,
   ⟨say .stepSource 0 [(16, 1, 2)], live, _, taken (by decide +kernel), by decide +kernel⟩,
   ⟨say .sagConfig 0x40 [], live, _, taken (by decide +kernel), by decide +kernel⟩,
   ⟨say .auxDiag 0 [], live, _, taken (by decide +kernel), by decide +kernel⟩,
   ⟨say .auxDiag 0 [(17, 1, 1)], live, _, taken (by decide +kernel), by decide +kernel⟩,
   ⟨say .canConfig 0 [], live, _, taken (by decide +kernel), by decide +kernel⟩,
   ⟨say .canConfig 0 [(16, 1, 1)], live, _, taken (by decide +kernel), by decide +kernel⟩⟩

theorem witness_FollowerTurnsAway :
    (∃ (d : Desc) (s : State) (u : State) (i : Instr), i ∈ [Instr.setpoint d, .refSource d, .curveInput d, .profileMove d, .profileStop d, .tension d,
      .heaveRef d, .profileLimits d] ∧ Taken i s u ∧ u.follows d.target = true) :=
  ⟨say .setpoint 0 [], follower, _, .setpoint (say .setpoint 0 []), by decide +kernel, taken (by decide +kernel), by decide +kernel⟩

theorem witness_StatusResults :
    (∃ (d : Desc) (s : State) (u : State), Taken (.nop d) s u) ∧
    (∃ (d : Desc) (s : State) (u : State), Taken (.partStatus d) s u) ∧
    (∃ (d : Desc) (s : State) (u : State), Taken (.modStatus d) s u) ∧
    (∃ (d : Desc) (s : State) (u : State), Taken (.machStatus d) s u ∧ d.buffer = 0xFFFFFFFF) ∧
    (∃ (d : Desc) (s : State) (u : State), Taken (.motionStatus d) s u ∧ d.buffer = 0xFFFFFFFF) ∧
    (∃ (d : Desc) (s : State) (u : State), Taken (.fbStatus d) s u ∧ d.buffer = 0xFFFFFFFF) ∧
    (∃ (d : Desc) (s : State) (u : State), Taken (.thermStatus d) s u) ∧
    (∃ (d : Desc) (s : State) (u : State), Taken (.plantStatus d) s u ∧ d.buffer = 0xFFFFFFFF) ∧
    (∃ (d : Desc) (s : State) (u : State), Taken (.brakeStatus d) s u) ∧
    (∃ (d : Desc) (s : State) (u : State), Taken (.protStatus d) s u) ∧
    (∃ (d : Desc) (s : State) (u : State), Taken (.auxStatus d) s u ∧ d.buffer = 0xFFFFFFFF) ∧
    (∃ (d : Desc) (s : State) (u : State), Taken (.eventStatus d) s u) ∧
    (∃ (d : Desc) (s : State) (u : State), Taken (.storStatus d) s u) ∧
    (∃ (d : Desc) (s : State) (u : State) (rtt : _) (h : _), Taken (.fabTrace d rtt) s u ∧ u.hops (d.u16 16) = some h) ∧
    (∃ (d : Desc) (s : State) (u : State), Taken (.fabStatus d) s u) ∧
    (∃ (d : Desc) (s : State) (u : State), Taken (.canStatus d) s u) ∧
    (∃ (d : Desc) (s : State) (u : State), Taken (.tenantStatus d) s u) :=
  ⟨⟨say .nop 0xFFFF [], live, _, taken (by decide +kernel)⟩,
   ⟨say .partStatus 0 [], live, _, taken (by decide +kernel)⟩,
   ⟨say .modStatus 0 [], live, _, taken (by decide +kernel)⟩,
   ⟨say .machStatus 0 [], live, _, taken (by decide +kernel), by decide +kernel⟩,
   ⟨say .motionStatus 0 [], live, _, taken (by decide +kernel), by decide +kernel⟩,
   ⟨say .fbStatus 0 [], live, _, taken (by decide +kernel), by decide +kernel⟩,
   ⟨say .thermStatus 0 [], live, _, taken (by decide +kernel)⟩,
   ⟨say .plantStatus 0 [], live, _, taken (by decide +kernel), by decide +kernel⟩,
   ⟨say .brakeStatus 0 [], live, _, taken (by decide +kernel)⟩,
   ⟨say .protStatus 0 [], live, _, taken (by decide +kernel)⟩,
   ⟨say .auxStatus 0 [], live, _, taken (by decide +kernel), by decide +kernel⟩,
   ⟨say .eventStatus 0xFFFF [], live, _, taken (by decide +kernel)⟩,
   ⟨say .storStatus 0xFFFF [], live, _, taken (by decide +kernel)⟩,
   ⟨say (fun d => .fabTrace d 5) 0xFFFF [(16, 2, 0)], live, _, 5, 0, taken (by decide +kernel), by decide +kernel⟩,
   ⟨say .fabStatus 0xFFFF [], live, _, taken (by decide +kernel)⟩,
   ⟨say .canStatus 0 [], live, _, taken (by decide +kernel)⟩,
   ⟨say .tenantStatus 0 [], live, _, taken (by decide +kernel)⟩⟩

theorem witness_BufferResults :
    (∃ (d : Desc) (s : State) (u : State), Taken (.cellStatus d) s u) ∧
    (∃ (d : Desc) (s : State) (u : State), Taken (.machStatus d) s u ∧ d.buffer ≠ 0xFFFFFFFF) ∧
    (∃ (d : Desc) (s : State) (u : State), Taken (.motionStatus d) s u ∧ d.buffer ≠ 0xFFFFFFFF) ∧
    (∃ (d : Desc) (s : State) (u : State), Taken (.fbStatus d) s u ∧ d.buffer ≠ 0xFFFFFFFF) ∧
    (∃ (d : Desc) (s : State) (u : State), Taken (.plantStatus d) s u ∧ d.buffer ≠ 0xFFFFFFFF) ∧
    (∃ (d : Desc) (s : State) (u : State), Taken (.protRecord d) s u) ∧
    (∃ (d : Desc) (s : State) (u : State), Taken (.linkStatus d) s u) ∧
    (∃ (d : Desc) (s : State) (u : State), Taken (.auxStatus d) s u ∧ d.buffer ≠ 0xFFFFFFFF) ∧
    (∃ (d : Desc) (s : State) (u : State), Taken (.trackerStatus d) s u) ∧
    (∃ (d : Desc) (s : State) (u : State), Taken (.eventLog d) s u) ∧
    (∃ (d : Desc) (s : State) (u : State), Taken (.moraineList d) s u ∧ u.stor.state ≠ 0) ∧
    (∃ (d : Desc) (s : State) (u : State) (c : _), Taken (.moraineRead d) s u ∧ u.stor.state ≠ 0 ∧ u.capture (d.u32 16) = some c ∧ u.reads d.page
      c.part = true ∧ u.stor.captures.contains c = true) ∧
    (∃ (d : Desc) (s : State) (u : State), Taken (.fabTopology d) s u) ∧
    (∃ (d : Desc) (s : State) (u : State), Taken (.attest d) s u) :=
  ⟨⟨{ say .cellStatus 0 [] with buffer := 0 }, live, _, taken (by decide +kernel)⟩,
   ⟨{ say .machStatus 0 [] with buffer := 0 }, live, _, taken (by decide +kernel), by decide +kernel⟩,
   ⟨{ say .motionStatus 0 [] with buffer := 0 }, live, _, taken (by decide +kernel), by decide +kernel⟩,
   ⟨{ say .fbStatus 0 [] with buffer := 0 }, live, _, taken (by decide +kernel), by decide +kernel⟩,
   ⟨{ say .plantStatus 0 [] with buffer := 0 }, live, _, taken (by decide +kernel), by decide +kernel⟩,
   ⟨{ say .protRecord 0 [] with buffer := 0 }, live, _, taken (by decide +kernel)⟩,
   ⟨{ say .linkStatus 0 [] with buffer := 0 }, live, _, taken (by decide +kernel)⟩,
   ⟨{ say .auxStatus 0 [] with buffer := 0 }, live, _, taken (by decide +kernel), by decide +kernel⟩,
   ⟨{ say .trackerStatus 0xFFFF [] with buffer := 0 }, live, _, taken (by decide +kernel)⟩,
   ⟨{ say .eventLog 0xFFFF [] with buffer := 0 }, live, _, taken (by decide +kernel)⟩,
   ⟨{ say .moraineList 0xFFFF [] with buffer := 0 }, stocked, _, taken (by decide +kernel), by decide +kernel⟩,
   ⟨{ say .moraineRead 0xFFFF [(16, 4, 1), (24, 4, 1)] with buffer := 0 }, stocked, _, aCapture, taken (by decide +kernel), by decide +kernel⟩,
   ⟨{ say .fabTopology 0xFFFF [] with buffer := 0 }, live, _, taken (by decide +kernel)⟩,
   ⟨{ say .attest 0xFFFF [] with buffer := 0 }, live, _, taken (by decide +kernel)⟩⟩

theorem witness_FenceAndCancel :
    (∃ (d : Desc) (s : State) (u : State), Taken (.fence d) s u) ∧
    (∃ (d : Desc) (s : State) (u : State) (a : _), Taken (.cancel d) s u ∧ (u.page d.page).find (d.u8 16) (d.u32 20) = some a ∧ (a.started = true ∨
      (d.u8 16 = d.series ∧ d.u32 20 = d.seq))) ∧
    (∃ (d : Desc) (s : State) (u : State) (a : _), Taken (.cancel d) s u ∧ (u.page d.page).find (d.u8 16) (d.u32 20) = some a ∧ a.started = false ∧ (¬
      (d.u8 16 = d.series ∧ d.u32 20 = d.seq))) ∧
    (∃ (d : Desc) (s : State) (u : State), Taken (.cancel d) s u ∧ (u.page d.page).find (d.u8 16) (d.u32 20) = none ∧ (u.page d.page).crossed.contains
      (d.u8 16, d.u32 20) = false ∧ d.u32 20 ≠ Tab.get (u.page d.page).expect 0 (d.u8 16) ∧ newer (d.u32 20) (Tab.get (u.page d.page).expect 0 (d.u8
      16)) = false) ∧
    (∃ (d : Desc) (s : State) (u : State), Taken (.cancel d) s u ∧ (u.page d.page).find (d.u8 16) (d.u32 20) = none ∧ (u.page d.page).crossed.contains
      (d.u8 16, d.u32 20) = true) ∧
    (∃ (d : Desc) (s : State) (u : State), Taken (.cancel d) s u ∧ (u.page d.page).find (d.u8 16) (d.u32 20) = none ∧ (u.page d.page).crossed.contains
      (d.u8 16, d.u32 20) = false ∧ (d.u32 20 = Tab.get (u.page d.page).expect 0 (d.u8 16) ∨ newer (d.u32 20) (Tab.get (u.page d.page).expect 0 (d.u8
      16)) = true) ∧ (u.page d.page).pendCancel.length < 4) :=
  ⟨⟨say .fence 0xFFFF [], live, _, taken (by decide +kernel)⟩,
   ⟨{ say .cancel 0xFFFF [(16, 1, 0), (20, 4, 1)] with seq := 2 },
     { live with pages := [(0, { rings := [(0, { enable := true })], expect := [(0, 2)], acc := [{ series := 0, seq := 1, op := 1, flags := 0, target := 0, started := true }] })] },
     _, { series := 0, seq := 1, op := 1, flags := 0, target := 0, started := true }, taken (by decide +kernel), by decide +kernel⟩,
   ⟨{ say .cancel 0xFFFF [(16, 1, 4), (20, 4, 1)] with seq := 2 },
     { live with pages := [(0, { rings := [(0, { enable := true })], expect := [(0, 2)], acc := [{ series := 4, seq := 1, op := 0x1A, flags := 2, target := 0 }] })] },
     _, { series := 4, seq := 1, op := 0x1A, flags := 2, target := 0 }, taken (by decide +kernel), by decide +kernel⟩,
   ⟨{ say .cancel 0xFFFF [(16, 1, 0), (20, 4, 1)] with seq := 2 },
     { live with pages := [(0, { rings := [(0, { enable := true })], expect := [(0, 2)], acc := [] })] }, _, taken (by decide +kernel),
     by decide +kernel⟩,
   ⟨{ say .cancel 0xFFFF [(16, 1, 0), (20, 4, 7)] with seq := 2 },
     { live with pages := [(0, { rings := [(0, { enable := true })], expect := [(0, 2)], crossed := [(0, 7)] })] }, _, taken (by decide +kernel),
     by decide +kernel⟩,
   ⟨{ say .cancel 0xFFFF [(16, 1, 0), (20, 4, 7)] with seq := 2 },
     { live with pages := [(0, { rings := [(0, { enable := true })], expect := [(0, 2)], acc := [] })] }, _, taken (by decide +kernel),
     by decide +kernel⟩⟩

theorem witness_LeaseCommands :
    (∃ (d : Desc) (s : State) (u : State), Taken (.leaseAcquire d) s u ∧ d.u8 17 ≠ 0 ∧ (d.page = 0 ∨ ∀ p ∈ maskList 8 (d.u8 17), (u.tenant
      d.page).cmdParts.testBit p = true) ∧ u.leaseStates d.page (d.u8 17) = true ∧ u.leaseFree d.page (d.u8 17) = true) ∧
    (∃ (d : Desc) (s : State) (u : State), Taken (.leaseAcquire d) s u ∧ d.u8 17 ≠ 0 ∧ (d.page = 0 ∨ ∀ p ∈ maskList 8 (d.u8 17), (u.tenant
      d.page).cmdParts.testBit p = true) ∧ u.leaseStates d.page (d.u8 17) = true ∧ u.leaseFree d.page (d.u8 17) = false ∧ d.u8 18 ≠ 0 ∧
      u.leaseQ.length < 64) ∧
    (∃ (d : Desc) (s : State) (u : State), Taken (.leaseRelease d) s u ∧ d.u8 17 ≠ 0 ∧ u.holdsAll d.page (d.u8 17) = true) ∧
    (∃ (d : Desc) (s : State) (u : State) (r : _), Taken (.leaseTransfer d) s u ∧ d.u8 17 ≠ 0 ∧ u.holdsAll d.page (d.u8 17) = true ∧ (u.leaseQ.find?
      (fun r => decide (r.tenant = d.u16 20 ∧ r.parts &&& d.u8 17 = d.u8 17) && (u.leaseDrop (maskList 8 (d.u8 17))).leaseFree (d.u16 20) r.parts &&
      (u.leaseDrop (maskList 8 (d.u8 17))).leaseStates (d.u16 20) r.parts) = some r)) ∧
    (∃ (d : Desc) (s : State) (u : State), Taken (.leaseRevoke d) s u ∧ d.u8 17 ≠ 0 ∧ u.holdsAll (d.u16 20) (d.u8 17) = true) ∧
    (∃ (d : Desc) (s : State) (u : State), Taken (.leaseQuery d) s u ∧ d.buffer = 0xFFFFFFFF ∧ (u.stor.keeps = false ∨ u.stor.pend = [])) ∧
    (∃ (d : Desc) (s : State) (u : State), Taken (.leaseQuery d) s u ∧ d.buffer ≠ 0xFFFFFFFF ∧ (u.stor.keeps = false ∨ u.stor.pend = [])) ∧
    (∃ (d : Desc) (s : State) (u : State), Taken (.leaseQuery d) s u ∧ u.stor.keeps = true ∧ u.stor.pend ≠ []) :=
  ⟨⟨say .leaseAcquire 0xFFFF [(17, 1, 1)], { live with leases := [] }, _, taken (by decide +kernel), by decide +kernel⟩,
   ⟨say .leaseAcquire 0xFFFF [(17, 1, 1), (18, 1, 1)], { live with leases := [(0, { holder := some 1 })] }, _, taken (by decide +kernel),
     by decide +kernel⟩,
   ⟨say .leaseRelease 0xFFFF [(17, 1, 1)], live, _, taken (by decide +kernel), by decide +kernel⟩,
   ⟨say .leaseTransfer 0xFFFF [(17, 1, 1), (20, 2, 1)], wanted, _, aRequest, taken (by decide +kernel), by decide +kernel⟩,
   ⟨say .leaseRevoke 0xFFFF [(17, 1, 1), (20, 2, 1)], { live with leases := [(0, { holder := some 1 })] }, _, taken (by decide +kernel),
     by decide +kernel⟩,
   ⟨say .leaseQuery 0xFFFF [], live, _, taken (by decide +kernel), by decide +kernel⟩,
   ⟨{ say .leaseQuery 0xFFFF [] with buffer := 0 }, live, _, taken (by decide +kernel), by decide +kernel⟩,
   ⟨say .leaseQuery 0xFFFF [], stocked.setStor { stocked.stor with pend := [aRec] }, _, taken (by decide +kernel), by decide +kernel⟩⟩

theorem witness_PartitionLife :
    (∃ (d : Desc) (s : State) (u : State), Taken (.partCommit d) s u ∧ u.commitStatus d.target = 0) ∧
    (∃ (d : Desc) (s : State) (u : State), Taken (.partRelease d) s u) ∧
    (∃ (d : Desc) (s : State) (u : State) (differs : _), Taken (.precharge d differs) s u ∧ u.beaten d.target 9 = false ∧ u.prechargeBar d.target
      differs = 0 ∧ (Tab.get u.precWait none d.target).isSome = false ∧ (((u.brakeCodes d.target).filter fun c => (u.auxOf c).st = 0) = [])) ∧
    (∃ (d : Desc) (s : State) (u : State) (differs : _), Taken (.precharge d differs) s u ∧ u.beaten d.target 9 = false ∧ u.prechargeBar d.target
      differs = 0 ∧ (Tab.get u.precWait none d.target).isSome = false ∧ (((u.brakeCodes d.target).filter fun c => (u.auxOf c).st = 0) ≠ [])) ∧
    (∃ (d : Desc) (s : State) (u : State), Taken (.enable d) s u ∧ u.beaten d.target 9 = false ∧ u.selftestBar d.target = 0 ∧ u.tooHot d.target =
      false ∧ (u.ctlOf d.target).enWait = none ∧ (¬ (u.shape d.target ≠ 6 ∧ u.machine d.target = 4)) ∧ u.needsPulses d.target = false) ∧
    (∃ (d : Desc) (s : State) (u : State), Taken (.enable d) s u ∧ u.beaten d.target 9 = false ∧ u.selftestBar d.target = 0 ∧ u.tooHot d.target =
      false ∧ (u.ctlOf d.target).enWait = none ∧ (¬ (u.shape d.target ≠ 6 ∧ u.machine d.target = 4)) ∧ u.needsPulses d.target = true) ∧
    (∃ (d : Desc) (s : State) (u : State), Taken (.enable d) s u ∧ u.beaten d.target 9 = false ∧ u.selftestBar d.target = 0 ∧ u.tooHot d.target =
      false ∧ (u.ctlOf d.target).enWait = none ∧ u.shape d.target ≠ 6 ∧ u.machine d.target = 4) ∧
    (∃ (d : Desc) (s : State) (u : State), Taken (.disable d) s u ∧ u.beaten d.target 9 = false) ∧
    (∃ (d : Desc) (s : State) (u : State), Taken (.block d) s u ∧ (u.part d.target).st.energised = true ∧ u.beaten d.target 4 = false) ∧
    (∃ (d : Desc) (s : State) (u : State), Taken (.block d) s u ∧ ((u.part d.target).st.energised = false ∨ u.beaten d.target 4 = true)) ∧
    (∃ (d : Desc) (s : State) (u : State), Taken (.tripReset d) s u ∧ u.beaten d.target 9 = false ∧ (∀ r ∈ (u.protOf d.target).recs, r.t ≠ u.now) ∧
      u.sourceActive d.target = false ∧ u.stoHolds d.target = false) :=
  ⟨⟨say .partCommit 0 [], giveHost (((give (give live .partConfig 0 [(16, 1, 6), (28, 2, 15)]) .armSense 0 [(28, 1, 1)]).withStored 0x11 (say
     .armConfig 0 [(16, 1, 15), (17, 1, 5), (18, 2, 1)]) 15)) .laneAssign 0 [(16, 2, 1)] [0, 0, 15, 0], _, taken (by decide +kernel),
     by decide +kernel⟩,
   ⟨say .partRelease 0 [], inSt live 0 .blocked, _, taken (by decide +kernel)⟩,
   ⟨say (fun d => .precharge d false) 0 [], inSt live 0 .blocked, _, false, taken (by decide +kernel), by decide +kernel⟩,
   ⟨say (fun d => .precharge d false) 0 [], give (inSt live 0 .blocked) .emergConfig 0 [(16, 1, 0), (17, 1, 255)], _, false, taken
     (by decide +kernel), by decide +kernel⟩,
   ⟨say .enable 0 [], inSt live 0 .ready, _, taken (by decide +kernel), by decide +kernel⟩,
   ⟨say .enable 0 [], give (inSt live 0 .ready) .machConfig 0 [(16, 1, 2)], _, taken (by decide +kernel), by decide +kernel⟩,
   ⟨say .enable 0 [], give (inSt live 0 .ready) .machConfig 0 [(16, 1, 4)], _, taken (by decide +kernel), by decide +kernel⟩,
   ⟨say .disable 0 [], inSt live 0 .running, _, taken (by decide +kernel), by decide +kernel⟩,
   ⟨say .block 0 [], inSt live 0 .running, _, taken (by decide +kernel), by decide +kernel⟩,
   ⟨say .block 0 [], inSt live 0 .blocked, _, taken (by decide +kernel), by decide +kernel⟩,
   ⟨say .tripReset 0 [], inSt live 0 .tripped, _, taken (by decide +kernel), by decide +kernel⟩⟩

theorem witness_CellCommands :
    (∃ (d : Desc) (s : State) (u : State) (l : _), Taken (.cellBypass d) s u ∧ u.laneAt d.target (d.u8 16) (d.u8 17) = some l ∧ (u.cell l).st ≠
      .bypassed ∧ (¬ (((u.part d.target).st = .running ∨ (u.part d.target).st = .braking) ∧ (u.cell l).st = .available ∧ u.availCount d.target (u.cell
      l).arm - 1 < u.needed d.target (u.cell l).arm))) ∧
    (∃ (d : Desc) (s : State) (u : State) (l : _), Taken (.cellBypass d) s u ∧ u.laneAt d.target (d.u8 16) (d.u8 17) = some l ∧ (u.cell l).st =
      .bypassed) ∧
    (∃ (d : Desc) (s : State) (u : State) (l : _), Taken (.cellAdmit d) s u ∧ u.laneAt d.target (d.u8 16) (d.u8 17) = some l ∧ (u.cell l).st ≠
      .bypassed ∧ (u.cell l).st ≠ .isolated) ∧
    (∃ (d : Desc) (s : State) (u : State) (l : _), Taken (.cellAdmit d) s u ∧ u.laneAt d.target (d.u8 16) (d.u8 17) = some l ∧ (u.cell l).st =
      .bypassed ∧ u.cellHot l = 0 ∧ ((u.part d.target).st = .blocked ∨ (u.part d.target).st = .precharge)) ∧
    (∃ (d : Desc) (s : State) (u : State) (l : _), Taken (.cellAdmit d) s u ∧ u.laneAt d.target (d.u8 16) (d.u8 17) = some l ∧ (u.cell l).st =
      .bypassed ∧ u.cellHot l = 0 ∧ (¬ ((u.part d.target).st = .blocked ∨ (u.part d.target).st = .precharge)) ∧ isMmc (u.shape d.target) = true ∧
      (u.lane l).lstate = 4 ∧ (u.cell l).known = true) ∧
    (∃ (d : Desc) (s : State) (u : State), Taken (.thermSensorReset d) s u ∧ d.u8 16 = 1 ∧ d.u8 18 < 4) ∧
    (∃ (d : Desc) (s : State) (u : State) (l : _), Taken (.thermSensorReset d) s u ∧ d.u8 16 ≠ 1 ∧ u.laneAt d.target (d.u8 17) (d.u8 18) = some l) ∧
    (∃ (d : Desc) (s : State) (u : State), Taken (.coreMigrate d) s u ∧ (d.u8 16 = 1 ↔ (u.part d.target).core1 = true)) ∧
    (∃ (d : Desc) (s : State) (u : State), Taken (.coreMigrate d) s u ∧ (¬ (d.u8 16 = 1 ↔ (u.part d.target).core1 = true)) ∧ (if d.u8 16 = 1 then
      (u.part d.target).core1Failed else (u.part d.target).core0Failed) = false) ∧
    (∃ (d : Desc) (s : State) (u : State), Taken (.regionRestart d 0) s u ∧ (u.region d.target).fenced = true) ∧
    (∃ (d : Desc) (s : State) (u : State), Taken (.linkRetrain d) s u ∧ d.u16 16 < 1024 ∧ (u.cell (d.u16 16)).used = true ∧ (u.cell (d.u16 16)).part =
      d.target ∧ (u.cell (d.u16 16)).st ≠ .isolated ∧ (u.lane (d.u16 16)).lstate ≠ 5 ∧ ((u.part d.target).st.energised = true → (u.cell (d.u16 16)).st
      ∉ [.available, .qualifying, .charging])) :=
  ⟨⟨say .cellBypass 0 [], ((inSt (give (give live .partConfig 0 [(16, 1, 1)]) .armConfig 0 [(18, 2, 1), (20, 2, 0)]) 0 .blocked).setCell 5
     { used := true, part := 0, arm := 0, pos := 0 }).setLane 5 { lstate := 4 }, _, 5, taken (by decide +kernel), by decide +kernel⟩,
   ⟨say .cellBypass 0 [], ((inSt (give (give live .partConfig 0 [(16, 1, 1)]) .armConfig 0 [(18, 2, 1), (20, 2, 0)]) 0 .blocked).setCell 5
     { used := true, part := 0, arm := 0, pos := 0, st := .bypassed }).setLane 5 { lstate := 4 }, _, 5, taken (by decide +kernel), by decide +kernel⟩,
   ⟨say .cellAdmit 0 [], ((inSt (give (give live .partConfig 0 [(16, 1, 1)]) .armConfig 0 [(18, 2, 1), (20, 2, 0)]) 0 .blocked).setCell 5
     { used := true, part := 0, arm := 0, pos := 0 }).setLane 5 { lstate := 4 }, _, 5, taken (by decide +kernel), by decide +kernel⟩,
   ⟨say .cellAdmit 0 [], ((inSt (give (give live .partConfig 0 [(16, 1, 1)]) .armConfig 0 [(18, 2, 1), (20, 2, 0)]) 0 .blocked).setCell 5
     { used := true, part := 0, arm := 0, pos := 0, st := .bypassed }).setLane 5 { lstate := 4 }, _, 5, taken (by decide +kernel), by decide +kernel⟩,
   ⟨say .cellAdmit 0 [], ((inSt (give (give live .partConfig 0 [(16, 1, 1)]) .armConfig 0 [(18, 2, 1), (20, 2, 0)]) 0 .running).setCell 5
     { used := true, part := 0, arm := 0, pos := 0, st := .bypassed, known := true }).setLane 5 { lstate := 4 }, _, 5, taken (by decide +kernel),
     by decide +kernel⟩,
   ⟨say .thermSensorReset 0 [(16, 1, 1)], inSt live 0 .blocked, _, taken (by decide +kernel), by decide +kernel⟩,
   ⟨say .thermSensorReset 0 [(16, 1, 0)], ((inSt (give (give live .partConfig 0 [(16, 1, 1)]) .armConfig 0 [(18, 2, 1), (20, 2, 0)]) 0
     .blocked).setCell 5 { used := true, part := 0, arm := 0, pos := 0 }).setLane 5 { lstate := 4 }, _, 5, taken (by decide +kernel),
     by decide +kernel⟩,
   ⟨say .coreMigrate 0 [(16, 1, 0)], inSt live 0 .blocked, _, taken (by decide +kernel), by decide +kernel⟩,
   ⟨say .coreMigrate 0 [(16, 1, 1)], inSt live 0 .blocked, _, taken (by decide +kernel), by decide +kernel⟩,
   ⟨say (fun d => .regionRestart d 0) 0 [], live.setRegion 0 { fenced := true }, _, taken (by decide +kernel), by decide +kernel⟩,
   ⟨say .linkRetrain 0 [(16, 2, 5)], ((inSt (give (give live .partConfig 0 [(16, 1, 1)]) .armConfig 0 [(18, 2, 1), (20, 2, 0)]) 0 .blocked).setCell 5
     { used := true, part := 0, arm := 0, pos := 0 }).setLane 5 { lstate := 4 }, _, taken (by decide +kernel), by decide +kernel⟩⟩

theorem witness_ReferencesTaken :
    (∃ (d : Desc) (s : State) (u : State), u.follows d.target = false ∧ Taken (.setpoint d) s u ∧ u.emergActive d.target = false ∧ (u.motOf
      d.target).source = 0 ∧ (d.u8 16 = 0 → absQ (d.f32 20) ≤ u.nMax d.target)) ∧
    (∃ (d : Desc) (s : State) (u : State), u.follows d.target = false ∧ Taken (.supplySetpoint d) s u ∧ 8 / 10 * u.vdcNom d.target ≤ d.f32 16 ∧ d.f32
      16 ≤ 11 / 10 * u.vdcNom d.target) ∧
    (∃ (d : Desc) (s : State) (u : State), u.follows d.target = false ∧ Taken (.refSource d) s u ∧ u.emergActive d.target = false ∧ (d.u8 16 ≠
      (u.motOf d.target).source → (u.motOf d.target).source = 2 ∨ (u.motOf d.target).source = 4 → (u.motOf d.target).moving = false) ∧ d.u8 16 = 0) ∧
    (∃ (d : Desc) (s : State) (u : State), u.follows d.target = false ∧ Taken (.refSource d) s u ∧ u.emergActive d.target = false ∧ (d.u8 16 ≠
      (u.motOf d.target).source → (u.motOf d.target).source = 2 ∨ (u.motOf d.target).source = 4 → (u.motOf d.target).moving = false) ∧ d.u8 16 = 1 ∧
      u.given 0x41 d.target 0 = true) ∧
    (∃ (d : Desc) (s : State) (u : State), u.follows d.target = false ∧ Taken (.refSource d) s u ∧ u.emergActive d.target = false ∧ (d.u8 16 ≠
      (u.motOf d.target).source → (u.motOf d.target).source = 2 ∨ (u.motOf d.target).source = 4 → (u.motOf d.target).moving = false) ∧ d.u8 16 ∈ [2,
      3, 4] ∧ ((u.part d.target).st = .running → absQ (u.speed d.target) < u.nMax d.target / 100) ∧ (u.motOf d.target).calibrated = true ∧ u.given
      0x49 d.target 0 = true ∧ (d.u8 16 = 4 → u.given 0x4B d.target 0 = true)) ∧
    (∃ (d : Desc) (s : State) (u : State), u.follows d.target = false ∧ Taken (.curveInput d) s u ∧ (u.brkOf d.target).crash = none ∧ u.curveByte
      d.target 17 = 0) ∧
    (∃ (d : Desc) (s : State) (u : State), u.follows d.target = false ∧ Taken (.curveInput d) s u ∧ (u.brkOf d.target).crash = none ∧ u.curveByte
      d.target 17 ≠ 0) ∧
    (∃ (d : Desc) (s : State) (u : State), u.follows d.target = false ∧ Taken (.drumSet d) s u ∧ u.given 0x44 d.target 0 = true ∧ d.f32 16 ≤ u.ropeLen
      d.target) ∧
    (∃ (d : Desc) (s : State) (u : State), u.follows d.target = false ∧ Taken (.profileMove d) s u ∧ (u.brkOf d.target).render = false ∧ u.stopInRound
      d.target = false ∧ (u.motOf d.target).calibrated = true ∧ ((u.motOf d.target).source = 2 ∨ (u.motOf d.target).source = 4) ∧ d.f32 16 ≤ u.ropeLen
      d.target ∧ (u.vlimits d.target).1 ≤ d.f32 16 ∧ d.f32 16 ≤ (u.vlimits d.target).2 ∧ (u.motOf d.target).moving = false ∧ d.f32 16 ≠ (u.motOf
      d.target).pRef) ∧
    (∃ (d : Desc) (s : State) (u : State), u.follows d.target = false ∧ Taken (.profileMove d) s u ∧ (u.brkOf d.target).render = false ∧ u.stopInRound
      d.target = false ∧ (u.motOf d.target).calibrated = true ∧ ((u.motOf d.target).source = 2 ∨ (u.motOf d.target).source = 4) ∧ d.f32 16 ≤ u.ropeLen
      d.target ∧ (u.vlimits d.target).1 ≤ d.f32 16 ∧ d.f32 16 ≤ (u.vlimits d.target).2 ∧ (u.motOf d.target).moving = false ∧ d.f32 16 = (u.motOf
      d.target).pRef) ∧
    (∃ (d : Desc) (s : State) (u : State), u.follows d.target = false ∧ Taken (.profileMove d) s u ∧ (u.brkOf d.target).render = false ∧ u.stopInRound
      d.target = false ∧ (u.motOf d.target).calibrated = true ∧ ((u.motOf d.target).source = 2 ∨ (u.motOf d.target).source = 4) ∧ d.f32 16 ≤ u.ropeLen
      d.target ∧ (u.vlimits d.target).1 ≤ d.f32 16 ∧ d.f32 16 ≤ (u.vlimits d.target).2 ∧ (u.motOf d.target).moving = true ∧ d.u8 20 ≠ 0 ∧ (u.motOf
      d.target).follow = none) ∧
    (∃ (d : Desc) (s : State) (u : State), u.follows d.target = false ∧ Taken (.profileStop d) s u ∧ (u.brkOf d.target).render = false) ∧
    (∃ (d : Desc) (s : State) (u : State), u.follows d.target = false ∧ Taken (.tension d) s u ∧ (u.brkOf d.target).render = false) ∧
    (∃ (d : Desc) (s : State) (u : State), u.follows d.target = false ∧ Taken (.heaveRef d) s u ∧ u.heaveSrc d.target = 0) ∧
    (∃ (d : Desc) (s : State) (u : State), u.follows d.target = false ∧ Taken (.heaveRef d) s u ∧ u.heaveSrc d.target ≠ 0) ∧
    (∃ (d : Desc) (s : State) (u : State), u.follows d.target = false ∧ Taken (.tandemMaster d) s u ∧ (u.inTandem d.target = false ∨ u.isMaster
      d.target = true)) ∧
    (∃ (d : Desc) (s : State) (u : State), u.follows d.target = false ∧ Taken (.tandemMaster d) s u ∧ (¬ (u.inTandem d.target = false ∨ u.isMaster
      d.target = true))) :=
  ⟨⟨say .setpoint 0 [], inSt live 0 .running, _, by decide +kernel, taken (by decide +kernel), by decide +kernel⟩,
   ⟨say .supplySetpoint 0 [(16, 4, 1143930880)], give (inSt live 0 .running) .partConfig 0 [(20, 4, 1143930880)], _, by decide +kernel, taken
     (by decide +kernel), by decide +kernel⟩,
   ⟨say .refSource 0 [], inSt live 0 .running, _, by decide +kernel, taken (by decide +kernel), by decide +kernel⟩,
   ⟨say .refSource 0 [(16, 1, 1)], give (inSt live 0 .running) .curveLoad 0 [], _, by decide +kernel, taken (by decide +kernel), by decide +kernel⟩,
   ⟨say .refSource 0 [(16, 1, 2)], (give (give (inSt live 0 .running) .machConfig 0 [(28, 4, 1120403456)]) .vlimitConfig 0 []).setMot 0
     { calibrated := true, source := 2 }, _, by decide +kernel, taken (by decide +kernel), by decide +kernel⟩,
   ⟨say .curveInput 0 [], inSt live 0 .running, _, by decide +kernel, taken (by decide +kernel), by decide +kernel⟩,
   ⟨say .curveInput 0 [], give (inSt live 0 .running) .curveLoad 0 [(17, 1, 1)], _, by decide +kernel, taken (by decide +kernel), by decide +kernel⟩,
   ⟨say .drumSet 0 [(16, 4, 0)], give (inSt live 0 .blocked) .drumConfig 0 [(16, 1, 0), (24, 4, 1148846080), (28, 4, 0)], _, by decide +kernel, taken
     (by decide +kernel), by decide +kernel⟩,
   ⟨say .profileMove 0 [(16, 4, 1065353216)], (give (give (inSt live 0 .running) .drumConfig 0 [(16, 1, 0), (24, 4, 1148846080), (28, 4, 0)])
     .vlimitConfig 0 [(20, 4, 1120403456)]).setMot 0 { calibrated := true, source := 2 }, _, by decide +kernel, taken (by decide +kernel),
     by decide +kernel⟩,
   ⟨say .profileMove 0 [(16, 4, 1065353216)], (give (give (inSt live 0 .running) .drumConfig 0 [(16, 1, 0), (24, 4, 1148846080), (28, 4, 0)])
     .vlimitConfig 0 [(20, 4, 1120403456)]).setMot 0 { calibrated := true, source := 2, pRef := 1 }, _, by decide +kernel, taken (by decide +kernel),
     by decide +kernel⟩,
   ⟨say .profileMove 0 [(16, 4, 1065353216), (20, 1, 1)], (give (give (inSt live 0 .running) .drumConfig 0 [(16, 1, 0), (24, 4, 1148846080), (28, 4,
     0)]) .vlimitConfig 0 [(20, 4, 1120403456)]).setMot 0 { calibrated := true, source := 2, moving := true }, _, by decide +kernel, taken
     (by decide +kernel), by decide +kernel⟩,
   ⟨say .profileStop 0 [], inSt live 0 .running, _, by decide +kernel, taken (by decide +kernel), by decide +kernel⟩,
   ⟨say .tension 0 [], inSt live 0 .running, _, by decide +kernel, taken (by decide +kernel), by decide +kernel⟩,
   ⟨say .heaveRef 0 [], inSt live 0 .running, _, by decide +kernel, taken (by decide +kernel), by decide +kernel⟩,
   ⟨say .heaveRef 0 [], give (inSt live 0 .running) .heaveConfig 0 [(16, 1, 1)], _, by decide +kernel, taken (by decide +kernel), by decide +kernel⟩,
   ⟨say .tandemMaster 0 [], inSt live 0 .running, _, by decide +kernel, taken (by decide +kernel), by decide +kernel⟩,
   ⟨say .tandemMaster 0 [], (give (inSt live 0 .running) .tandemConfig 0 [(16, 1, 2), (24, 4, 1065353216), (30, 1, 1), (32, 4, 1065353216)]), _,
     by decide +kernel, taken (by decide +kernel), by decide +kernel⟩⟩

theorem witness_EmergencyOrders :
    (∃ (d : Desc) (s : State) (u : State), Taken (.crashStopStart d) s u ∧ absQ (d.f32 20) ≤ u.nMax d.target ∧ u.outranked d.target 9 = false ∧
      u.beaten d.target 10 = false ∧ (u.brkOf d.target).crash.isSome = true) ∧
    (∃ (d : Desc) (s : State) (u : State), Taken (.crashStopStart d) s u ∧ absQ (d.f32 20) ≤ u.nMax d.target ∧ u.outranked d.target 9 = false ∧
      u.beaten d.target 10 = false ∧ (u.brkOf d.target).crash = none) ∧
    (∃ (d : Desc) (s : State) (u : State), Taken (.crashStopEnd d) s u ∧ absQ (d.f32 20) ≤ u.nMax d.target ∧ u.outranked d.target 9 = false) ∧
    (∃ (d : Desc) (s : State) (u : State), Taken (.estopControlled d) s u ∧ (u.part d.target).st ≠ .ready ∧ u.outranked d.target 6 = false ∧ u.beaten
      d.target 7 = false ∧ ((u.brkOf d.target).estop = 0 ∨ (u.brkOf d.target).qr = true)) ∧
    (∃ (d : Desc) (s : State) (u : State), Taken (.estopControlled d) s u ∧ (u.part d.target).st = .ready) ∧
    (∃ (d : Desc) (s : State) (u : State), Taken (.estopControlled d) s u ∧ u.outranked d.target 6 = false ∧ u.beaten d.target 7 = false ∧ (u.brkOf
      d.target).estop ≠ 0 ∧ (u.brkOf d.target).qr = false) ∧
    (∃ (d : Desc) (s : State) (u : State), Taken (.estopShortCircuit d) s u ∧ (u.part d.target).st = .ready) ∧
    (∃ (d : Desc) (s : State) (u : State), Taken (.estopShortCircuit d) s u ∧ u.outranked d.target 5 = false ∧ u.beaten d.target 6 = false ∧ (u.brkOf
      d.target).sc.isSome = true) ∧
    (∃ (d : Desc) (s : State) (u : State), Taken (.estopShortCircuit d) s u ∧ (u.part d.target).st ≠ .ready ∧ u.outranked d.target 5 = false ∧
      u.beaten d.target 6 = false ∧ (u.brkOf d.target).sc = none ∧ u.scAvail d.target = true) ∧
    (∃ (d : Desc) (s : State) (u : State), Taken (.winchEmergEndRender d) s u ∧ u.outranked d.target 10 = false) ∧
    (∃ (d : Desc) (s : State) (u : State), Taken (.winchEmergRender d) s u ∧ u.outranked d.target 10 = false ∧ u.beaten d.target 11 = false ∧ (u.motOf
      d.target).calibrated = true ∧ (u.brkOf d.target).render = false) ∧
    (∃ (d : Desc) (s : State) (u : State), Taken (.winchEmergQuickRelease d) s u ∧ ((u.tenant d.page).role = 0 ∨ (u.tenant d.page).role = 1) ∧
      u.emByte d.target 18 0 = 1 ∧ u.outranked d.target 7 = false ∧ u.beaten d.target 8 = false ∧ 2 ≤ (u.motOf d.target).source) ∧
    (∃ (d : Desc) (s : State) (u : State), Taken (.protTrip d) s u) ∧
    (∃ (d : Desc) (s : State) (u : State), Taken (.protSelftest d) s u ∧ (u.protOf d.target).testing = none) :=
  ⟨⟨say .crashStopStart 0 [], (inSt live 0 .running).setBrk 0 { crash := some (0, 0) }, _, taken (by decide +kernel), by decide +kernel⟩,
   ⟨say .crashStopStart 0 [], inSt live 0 .running, _, taken (by decide +kernel), by decide +kernel⟩,
   ⟨say .crashStopEnd 0 [], inSt live 0 .running, _, taken (by decide +kernel), by decide +kernel⟩,
   ⟨say .estopControlled 0 [], inSt live 0 .running, _, taken (by decide +kernel), by decide +kernel⟩,
   ⟨say .estopControlled 0 [], inSt live 0 .ready, _, taken (by decide +kernel), by decide +kernel⟩,
   ⟨say .estopControlled 0 [], (inSt live 0 .running).setBrk 0 { estop := 1 }, _, taken (by decide +kernel), by decide +kernel⟩,
   ⟨say .estopShortCircuit 0 [], give (give (inSt live 0 .ready) .brakeConfig 0 [(17, 1, 1)]) .machConfig 0 [(16, 1, 2)], _, taken
     (by decide +kernel), by decide +kernel⟩,
   ⟨say .estopShortCircuit 0 [], (give (give (inSt live 0 .running) .brakeConfig 0 [(17, 1, 1)]) .machConfig 0 [(16, 1, 2)]).setBrk 0
     { sc := some 0 }, _, taken (by decide +kernel), by decide +kernel⟩,
   ⟨say .estopShortCircuit 0 [], give (give (inSt live 0 .running) .brakeConfig 0 [(17, 1, 1)]) .machConfig 0 [(16, 1, 2)], _, taken
     (by decide +kernel), by decide +kernel⟩,
   ⟨say .winchEmergEndRender 0 [], inSt live 0 .running, _, taken (by decide +kernel), by decide +kernel⟩,
   ⟨say .winchEmergRender 0 [], (inSt live 0 .running).setMot 0 { calibrated := true, source := 2 }, _, taken (by decide +kernel), by decide +kernel⟩,
   ⟨say .winchEmergQuickRelease 0 [], (give (inSt live 0 .running) .emergConfig 0 [(18, 1, 1)]).setMot 0 { calibrated := true, source := 2 }, _, taken
     (by decide +kernel), by decide +kernel⟩,
   ⟨say .protTrip 0 [], inSt live 0 .running, _, taken (by decide +kernel)⟩,
   ⟨say .protSelftest 0 [], inSt live 0 .blocked, _, taken (by decide +kernel), by decide +kernel⟩⟩

theorem witness_PlantCommands :
    (∃ (d : Desc) (s : State) (u : State), Taken (.supplyRecord d) s u) ∧
    (∃ (d : Desc) (s : State) (u : State), Taken (.calve d) s u) ∧
    (∃ (d : Desc) (s : State) (u : State), Taken (.calveClear d) s u) ∧
    (∃ (d : Desc) (s : State) (u : State), Taken (.plantReserve d) s u ∧ (∀ e ∈ reserveEntries d, e.1 < 1024 ∧ e.2 < 8 ∧ e.1 ≠ u.node ∧ (u.hops
      e.1).isSome = true)) ∧
    (∃ (d : Desc) (s : State) (u : State) (r : Req), Taken (.plantRelease d) s u ∧ ((u.plant.reqs.find? fun r => r.handle = d.u32 16 && r.page =
      d.page && r.done) = some r)) :=
  ⟨⟨say .supplyRecord 0 [], live, _, taken (by decide +kernel)⟩,
   ⟨say .calve 0xFFFF [], live, _, taken (by decide +kernel)⟩,
   ⟨say .calveClear 0xFFFF [], live, _, taken (by decide +kernel)⟩,
   ⟨{ say .plantReserve 0xFFFF [(16, 1, 1)] with host := [1, 0, 0, 0] },
     { live with fab := { ports := [(0, { up := true, peer := 1 })], recs := [(1, some ({ node := 1, epoch := 5, nbrs := [(0, 0)], partner := 0, role := 0, prio := 0, pps := false } : LinkRec))] } },
     _, taken (by decide +kernel), by decide +kernel⟩,
   ⟨say .plantRelease 0xFFFF [(16, 4, 7)], live.setPlant
     { reqs := [{ page := 0, series := 0, seq := 0, handle := 7, stamp := 0, deadline := 0, parts := [], done := true }] }, _,
     ({ page := 0, series := 0, seq := 0, handle := 7, stamp := 0, deadline := 0, parts := [], done := true } : Req), taken (by decide +kernel),
     by decide +kernel⟩⟩

theorem witness_AuxCommands :
    (∃ (d : Desc) (s : State) (u : State), u.auxBar d false = 0 ∧ Taken (.auxRunStart d) s u ∧ (u.auxOf d.target).st = 0 ∧ u.auxMode d.target ≠ 0 ∧
      u.auxStopInRound d.target = false ∧ (isMotor d.target = true ∨ u.auxMode d.target ≠ 2)) ∧
    (∃ (d : Desc) (s : State) (u : State), u.auxBar d false = 0 ∧ Taken (.auxRunStart d) s u ∧ (u.auxOf d.target).st ∉ [0, 9] ∧ u.auxMode d.target ≠ 0
      ∧ u.auxStopInRound d.target = false ∧ (isMotor d.target = true ∨ u.auxMode d.target ≠ 2) ∧ (isMotor d.target = true → (u.auxOf d.target).st ∉
      [6, 7])) ∧
    (∃ (d : Desc) (s : State) (u : State), u.auxBar d false = 0 ∧ Taken (.auxRunStop d) s u ∧ (u.auxOf d.target).st ∈ [0, 4, 6, 9]) ∧
    (∃ (d : Desc) (s : State) (u : State), u.auxBar d false = 0 ∧ Taken (.auxRunStop d) s u ∧ (u.auxOf d.target).st ∉ [0, 4, 6, 9] ∧ (¬ (isMotor
      d.target = true ∧ u.auxMode d.target = 1))) ∧
    (∃ (d : Desc) (s : State) (u : State), u.auxBar d false = 0 ∧ Taken (.auxRunStop d) s u ∧ (u.auxOf d.target).st ∉ [0, 4, 6, 7, 9] ∧ isMotor
      d.target = true ∧ u.auxMode d.target = 1) ∧
    (∃ (d : Desc) (s : State) (u : State), u.auxBar d false = 0 ∧ Taken (.auxInput d) s u ∧ isMotor d.target = true) ∧
    (∃ (d : Desc) (s : State) (u : State), u.auxBar d false = 0 ∧ Taken (.auxReset d) s u ∧ (u.auxOf d.target).st = 9) :=
  ⟨⟨say .auxRunStart 0 [], (give live .auxMode 0 [(16, 1, 2)]).setAux 0 {}, _, by decide +kernel, taken (by decide +kernel), by decide +kernel⟩,
   ⟨say .auxRunStart 0 [], (give live .auxMode 0 [(16, 1, 2)]).setAux 0 { st := 5 }, _, by decide +kernel, taken (by decide +kernel),
     by decide +kernel⟩,
   ⟨say .auxRunStop 0 [], (give live .auxMode 0 [(16, 1, 2)]).setAux 0 {}, _, by decide +kernel, taken (by decide +kernel), by decide +kernel⟩,
   ⟨say .auxRunStop 0 [], (give live .auxMode 0 [(16, 1, 2)]).setAux 0 { st := 5 }, _, by decide +kernel, taken (by decide +kernel),
     by decide +kernel⟩,
   ⟨say .auxRunStop 0 [], (give live .auxMode 0 [(16, 1, 1)]).setAux 0 { st := 5 }, _, by decide +kernel, taken (by decide +kernel),
     by decide +kernel⟩,
   ⟨say .auxInput 0 [], (give live .auxMode 0 [(16, 1, 1)]).setAux 0 {}, _, by decide +kernel, taken (by decide +kernel), by decide +kernel⟩,
   ⟨say .auxReset 0 [], (give live .auxMode 0 [(16, 1, 1)]).setAux 0 { st := 9 }, _, by decide +kernel, taken (by decide +kernel), by decide +kernel⟩⟩

theorem witness_ReportingCommands :
    (∃ (d : Desc) (s : State) (u : State) (x : _), Taken (.telemSub d) s u ∧ x =
      { part := d.target, cls := d.u8 17, rate := d.u8 18, cellArm := d.u8 19, mask := d.u32 20, count := d.u32 24, buffer := d.buffer } ∧ d.u32 20 ≠
      0 ∧ u.recordSize d.target (d.u32 20) (d.u8 19) ≤ 1024 ∧ (((u.streams.filter fun e => ¬ (e.1 = d.page ∧ e.2.1 = d.u8 16)).filter fun e => e.1 =
      d.page).length < 16) ∧ ((u.streams.filter fun e => ¬ (e.1 = d.page ∧ e.2.1 = d.u8 16)).length < 256) ∧ ((((u.streams.filter fun e => ¬ (e.1 =
      d.page ∧ e.2.1 = d.u8 16)).map fun e => u.streamLoad e.2.2).foldl (· + ·) 0) + u.streamLoad x ≤ 256000000)) ∧
    (∃ (d : Desc) (s : State) (u : State) (x : _), Taken (.telemUnsub d) s u ∧ Tab.get (u.page d.page).streams none (d.u8 16) = some x ∧ x.part =
      d.target) ∧
    (∃ (d : Desc) (s : State) (u : State), Taken (.eventConfig d) s u) ∧
    (∃ (d : Desc) (s : State) (u : State), Taken (.freeze d) s u) :=
  ⟨⟨{ say .telemSub 0 [(20, 4, 1)] with buffer := 0 }, live, _, _, taken (by decide +kernel), rfl, by decide +kernel⟩,
   ⟨say .telemUnsub 0 [],
     { live with pages := [(0, { rings := [(0, { enable := true })], streams := [(0, some { part := 0, cls := 1, rate := 0, cellArm := 0, mask := 1, count := 0, buffer := 0 })] })] },
     _, { part := 0, cls := 1, rate := 0, cellArm := 0, mask := 1, count := 0, buffer := 0 }, taken (by decide +kernel), by decide +kernel⟩,
   ⟨say .eventConfig 0xFFFF [], live, _, taken (by decide +kernel)⟩,
   ⟨say .freeze 0xFFFF [], live, _, taken (by decide +kernel)⟩⟩

theorem witness_StorageCommands :
    (∃ (d : Desc) (s : State) (u : State) (signed : _), Taken (.storFormat d signed) s u ∧ u.unsigned signed = false ∧ u.stor.state = 0 ∧
      u.stor.medium.present = true) ∧
    (∃ (d : Desc) (s : State) (u : State), u.stor.state ≠ 0 ∧ Taken (.firnSync d) s u ∧ u.stor.pend = []) ∧
    (∃ (d : Desc) (s : State) (u : State) (r : FirnRec), u.stor.state ≠ 0 ∧ Taken (.firnSync d) s u ∧ u.stor.pend.getLast? = some r) ∧
    (∃ (d : Desc) (s : State) (u : State) (signed : _), u.stor.state ≠ 0 ∧ Taken (.firnLoad d signed) s u ∧ u.unsigned signed = false ∧ u.stor.firnRo
      = false ∧ (∀ r ∈ parseRecs (fitTo (d.u32 16) d.host).length (fitTo (d.u32 16) d.host), r.stepping = 0xB1)) ∧
    (∃ (d : Desc) (s : State) (u : State) (signed : _), u.stor.state ≠ 0 ∧ Taken (.firnErase d signed) s u ∧ u.unsigned signed = false ∧ u.stor.firnRo
      = false) ∧
    (∃ (d : Desc) (s : State) (u : State), u.stor.state ≠ 0 ∧ Taken (.firnExport d) s u ∧ u.liveImage.length ≤ d.u32 16 ∧ u.stor.ops.length < 960) ∧
    (∃ (d : Desc) (s : State) (u : State), u.stor.state ≠ 0 ∧ Taken (.moraineConfig d) s u ∧ (moraineBuf d).need u d.target ≤ 64 ∧ ((moraineBuf
      d).need u d.target + ((u.stor.bufs.filter fun e => e.1 ≠ d.target).filterMap fun e => e.2.map fun x => x.need u e.1).foldl (· + ·) 0 ≤ 128)) ∧
    (∃ (d : Desc) (s : State) (u : State), u.stor.state ≠ 0 ∧ Taken (.moraineTrigger d) s u) ∧
    (∃ (d : Desc) (s : State) (u : State) (c : _), u.stor.state ≠ 0 ∧ Taken (.moraineRead d) s u ∧ u.capture (d.u32 16) = some c ∧ u.reads d.page
      c.part = true ∧ u.stor.captures.contains c = false ∧ u.stor.ops.length < 960) ∧
    (∃ (d : Desc) (s : State) (u : State) (c : _), u.stor.state ≠ 0 ∧ Taken (.moraineProtect d) s u ∧ u.capture (d.u32 16) = some c ∧ u.reads d.page
      c.part = true ∧ (d.u8 20 = 1 → 4 * (((u.captures.filter fun x => x.prot && x.record ≠ c.record).map fun x => x.length + 32).foldl (· + ·) 0 +
      c.length + 32) ≤ u.moraineBytes)) ∧
    (∃ (d : Desc) (s : State) (u : State), u.stor.state ≠ 0 ∧ Taken (.auditRead d) s u ∧ (∃ e ∈ u.stor.medium.audit, e.num = d.u64 16) ∧
      u.stor.ops.length < 960) ∧
    (∃ (d : Desc) (s : State) (u : State), u.stor.state ≠ 0 ∧ Taken (.userWrite d) s u ∧ d.u32 20 ≠ 0 ∧ d.u32 20 ≤ u.userQuota ∧ u.worn 3 = false ∧
      u.userUse d.page (d.u8 16) + d.u32 20 ≤ u.userQuota ∧ u.stor.ops.length < 960) ∧
    (∃ (d : Desc) (s : State) (u : State) (b : Blob), u.stor.state ≠ 0 ∧ Taken (.userRead d) s u ∧ u.blob d.page (d.u8 16) = some b ∧ b.gen =
      (u.tenant d.page).gen ∧ u.stor.ops.length < 960) ∧
    (∃ (d : Desc) (s : State) (u : State) (b : Blob), u.stor.state ≠ 0 ∧ Taken (.userDelete d) s u ∧ u.blob d.page (d.u8 16) = some b) ∧
    (∃ (d : Desc) (s : State) (u : State) (signed : _), u.stor.state ≠ 0 ∧ Taken (.storFormat d signed) s u ∧ u.unsigned signed = false ∧ u.stor.state
      = 4) :=
  ⟨⟨say (fun d => .storFormat d true) 0xFFFF [], stocked.setStor
     { stocked.stor with state := 0, medium := { stocked.stor.medium with present := true } }, _, true, taken (by decide +kernel), by decide +kernel⟩,
   ⟨say .firnSync 0xFFFF [], stocked, _, by decide +kernel, taken (by decide +kernel), by decide +kernel⟩,
   ⟨say .firnSync 0xFFFF [], stocked.setStor { stocked.stor with pend := [aRec] }, _, aRec, by decide +kernel, taken (by decide +kernel),
     by decide +kernel⟩,
   ⟨{ say (fun d => .firnLoad d true) 0xFFFF [(16, 4, 1024)] with host := (zeros 9 ++ [0xB1] ++ leBytes 2 1000 ++ zeros 1012) }, stocked, _, true,
     by decide +kernel, taken (by decide +kernel), by decide +kernel⟩,
   ⟨say (fun d => .firnErase d true) 0xFFFF [], stocked, _, true, by decide +kernel, taken (by decide +kernel), by decide +kernel⟩,
   ⟨{ say .firnExport 0xFFFF [(16, 4, 65536)] with buffer := 0 }, stocked, _, by decide +kernel, taken (by decide +kernel), by decide +kernel⟩,
   ⟨say .moraineConfig 0 [], stocked, _, by decide +kernel, taken (by decide +kernel), by decide +kernel⟩,
   ⟨say .moraineTrigger 0 [], stocked, _, by decide +kernel, taken (by decide +kernel)⟩,
   ⟨{ say .moraineRead 0xFFFF [(16, 4, 1), (24, 4, 1)] with buffer := 0 }, stocked.setStor
     { stocked.stor with captures := [], medium := { stocked.stor.medium with moraine := [aCapture] } }, _, aCapture, by decide +kernel, taken
     (by decide +kernel), by decide +kernel⟩,
   ⟨say .moraineProtect 0xFFFF [(16, 4, 1)], stocked, _, aCapture, by decide +kernel, taken (by decide +kernel), by decide +kernel⟩,
   ⟨{ say .auditRead 0xFFFF [] with buffer := 0 }, stocked.setStor { stocked.stor with medium := { stocked.stor.medium with audit := [anAudit] } }, _,
     by decide +kernel, taken (by decide +kernel), by decide +kernel⟩,
   ⟨say .userWrite 0xFFFF [(20, 4, 1)], stocked, _, by decide +kernel, taken (by decide +kernel), by decide +kernel⟩,
   ⟨{ say .userRead 0xFFFF [] with buffer := 0 }, stocked.setBlob 0 0 (some { gen := 0, bytes := [], counter := 0 }), _,
     ({ gen := 0, bytes := [], counter := 0 } : Blob), by decide +kernel, taken (by decide +kernel), by decide +kernel⟩,
   ⟨say .userDelete 0xFFFF [], stocked.setBlob 0 0 (some { gen := 0, bytes := [], counter := 0 }), _, ({ gen := 0, bytes := [], counter := 0 } :
     Blob), by decide +kernel, taken (by decide +kernel), by decide +kernel⟩,
   ⟨say (fun d => .storFormat d true) 0xFFFF [], stocked.setStor
     { stocked.stor with state := 4, medium := { stocked.stor.medium with present := true } }, _, true, by decide +kernel, taken (by decide +kernel),
     by decide +kernel⟩⟩

theorem witness_FabricCommands :
    (∃ (d : Desc) (s : State) (u : State) (ready : _), Taken (.takeover d ready) s u ∧ (if u.fab.role = 2 then u.standbyReady else u.fab.role = 1 &&
      ready) = true ∧ u.fab.order = false) ∧
    (∃ (d : Desc) (s : State) (u : State), Taken (.sharePublish d) s u ∧ u.heaveSubs = []) ∧
    (∃ (d : Desc) (s : State) (u : State) (n : _) (m : _), Taken (.sharePublish d) s u ∧ u.heaveSubs = [(n, m)] ∧ n ≠ u.node ∧ (m = 0xFFFF ∨ u.roleOf
      n = 1 ∨ u.roleOf m ≠ 1)) ∧
    (∃ (d : Desc) (s : State) (u : State) (r : FabRecv), Taken (.fabSend d) s u ∧ d.u16 16 = u.node ∧ u.bulkRecv u.node (d.u16 18) d.page (fitTo
      (d.u32 20) d.host).length = some r) ∧
    (∃ (d : Desc) (s : State) (u : State), Taken (.fabSend d) s u ∧ d.u16 16 ≠ u.node ∧ (u.hops (u.standIn (d.u16 16))).isSome = true ∧ u.fabOpen <
      7680) ∧
    (∃ (d : Desc) (s : State) (u : State), Taken (.fabRecv d) s u ∧ ((u.fab.recvs.filter fun r => r.page = d.page).length < 4)) :=
  ⟨⟨say (fun d => .takeover d true) 0xFFFF [], { give live .standbyConfig 0xFFFF [(16, 1, 2), (18, 2, 1), (20, 1, 1)] with fab := { role := 1 } }, _,
     true, taken (by decide +kernel), by decide +kernel⟩,
   ⟨say .sharePublish 0xFFFF [], live, _, taken (by decide +kernel), by decide +kernel⟩,
   ⟨say .sharePublish 0xFFFF [], give live .shareSubConfig 0xFFFF [(16, 1, 1), (20, 2, 1), (22, 2, 65535)], _, 1, 0xFFFF, taken (by decide +kernel),
     by decide +kernel⟩,
   ⟨say .fabSend 0xFFFF [(16, 2, 0), (20, 4, 1)],
     { live with fab := { recvs := [{ page := 0, series := 0, seq := 0, buffer := 0, node := 0xFFFF, tenant := 0, maxLen := 64 }] } }, _,
     ({ page := 0, series := 0, seq := 0, buffer := 0, node := 0xFFFF, tenant := 0, maxLen := 64 } : FabRecv), taken (by decide +kernel),
     by decide +kernel⟩,
   ⟨say .fabSend 0xFFFF [(16, 2, 1)],
     { live with fab := { ports := [(0, { up := true, peer := 1 })], recs := [(1, some ({ node := 1, epoch := 5, nbrs := [(0, 0)], partner := 0, role := 0, prio := 0, pps := false } : LinkRec))] } },
     _, taken (by decide +kernel), by decide +kernel⟩,
   ⟨{ say .fabRecv 0xFFFF [] with buffer := 0 }, live, _, taken (by decide +kernel), by decide +kernel⟩⟩

theorem witness_CanCommands :
    (∃ (d : Desc) (s : State) (u : State), ((u.can d.target).owner = none ∨ (u.can d.target).owner = some d.page) ∧ Taken (.canDetect d) s u ∧ (u.can
      d.target).search = none ∧ u.canCands d.target ≠ []) ∧
    (∃ (d : Desc) (s : State) (u : State), ((u.can d.target).owner = none ∨ (u.can d.target).owner = some d.page) ∧ Taken (.canRxPost d) s u ∧ (u.can
      d.target).rx.length < 2 ∧ (u.can d.target).stage = []) ∧
    (∃ (d : Desc) (s : State) (u : State) (sof : _), ((u.can d.target).owner = none ∨ (u.can d.target).owner = some d.page) ∧ Taken (.canTx d sof) s u
      ∧ (u.can d.target).mode = 1 ∧ u.canFrameOk d.target (canFrame d) = true ∧ u.canStop d.target (leNat (canFrame d) 8 4) = decide (d.u8 16 = 2) ∧
      Tab.get (u.can d.target).tx none (d.u8 16) = none) ∧
    (∃ (d : Desc) (s : State) (u : State) (sof : _), ((u.can d.target).owner = none ∨ (u.can d.target).owner = some d.page) ∧ Taken (.canTxAbort d
      sof) s u ∧ u.canFlying d.target sof = none ∧ (u.can d.target).next = none) :=
  ⟨⟨say .canDetect 0 [], give live .canRateConfig 0 [], _, by decide +kernel, taken (by decide +kernel), by decide +kernel⟩,
   ⟨{ say .canRxPost 0 [] with buffer := 0 }, live, _, by decide +kernel, taken (by decide +kernel), by decide +kernel⟩,
   ⟨{ say (fun d => .canTx d 0) 0 [] with host := put (zeros 80) 8 4 0x700, buffer := 0 }, live.setCan 0 { mode := 1 }, _, 0, by decide +kernel, taken
     (by decide +kernel), by decide +kernel⟩,
   ⟨say (fun d => .canTxAbort d 0) 0 [], live.setCan 0 { mode := 1 }, _, 0, by decide +kernel, taken (by decide +kernel), by decide +kernel⟩⟩

theorem witness_TenantCommands :
    (∃ (d : Desc) (s : State) (u : State), Taken (.tenantCreate d) s u ∧ (u.tenant d.target).active = false) ∧
    (∃ (d : Desc) (s : State) (u : State), Taken (.tenantBind d) s u ∧ d.target = 0 ∧ (u.tenant 0).active = true ∧ d.u64 32 % 4096 = 0 ∧ d.u64 40 %
      4096 = 0 ∧ ((d.payload.take 16).any (fun b => b ≠ 0) = false) ∧ (∀ r ∈ u.ringsOn 0, d.u64 32 ≤ ((u.page 0).ring r).base ∧ ((u.page 0).ring
      r).base + ((u.page 0).ring r).size * entrySize r ≤ d.u64 32 + d.u64 40)) ∧
    (∃ (d : Desc) (s : State) (u : State), Taken (.tenantBind d) s u ∧ d.target ≠ 0 ∧ (u.tenant d.target).active = true ∧ d.u64 32 % 4096 = 0 ∧ d.u64
      40 % 4096 = 0 ∧ u.ringsOn d.target = []) ∧
    (∃ (d : Desc) (s : State) (u : State), Taken (.tenantRetire d) s u ∧ d.target ≠ 0 ∧ d.target ≠ d.page ∧ (u.tenant d.target).active = true) ∧
    (∃ (d : Desc) (s : State) (u : State), Taken (.slotSchedule d) s u ∧ (∀ x ∈ slotsOf d.host, x = 0xFFFF ∨ (x ≤ 1023 ∧ (u.tenant x).active = true))) ∧
    (∃ (d : Desc) (s : State) (u : State) (signed : _), Taken (.secCtrlEnter d signed) s u ∧ u.sec.ownerKeys ≠ [] ∧ signed = true) ∧
    (∃ (d : Desc) (s : State) (u : State) (signed : _), Taken (.secCtrlLeave d signed) s u ∧ u.sec.ownerKeys ≠ [] ∧ signed = true) ∧
    (∃ (d : Desc) (s : State) (u : State), Taken (.secCtrlConsent d) s u ∧ consentOf d ≤ 1023 ∧ (u.tenant (consentOf d)).active = true) ∧
    (∃ (d : Desc) (s : State) (u : State) (signed : _), Taken (.secCtrlEnrolKey d signed) s u ∧ Tab.get u.sec.ownerKeys [] (d.u8 18) = [] ∧
      (u.sec.ownerKeys = [] ∨ signed = true)) ∧
    (∃ (d : Desc) (s : State) (u : State) (signed : _), Taken (.secCtrlRevokeKey d signed) s u ∧ Tab.get u.sec.ownerKeys [] (d.u8 18) ≠ [] ∧ 1 <
      u.sec.ownerKeys.length ∧ signed = true) ∧
    (∃ (d : Desc) (s : State) (u : State) (svn : _) (raises : _), Taken (.fwUpdate d true svn raises) s u ∧ u.stor.state ≠ 0 ∧ u.sec.arbCounter ≤ svn
      ∧ u.worn 0 = false ∧ u.stor.ops.length < 960) ∧
    (∃ (d : Desc) (s : State) (u : State), Taken (.testEccInject d) s u ∧ d.u8 17 < (areaSize (d.u8 16)).1 ∧ d.u32 20 < (areaSize (d.u8 16)).2 ∧ d.u32
      20 % 8 = 0 ∧ u.testFree (if d.u8 16 = 0 then [d.u8 17] else if d.u8 16 = 1 then [d.u8 17 / 8] else List.range 8) = true) ∧
    (∃ (d : Desc) (s : State) (u : State), Taken (.testWdogStop d) s u ∧ u.testFree [d.target] = true) ∧
    (∃ (d : Desc) (s : State) (u : State), Taken (.testLinkSilence d) s u ∧ u.testFree [d.target / 128] = true) :=
  ⟨⟨say .tenantCreate 1 [], live, _, taken (by decide +kernel), by decide +kernel⟩,
   ⟨say .tenantBind 0 [(40, 8, 4096)], { live with pages := [(0, { rings := [(0, { enable := true })] })] }, _, taken (by decide +kernel),
     by decide +kernel⟩,
   ⟨say .tenantBind 1 [], { live with tenants := [(0, Tenant.owner), (1, { active := true, role := 1 })] }, _, taken (by decide +kernel),
     by decide +kernel⟩,
   ⟨say .tenantRetire 1 [], { live with tenants := [(0, Tenant.owner), (1, { active := true, role := 1 })] }, _, taken (by decide +kernel),
     by decide +kernel⟩,
   ⟨{ say .slotSchedule 0xFFFF [] with host := [] }, live, _, taken (by decide +kernel), by decide +kernel⟩,
   ⟨say (fun d => .secCtrlEnter d true) 0xFFFF [], { live with sec := { ownerKeys := [(0, [1])] } }, _, true, taken (by decide +kernel),
     by decide +kernel⟩,
   ⟨say (fun d => .secCtrlLeave d true) 0xFFFF [], { live with sec := { ownerKeys := [(0, [1])] } }, _, true, taken (by decide +kernel),
     by decide +kernel⟩,
   ⟨say .secCtrlConsent 0xFFFF [], live, _, taken (by decide +kernel), by decide +kernel⟩,
   ⟨say (fun d => .secCtrlEnrolKey d true) 0xFFFF [], live, _, true, taken (by decide +kernel), by decide +kernel⟩,
   ⟨say (fun d => .secCtrlRevokeKey d true) 0xFFFF [], { live with sec := { ownerKeys := [(0, [1]), (1, [2])] } }, _, true, taken (by decide +kernel),
     by decide +kernel⟩,
   ⟨say (fun d => .fwUpdate d true 0 false) 0xFFFF [], stocked, _, 0, false, taken (by decide +kernel), by decide +kernel⟩,
   ⟨say .testEccInject 0xFFFF [], { live with sys := { tapOpen := true } }, _, taken (by decide +kernel), by decide +kernel⟩,
   ⟨say .testWdogStop 0 [], { live with sys := { tapOpen := true } }, _, taken (by decide +kernel), by decide +kernel⟩,
   ⟨say .testLinkSilence 0 [], { live with sys := { tapOpen := true } }, _, taken (by decide +kernel), by decide +kernel⟩⟩

theorem witness_DoorbellsTaken :
    (∃ (s : State) (u : State) (t : Time) (n : Nat) (v : Nat) (r : _), s.power = .running ∧ u = s.at t ∧ n < 1024 ∧ (u.tenant n).active = true ∧ v <
      0x10000 ∧ r < 4 ∧ ((u.page n).ring r).enable = true ∧ v < ((u.page n).ring r).size) ∧
    (∃ (s : State) (u : State) (t : Time) (n : Nat) (v : Nat) (r : _), s.power = .running ∧ u = s.at t ∧ n < 1024 ∧ (u.tenant n).active = true ∧ v <
      0x10000 ∧ r < 4 ∧ ((u.page n).ring r).enable = true ∧ ((u.page n).ring r).size ≤ v) ∧
    (∃ (s : State) (u : State) (t : Time) (n : Nat) (v : Nat) (r : _), s.power = .running ∧ u = s.at t ∧ n < 1024 ∧ (u.tenant n).active = true ∧ v <
      0x10000 ∧ ((u.page n).ring r).enable = false) ∧
    (∃ (s : State) (u : State) (t : Time) (n : Nat) (v : Nat), s.power = .running ∧ u = s.at t ∧ n < 1024 ∧ (u.tenant n).active = true ∧ v < 0x10000 ∧
      ((u.page n).ring 4).enable = false) ∧
    (∃ (s : State) (u : State) (t : Time) (n : Nat) (v : Nat), s.power = .running ∧ u = s.at t ∧ n < 1024 ∧ (u.tenant n).active = true ∧ v < 0x10000 ∧
      ((u.page n).ring 5).enable = false) ∧
    (∃ (s : State) (u : State) (t : Time) (n : Nat) (v : Nat), s.power = .running ∧ u = s.at t ∧ n < 1024 ∧ (u.tenant n).active = true ∧ v < 0x10000 ∧
      ((u.page n).ring 4).enable = true ∧ v < ((u.page n).ring 4).size ∧ ((u.page n).ring 4).acked v ≤ ((u.page n).ring 4).wr - ((u.page n).ring
      4).ack ∧ (u.page n).refused = []) ∧
    (∃ (s : State) (u : State) (t : Time) (n : Nat) (v : Nat), s.power = .running ∧ u = s.at t ∧ n < 1024 ∧ (u.tenant n).active = true ∧ v < 0x10000 ∧
      ((u.page n).ring 5).enable = true ∧ v < ((u.page n).ring 5).size ∧ ((u.page n).ring 5).acked v ≤ ((u.page n).ring 5).wr - ((u.page n).ring
      5).ack ∧ (u.page n).staging = []) ∧
    (∃ (s : State) (u : State) (t : Time) (n : Nat) (v : Nat), s.power = .running ∧ u = s.at t ∧ n < 1024 ∧ (u.tenant n).active = true ∧ v < 0x10000) :=
  ⟨⟨{ live with pages := [(0, { rings := [(0, { enable := true, logSize := 6 })] })] }, _, 0, 0, 1, 0, rfl, rfl, by decide +kernel⟩,
   ⟨{ live with pages := [(0, { rings := [(0, { enable := true, logSize := 6 })] })] }, _, 0, 0, 100, 0, rfl, rfl, by decide +kernel⟩,
   ⟨live, _, 0, 0, 0, 1, rfl, rfl, by decide +kernel⟩,
   ⟨live, _, 0, 0, 0, rfl, rfl, by decide +kernel⟩,
   ⟨live, _, 0, 0, 0, rfl, rfl, by decide +kernel⟩,
   ⟨{ live with pages := [(0, { rings := [(4, { enable := true, logSize := 6 })] })] }, _, 0, 0, 0, rfl, rfl, by decide +kernel⟩,
   ⟨{ live with pages := [(0, { rings := [(5, { enable := true, logSize := 6 })] })] }, _, 0, 0, 0, rfl, rfl, by decide +kernel⟩,
   ⟨live, _, 0, 0, 0, rfl, rfl, by decide +kernel⟩⟩

theorem witness_DescriptorsAccepted :
    (∃ (s : State) (u : State) (w : State) (t : Time) (n : Nat) (r : Nat) (bytes : List Byte), s.power = .running ∧ u = s.at t ∧ n < 1024 ∧ (u.tenant
      n).active = true ∧ r < 4 ∧ ((u.page n).ring r).enable = true ∧ ((u.page n).ring r).head ≠ ((u.page n).ring r).tail ∧ (u.page n).window < 12 ∧
      u.mayFetch n = true ∧ opDefined (byteAt bytes 4) = true ∧ w =
      { u.setPage n ((u.page n).setRing r { (u.page n).ring r with head := (((u.page n).ring r).head + 1) % ((u.page n).ring r).size }) with sec := { u.sec with fetchesLeft := u.sec.fetchesLeft - 1 } }) ∧
    (∃ (s : State) (u : State) (t : Time) (n : Nat) (r : Nat), s.power = .running ∧ u = s.at t ∧ n < 1024 ∧ (((u.page n).ring r).enable = false ∨
      ((u.page n).ring r).head = ((u.page n).ring r).tail ∨ 12 ≤ (u.page n).window ∨ u.mayFetch n = false)) ∧
    (∃ (s : State) (u : State) (t : Time) (n : Nat) (v : Nat) (d : Desc), s.power = .running ∧ u = s.at t ∧ n < 1024 ∧ (u.tenant n).active = true ∧
      (u.page n).window < 16 ∧ d = descOf n 4 (fitTo 64 (u.page n).stage) u.now ∧ d.seq ≠ v) ∧
    (∃ (s : State) (u : State) (t : Time) (n : Nat) (v : Nat) (d : Desc), s.power = .running ∧ u = s.at t ∧ n < 1024 ∧ (u.tenant n).active = true ∧
      (u.page n).window < 16 ∧ d = descOf n 4 (fitTo 64 (u.page n).stage) u.now ∧ d.seq = v ∧ opDefined (byteAt (fitTo 64 (u.page n).stage) 4) = true
      ∧ (u.accept (byteAt (fitTo 64 (u.page n).stage) 4) d).2 = true) :=
  ⟨⟨{ live with pages := [(0, { rings := [(0, { enable := true, logSize := 6, tail := 1 })] })] }, _, _, 0, 0, 0, put (zeros 64) 4 1 1, rfl, rfl,
     by decide +kernel, rfl, by decide +kernel, rfl, by decide +kernel, by decide +kernel, by decide +kernel, by decide +kernel, rfl⟩,
   ⟨live, _, 0, 0, 0, rfl, rfl, by decide +kernel⟩,
   ⟨live, _, 0, 0, 1, _, rfl, rfl, by decide +kernel, by decide +kernel, by decide +kernel, rfl, by decide +kernel⟩,
   ⟨{ live with pages := [(0, { stage := put (zeros 64) 4 1 0x1A })] }, _, 0, 0, 0, _, rfl, rfl, by decide +kernel, by decide +kernel,
     by decide +kernel, rfl, by decide +kernel⟩⟩

theorem witness_RingEvents :
    (∃ (s : State) (u : State) (t : Time), s.power = .running ∧ u = s.at t) ∧
    (∃ (s : State) (u : State) (t : Time), s.power = .running ∧ u = s.at t) ∧
    (∃ (s : State) (u : State) (t : Time) (n : _) (r : _) (w : _), s.power = .running ∧ u = s.at t ∧ n < 1024 ∧ ((u.page n).ring r).irqLast = some w ∧
      w + ((u.page n).ring r).holdoff * 1000 ≤ u.now ∧ 0 < ((u.page n).ring r).irqPend) ∧
    (∃ (s : State) (u : State) (t : Time) (n : _) (r : _), s.power = .running ∧ u = s.at t ∧ n < 1024 ∧ ((u.page n).ring r).irqPend = 0) ∧
    (∃ (s : State) (u : State) (t : Time), s.power = .running ∧ u = s.at t) ∧
    (∃ (s : State) (u : State) (t : Time), s.power = .running ∧ u = s.at t) ∧
    (∃ (s : State) (u : State) (t : Time) (n : _) (src : _) (code : _) (c : _), s.power = .running ∧ u = s.at t ∧ n < 1024 ∧ (((u.page n).coal.find?
      fun c => c.src = src ∧ c.code = code ∧ c.ends ≤ u.now) = some c) ∧ c.count ≠ 0) ∧
    (∃ (s : State) (u : State) (t : Time) (n : _) (src : _) (code : _), s.power = .running ∧ u = s.at t ∧ n < 1024 ∧ (((u.page n).coal.find? fun c =>
      c.src = src ∧ c.code = code ∧ c.ends ≤ u.now) = none)) ∧
    (∃ (s : State) (u : State) (t : Time) (n : _) (cls : _) (path : _), s.power = .running ∧ u = s.at t ∧ n < 1024 ∧ (((u.page n).shed.find? fun x =>
      x.cls = cls ∧ x.path = path ∧ x.count ≠ 0) = none)) ∧
    (∃ (s : State) (u : State) (t : Time) (n : _) (cls : _) (path : _) (x : Shed), s.power = .running ∧ u = s.at t ∧ n < 1024 ∧ (((u.page
      n).shed.find? fun x => x.cls = cls ∧ x.path = path ∧ x.count ≠ 0) = some x)) :=
  ⟨⟨live, _, 0, rfl, rfl⟩,
   ⟨live, _, 0, rfl, rfl⟩,
   ⟨{ live with pages := [(0, { rings := [(4, { enable := true, irqLast := some 0, irqPend := 1 })] })] }, _, 0, 0, 4, 0, rfl, rfl, by decide +kernel⟩,
   ⟨live, _, 0, 0, 0, rfl, rfl, by decide +kernel⟩,
   ⟨live, _, 0, rfl, rfl⟩,
   ⟨live, _, 0, rfl, rfl⟩,
   ⟨{ live with pages := [(0, { coal := [aCoal] })] }, _, 100000000000000, 0, 0, 0, aCoal, rfl, rfl, by decide +kernel⟩,
   ⟨live, _, 0, 0, 0, 0, rfl, rfl, by decide +kernel⟩,
   ⟨live, _, 0, 0, 0, 0, rfl, rfl, by decide +kernel⟩,
   ⟨{ live with pages := [(0, { shed := [aShed] })] }, _, 0, 0, 4, 0, aShed, rfl, rfl, by decide +kernel⟩⟩

theorem witness_DmaCompletes :
    (∃ (s : State) (u : State) (t : Time) (n : Nat) (r : Nat) (p : Post) (rest : List Post) (a : _), s.power = .running ∧ u = s.at t ∧ n < 1024 ∧
      takePost .buffer n r u.outbox = some (p, rest) ∧ (u.page n).find p.series p.seq = some a ∧ a.await = .dma) ∧
    (∃ (s : State) (u : State) (t : Time) (n : Nat) (r : Nat) (p : Post) (rest : List Post) (a : _), s.power = .running ∧ u = s.at t ∧ n < 1024 ∧
      takePost .buffer n r u.outbox = some (p, rest) ∧ (u.page n).find p.series p.seq = some a ∧ a.await = .dma) ∧
    (∃ (s : State) (u : State) (t : Time) (n : Nat), s.power = .running ∧ u = s.at t ∧ n < 1024) ∧
    (∃ (s : State) (u : State) (t : Time) (n : Nat), s.power = .running ∧ u = s.at t ∧ n < 1024) ∧
    (∃ (s : State) (u : State) (t : Time) (n : Nat) (r : Nat), s.power = .running ∧ u = s.at t ∧ n < 1024 ∧ takePost .buffer n r u.outbox = none) ∧
    (∃ (s : State) (u : State) (t : Time) (n : Nat) (r : Nat) (p : Post) (rest : List Post), s.power = .running ∧ u = s.at t ∧ n < 1024 ∧ takePost
      .completion n r u.outbox = some (p, rest)) ∧
    (∃ (s : State) (u : State) (t : Time) (n : Nat) (r : Nat) (p : Post) (rest : List Post), s.power = .running ∧ u = s.at t ∧ n < 1024 ∧ takePost
      .completion n r u.outbox = some (p, rest)) :=
  ⟨⟨{ live with pages := [(0, { acc := [{ series := 0, seq := 0, op := 1, flags := 0, target := 0, started := true, await := .dma }] })], outbox := [{ kind := .buffer, page := 0, ring := 0, addr := 0, bytes := [] }] },
     _, 0, 0, 0, { kind := .buffer, page := 0, ring := 0, addr := 0, bytes := [] }, [],
     { series := 0, seq := 0, op := 1, flags := 0, target := 0, started := true, await := .dma }, rfl, rfl, by decide +kernel⟩,
   ⟨{ live with pages := [(0, { acc := [{ series := 0, seq := 0, op := 1, flags := 0, target := 0, started := true, await := .dma }] })], outbox := [{ kind := .buffer, page := 0, ring := 0, addr := 0, bytes := [] }] },
     _, 0, 0, 0, { kind := .buffer, page := 0, ring := 0, addr := 0, bytes := [] }, [],
     { series := 0, seq := 0, op := 1, flags := 0, target := 0, started := true, await := .dma }, rfl, rfl, by decide +kernel⟩,
   ⟨{ live with outbox := [{ kind := .completion, page := 0, ring := 4, addr := 0, bytes := [] }] }, _, 0, 0, rfl, rfl, by decide +kernel⟩,
   ⟨live, _, 0, 0, rfl, rfl, by decide +kernel⟩,
   ⟨live, _, 0, 0, 0, rfl, rfl, by decide +kernel⟩,
   ⟨{ live with outbox := [{ kind := .completion, page := 0, ring := 4, addr := 0, bytes := [] }] }, _, 0, 0, 4,
     { kind := .completion, page := 0, ring := 4, addr := 0, bytes := [] }, [], rfl, rfl, by decide +kernel⟩,
   ⟨{ live with outbox := [{ kind := .completion, page := 0, ring := 4, addr := 0, bytes := [] }] }, _, 0, 0, 4,
     { kind := .completion, page := 0, ring := 4, addr := 0, bytes := [] }, [], rfl, rfl, by decide +kernel⟩⟩

theorem witness_HousekeepingEvents :
    (∃ (s : State) (u : State) (t : Time) (n : _) (series : _) (seq : _) (r : _), s.power = .running ∧ u = s.at t ∧ ((u.leaseQ.find? fun r => r.tenant
      = n ∧ r.series = series ∧ r.seq = seq) = some r) ∧ r.began + r.timeout ≤ u.now) ∧
    (∃ (s : State) (u : State) (t : Time) (n : _) (series : _) (seq : _), s.power = .running ∧ u = s.at t ∧ ((u.leaseQ.find? fun r => r.tenant = n ∧
      r.series = series ∧ r.seq = seq) = none)) ∧
    (∃ (s : State) (u : State) (t : Time), s.power = .running ∧ u = s.at t) ∧
    (∃ (s : State) (u : State) (t : Time) (r : _), s.power = .running ∧ u = s.at t ∧ r < 8 ∧ (u.region r).bulkAt = none) ∧
    (∃ (s : State) (u : State) (t : Time) (r : _) (w : _), s.power = .running ∧ u = s.at t ∧ r < 8 ∧ (u.region r).bulkAt = some w) ∧
    (∃ (s : State) (u : State) (t : Time) (l : _), s.power = .running ∧ u = s.at t ∧ l < 1024) ∧
    (∃ (s : State) (u : State) (t : Time) (p : _), s.power = .running ∧ u = s.at t ∧ p < 8 ∧ (u.protOf p).testing = none) ∧
    (∃ (s : State) (u : State) (t : Time) (n : _) (sub : _), s.power = .running ∧ u = s.at t ∧ n < 1024 ∧ Tab.get (u.page n).streams none sub = none) ∧
    (∃ (s : State) (u : State) (t : Time) (n : _) (sub : _) (x : Stream), s.power = .running ∧ u = s.at t ∧ n < 1024 ∧ Tab.get (u.page n).streams none
      sub = some x ∧ ((u.tenant n).active = false ∨ u.reads n x.part = false)) ∧
    (∃ (s : State) (u : State) (t : Time) (p : _) (n : _) (series : _) (seq : _) (scope : _), s.power = .running ∧ u = s.at t ∧ p < 8 ∧ (u.protOf
      p).testing = some (n, series, seq, scope)) ∧
    (∃ (s : State) (u : State) (t : Time) (n : _) (sub : _) (load : _) (x : Stream), s.power = .running ∧ u = s.at t ∧ n < 1024 ∧ Tab.get (u.page
      n).streams none sub = some x ∧ (u.tenant n).active = true ∧ u.reads n x.part = true ∧ u.sys.urgentBusy = [] ∧ u.dieThrottle = false ∧ load ≤
      u.telemLoad) ∧
    (∃ (s : State) (u : State) (t : Time) (n : _) (sub : _) (load : _) (x : Stream), s.power = .running ∧ u = s.at t ∧ n < 1024 ∧ Tab.get (u.page
      n).streams none sub = some x ∧ (u.tenant n).active = true ∧ u.reads n x.part = true ∧ u.telemLoad < load) :=
  ⟨⟨wanted, _, 0, 1, 0, 0, aRequest, by decide +kernel, rfl, by decide +kernel⟩,
   ⟨live, _, 0, 0, 0, 0, rfl, rfl, by decide +kernel⟩,
   ⟨live, _, 0, rfl, rfl⟩,
   ⟨live, _, 0, 0, rfl, rfl, by decide +kernel⟩,
   ⟨live.setRegion 0 { bulkAt := some 0 }, _, 0, 0, 0, by decide +kernel, rfl, by decide +kernel⟩,
   ⟨live.setLane 3 { silenced := true }, _, 0, 3, by decide +kernel, rfl, by decide +kernel⟩,
   ⟨live, _, 0, 0, rfl, rfl, by decide +kernel⟩,
   ⟨live, _, 0, 0, 0, rfl, rfl, by decide +kernel⟩,
   ⟨{ live with tenants := [(0, {})], pages := [(0, { streams := [(0, some { part := 0, cls := 1, rate := 0, cellArm := 0, mask := 1, count := 0, buffer := 0 })] })] },
     _, 0, 0, 0, ({ part := 0, cls := 1, rate := 0, cellArm := 0, mask := 1, count := 0, buffer := 0 } : Stream), rfl, rfl, by decide +kernel⟩,
   ⟨live.setProt 0 { testing := some (0, 0, 0, 3) }, _, 0, 0, 0, 0, 0, 3, by decide +kernel, rfl, by decide +kernel⟩,
   ⟨{ live with pages := [(0, { streams := [(0, some { part := 0, cls := 1, rate := 0, cellArm := 0, mask := 1, count := 0, buffer := 0 })] })] }, _,
     0, 0, 0, 0, ({ part := 0, cls := 1, rate := 0, cellArm := 0, mask := 1, count := 0, buffer := 0 } : Stream), rfl, rfl, by decide +kernel⟩,
   ⟨{ live with pages := [(0, { streams := [(0, some { part := 0, cls := 1, rate := 0, cellArm := 0, mask := 1, count := 0, buffer := 0 })] })] }, _,
     0, 0, 0, 1000, ({ part := 0, cls := 1, rate := 0, cellArm := 0, mask := 1, count := 0, buffer := 0 } : Stream), rfl, rfl, by decide +kernel⟩⟩

theorem witness_LaneEvents :
    (∃ (s : State) (u : State) (t : Time) (l : Nat), s.power = .running ∧ u = s.at t ∧ l < 1024 ∧ (u.cell l).used = true ∧ (u.lane l).lstate = 1) ∧
    (∃ (s : State) (u : State) (t : Time) (l : Nat), s.power = .running ∧ u = s.at t ∧ l < 1024 ∧ (u.cell l).used = true ∧ (u.lane l).lstate ≠ 0 ∧
      (u.lane l).lstate ≠ 5 ∧ (u.lane l).down = false) ∧
    (∃ (s : State) (u : State) (t : Time) (l : Nat), s.power = .running ∧ u = s.at t ∧ l < 1024 ∧ (u.lane l).lstate ≠ 5 ∧ (u.lane l).down = true ∧
      (u.lane l).downAt + u.retryMs (u.cell l).part * 1000000 ≤ u.now ∧ ((u.cell l).st = .bypassed ∨ (u.cell l).st = .isolated)) ∧
    (∃ (s : State) (u : State) (t : Time) (l : Nat), s.power = .running ∧ u = s.at t ∧ l < 1024 ∧ (u.lane l).lstate ≠ 5 ∧ (u.lane l).down = true ∧
      (u.lane l).downAt + u.retryMs (u.cell l).part * 1000000 ≤ u.now ∧ (u.cell l).st ≠ .bypassed ∧ (u.cell l).st ≠ .isolated) ∧
    (∃ (s : State) (u : State) (t : Time) (l : Nat), s.power = .running ∧ u = s.at t ∧ l < 1024 ∧ (u.lane l).lstate = 2) ∧
    (∃ (s : State) (u : State) (t : Time) (l : Nat), s.power = .running ∧ u = s.at t ∧ l < 1024 ∧ ((u.lane l).lstate = 1 ∨ ((u.lane l).lstate = 3 ∧
      (u.lane l).idCount < 3)) ∧ (u.lane l).trainFrom + 10000000 ≤ u.now) ∧
    (∃ (s : State) (u : State) (t : Time) (l : Nat) (w : _), s.power = .running ∧ u = s.at t ∧ l < 1024 ∧ (u.lane l).silentUntil = some w ∧ w ≤ u.now) :=
  ⟨⟨(live.setCell 5 { used := true }).setLane 5 { lstate := 1 }, _, 0, 5, by decide +kernel, rfl, by decide +kernel⟩,
   ⟨(live.setCell 5 { used := true }).setLane 5 { lstate := 4 }, _, 0, 5, by decide +kernel, rfl, by decide +kernel⟩,
   ⟨(live.setCell 5 { used := true, st := .bypassed }).setLane 5 { lstate := 1, down := true }, _, 100000000000000, 5, by decide +kernel, rfl,
     by decide +kernel⟩,
   ⟨(live.setCell 5 { used := true }).setLane 5 { lstate := 1, down := true }, _, 100000000000000, 5, by decide +kernel, rfl, by decide +kernel⟩,
   ⟨(live.setCell 5 { used := true }).setLane 5 { lstate := 2 }, _, 0, 5, by decide +kernel, rfl, by decide +kernel⟩,
   ⟨(live.setCell 5 { used := true }).setLane 5 { lstate := 1 }, _, 100000000000000, 5, by decide +kernel, rfl, by decide +kernel⟩,
   ⟨(live.setCell 5 { used := true }).setLane 5 { silentUntil := some 1 }, _, 100000000000000, 5, 1, by decide +kernel, rfl, by decide +kernel⟩⟩

theorem witness_CellFrames :
    (∃ (s : State) (u : State) (t : Time) (l : Nat) (bytes : _) (chars : _), s.power = .running ∧ u = s.at t ∧ l < 1024 ∧ (u.cell l).used = true ∧
      (u.lane l).lstate ≠ 0 ∧ (u.lane l).lstate ≠ 5 ∧ upValid bytes chars = false) ∧
    (∃ (s : State) (u : State) (t : Time) (l : Nat) (bytes : _) (chars : _), s.power = .running ∧ u = s.at t ∧ l < 1024 ∧ (u.cell l).used = true ∧
      (u.lane l).lstate = 4 ∧ upValid bytes chars = true ∧ (¬ upWindowEnd (u.cycleNs (u.cell l).part) < u.now % u.cycleNs (u.cell l).part) ∧ leNat
      bytes 0 2 = u.cycleNo (u.cell l).part % 65536 ∧ byteAt bytes 5 ≠ 1 ∧ byteAt bytes 4 = (u.part (u.cell l).part).epoch ∧ (u.part (u.cell
      l).part).epoch < 256 ∧ leNat bytes 20 2 = (u.cell l).boots) ∧
    (∃ (s : State) (u : State) (t : Time) (l : Nat) (clean : _), s.power = .running ∧ u = s.at t ∧ l < 1024 ∧ u.takesAlarm l clean = false) ∧
    (∃ (s : State) (u : State) (t : Time) (l : Nat) (clean : _), s.power = .running ∧ u = s.at t ∧ l < 1024 ∧ u.takesAlarm l clean = false) ∧
    (∃ (s : State) (u : State) (t : Time) (l : Nat) (clean : Bool) (v : _) (w : _), s.power = .running ∧ u = s.at t ∧ l < 1024 ∧ u.takesAlarm l clean
      = true ∧ v = u.countAlarm l 0 ∧ w = (if (byteAt (v.lane l).lastFrame 8).testBit 4 then v else v.releaseSource (u.cell l).part 0x0904 l)) ∧
    (∃ (s : State) (u : State) (t : Time) (l : Nat) (clean : Bool) (v : _), s.power = .running ∧ u = s.at t ∧ l < 1024 ∧ u.takesAlarm l clean = true ∧
      v = u.countAlarm l 1) ∧
    (∃ (s : State) (u : State) (t : Time) (l : Nat), s.power = .running ∧ u = s.at t ∧ l < 1024 ∧ (u.cell l).st = .charging ∧ (u.cell l).admitAt +
      nsOf (u.readmitTimeout (u.cell l).part) ≤ u.now) ∧
    (∃ (s : State) (u : State) (t : Time) (l : Nat), s.power = .running ∧ u = s.at t ∧ l < 1024 ∧ (u.cell l).test = 1 ∧ (u.cell l).testFrom + nsOf
      (u.stTimeout (u.cell l).part) ≤ u.now ∧ (u.cell l).admitting = true) ∧
    (∃ (s : State) (u : State) (t : Time) (l : Nat), s.power = .running ∧ u = s.at t ∧ l < 1024 ∧ (u.cell l).test = 1 ∧ (u.cell l).testFrom + nsOf
      (u.stTimeout (u.cell l).part) ≤ u.now ∧ (u.cell l).admitting = false) :=
  ⟨⟨(live.setCell 5 { used := true }).setLane 5 { lstate := 4 }, _, 0, 5, [], true, by decide +kernel, rfl, by decide +kernel⟩,
   ⟨framed, _, 0, 5, aFrame, true, by decide +kernel, rfl, by decide +kernel⟩,
   ⟨(live.setCell 5 { used := true }).setLane 5 { lstate := 4 }, _, 0, 5, 0, by decide +kernel, rfl, by decide +kernel⟩,
   ⟨(live.setCell 5 { used := true }).setLane 5 { lstate := 4 }, _, 0, 5, 0, by decide +kernel, rfl, by decide +kernel⟩,
   ⟨(live.setCell 5 { used := true }).setLane 5 { lstate := 4 }, _, 0, 5, true, _, _, by decide +kernel, rfl, by decide +kernel, by decide +kernel,
     rfl, rfl⟩,
   ⟨(live.setCell 5 { used := true }).setLane 5 { lstate := 4 }, _, 0, 5, true, _, by decide +kernel, rfl, by decide +kernel, by decide +kernel, rfl⟩,
   ⟨(live.setCell 5 { used := true, st := .charging }).setLane 5 {}, _, 100000000000000, 5, by decide +kernel, rfl, by decide +kernel⟩,
   ⟨(live.setCell 5 { used := true, test := 1, admitting := true }).setLane 5 {}, _, 100000000000000, 5, by decide +kernel, rfl, by decide +kernel⟩,
   ⟨(live.setCell 5 { used := true, test := 1 }).setLane 5 {}, _, 100000000000000, 5, by decide +kernel, rfl, by decide +kernel⟩⟩

theorem witness_LostCellIsOut :
    (∃ (s : State) (l : Nat), (s.cell l).used = true ∧ (s.cell l).st ≠ .bypassed ∧ (s.cell l).st ≠ .isolated) :=
  ⟨(live.setCell 5 { used := true, st := .available }).setLane 5 {}, 5, by decide +kernel⟩

theorem witness_CycleEvents :
    (∃ (s : State) (u : State) (t : Time) (p : Nat), s.power = .running ∧ u = s.at t ∧ p < 8 ∧ u.bondPartner p = true) ∧
    (∃ (s : State) (u : State) (t : Time) (p : Nat), s.power = .running ∧ u = s.at t ∧ p < 8 ∧ u.bondPartner p = false ∧ (u.part p).st =
      .unconfigured) ∧
    (∃ (s : State) (u : State) (t : Time) (p : Nat) (now : List Q) (mean : List Q) (v : State) (w : State), s.power = .running ∧ u = s.at t ∧ p < 8 ∧
      u.bondPartner p = false ∧ (u.part p).st ≠ .unconfigured ∧ v = (u.settle [0x16] p).latchFrom (16 * p) (now.take (if (u.part p).bonded then 32
      else 16)) (mean.take (if (u.part p).bonded then 32 else 16)) ∧ (w = (v.armsOf p).foldl (fun x a => x.latchArm p (v.cycleNo p) a) v)) ∧
    (∃ (s : State) (u : State) (t : Time) (p : Nat), s.power = .running ∧ u = s.at t ∧ p < 8) ∧
    (∃ (s : State) (u : State) (t : Time) (p : Nat), s.power = .running ∧ u = s.at t ∧ p < 8) ∧
    (∃ (s : State) (u : State) (t : Time) (p : Nat) (arm : _), s.power = .running ∧ u = s.at t ∧ p < 8 ∧ u.bondPartner p = false ∧ u.fencedPart p =
      false ∧ u.armGiven p arm = true ∧ upWindowEnd (u.cycleNs p) ≤ u.now % u.cycleNs p ∧ u.now % u.cycleNs p ≤ downWindowStart (u.cycleNs p) -
      placeNs (u.cycleNs p) ∧ (u.awaitsRefs p arm (u.cycleNo p + 1) = true → u.now % u.cycleNs p = downWindowStart (u.cycleNs p) - placeNs (u.cycleNs
      p))) ∧
    (∃ (s : State) (u : State) (t : Time) (p : Nat) (arm : _), s.power = .running ∧ u = s.at t ∧ p < 8 ∧ (u.bondPartner p = true ∨ u.fencedPart p =
      true ∨ u.armGiven p arm = false ∨ u.now % u.cycleNs p < upWindowEnd (u.cycleNs p) ∨ downWindowStart (u.cycleNs p) - placeNs (u.cycleNs p) <
      u.now % u.cycleNs p)) ∧
    (∃ (s : State) (u : State) (t : Time) (p : Nat) (v : _), s.power = .running ∧ u = s.at t ∧ p < 8 ∧ u.bondPartner p = false ∧ (u.part p).st ≠
      .unconfigured ∧ v = u.countOverrun p) ∧
    (∃ (s : State) (u : State) (t : Time) (p : Nat), s.power = .running ∧ u = s.at t ∧ p < 8 ∧ (u.bondPartner p = true ∨ (u.part p).st =
      .unconfigured)) ∧
    (∃ (s : State) (u : State) (t : Time) (p : Nat), s.power = .running ∧ u = s.at t ∧ p < 8 ∧ u.bondPartner p = false ∧ (u.part p).st ≠ .unconfigured
      ∧ u.shape p ≠ 6 ∧ (u.fencedPart p = true → (u.part p).st = .tripped)) ∧
    (∃ (s : State) (u : State) (t : Time) (p : Nat), s.power = .running ∧ u = s.at t ∧ p < 8 ∧ (u.bondPartner p = true ∨ (u.part p).st = .unconfigured
      ∨ u.shape p = 6 ∨ (u.fencedPart p = true ∧ (u.part p).st ≠ .tripped))) ∧
    (∃ (s : State) (u : State) (t : Time) (p : Nat), s.power = .running ∧ u = s.at t ∧ p < 8 ∧ u.bondPartner p = false ∧ (u.part p).st ≠ .unconfigured
      ∧ u.shape p ≠ 6) ∧
    (∃ (s : State) (u : State) (t : Time) (p : Nat), s.power = .running ∧ u = s.at t ∧ p < 8 ∧ (u.bondPartner p = true ∨ (u.part p).st = .unconfigured
      ∨ u.shape p = 6)) :=
  ⟨⟨live.setPart 0 { bonded := true }, _, 0, 1, by decide +kernel, rfl, by decide +kernel⟩,
   ⟨live, _, 0, 0, rfl, rfl, by decide +kernel⟩,
   ⟨inSt live 0 .blocked, _, 0, 0, [], [], _, _, by decide +kernel, rfl, by decide +kernel, by decide +kernel, by decide +kernel, rfl, rfl⟩,
   ⟨live, _, 0, 0, rfl, rfl, by decide +kernel⟩,
   ⟨live, _, 0, 0, rfl, rfl, by decide +kernel⟩,
   ⟨give (give live .partConfig 0 [(16, 1, 1)]) .armConfig 0 [(18, 2, 1)], _, 3000, 0, 0, by decide +kernel, rfl, by decide +kernel⟩,
   ⟨live, _, 0, 0, 0, rfl, rfl, by decide +kernel⟩,
   ⟨inSt live 0 .blocked, _, 0, 0, _, by decide +kernel, rfl, by decide +kernel, by decide +kernel, by decide +kernel, rfl⟩,
   ⟨live, _, 0, 0, rfl, rfl, by decide +kernel⟩,
   ⟨inSt live 0 .blocked, _, 0, 0, by decide +kernel, rfl, by decide +kernel⟩,
   ⟨live, _, 0, 0, rfl, rfl, by decide +kernel⟩,
   ⟨inSt live 0 .blocked, _, 0, 0, by decide +kernel, rfl, by decide +kernel⟩,
   ⟨live, _, 0, 0, rfl, rfl, by decide +kernel⟩⟩

theorem witness_TripKeepsFirstCause :
    (∃ (s : State) (p : Nat) (cause : Nat) (source : Nat), (s.part p).st.energised = true ∧ (¬ (lastingCause cause = true ∧ (s.protOf
      p).active.contains (cause, source) = true))) :=
  ⟨inSt live 0 .running, 0, 0x0903, 0, by decide +kernel⟩

theorem witness_StartEvents :
    (∃ (s : State) (u : State) (t : Time) (p : Nat), s.power = .running ∧ u = s.at t ∧ p < 8 ∧ ((u.part p).st ≠ .precharge ∨ (u.part p).phase ≠ 2 ∨
      u.passiveReached p = false)) ∧
    (∃ (s : State) (u : State) (t : Time) (p : Nat), s.power = .running ∧ u = s.at t ∧ p < 8 ∧ (u.part p).st = .precharge ∧ (u.part p).phase = 2 ∧
      u.passiveReached p = true ∧ (isMmc (u.shape p) = true ∨ u.shape p = 4)) ∧
    (∃ (s : State) (u : State) (t : Time) (p : Nat) (v : _), s.power = .running ∧ u = s.at t ∧ p < 8 ∧ (u.part p).st = .precharge ∧ (u.part p).phase =
      2 ∧ u.passiveReached p = true ∧ isMmc (u.shape p) = false ∧ u.shape p ≠ 4 ∧ v = (u.setPart p { u.part p with phase := 4 }).decideCells p) ∧
    (∃ (s : State) (u : State) (t : Time) (p : Nat), s.power = .running ∧ u = s.at t ∧ p < 8 ∧ ((u.part p).st ≠ .precharge ∨ ((u.part p).phase ≠ 3 ∧
      (u.part p).phase ≠ 5))) ∧
    (∃ (s : State) (u : State) (t : Time) (p : Nat), s.power = .running ∧ u = s.at t ∧ p < 8 ∧ (u.part p).st = .precharge ∧ (u.part p).phase = 5) ∧
    (∃ (s : State) (u : State) (t : Time) (p : Nat) (v : State) (w : State), s.power = .running ∧ u = s.at t ∧ p < 8 ∧ (u.part p).st = .precharge ∧
      (u.part p).phase = 3 ∧ v = (u.setPart p { u.part p with phase := 4 }).decideCells p ∧ w = (v.setPart p { v.part p with phase := 5 }).judgeArms
      p) ∧
    (∃ (s : State) (u : State) (t : Time) (p : Nat), s.power = .running ∧ u = s.at t ∧ p < 8) ∧
    (∃ (s : State) (u : State) (t : Time) (p : Nat), s.power = .running ∧ u = s.at t ∧ p < 8) ∧
    (∃ (s : State) (u : State) (t : Time) (p : Nat), s.power = .running ∧ u = s.at t ∧ p < 8 ∧ (u.part p).st = .ready ∧ Tab.get u.sd 0 (u.sdVdc p) <
      u.readyFloor p * u.vdcNom p) ∧
    (∃ (s : State) (u : State) (t : Time) (p : Nat), s.power = .running ∧ u = s.at t ∧ p < 8 ∧ (¬ ((u.part p).st = .ready ∧ Tab.get u.sd 0 (u.sdVdc p)
      < u.readyFloor p * u.vdcNom p))) :=
  ⟨⟨live, _, 0, 0, rfl, rfl, by decide +kernel⟩,
   ⟨give (give (live.setPart 0 { st := .precharge, phase := 2 }) .partConfig 0 [(16, 1, 1)]) .prechargeConfig 0 [], _, 0, 0, by decide +kernel, rfl,
     by decide +kernel⟩,
   ⟨{ give (live.setPart 0 { st := .precharge, phase := 2 }) .partConfig 0 [(16, 1, 6), (28, 2, 0)] with sd := [(0, 100000)] }, _, 0, 0, _,
     by decide +kernel, rfl, by decide +kernel, by decide +kernel, by decide +kernel, by decide +kernel, by decide +kernel, by decide +kernel, rfl⟩,
   ⟨live, _, 0, 0, rfl, rfl, by decide +kernel⟩,
   ⟨live.setPart 0 { st := .precharge, phase := 5 }, _, 0, 0, by decide +kernel, rfl, by decide +kernel⟩,
   ⟨give (live.setPart 0 { st := .precharge, phase := 3 }) .partConfig 0 [(16, 1, 1)], _, 0, 0, _, _, by decide +kernel, rfl, by decide +kernel,
     by decide +kernel, by decide +kernel, rfl, rfl⟩,
   ⟨live.setPart 0 { st := .precharge, phase := 2 }, _, 100000000000000, 0, by decide +kernel, rfl, by decide +kernel⟩,
   ⟨(inSt (give live .partConfig 0 [(16, 1, 6)]) 0 .running).setBrk 0 { rampDown := true }, _, 0, 0, by decide +kernel, rfl, by decide +kernel⟩,
   ⟨give (inSt live 0 .ready) .partConfig 0 [(16, 1, 1)], _, 0, 0, by decide +kernel, rfl, by decide +kernel⟩,
   ⟨live, _, 0, 0, rfl, rfl, by decide +kernel⟩⟩

theorem witness_ControlEvents :
    (∃ (s : State) (u : State) (t : Time) (p : Nat) (x : _), s.power = .running ∧ u = s.at t ∧ p < 8 ∧ x = (u.setPart p
      { u.part p with migrating := false, core1 := !(u.part p).core1, epoch := ((u.part p).epoch + 1) % 256, epochAt := u.now, lowMargin := 0, migDesc := [], migWait := (u.part p).migWait ++ (u.part p).migDesc }).inform
      (srcPart p) 0x0309 []) ∧
    (∃ (s : State) (u : State) (t : Time) (p : Nat), s.power = .running ∧ u = s.at t ∧ p < 8) ∧
    (∃ (s : State) (u : State) (t : Time) (p : Nat), s.power = .running ∧ u = s.at t ∧ p < 8) ∧
    (∃ (s : State) (u : State) (t : Time) (p : Nat), s.power = .running ∧ u = s.at t ∧ p < 8) ∧
    (∃ (s : State) (u : State) (t : Time) (p : Nat), s.power = .running ∧ u = s.at t ∧ p < 8) ∧
    (∃ (s : State) (u : State) (t : Time) (p : Nat) (n : _) (series : _) (seq : _) (w : _), s.power = .running ∧ u = s.at t ∧ p < 8 ∧ (u.ctlOf
      p).enWait = some (n, series, seq, w)) ∧
    (∃ (s : State) (u : State) (t : Time) (p : Nat), s.power = .running ∧ u = s.at t ∧ p < 8 ∧ (u.ctlOf p).enWait = none) ∧
    (∃ (s : State) (u : State) (t : Time) (p : Nat), s.power = .running ∧ u = s.at t ∧ p < 8) ∧
    (∃ (s : State) (u : State) (t : Time) (p : Nat), s.power = .running ∧ u = s.at t ∧ p < 8) ∧
    (∃ (s : State) (u : State) (t : Time) (p : Nat), s.power = .running ∧ u = s.at t ∧ p < 8) ∧
    (∃ (s : State) (u : State) (t : Time) (p : Nat), s.power = .running ∧ u = s.at t ∧ p < 8) ∧
    (∃ (s : State) (u : State) (t : Time) (p : Nat), s.power = .running ∧ u = s.at t ∧ p < 8) ∧
    (∃ (s : State) (u : State) (t : Time) (p : Nat), s.power = .running ∧ u = s.at t ∧ p < 8) ∧
    (∃ (s : State) (u : State) (t : Time) (p : Nat), s.power = .running ∧ u = s.at t ∧ p < 8) ∧
    (∃ (s : State) (u : State) (t : Time) (p : Nat), s.power = .running ∧ u = s.at t ∧ p < 8) :=
  ⟨⟨live.setPart 0 { migrating := true }, _, 0, 0, _, by decide +kernel, rfl, by decide +kernel, rfl⟩,
   ⟨live, _, 0, 0, rfl, rfl, by decide +kernel⟩,
   ⟨live, _, 0, 0, rfl, rfl, by decide +kernel⟩,
   ⟨(give (inSt live 0 .running) .speedConfig 0 [(32, 4, 1065353216)]).setCtl 0 { spAt := some 0 }, _, 100000000000000, 0, by decide +kernel, rfl,
     by decide +kernel⟩,
   ⟨(give (inSt live 0 .ready) .machConfig 0 [(16, 1, 4)]).setCtl 0 { enWait := some (0, 0, 0, 0) }, _, 0, 0, by decide +kernel, rfl,
     by decide +kernel⟩,
   ⟨(give (inSt live 0 .ready) .machConfig 0 [(16, 1, 4)]).setCtl 0 { enWait := some (0, 0, 0, 0) }, _, 100000000000000, 0, 0, 0, 0, 0,
     by decide +kernel, rfl, by decide +kernel⟩,
   ⟨live, _, 0, 0, rfl, rfl, by decide +kernel⟩,
   ⟨(give live .machConfig 0 [(16, 1, 4)]).setCtl 0 { excSince := some 0 }, _, 100000000000000, 0, by decide +kernel, rfl, by decide +kernel⟩,
   ⟨live.setCtl 0 { iz := 5 }, _, 0, 0, by decide +kernel, rfl, by decide +kernel⟩,
   ⟨(give (inSt live 0 .running) .machConfig 0 [(16, 1, 2)]).setFb 0 { noneAt := some 0 }, _, 100000000000000, 0, by decide +kernel, rfl,
     by decide +kernel⟩,
   ⟨(give live .partConfig 0 [(16, 1, 2)]).setCtl 0 { pllGood := some 0 }, _, 100000000000000, 0, by decide +kernel, rfl, by decide +kernel⟩,
   ⟨(give live .partConfig 0 [(16, 1, 2)]).setCtl 0 { pllBad := some 0 }, _, 100000000000000, 0, by decide +kernel, rfl, by decide +kernel⟩,
   ⟨live.setCtl 0 { satSince := some 0 }, _, 100000000000000, 0, by decide +kernel, rfl, by decide +kernel⟩,
   ⟨live.setCtl 0 { divSince := some 0 }, _, 100000000000000, 0, by decide +kernel, rfl, by decide +kernel⟩,
   ⟨(give live .machConfig 0 [(16, 1, 1), (18, 1, 1)]).setCtl 0 { parAge := 5, parLost := false }, _, 0, 0, by decide +kernel, rfl, by decide +kernel⟩⟩

theorem witness_MotionEvents :
    (∃ (s : State) (u : State) (t : Time) (p : Nat), s.power = .running ∧ u = s.at t ∧ p < 8) ∧
    (∃ (s : State) (u : State) (t : Time) (p : Nat), s.power = .running ∧ u = s.at t ∧ p < 8) ∧
    (∃ (s : State) (u : State) (t : Time) (p : Nat), s.power = .running ∧ u = s.at t ∧ p < 8 ∧ ((u.motOf p).lost = true ∨ u.given 0x41 p 0 = false)) ∧
    (∃ (s : State) (u : State) (t : Time) (p : Nat), s.power = .running ∧ u = s.at t ∧ p < 8 ∧ (u.motOf p).lost = false ∧ u.given 0x41 p 0 = true ∧
      u.curveByte p 17 = 1) ∧
    (∃ (s : State) (u : State) (t : Time) (p : Nat) (w : _), s.power = .running ∧ u = s.at t ∧ p < 8 ∧ (u.motOf p).lost = false ∧ u.given 0x41 p 0 =
      true ∧ u.curveByte p 17 ≠ 1 ∧ (u.motOf p).uAt = some w) ∧
    (∃ (s : State) (u : State) (t : Time) (p : Nat), s.power = .running ∧ u = s.at t ∧ p < 8) ∧
    (∃ (s : State) (u : State) (t : Time) (p : Nat) (dir : _), s.power = .running ∧ u = s.at t ∧ p < 8 ∧ (2 ≤ dir ∨ u.limByte p (16 + dir) 0xFF = 0xFF
      ∨ (u.fbOf p).limits.testBit dir = true)) ∧
    (∃ (s : State) (u : State) (t : Time) (p : Nat) (dir : _) (a : State) (b : State) (c : State), s.power = .running ∧ u = s.at t ∧ p < 8 ∧ dir < 2 ∧
      u.limByte p (16 + dir) 0xFF ≠ 0xFF ∧ (u.fbOf p).limits.testBit dir = false ∧ a = (u.setFb p
      { u.fbOf p with limits := setBit (u.fbOf p).limits dir true }).alarm (srcPart p) 0x040B (evd 0x040B [(dir : Q)]) ∧ b = (if (a.fbOf p).limits = 3
      then a.alarm (srcPart p) 0x0507 [] else a) ∧ c = (if (b.motOf p).moving = true then b.dropProfile p else b)) ∧
    (∃ (s : State) (u : State) (t : Time) (p : Nat) (dir : _), s.power = .running ∧ u = s.at t ∧ p < 8 ∧ dir < 2) ∧
    (∃ (s : State) (u : State) (t : Time) (p : Nat) (dir : _), s.power = .running ∧ u = s.at t ∧ p < 8 ∧ 2 ≤ dir) ∧
    (∃ (s : State) (u : State) (t : Time) (p : Nat), s.power = .running ∧ u = s.at t ∧ p < 8) ∧
    (∃ (s : State) (u : State) (t : Time) (p : Nat), s.power = .running ∧ u = s.at t ∧ p < 8) :=
  ⟨⟨live.setMot 0 { yst := 1, hold := 100000000000 }, _, 0, 0, by decide +kernel, rfl, by decide +kernel⟩,
   ⟨live.setMot 0 { yst := 1 }, _, 100000000000000, 0, by decide +kernel, rfl, by decide +kernel⟩,
   ⟨live, _, 0, 0, rfl, rfl, by decide +kernel⟩,
   ⟨give live .curveLoad 0 [(17, 1, 1)], _, 0, 0, by decide +kernel, rfl, by decide +kernel⟩,
   ⟨(give live .curveLoad 0 []).setMot 0 { uAt := some 0 }, _, 0, 0, 0, by decide +kernel, rfl, by decide +kernel⟩,
   ⟨give live .heaveConfig 0 [(16, 1, 1), (18, 2, 3)], _, 0, 0, by decide +kernel, rfl, by decide +kernel⟩,
   ⟨live, _, 0, 0, 0, rfl, rfl, by decide +kernel⟩,
   ⟨give live .limitConfig 0 [(16, 1, 32)], _, 0, 0, 0, _, _, _, by decide +kernel, rfl, by decide +kernel, by decide +kernel, by decide +kernel,
     by decide +kernel, rfl, rfl, rfl⟩,
   ⟨live, _, 0, 0, 1, rfl, rfl, by decide +kernel⟩,
   ⟨live, _, 0, 0, 2, rfl, rfl, by decide +kernel⟩,
   ⟨live, _, 0, 0, rfl, rfl, by decide +kernel⟩,
   ⟨follower, _, 0, 0, by decide +kernel, rfl, by decide +kernel⟩⟩

theorem witness_FeedbackEvents :
    (∃ (s : State) (u : State) (t : Time) (e : Nat), s.power = .running ∧ u = s.at t ∧ e < 8 ∧ (∀ p, u.servedBy e = some p → u.fbType p ≠ 1)) ∧
    (∃ (s : State) (u : State) (t : Time) (e : Nat), s.power = .running ∧ u = s.at t ∧ e < 8 ∧ (∀ p, u.servedBy e = some p → u.fbType p ≠ 1)) ∧
    (∃ (s : State) (u : State) (t : Time) (e : Nat), s.power = .running ∧ u = s.at t ∧ e < 8 ∧ (∀ p, u.servedBy e = some p → u.fbType p ≠ 1)) ∧
    (∃ (s : State) (u : State) (t : Time) (e : Nat) (p : Nat), s.power = .running ∧ u = s.at t ∧ e < 8 ∧ u.servedBy e = some p ∧ u.fbType p = 1 ∧
      u.useIndex p = false) ∧
    (∃ (s : State) (u : State) (t : Time) (e : Nat) (p : Nat), s.power = .running ∧ u = s.at t ∧ e < 8 ∧ u.servedBy e = some p ∧ u.fbType p = 1 ∧
      u.useIndex p = false) ∧
    (∃ (s : State) (u : State) (t : Time) (e : Nat) (p : Nat), s.power = .running ∧ u = s.at t ∧ e < 8 ∧ u.servedBy e = some p ∧ u.fbType p = 1 ∧
      u.useIndex p = true ∧ (u.fbOf p).idxAt = none) ∧
    (∃ (s : State) (u : State) (t : Time) (e : Nat) (p : Nat), s.power = .running ∧ u = s.at t ∧ e < 8 ∧ u.servedBy e = some p ∧ u.fbType p = 1 ∧
      u.useIndex p = true ∧ (u.fbOf p).idxAt = none) ∧
    (∃ (s : State) (u : State) (t : Time) (e : Nat) (p : Nat) (count : Int) (c0 : _) (x : State), s.power = .running ∧ u = s.at t ∧ e < 8 ∧ u.servedBy
      e = some p ∧ u.fbType p = 1 ∧ u.useIndex p = true ∧ (u.fbOf p).idxAt = some c0 ∧ x = u.setFb p
      { u.fbOf p with idxAt := some count, zero := count, idxMiss := 0 }) ∧
    (∃ (s : State) (u : State) (t : Time) (e : Nat) (p : Nat) (c0 : _), s.power = .running ∧ u = s.at t ∧ e < 8 ∧ u.servedBy e = some p ∧ u.fbType p =
      1 ∧ u.useIndex p = true ∧ (u.fbOf p).idxAt = some c0) ∧
    (∃ (s : State) (u : State) (t : Time) (e : Nat) (p : Nat) (x : State), s.power = .running ∧ u = s.at t ∧ e < 8 ∧ u.servedBy e = some p ∧ u.fbType
      p = 1 ∧ (x = (u.setFb p
      { u.fbOf p with illegal := holdAt 0xFFFF ((u.fbOf p).illegal + 1), illegalAt := (u.now :: (u.fbOf p).illegalAt.filter fun w => decide (u.now < w + 1000000)).take 4 }).fbBit
      p 0)) ∧
    (∃ (s : State) (u : State) (t : Time) (e : Nat) (p : Nat), s.power = .running ∧ u = s.at t ∧ e < 8 ∧ u.servedBy e = some p ∧ u.fbType p = 2 ∧
      ((Tab.get u.sdFlags 0 (u.resByte p 24 0)).testBit 1 = true ∨ (Tab.get u.sdFlags 0 (u.resByte p 25 0)).testBit 1 = true)) ∧
    (∃ (s : State) (u : State) (t : Time) (e : Nat) (p : Nat) (sins : List (Nat × Q)) (coss : List (Nat × Q)) (err : Q) (w : Q), s.power = .running ∧
      u = s.at t ∧ e < 8 ∧ u.servedBy e = some p ∧ u.fbType p = 2 ∧ (Tab.get u.sdFlags 0 (u.resByte p 24 0)).testBit 1 = false ∧ (Tab.get u.sdFlags 0
      (u.resByte p 25 0)).testBit 1 = false ∧ err = u.demodulate p sins * Config.cos (u.fbOf p).thT - u.demodulate p coss * Config.sin (u.fbOf p).thT
      ∧ w = (u.fbOf p).wT + u.resP p 32 * u.resP p 32 * err * (1 / (2 * u.resP p 16))) ∧
    (∃ (s : State) (u : State) (t : Time) (e : Nat) (p : Nat), s.power = .running ∧ u = s.at t ∧ e < 8 ∧ u.servedBy e = some p ∧ u.fbType p = 3 ∧ (∀
      w, (u.fbOf p).frameAt = some w → w + u.bissN p 20 2 2000 ≤ u.now)) ∧
    (∃ (s : State) (u : State) (t : Time) (e : Nat) (p : Nat) (w : _), s.power = .running ∧ u = s.at t ∧ e < 8 ∧ u.servedBy e = some p ∧ u.fbType p =
      3 ∧ (u.fbOf p).frameAt = some w ∧ u.now < w + u.bissN p 20 2 2000) ∧
    (∃ (s : State) (u : State) (t : Time) (e : Nat) (p : Nat) (n : _) (w0 : _) (w1 : _) (w2 : _) (w3 : _) (x : State) (y : State), s.power = .running
      ∧ u = s.at t ∧ e < 8 ∧ u.servedBy e = some p ∧ u.fbType p = 3 ∧ y = u.setFb p { u.fbOf p with frameAt := some u.now } ∧ (∀ w, y.bissFrame p n
      [w0, w1, w2, w3] = some w → y.bissData p w = none) ∧ x = (y.setFb p
      { y.fbOf p with crcErr := holdAt 0xFFFF ((u.fbOf p).crcErr + 1), bad := (u.fbOf p).bad + 1, good := 0, reqAt := none }).fbBit p 5) ∧
    (∃ (s : State) (u : State) (t : Time) (e : Nat) (p : Nat) (n : _) (w0 : _) (w1 : _) (w2 : _) (w3 : _) (w : _) (b : BissData), s.power = .running ∧
      u = s.at t ∧ e < 8 ∧ u.servedBy e = some p ∧ u.fbType p = 3 ∧ u.bissFrame p n [w0, w1, w2, w3] = some w ∧ u.bissData p w = some b ∧ u.bissN p 19
      1 2 ≠ 2 ∧ ((u.fbOf p).valid = true ∨ (u.fbOf p).good < 15)) :=
  ⟨⟨live, _, 0, 0, rfl, rfl, by decide +kernel, optAll (by decide +kernel)⟩,
   ⟨live, _, 0, 0, rfl, rfl, by decide +kernel, optAll (by decide +kernel)⟩,
   ⟨live, _, 0, 0, rfl, rfl, by decide +kernel, optAll (by decide +kernel)⟩,
   ⟨(give (give (inSt live 0 .blocked) .fbConfig 0 [(16, 1, 0), (17, 1, 1)]) .encConfig 0 [(20, 1, 0)]).setFb 0 {}, _, 0, 0, 0, by decide +kernel,
     rfl, by decide +kernel⟩,
   ⟨(give (give (inSt live 0 .blocked) .fbConfig 0 [(16, 1, 0), (17, 1, 1)]) .encConfig 0 [(20, 1, 0)]).setFb 0 {}, _, 0, 0, 0, by decide +kernel,
     rfl, by decide +kernel⟩,
   ⟨(give (give (inSt live 0 .blocked) .fbConfig 0 [(16, 1, 0), (17, 1, 1)]) .encConfig 0 [(20, 1, 1)]).setFb 0 {}, _, 0, 0, 0, by decide +kernel,
     rfl, by decide +kernel⟩,
   ⟨(give (give (inSt live 0 .blocked) .fbConfig 0 [(16, 1, 0), (17, 1, 1)]) .encConfig 0 [(20, 1, 1)]).setFb 0 {}, _, 0, 0, 0, by decide +kernel,
     rfl, by decide +kernel⟩,
   ⟨(give (give (inSt live 0 .blocked) .fbConfig 0 [(16, 1, 0), (17, 1, 1)]) .encConfig 0 [(20, 1, 1)]).setFb 0 { idxAt := some 0 }, _, 0, 0, 0, 5000,
     0, _, by decide +kernel, rfl, by decide +kernel, by decide +kernel, by decide +kernel, by decide +kernel, by decide +kernel, rfl⟩,
   ⟨(give (give (inSt live 0 .blocked) .fbConfig 0 [(16, 1, 0), (17, 1, 1)]) .encConfig 0 [(20, 1, 1)]).setFb 0 { idxAt := some 0 }, _, 0, 0, 0, 0,
     by decide +kernel, rfl, by decide +kernel⟩,
   ⟨(give (give (inSt live 0 .blocked) .fbConfig 0 [(16, 1, 0), (17, 1, 1)]) .encConfig 0 [(20, 1, 1)]).setFb 0 {}, _, 0, 0, 0, _, by decide +kernel,
     rfl, by decide +kernel, by decide +kernel, by decide +kernel, rfl⟩,
   ⟨{ (give (give (inSt live 0 .blocked) .fbConfig 0 [(16, 1, 0), (17, 1, 2)]) .resConfig 0 [(36, 4, 1065353216)]).setFb 0 {} with sdFlags := [(0, 2)] },
     _, 0, 0, 0, by decide +kernel, rfl, by decide +kernel⟩,
   ⟨(give (give (inSt live 0 .blocked) .fbConfig 0 [(16, 1, 0), (17, 1, 2)]) .resConfig 0 [(36, 4, 1065353216)]).setFb 0 {}, _, 0, 0, 0, [], [], _, _,
     by decide +kernel, rfl, by decide +kernel, by decide +kernel, by decide +kernel, by decide +kernel, by decide +kernel, rfl, rfl⟩,
   ⟨(give (give (inSt live 0 .blocked) .fbConfig 0 [(16, 1, 0), (17, 1, 3)]) .bissConfig 0 []).setFb 0 {}, _, 0, 0, 0, by decide +kernel, rfl,
     by decide +kernel, by decide +kernel, by decide +kernel, optAll (by decide +kernel)⟩,
   ⟨(give (give (inSt live 0 .blocked) .fbConfig 0 [(16, 1, 0), (17, 1, 3)]) .bissConfig 0 []).setFb 0 { frameAt := some 0 }, _, 0, 0, 0, 0,
     by decide +kernel, rfl, by decide +kernel⟩,
   ⟨(give (give (inSt live 0 .blocked) .fbConfig 0 [(16, 1, 0), (17, 1, 3)]) .bissConfig 0 []).setFb 0 {}, _, 0, 0, 0, 0, 0, 0, 0, 0, _, _,
     by decide +kernel, rfl, by decide +kernel, by decide +kernel, by decide +kernel, rfl, optAll (by decide +kernel), rfl⟩,
   ⟨(give (give (inSt live 0 .blocked) .fbConfig 0 [(16, 1, 0), (17, 1, 3)]) .bissConfig 0 [(17, 1, 20), (18, 1, 0), (19, 1, 0)]).setFb 0 {}, _, 0, 0,
     0, 26, 0, 0, 0, 63, 63, ({ mt := 0, st := 0, ne := false, nw := false } : BissData), by decide +kernel, rfl, by decide +kernel⟩⟩

theorem witness_RestartEvents :
    (∃ (s : State) (u : State) (t : Time) (p : Nat) (iu : _) (iv : _) (iw : _) (w : _), s.power = .running ∧ u = s.at t ∧ p < 8 ∧ (u.part p).st =
      .ready ∧ (u.fbOf p).restart = 2 ∧ (u.ctlOf p).enWait.isSome = true ∧ (u.fbOf p).zvFirst = none ∧ (u.fbOf p).zvAt = some w ∧ w ≤ u.now ∧ (w +
      nsOf (u.rsP p 40) ≤ u.now ∨ 1 / 2 * u.iMachMax p ≤ maxQ (absQ iu) (maxQ (absQ iv) (absQ iw))) ∧ 2 / 100 * u.iMachMax p ≤ maxQ (absQ iu) (maxQ
      (absQ iv) (absQ iw))) ∧
    (∃ (s : State) (u : State) (t : Time) (p : Nat) (iu : _) (iv : _) (iw : _) (w : _) (n : _) (series : _) (seq : _) (w0 : _), s.power = .running ∧ u
      = s.at t ∧ p < 8 ∧ (u.part p).st = .ready ∧ (u.fbOf p).restart = 2 ∧ (u.ctlOf p).enWait = some (n, series, seq, w0) ∧ (u.fbOf p).zvFirst = none
      ∧ (u.fbOf p).zvAt = some w ∧ w ≤ u.now ∧ w + nsOf (u.rsP p 40) ≤ u.now ∧ maxQ (absQ iu) (maxQ (absQ iv) (absQ iw)) < 2 / 100 * u.iMachMax p) ∧
    (∃ (s : State) (u : State) (t : Time) (p : Nat), s.power = .running ∧ u = s.at t ∧ p < 8 ∧ ((u.part p).st ≠ .ready ∨ (u.fbOf p).restart ≠ 2 ∨
      (u.ctlOf p).enWait = none ∨ (u.fbOf p).zvAt = none)) ∧
    (∃ (s : State) (u : State) (t : Time) (p : Nat) (w : _), s.power = .running ∧ u = s.at t ∧ p < 8 ∧ (u.fbOf p).stillAt = some w) ∧
    (∃ (s : State) (u : State) (t : Time) (p : Nat), s.power = .running ∧ u = s.at t ∧ p < 8 ∧ (u.fbOf p).stillAt = none) ∧
    (∃ (s : State) (u : State) (t : Time) (p : Nat) (w : _), s.power = .running ∧ u = s.at t ∧ p < 8 ∧ (u.fbOf p).blendAt = some w) ∧
    (∃ (s : State) (u : State) (t : Time) (p : Nat), s.power = .running ∧ u = s.at t ∧ p < 8 ∧ (u.fbOf p).blendAt = none) :=
  ⟨⟨((give (inSt live 0 .ready) .machConfig 0 [(32, 4, 1092616192)]).setFb 0 { restart := 2, zvAt := some 0 }).setCtl 0
     { enWait := some (0, 0, 0, 0) }, _, 100000000000000, 0, 1000000000, 0, 0, 0, by decide +kernel, rfl, by decide +kernel⟩,
   ⟨((give (inSt live 0 .ready) .machConfig 0 [(32, 4, 1092616192)]).setFb 0 { restart := 2, zvAt := some 0 }).setCtl 0
     { enWait := some (0, 0, 0, 0) }, _, 100000000000000, 0, 0, 0, 0, 0, 0, 0, 0, 0, by decide +kernel, rfl, by decide +kernel⟩,
   ⟨live, _, 0, 0, rfl, rfl, by decide +kernel⟩,
   ⟨live.setFb 0 { stillAt := some 0, stopFirst := true }, _, 100000000000000, 0, 0, by decide +kernel, rfl, by decide +kernel⟩,
   ⟨live, _, 0, 0, rfl, rfl, by decide +kernel⟩,
   ⟨live.setFb 0 { blendAt := some 0, st := 3 }, _, 100000000000000, 0, 0, by decide +kernel, rfl, by decide +kernel⟩,
   ⟨live, _, 0, 0, rfl, rfl, by decide +kernel⟩⟩

theorem witness_AllocatorRounds :
    (∃ (s : State) (u : State) (t : Time), s.power = .running ∧ u = s.at t) ∧
    (∃ (s : State) (u : State) (t : Time) (r : RoundRec), s.power = .running ∧ u = s.at t ∧ r.node ≠ u.node ∧ u.fab.failed.contains r.node = false ∧
      r.sups = [] ∧ r.ils = [] ∧ r.cons = [] ∧ u.plant.round + 1 ≠ r.round) ∧
    (∃ (s : State) (u : State) (t : Time) (r : RoundRec), s.power = .running ∧ u = s.at t ∧ r.node ≠ u.node ∧ u.fab.failed.contains r.node = false) ∧
    (∃ (s : State) (u : State) (t : Time) (r : RoundRec), s.power = .running ∧ u = s.at t ∧ (r.node = u.node ∨ u.fab.failed.contains r.node = true)) ∧
    (∃ (s : State) (u : State) (t : Time), s.power = .running ∧ u = s.at t) ∧
    (∃ (s : State) (u : State) (t : Time) (round : _), s.power = .running ∧ u = s.at t ∧ (u.plant.round ≠ round ∨ u.plant.applied = true)) ∧
    (∃ (s : State) (u : State) (t : Time) (round : _), s.power = .running ∧ u = s.at t ∧ u.plant.round = round ∧ u.plant.applied = false) ∧
    (∃ (s : State) (u : State) (t : Time) (round : _) (p : _) (g : Grant), s.power = .running ∧ u = s.at t ∧ u.plant.round = round ∧ u.plant.applied =
      false ∧ u.consumers = [p] ∧ ((u.plant.grants.find? fun g => g.id = u.consN p 16 2) = some g) ∧ u.plant.diverged = false ∧ (u.calveOf (u.section_
      p)).level = 0) :=
  ⟨⟨live, _, 0, rfl, rfl⟩,
   ⟨live, _, 0, ({ node := 3, epoch := 1, round := 9, cons := [], sups := [], ils := [], digest := 0 } : RoundRec), rfl, rfl, by decide +kernel⟩,
   ⟨live, _, 0, ({ node := 3, epoch := 1, round := 9, cons := [], sups := [], ils := [], digest := 0 } : RoundRec), rfl, rfl, by decide +kernel⟩,
   ⟨{ live with fab := { failed := [3] } }, _, 0, ({ node := 3, epoch := 1, round := 9, cons := [], sups := [], ils := [], digest := 0 } : RoundRec),
     rfl, rfl, by decide +kernel⟩,
   ⟨live, _, 0, rfl, rfl⟩,
   ⟨live, _, 0, 0, rfl, rfl, by decide +kernel⟩,
   ⟨(give live .consumerConfig 0 []).setPlant { applied := false, grants := [{ id := 0, node := 0, mot := 1, regen := 1 }] }, _, 0, 0,
     by decide +kernel, rfl, by decide +kernel⟩,
   ⟨(give live .consumerConfig 0 []).setPlant { applied := false, grants := [{ id := 0, node := 0, mot := 1, regen := 1 }] }, _, 0, 0, 0,
     ({ id := 0, node := 0, mot := 1, regen := 1 } : Grant), by decide +kernel, rfl, by decide +kernel⟩⟩

theorem witness_PlantEvents :
    (∃ (s : State) (u : State) (t : Time) (sec : _) (next : _) (v : _), s.power = .running ∧ u = s.at t ∧ sec < 8 ∧ next = (if Tab.get u.plant.arrived
      0 sec + 1000000000 ≤ u.now then 2 else 1) ∧ v = u.setPlant
      { u.plant with stale := Tab.set u.plant.stale 0 sec (max (Tab.get u.plant.stale 0 sec) next) }) ∧
    (∃ (s : State) (u : State) (t : Time) (k : _), s.power = .running ∧ u = s.at t ∧ k < 4) ∧
    (∃ (s : State) (u : State) (t : Time) (p : _), s.power = .running ∧ u = s.at t ∧ p < 8) ∧
    (∃ (s : State) (u : State) (t : Time), s.power = .running ∧ u = s.at t) ∧
    (∃ (s : State) (u : State) (t : Time) (part : _), s.power = .running ∧ u = s.at t ∧ part < 8 ∧ (∀ h ∈ u.plant.holds, h.part ≠ part)) ∧
    (∃ (s : State) (u : State) (t : Time) (node : _) (tenant : _) (part : _) (stamp : _) (g : Hold) (h : Hold), s.power = .running ∧ u = s.at t ∧ part
      < 8 ∧ ((u.plant.holds.find? fun x => x.part = part) = some g) ∧ h = { part := part, node := node, tenant := tenant, stamp := stamp } ∧ g = h) ∧
    (∃ (s : State) (u : State) (t : Time) (node : _) (tenant : _) (part : _) (stamp : _) (g : Hold) (h : Hold), s.power = .running ∧ u = s.at t ∧ part
      < 8 ∧ ((u.plant.holds.find? fun x => x.part = part) = some g) ∧ h = { part := part, node := node, tenant := tenant, stamp := stamp } ∧ g ≠ h ∧
      h.older g = true) ∧
    (∃ (s : State) (u : State) (t : Time) (node : _) (tenant : _) (part : _) (stamp : _) (g : Hold) (h : Hold), s.power = .running ∧ u = s.at t ∧ part
      < 8 ∧ ((u.plant.holds.find? fun x => x.part = part) = some g) ∧ h = { part := part, node := node, tenant := tenant, stamp := stamp } ∧ g ≠ h ∧
      h.older g = false) ∧
    (∃ (s : State) (u : State) (t : Time) (handle : _) (r : Req) (w : _), s.power = .running ∧ u = s.at t ∧ ((u.plant.reqs.find? fun r => r.handle =
      handle) = some r) ∧ r.retryAt = some w) ∧
    (∃ (s : State) (u : State) (t : Time) (handle : _), s.power = .running ∧ u = s.at t ∧ ((u.plant.reqs.find? fun r => r.handle = handle) = none)) ∧
    (∃ (s : State) (u : State) (t : Time) (handle : _), s.power = .running ∧ u = s.at t ∧ ((u.plant.reqs.find? fun r => r.handle = handle) = none)) ∧
    (∃ (s : State) (u : State) (t : Time) (handle : _) (r : Req), s.power = .running ∧ u = s.at t ∧ ((u.plant.reqs.find? fun r => r.handle = handle) =
      some r)) :=
  ⟨⟨live.setPlant
     { supplies := [(2, some ({ sec := 2, cap := 1, load := 0, reserve := 0, absorb := 0, ties := 0, stamp := 1 } : SupplyRec))], arrived := [(2, 1)] },
     _, 500000000, 2, _, _, by decide +kernel, rfl, by decide +kernel, rfl, rfl⟩,
   ⟨(give live .calveConfig 0xFFFF [(16, 1, 32), (20, 1, 1), (24, 1, 1)]).setAux 0x20 { sense := true }, _, 0, 0, by decide +kernel, rfl,
     by decide +kernel⟩,
   ⟨give (give (give live .partConfig 0 [(16, 1, 2)]) .consumerConfig 0 []) .calveConfig 0xFFFF [(52, 1, 1)], _, 0, 0, by decide +kernel, rfl,
     by decide +kernel⟩,
   ⟨live, _, 0, rfl, rfl⟩,
   ⟨live, _, 0, 3, rfl, rfl, by decide +kernel⟩,
   ⟨live.setPlant { holds := [{ part := 3, node := 1, tenant := 0, stamp := 5 }] }, _, 0, 1, 0, 3, 5,
     ({ part := 3, node := 1, tenant := 0, stamp := 5 } : Hold), _, by decide +kernel, rfl, by decide +kernel, by decide +kernel, rfl,
     by decide +kernel⟩,
   ⟨live.setPlant { holds := [{ part := 3, node := 1, tenant := 0, stamp := 5 }] }, _, 0, 1, 0, 3, 0,
     ({ part := 3, node := 1, tenant := 0, stamp := 5 } : Hold), _, by decide +kernel, rfl, by decide +kernel, by decide +kernel, rfl,
     by decide +kernel⟩,
   ⟨live.setPlant { holds := [{ part := 3, node := 1, tenant := 0, stamp := 5 }] }, _, 0, 1, 0, 3, 9,
     ({ part := 3, node := 1, tenant := 0, stamp := 5 } : Hold), _, by decide +kernel, rfl, by decide +kernel, by decide +kernel, rfl,
     by decide +kernel⟩,
   ⟨live.setPlant { reqs := [({ page := 0, series := 0, seq := 0, handle := 7, stamp := 0, deadline := 0, parts := [], retryAt := some 0 } : Req)] },
     _, 100000000000000, 7, ({ page := 0, series := 0, seq := 0, handle := 7, stamp := 0, deadline := 0, parts := [], retryAt := some 0 } : Req), 0,
     by decide +kernel, rfl, by decide +kernel⟩,
   ⟨live, _, 0, 0, rfl, rfl, by decide +kernel⟩,
   ⟨live, _, 0, 0, rfl, rfl, by decide +kernel⟩,
   ⟨live.setPlant { reqs := [({ page := 0, series := 0, seq := 0, handle := 7, stamp := 0, deadline := 0, parts := [] } : Req)] }, _, 0, 7,
     ({ page := 0, series := 0, seq := 0, handle := 7, stamp := 0, deadline := 0, parts := [] } : Req), by decide +kernel, rfl, by decide +kernel⟩⟩

theorem witness_BrakingEvents :
    (∃ (s : State) (u : State) (t : Time) (p : Nat) (w : _), s.power = .running ∧ u = s.at t ∧ p < 8 ∧ ((u.part p).st = .running ∨ (u.part p).st =
      .braking) ∧ (u.brkOf p).sc = none ∧ (u.brkOf p).ss1 = none ∧ (u.brkOf p).scDenied = false ∧ (u.brkOf p).vScAt = some w ∧ w + nsOf (u.brkP p 48)
      ≤ u.now) ∧
    (∃ (s : State) (u : State) (t : Time) (p : Nat) (w : _), s.power = .running ∧ u = s.at t ∧ p < 8 ∧ ((u.part p).st = .running ∨ (u.part p).st =
      .braking) ∧ (u.brkOf p).sc = none ∧ (u.brkOf p).ss1 = none ∧ (u.brkOf p).scDenied = false ∧ (u.brkOf p).vScAt = none ∧ (u.brkOf p).clipAt = some
      w) ∧
    (∃ (s : State) (u : State) (t : Time) (p : Nat), s.power = .running ∧ u = s.at t ∧ p < 8 ∧ (((u.part p).st ≠ .running ∧ (u.part p).st ≠ .braking)
      ∨ (u.brkOf p).sc.isSome = true ∨ (u.brkOf p).ss1.isSome = true ∨ (u.brkOf p).scDenied = true)) ∧
    (∃ (s : State) (u : State) (t : Time) (p : Nat), s.power = .running ∧ u = s.at t ∧ p < 8) ∧
    (∃ (s : State) (u : State) (t : Time) (p : Nat), s.power = .running ∧ u = s.at t ∧ p < 8) ∧
    (∃ (s : State) (u : State) (t : Time) (p : Nat), s.power = .running ∧ u = s.at t ∧ p < 8) ∧
    (∃ (s : State) (u : State) (t : Time) (p : Nat), s.power = .running ∧ u = s.at t ∧ p < 8) ∧
    (∃ (s : State) (u : State) (t : Time) (p : Nat), s.power = .running ∧ u = s.at t ∧ p < 8) ∧
    (∃ (s : State) (u : State) (t : Time) (p : Nat) (w : _), s.power = .running ∧ u = s.at t ∧ p < 8 ∧ (u.brkOf p).relAt = some w) ∧
    (∃ (s : State) (u : State) (t : Time) (p : Nat), s.power = .running ∧ u = s.at t ∧ p < 8 ∧ (u.brkOf p).relAt = none) ∧
    (∃ (s : State) (u : State) (t : Time) (p : Nat), s.power = .running ∧ u = s.at t ∧ p < 8 ∧ (u.brkOf p).qr = true ∧ u.ropeLen p ≤ u.payout p) ∧
    (∃ (s : State) (u : State) (t : Time) (p : Nat) (w : _), s.power = .running ∧ u = s.at t ∧ p < 8 ∧ (u.brkOf p).qr = true ∧ u.payout p < u.ropeLen
      p ∧ (u.brkOf p).qrSlow = some w) ∧
    (∃ (s : State) (u : State) (t : Time) (p : Nat), s.power = .running ∧ u = s.at t ∧ p < 8 ∧ ((u.brkOf p).qr = false ∨ (u.payout p < u.ropeLen p ∧
      (u.brkOf p).qrSlow = none))) ∧
    (∃ (s : State) (u : State) (t : Time) (p : Nat), s.power = .running ∧ u = s.at t ∧ p < 8) ∧
    (∃ (s : State) (u : State) (t : Time) (p : Nat), s.power = .running ∧ u = s.at t ∧ p < 8) ∧
    (∃ (s : State) (u : State) (t : Time) (p : Nat), s.power = .running ∧ u = s.at t ∧ p < 8 ∧ (u.brkOf p).rt ≠ 0 ∧ (absQ (u.speed p) < u.rideP p 40 *
      u.nMax p ∨ ∃ w, (u.brkOf p).rtAt = some w ∧ w + nsOf (u.rideP p 32) ≤ u.now)) ∧
    (∃ (s : State) (u : State) (t : Time) (p : Nat), s.power = .running ∧ u = s.at t ∧ p < 8 ∧ ((u.brkOf p).rt = 0 ∨ (u.rideP p 40 * u.nMax p ≤ absQ
      (u.speed p) ∧ ∀ w, (u.brkOf p).rtAt = some w → u.now < w + nsOf (u.rideP p 32)))) ∧
    (∃ (s : State) (u : State) (t : Time) (p : Nat) (w : _) (group : _), s.power = .running ∧ u = s.at t ∧ p < 8 ∧ (u.brkOf p).ss1 = some (w, group)) ∧
    (∃ (s : State) (u : State) (t : Time) (p : Nat), s.power = .running ∧ u = s.at t ∧ p < 8 ∧ (u.brkOf p).ss1 = none) :=
  ⟨⟨(inSt live 0 .running).setBrk 0 { vScAt := some 0 }, _, 100000000000000, 0, 0, by decide +kernel, rfl, by decide +kernel⟩,
   ⟨(inSt live 0 .running).setBrk 0 { clipAt := some 0 }, _, 0, 0, 0, by decide +kernel, rfl, by decide +kernel⟩,
   ⟨live, _, 0, 0, rfl, rfl, by decide +kernel⟩,
   ⟨live.setBrk 0 { sc := some 0, still := some 0 }, _, 100000000000000, 0, by decide +kernel, rfl, by decide +kernel⟩,
   ⟨(give live .brakeConfig 0 [(18, 1, 2)]).setBrk 0 { sc := some 0 }, _, 100000000000000, 0, by decide +kernel, rfl, by decide +kernel⟩,
   ⟨live.setBrk 0 { still := some 0, ss1 := some (0, 0) }, _, 100000000000000, 0, by decide +kernel, rfl, by decide +kernel⟩,
   ⟨live.setBrk 0 { estop := 2 }, _, 100000000000000, 0, by decide +kernel, rfl, by decide +kernel⟩,
   ⟨(inSt live 0 .running).setBrk 0 { relWait := true }, _, 0, 0, by decide +kernel, rfl, by decide +kernel⟩,
   ⟨live.setBrk 0 { relAt := some 0 }, _, 100000000000000, 0, 0, by decide +kernel, rfl, by decide +kernel⟩,
   ⟨live, _, 0, 0, rfl, rfl, by decide +kernel⟩,
   ⟨live.setBrk 0 { qr := true }, _, 0, 0, by decide +kernel, rfl, by decide +kernel⟩,
   ⟨oneTurn, _, 0, 0, 0, by decide +kernel, rfl, by decide +kernel, by decide +kernel, oneTurn_payout, by decide +kernel⟩,
   ⟨live, _, 0, 0, rfl, rfl, by decide +kernel⟩,
   ⟨live.setBrk 0 { rt := 2, retSince := some 0 }, _, 100000000000000, 0, by decide +kernel, rfl, by decide +kernel⟩,
   ⟨live.setBrk 0 { rt := 4 }, _, 100000000000000, 0, by decide +kernel, rfl, by decide +kernel⟩,
   ⟨(give live .machConfig 0 []).setBrk 0 { rt := 1 }, _, 0, 0, by decide +kernel, rfl, by decide +kernel⟩,
   ⟨live, _, 0, 0, rfl, rfl, by decide +kernel⟩,
   ⟨live.setBrk 0 { ss1 := some (0, 0) }, _, 100000000000000, 0, 0, 0, by decide +kernel, rfl, by decide +kernel⟩,
   ⟨live, _, 0, 0, rfl, rfl, by decide +kernel⟩⟩

theorem witness_SafetyEvents :
    (∃ (s : State) (u : State) (t : Time) (i : _) (x : _), s.power = .running ∧ u = s.at t ∧ i < 4 ∧ x = { u with tripin := setBit u.tripin i true }) ∧
    (∃ (s : State) (u : State) (t : Time) (i : _) (x : _), s.power = .running ∧ u = s.at t ∧ i < 4 ∧ x = { u with tripin := setBit u.tripin i false }) ∧
    (∃ (s : State) (u : State) (t : Time) (d : Nat), s.power = .running ∧ u = s.at t ∧ d < 128) ∧
    (∃ (s : State) (u : State) (t : Time) (node : _) (epoch : _), s.power = .running ∧ u = s.at t ∧ (∀ e, u.epochOf node = some e → epochNewer e epoch
      = false)) ∧
    (∃ (s : State) (u : State) (t : Time) (node : _) (epoch : _) (e : _), s.power = .running ∧ u = s.at t ∧ u.epochOf node = some e ∧ epochNewer e
      epoch = true) ∧
    (∃ (s : State) (u : State) (t : Time), s.power = .running ∧ u = s.at t) ∧
    (∃ (s : State) (u : State) (t : Time) (group : _), s.power = .running ∧ u = s.at t ∧ group < 2) ∧
    (∃ (s : State) (u : State) (t : Time) (group : _), s.power = .running ∧ u = s.at t ∧ group < 2) ∧
    (∃ (s : State) (u : State) (t : Time) (group : _), s.power = .running ∧ u = s.at t ∧ group < 2) ∧
    (∃ (s : State) (u : State) (t : Time) (group : _) (lowA : _) (lowB : _) (x : _), s.power = .running ∧ u = s.at t ∧ group < 2 ∧ x = u.setSto group
      { u.stoOf group with lowA := lowA, lowB := lowB, needBoth := true, bothSeen := false }) ∧
    (∃ (s : State) (u : State) (t : Time) (r : _), s.power = .running ∧ u = s.at t ∧ r < 8) ∧
    (∃ (s : State) (u : State) (t : Time), s.power = .running ∧ u = s.at t) ∧
    (∃ (s : State) (u : State) (t : Time), s.power = .running ∧ u = s.at t) ∧
    (∃ (s : State) (u : State) (t : Time), s.power = .running ∧ u = s.at t) :=
  ⟨⟨live, _, 0, 0, _, rfl, rfl, by decide +kernel, rfl⟩,
   ⟨live, _, 0, 0, _, rfl, rfl, by decide +kernel, rfl⟩,
   ⟨live, _, 0, 0, rfl, rfl, by decide +kernel⟩,
   ⟨give live .tripLink 0 [(16, 1, 1), (20, 2, 1), (23, 1, 2)], _, 0, 1, 0, by decide +kernel, rfl, optAll (by decide +kernel)⟩,
   ⟨{ live with fab := { recs := [(1, some ({ node := 1, epoch := 5, nbrs := [(0, 0)], partner := 0, role := 0, prio := 0, pps := false } : LinkRec))] } },
     _, 0, 1, 4, 5, rfl, rfl, by decide +kernel⟩,
   ⟨live, _, 0, rfl, rfl⟩,
   ⟨live, _, 0, 0, rfl, rfl, by decide +kernel⟩,
   ⟨live, _, 0, 1, rfl, rfl, by decide +kernel⟩,
   ⟨live, _, 0, 0, rfl, rfl, by decide +kernel⟩,
   ⟨live, _, 0, 0, true, false, _, rfl, rfl, by decide +kernel, rfl⟩,
   ⟨live, _, 0, 0, rfl, rfl, by decide +kernel⟩,
   ⟨live, _, 0, rfl, rfl⟩,
   ⟨live, _, 0, rfl, rfl⟩,
   ⟨live, _, 0, rfl, rfl⟩⟩

theorem witness_ThermalEvents :
    (∃ (s : State) (u : State) (t : Time) (r : Nat), s.power = .running ∧ u = s.at t ∧ r < 8 ∧ (u.region r).fenced = true) ∧
    (∃ (s : State) (u : State) (t : Time) (r : Nat) (die : List Q) (cool : List Q) (a : State) (b : State) (c : State) (e : State) (f : State),
      s.power = .running ∧ u = s.at t ∧ r < 8 ∧ (u.region r).fenced = false ∧ (a = (List.range 8).foldl (fun x i => x.readSensor (.die (8 * r + i))
      (die.getD i 0)) u) ∧ (b = (a.cellSites r).foldl (fun x y =>
      match y with | .cell l k => x.readSensor y (if k = 0 then (x.cell l).tempA else (x.cell l).tempB) | _ => x) a) ∧ (c = (b.coolSites r).foldl (fun
      x i => if (Tab.get x.sdFlags 0 (x.coolByte r (16 + i) 0xFF)).testBit 1 then x else x.readSensor (.cool r i) (if x.sdOn (x.coolByte r (16 + i)
      0xFF) then x.sdScale (x.coolByte r (16 + i) 0xFF) (cool.getD i 0) else 0)) b) ∧ (e = (((List.range 8).map fun i => Site.die (8 * r + i)) ++
      c.partSites r).foldl State.checkSensor c) ∧ (f = (((List.range 8).map fun i => Site.die (8 * r + i)) ++ c.partSites r).foldl State.levelSensor
      e)) ∧
    (∃ (s : State) (u : State) (t : Time) (i : _) (x : _), s.power = .running ∧ u = s.at t ∧ i < 64 ∧ x = Site.die i ∧ (u.sensor x.key).suspect = true
      ∧ (u.sensor x.key).failed = false ∧ (u.limitsOf x).ms ≤ (u.sensor x.key).susp) ∧
    (∃ (s : State) (u : State) (t : Time) (i : _) (x : _), s.power = .running ∧ u = s.at t ∧ i < 64 ∧ x = Site.die i ∧ ((u.sensor x.key).suspect =
      false ∨ (u.sensor x.key).failed = true ∨ (u.sensor x.key).susp < (u.limitsOf x).ms)) ∧
    (∃ (s : State) (u : State) (t : Time) (cls : _) (idx : _) (x : _) (top : _), s.power = .running ∧ u = s.at t ∧ cls < 3 ∧ x = (if cls = 0 then
      Site.die (idx % 64) else if cls = 1 then .cell (idx / 2 % 1024) (idx % 2) else .cool (idx / 4 % 8) (idx % 4)) ∧ (top = (if 4 ≤ (u.sensor
      x.key).n3 then if (u.sensor x.key).suspect = true ∧ (u.sensor x.key).failed = false ∧ u.confirmed x = false then 2 else 3 else if 4 ≤ (u.sensor
      x.key).n2 then 2 else if 4 ≤ (u.sensor x.key).n1 then 1 else 0))) :=
  ⟨⟨live.setRegion 0 { fenced := true }, _, 0, 0, by decide +kernel, rfl, by decide +kernel⟩,
   ⟨live, _, 0, 0, [], [], _, _, _, _, _, rfl, rfl, by decide +kernel, by decide +kernel, rfl, rfl, rfl, rfl, rfl⟩,
   ⟨live.setSensor 0 { suspect := true, susp := 1000000 }, _, 0, 0, _, by decide +kernel, rfl, by decide +kernel, rfl, by decide +kernel⟩,
   ⟨live, _, 0, 0, _, rfl, rfl, by decide +kernel, rfl, by decide +kernel⟩,
   ⟨live.setSensor 0 { n1 := 4 }, _, 0, 0, 0, _, _, by decide +kernel, rfl, by decide +kernel, rfl, rfl⟩⟩

theorem witness_MotorEvents :
    (∃ (s : State) (u : State) (t : Time) (m : Nat), s.power = .running ∧ u = s.at t ∧ m < 16 ∧ u.auxMode m = 1 ∧ ((u.auxOf m).st ≠ 2 ∨ (u.auxOf
      m).retryAt.isSome = true)) ∧
    (∃ (s : State) (u : State) (t : Time) (m : Nat) (f : Q), s.power = .running ∧ u = s.at t ∧ m < 16 ∧ u.auxMode m = 1 ∧ (u.auxOf m).st = 2 ∧
      (u.auxOf m).retryAt = none ∧ u.bldcP m 28 ≤ f ∧ (u.auxOf m).lastRun = none) ∧
    (∃ (s : State) (u : State) (t : Time) (m : Nat) (f : Q) (w0 : _) (d0 : _), s.power = .running ∧ u = s.at t ∧ m < 16 ∧ u.auxMode m = 1 ∧ (u.auxOf
      m).st = 2 ∧ (u.auxOf m).retryAt = none ∧ u.bldcP m 28 ≤ f ∧ (u.auxOf m).lastRun = some (w0, d0)) ∧
    (∃ (s : State) (u : State) (t : Time) (m : Nat) (f : Q), s.power = .running ∧ u = s.at t ∧ m < 16 ∧ u.auxMode m = 1 ∧ (u.auxOf m).st = 2 ∧
      (u.auxOf m).retryAt = none ∧ u.bldcP m 28 / 4 ≤ f ∧ f < u.bldcP m 28) ∧
    (∃ (s : State) (u : State) (t : Time) (m : Nat) (f : Q), s.power = .running ∧ u = s.at t ∧ m < 16 ∧ u.auxMode m = 1 ∧ (u.auxOf m).st = 2 ∧
      (u.auxOf m).retryAt = none ∧ f < u.bldcP m 28 / 4 ∧ -u.bldcP m 28 / 4 < f ∧ f < u.bldcP m 28) ∧
    (∃ (s : State) (u : State) (t : Time) (m : Nat) (w : _), s.power = .running ∧ u = s.at t ∧ m < 16 ∧ u.auxMode m = 1 ∧ (u.auxOf m).waitSince = some
      w) ∧
    (∃ (s : State) (u : State) (t : Time) (m : Nat), s.power = .running ∧ u = s.at t ∧ m < 16 ∧ u.auxMode m = 1 ∧ (u.auxOf m).waitSince = none) ∧
    (∃ (s : State) (u : State) (t : Time) (m : Nat), s.power = .running ∧ u = s.at t ∧ m < 16 ∧ u.auxMode m = 1) ∧
    (∃ (s : State) (u : State) (t : Time) (m : Nat) (order : _) (n : Nat) (x : State) (y : _) (iv : _), s.power = .running ∧ u = s.at t ∧ m < 16 ∧
      u.auxMode m = 1 ∧ (u.auxOf m).st = 4 ∧ iv = nsOf (1 / (6 * u.rampHz m)) ∧ n = (if order && (u.auxOf m).nearCrossing u.now iv (iv / 4) then
      (u.auxOf m).crossRow + 1 else 0) ∧ x = u.setAux m { u.auxOf m with crossRow := n } ∧ y = x.bldcRun m (u.auxOf m).sector (u.bldcP m 36)
      (u.bldcSpeed m (u.rampHz m)) iv) ∧
    (∃ (s : State) (u : State) (t : Time) (m : Nat), s.power = .running ∧ u = s.at t ∧ m < 16 ∧ u.auxMode m = 1 ∧ ((u.auxOf m).st = 5 ∨ (u.auxOf m).st
      = 6)) ∧
    (∃ (s : State) (u : State) (t : Time) (m : Nat), s.power = .running ∧ u = s.at t ∧ m < 16 ∧ u.auxMode m = 1 ∧ (u.auxOf m).st = 4) ∧
    (∃ (s : State) (u : State) (t : Time) (m : Nat), s.power = .running ∧ u = s.at t ∧ m < 16 ∧ u.auxMode m = 1 ∧ (u.auxOf m).st ≠ 4 ∧ (u.auxOf m).st
      ≠ 5 ∧ (u.auxOf m).st ≠ 6) ∧
    (∃ (s : State) (u : State) (t : Time) (m : Nat), s.power = .running ∧ u = s.at t ∧ m < 16 ∧ u.auxMode m = 1 ∧ (u.auxOf m).st ≠ 4 ∧ (u.auxOf m).st
      ≠ 5 ∧ (u.auxOf m).st ≠ 6) ∧
    (∃ (s : State) (u : State) (t : Time) (m : Nat) (w : _), s.power = .running ∧ u = s.at t ∧ m < 16 ∧ u.auxMode m = 1 ∧ (u.auxOf m).st = 5 ∧
      (u.auxOf m).nextComm = some w) ∧
    (∃ (s : State) (u : State) (t : Time) (m : Nat), s.power = .running ∧ u = s.at t ∧ m < 16 ∧ u.auxMode m = 1) ∧
    (∃ (s : State) (u : State) (t : Time) (m : Nat) (w : _), s.power = .running ∧ u = s.at t ∧ m < 16 ∧ u.auxMode m = 1 ∧ (u.auxOf m).retryAt = some
      w) ∧
    (∃ (s : State) (u : State) (t : Time) (m : Nat), s.power = .running ∧ u = s.at t ∧ m < 16 ∧ u.auxMode m = 1 ∧ (u.auxOf m).retryAt = none) ∧
    (∃ (s : State) (u : State) (t : Time) (m : Nat), s.power = .running ∧ u = s.at t ∧ m < 16 ∧ u.auxMode m = 1) ∧
    (∃ (s : State) (u : State) (t : Time) (m : Nat), s.power = .running ∧ u = s.at t ∧ m < 16 ∧ u.auxMode m = 1 ∧ (u.auxOf m).st ≠ 7 ∧ (u.auxOf
      m).peakAt = none) ∧
    (∃ (s : State) (u : State) (t : Time) (m : Nat), s.power = .running ∧ u = s.at t ∧ m < 16 ∧ u.auxMode m = 1 ∧ (u.claimed m = true ∨ (u.region
      (auxRegion m)).fenced = true)) ∧
    (∃ (s : State) (u : State) (t : Time) (m : Nat), s.power = .running ∧ u = s.at t ∧ m < 16 ∧ u.auxMode m = 1 ∧ u.claimed m = false ∧ (u.region
      (auxRegion m)).fenced = false ∧ (u.auxOf m).st = 7 ∧ (u.bldcInput m).2 = false) ∧
    (∃ (s : State) (u : State) (t : Time) (m : Nat) (x : _), s.power = .running ∧ u = s.at t ∧ m < 16 ∧ u.auxMode m = 1 ∧ (u.auxOf m).st = 7 ∧
      (u.auxOf m).stAt + nsOf (u.bldcP m 60) ≤ u.now ∧ x = u.auxHalt m) ∧
    (∃ (s : State) (u : State) (t : Time) (m : Nat), s.power = .running ∧ u = s.at t ∧ m < 16 ∧ u.auxMode m = 1 ∧ (¬ ((u.auxOf m).st = 7 ∧ (u.auxOf
      m).stAt + nsOf (u.bldcP m 60) ≤ u.now))) ∧
    (∃ (s : State) (u : State) (t : Time) (m : Nat), s.power = .running ∧ u = s.at t ∧ m < 16 ∧ u.auxMode m = 2 ∧ u.stepNext m = none) ∧
    (∃ (s : State) (u : State) (t : Time) (m : Nat) (d : Int) (iv : _) (w : _), s.power = .running ∧ u = s.at t ∧ m < 16 ∧ u.auxMode m = 2 ∧
      u.stepNext m = some (d, iv) ∧ (u.auxOf m).st = 5 ∧ (u.auxOf m).timer = some w ∧ u.now < (u.auxOf m).stepAt + w) ∧
    (∃ (s : State) (u : State) (t : Time) (m : Nat) (d : Int) (iv : _), s.power = .running ∧ u = s.at t ∧ m < 16 ∧ u.auxMode m = 2 ∧ u.stepNext m =
      some (d, iv) ∧ (u.auxOf m).st = 5 ∧ (∀ w, (u.auxOf m).timer = some w → (u.auxOf m).stepAt + w ≤ u.now) ∧ coilZero ((u.auxOf m).pos + d *
      u.stepUnit m) = false) ∧
    (∃ (s : State) (u : State) (t : Time) (m : Nat), s.power = .running ∧ u = s.at t ∧ m < 16 ∧ u.auxMode m = 2) ∧
    (∃ (s : State) (u : State) (t : Time) (m : Nat), s.power = .running ∧ u = s.at t ∧ m < 16 ∧ u.auxMode m = 2) ∧
    (∃ (s : State) (u : State) (t : Time) (m : Nat) (sw : _), s.power = .running ∧ u = s.at t ∧ m < 16 ∧ u.auxMode m = 2 ∧ sw < 32 ∧ u.srcByte m 16 =
      1 ∧ u.srcByte m 17 = 0x20 + sw ∧ (u.auxOf m).st = 8 ∧ (∀ k < 16, k ≠ m → u.auxMode k ≠ 2)) ∧
    (∃ (s : State) (u : State) (t : Time) (m : Nat), s.power = .running ∧ u = s.at t ∧ m < 16 ∧ u.auxMode m ≠ 1) ∧
    (∃ (s : State) (u : State) (t : Time) (m : Nat), s.power = .running ∧ u = s.at t ∧ m < 16 ∧ u.auxMode m ≠ 1) ∧
    (∃ (s : State) (u : State) (t : Time) (m : Nat), s.power = .running ∧ u = s.at t ∧ m < 16 ∧ u.auxMode m ≠ 1) ∧
    (∃ (s : State) (u : State) (t : Time) (m : Nat), s.power = .running ∧ u = s.at t ∧ m < 16 ∧ u.auxMode m ≠ 1) ∧
    (∃ (s : State) (u : State) (t : Time) (m : Nat), s.power = .running ∧ u = s.at t ∧ m < 16 ∧ u.auxMode m ≠ 2) :=
  ⟨⟨(give (give live .bldcConfig 0 []) .auxMode 0 [(16, 1, 1)]).setAux 0 { st := 4 }, _, 0, 0, by decide +kernel, rfl, by decide +kernel⟩,
   ⟨(give (give live .bldcConfig 0 []) .auxMode 0 [(16, 1, 1)]).setAux 0 { st := 2 }, _, 0, 0, 1000000, by decide +kernel, rfl, by decide +kernel⟩,
   ⟨(give (give live .bldcConfig 0 []) .auxMode 0 [(16, 1, 1)]).setAux 0 { st := 2, lastRun := some (0, 0) }, _, 0, 0, 1000000, 0, 0,
     by decide +kernel, rfl, by decide +kernel⟩,
   ⟨(give (give live .bldcConfig 0 []) .auxMode 0 [(16, 1, 1)]).setAux 0 { st := 2 }, _, 0, 0, 10, by decide +kernel, rfl, by decide +kernel⟩,
   ⟨(give (give live .bldcConfig 0 []) .auxMode 0 [(16, 1, 1)]).setAux 0 { st := 2 }, _, 0, 0, 0, by decide +kernel, rfl, by decide +kernel⟩,
   ⟨(give live .auxMode 0 [(16, 1, 1)]).setAux 0 { st := 2, waitSince := some 0 }, _, 100000000000000, 0, 0, by decide +kernel, rfl,
     by decide +kernel⟩,
   ⟨(give live .auxMode 0 [(16, 1, 1)]).setAux 0 {}, _, 0, 0, by decide +kernel, rfl, by decide +kernel⟩,
   ⟨(give live .auxMode 0 [(16, 1, 1)]).setAux 0 { st := 3 }, _, 100000000000000, 0, by decide +kernel, rfl, by decide +kernel⟩,
   ⟨(give live .auxMode 0 [(16, 1, 1)]).setAux 0 { st := 4 }, _, 0, 0, 0, _, _, _, _, by decide +kernel, rfl, by decide +kernel, by decide +kernel,
     by decide +kernel, rfl, rfl, rfl, rfl⟩,
   ⟨(give live .auxMode 0 [(16, 1, 1)]).setAux 0 { st := 5 }, _, 0, 0, by decide +kernel, rfl, by decide +kernel⟩,
   ⟨(give live .auxMode 0 [(16, 1, 1)]).setAux 0 { st := 4 }, _, 0, 0, by decide +kernel, rfl, by decide +kernel⟩,
   ⟨(give live .auxMode 0 [(16, 1, 1)]).setAux 0 { st := 3 }, _, 0, 0, by decide +kernel, rfl, by decide +kernel⟩,
   ⟨(give live .auxMode 0 [(16, 1, 1)]).setAux 0 { st := 3 }, _, 0, 0, by decide +kernel, rfl, by decide +kernel⟩,
   ⟨(give live .auxMode 0 [(16, 1, 1)]).setAux 0 { st := 5, nextComm := some 0 }, _, 0, 0, 0, by decide +kernel, rfl, by decide +kernel⟩,
   ⟨(give live .auxMode 0 [(16, 1, 1)]).setAux 0 { st := 4 }, _, 100000000000000, 0, by decide +kernel, rfl, by decide +kernel⟩,
   ⟨(give live .auxMode 0 [(16, 1, 1)]).setAux 0 { retryAt := some 0 }, _, 0, 0, 0, by decide +kernel, rfl, by decide +kernel⟩,
   ⟨(give live .auxMode 0 [(16, 1, 1)]).setAux 0 {}, _, 0, 0, by decide +kernel, rfl, by decide +kernel⟩,
   ⟨(give live .auxMode 0 [(16, 1, 1)]).setAux 0 {}, _, 0, 0, by decide +kernel, rfl, by decide +kernel⟩,
   ⟨(give live .auxMode 0 [(16, 1, 1)]).setAux 0 {}, _, 0, 0, by decide +kernel, rfl, by decide +kernel⟩,
   ⟨((give live .auxMode 0 [(16, 1, 1)]).setAux 0 { st := 7 }).setRegion 0 { fenced := true }, _, 0, 0, by decide +kernel, rfl, by decide +kernel⟩,
   ⟨(give (give live .bldcCurve 0 []) .auxMode 0 [(16, 1, 1)]).setAux 0 { st := 7, inAt := some 0 }, _, 0, 0, by decide +kernel, rfl,
     by decide +kernel⟩,
   ⟨(give live .auxMode 0 [(16, 1, 1)]).setAux 0 { st := 7, scCheck := true }, _, 100000000000000, 0, _, by decide +kernel, rfl, by decide +kernel,
     by decide +kernel, by decide +kernel, by decide +kernel, rfl⟩,
   ⟨(give live .auxMode 0 [(16, 1, 1)]).setAux 0 { st := 6 }, _, 0, 0, by decide +kernel, rfl, by decide +kernel⟩,
   ⟨(give live .auxMode 0 [(16, 1, 2)]).setAux 0 {}, _, 0, 0, by decide +kernel, rfl, by decide +kernel⟩,
   ⟨(give (give live .stepConfig 0 []) .auxMode 0 [(16, 1, 2)]).setAux 0 { st := 5, coarse := [(1, 1, 20000)], pos := 1, timer := some 1000000 }, _,
     0, 0, 1, 31250, 1000000, by decide +kernel, rfl, by decide +kernel⟩,
   ⟨(give (give live .stepConfig 0 []) .auxMode 0 [(16, 1, 2)]).setAux 0 { st := 5, coarse := [(1, 1, 20000)], pos := 1 }, _, 0, 0, 1, 31250,
     by decide +kernel, rfl, by decide +kernel, by decide +kernel, by decide +kernel, by decide +kernel, optAll (by decide +kernel),
     by decide +kernel⟩,
   ⟨(give live .auxMode 0 [(16, 1, 2)]).setAux 0 { st := 5 }, _, 100000000000000, 0, by decide +kernel, rfl, by decide +kernel⟩,
   ⟨(give live .auxMode 0 [(16, 1, 2)]).setAux 0 { st := 5 }, _, 0, 0, by decide +kernel, rfl, by decide +kernel⟩,
   ⟨(give (give live .stepSource 0 [(16, 1, 1), (17, 1, 33), (18, 1, 34)]) .auxMode 0 [(16, 1, 2)]).setAux 0 { st := 8 }, _, 0, 0, 1,
     by decide +kernel, rfl, by decide +kernel⟩,
   ⟨live, _, 0, 0, rfl, rfl, by decide +kernel⟩,
   ⟨live, _, 0, 0, rfl, rfl, by decide +kernel⟩,
   ⟨live, _, 0, 0, rfl, rfl, by decide +kernel⟩,
   ⟨live, _, 0, 0, rfl, rfl, by decide +kernel⟩,
   ⟨live, _, 0, 0, rfl, rfl, by decide +kernel⟩⟩

theorem witness_SwitchEvents :
    (∃ (s : State) (u : State) (t : Time) (n : _) (c : _) (x : _) (late : _), s.power = .running ∧ u = s.at t ∧ n < 32 ∧ c = 0x20 + n ∧ late = decide
      ((u.auxOf c).onAt + nsOf (u.swP c 28) < u.now) ∧ x = u.setAux c { u.auxOf c with trips := holdAt 0xFFFF ((u.auxOf c).trips + 1) }) ∧
    (∃ (s : State) (u : State) (t : Time) (n : _) (c : _), s.power = .running ∧ u = s.at t ∧ n < 32 ∧ c = 0x20 + n) ∧
    (∃ (s : State) (u : State) (t : Time) (n : _) (c : _), s.power = .running ∧ u = s.at t ∧ n < 32 ∧ c = 0x20 + n) ∧
    (∃ (s : State) (u : State) (t : Time) (r : _) (g : _), s.power = .running ∧ u = s.at t ∧ r < 8 ∧ g < 4 ∧ u.sag.testBit (4 * r + g) = false ∧
      u.sagInput (4 * r + g) ≠ 0xFF) ∧
    (∃ (s : State) (u : State) (t : Time) (r : _) (g : _), s.power = .running ∧ u = s.at t ∧ r < 8 ∧ g < 4 ∧ (u.sag.testBit (4 * r + g) = true ∨
      u.sagInput (4 * r + g) = 0xFF)) ∧
    (∃ (s : State) (u : State) (t : Time) (r : _) (g : _), s.power = .running ∧ u = s.at t ∧ r < 8 ∧ g < 4 ∧ u.sag.testBit (4 * r + g) = true) ∧
    (∃ (s : State) (u : State) (t : Time) (r : _) (g : _), s.power = .running ∧ u = s.at t ∧ r < 8 ∧ g < 4 ∧ u.sag.testBit (4 * r + g) = false) ∧
    (∃ (s : State) (u : State) (t : Time) (chan : _), s.power = .running ∧ u = s.at t ∧ auxCodes.contains chan = true) :=
  ⟨⟨live.setAux 0x20 { st := 4 }, _, 0, 0, _, _, _, by decide +kernel, rfl, by decide +kernel, rfl, rfl, rfl⟩,
   ⟨live.setAux 0x20 { st := 2 }, _, 100000000000000, 0, _, by decide +kernel, rfl, by decide +kernel, rfl⟩,
   ⟨live.setAux 0x20 { st := 3 }, _, 100000000000000, 0, _, by decide +kernel, rfl, by decide +kernel, rfl⟩,
   ⟨give live .sagConfig 0x40 [(16, 1, 0x20)], _, 0, 0, 0, by decide +kernel, rfl, by decide +kernel⟩,
   ⟨live, _, 0, 0, 0, rfl, rfl, by decide +kernel⟩,
   ⟨{ live with sag := 1 }, _, 0, 0, 0, rfl, rfl, by decide +kernel⟩,
   ⟨live, _, 0, 0, 0, rfl, rfl, by decide +kernel⟩,
   ⟨live.setAux 0x20 { st := 1 }, _, 100000000000000, 0x20, by decide +kernel, rfl, by decide +kernel⟩⟩

theorem witness_FabricEvents :
    (∃ (s : State) (u : State) (t : Time) (port : _) (node : _) (epoch : _) (v : _), s.power = .running ∧ u = s.at t ∧ port < 8 ∧ v = u.setPort port
      { up := true, peer := node, epoch := epoch, delay := 0, acks := 0 }) ∧
    (∃ (s : State) (u : State) (t : Time) (port : _), s.power = .running ∧ u = s.at t ∧ port < 8) ∧
    (∃ (s : State) (u : State) (t : Time) (port : _) (n : _) (v : _), s.power = .running ∧ u = s.at t ∧ port < 8 ∧ v = u.acked port n) ∧
    (∃ (s : State) (u : State) (t : Time) (port : _) (n : _) (v : _), s.power = .running ∧ u = s.at t ∧ port < 8 ∧ v = u.acked port n) ∧
    (∃ (s : State) (u : State) (t : Time) (dst : _) (seq : _) (m : CtlMsg), s.power = .running ∧ u = s.at t ∧ ((u.fab.ctl.find? fun m => m.dst = dst
      && m.seq = seq) = some m)) ∧
    (∃ (s : State) (u : State) (t : Time) (dst : _) (seq : _), s.power = .running ∧ u = s.at t ∧ ((u.fab.ctl.find? fun m => m.dst = dst && m.seq =
      seq) = none)) ∧
    (∃ (s : State) (u : State) (t : Time), s.power = .running ∧ u = s.at t) ∧
    (∃ (s : State) (u : State) (t : Time), s.power = .running ∧ u = s.at t) ∧
    (∃ (s : State) (u : State) (t : Time) (node : _) (announced : Bool), s.power = .running ∧ u = s.at t ∧ node < 1024 ∧ node ≠ u.node ∧
      u.fab.failed.contains node = false ∧ (announced = true ∨ ∃ w, Tab.get u.fab.unreach none node = some w ∧ w + 100000 ≤ u.now)) ∧
    (∃ (s : State) (u : State) (t : Time) (node : _) (announced : Bool), s.power = .running ∧ u = s.at t ∧ node < 1024 ∧ (node = u.node ∨
      u.fab.failed.contains node = true ∨ (announced = false ∧ ∀ w, Tab.get u.fab.unreach none node = some w → u.now < w + 100000))) ∧
    (∃ (s : State) (u : State) (t : Time) (port : _), s.power = .running ∧ u = s.at t ∧ port < 8 ∧ (u.port port).up = false) ∧
    (∃ (s : State) (u : State) (t : Time) (port : Nat) (t1 : Time) (t2 : Time) (t3 : Time) (t4 : Time) (v : State) (delay : Q), s.power = .running ∧ u
      = s.at t ∧ port < 8 ∧ (u.port port).up = true ∧ delay = (((((t4 : Int) - t1) - ((t3 : Int) - t2) : Int) : Q)) / 2 - u.asym port ∧ v = u.setPort
      port { u.port port with delay := delay } ∧ v.upstream ≠ some port) ∧
    (∃ (s : State) (u : State) (t : Time) (port : Nat) (t1 : Time) (t2 : Time) (t3 : Time) (t4 : Time) (v : State) (delay : Q) (off : Int), s.power =
      .running ∧ u = s.at t ∧ port < 8 ∧ (u.port port).up = true ∧ delay = (((((t4 : Int) - t1) - ((t3 : Int) - t2) : Int) : Q)) / 2 - u.asym port ∧ v
      = u.setPort port { u.port port with delay := delay } ∧ v.upstream = some port ∧ off = nearest ((t4 : Q) - t3 - delay) ∧ v.fab.joined = true) ∧
    (∃ (s : State) (u : State) (t : Time) (w : _), s.power = .running ∧ u = s.at t ∧ u.fab.hold = some w) ∧
    (∃ (s : State) (u : State) (t : Time), s.power = .running ∧ u = s.at t ∧ u.fab.hold = none) ∧
    (∃ (s : State) (u : State) (t : Time) (l : _) (v : _), s.power = .running ∧ u = s.at t ∧ l = (u.fab.pps ++ [u.now]).drop ((u.fab.pps ++
      [u.now]).length - 4) ∧ v = { u with fab := { u.fab with pps := l, ppsValid := l.length = 4 && ppsEven l } }) ∧
    (∃ (s : State) (u : State) (t : Time) (page : _) (series : _) (seq : _) (x : FabSendOp), s.power = .running ∧ u = s.at t ∧ ((u.fab.sends.find? fun
      x => x.page = page && x.series = series && x.seq = seq) = some x)) ∧
    (∃ (s : State) (u : State) (t : Time) (page : _) (series : _) (seq : _), s.power = .running ∧ u = s.at t ∧ ((u.fab.sends.find? fun x => x.page =
      page && x.series = series && x.seq = seq) = none)) ∧
    (∃ (s : State) (u : State) (t : Time) (m : Mirror), s.power = .running ∧ u = s.at t ∧ (u.fab.role ≠ 2 ∨ u.sbParts.testBit m.part = false)) ∧
    (∃ (s : State) (u : State) (t : Time) (m : Mirror), s.power = .running ∧ u = s.at t ∧ u.fab.role = 2 ∧ u.sbParts.testBit m.part = true ∧ m.digest
      = u.confDigest m.part) ∧
    (∃ (s : State) (u : State) (t : Time) (p : _), s.power = .running ∧ u = s.at t ∧ u.fab.role = 2 ∧ p ∈ u.pairParts ∧ (u.mirOf p).at_ = none ∧
      (u.hops u.sbPartner).isSome = true ∧ u.fab.mirrorLost = false) ∧
    (∃ (s : State) (u : State) (t : Time), s.power = .running ∧ u = s.at t ∧ (u.fab.role ≠ 2 ∨ u.hops u.sbPartner = none ∨ u.fab.mirrorLost = true)) ∧
    (∃ (s : State) (u : State) (t : Time), s.power = .running ∧ u = s.at t ∧ u.fab.role = 2 ∧ u.fab.orderDesc = none) ∧
    (∃ (s : State) (u : State) (t : Time) (n : _) (series : _) (seq : _), s.power = .running ∧ u = s.at t ∧ u.fab.role = 2 ∧ u.fab.orderDesc = some
      (n, series, seq)) ∧
    (∃ (s : State) (u : State) (t : Time), s.power = .running ∧ u = s.at t ∧ u.fab.role ≠ 2) ∧
    (∃ (s : State) (u : State) (t : Time) (w : _), s.power = .running ∧ u = s.at t ∧ u.fab.role = 2 ∧ u.fab.orderDesc = none ∧ Tab.get u.fab.unreach
      none u.sbPartner = some w ∧ w + 2000 ≤ u.now) ∧
    (∃ (s : State) (u : State) (t : Time) (p : _), s.power = .running ∧ u = s.at t ∧ p < 8) :=
  ⟨⟨{ live.setRegWord 0x9004 0 255 with fab := { recs := [(1, some ({ node := 1, epoch := 5, nbrs := [(0, 0)], partner := 0, role := 0, prio := 0, pps := false } : LinkRec))] } },
     _, 0, 0, 1, 5, _, by decide +kernel, rfl, by decide +kernel, rfl⟩,
   ⟨live, _, 0, 0, rfl, rfl, by decide +kernel⟩,
   ⟨{ live with fab := { ports := [(0, { up := true, peer := 1 })] } }, _, 0, 0, 0, _, rfl, rfl, by decide +kernel, rfl⟩,
   ⟨{ live with fab := { tx := [({ port := 0, bytes := [], at_ := 0 } : TxFrame)] } }, _, 100000000000000, 0, 0, _, rfl, rfl, by decide +kernel, rfl⟩,
   ⟨{ live with fab := { ctl := [({ dst := 1, seq := 0, kind := 0, body := [], at_ := 0 } : CtlMsg)] } }, _, 100000000000000, 1, 0,
     ({ dst := 1, seq := 0, kind := 0, body := [], at_ := 0 } : CtlMsg), rfl, rfl, by decide +kernel⟩,
   ⟨live, _, 0, 0, 0, rfl, rfl, by decide +kernel⟩,
   ⟨live, _, 0, rfl, rfl⟩,
   ⟨live, _, 0, rfl, rfl⟩,
   ⟨{ live with fab := { unreach := [(1, some 0)] } }, _, 100000000000000, 1, true, rfl, rfl, by decide +kernel, by decide +kernel, by decide +kernel,
     .inl rfl⟩,
   ⟨live, _, 0, live.node, false, rfl, rfl, by decide +kernel, .inl (by decide +kernel)⟩,
   ⟨live, _, 0, 0, rfl, rfl, by decide +kernel⟩,
   ⟨{ live with fab := { ports := [(0, { up := true, peer := 1 })] } }, _, 0, 0, 0, 1, 1, 2, _, _, rfl, rfl, by decide +kernel, by decide +kernel,
     rfl, rfl, by decide +kernel⟩,
   ⟨{ live with fab := { ports := [(0, { up := true, peer := 1 })], master := some 1, joined := true, recs := [(1, some ({ node := 1, epoch := 5, nbrs := [(0, 0)], partner := 0, role := 0, prio := 0, pps := false } : LinkRec))] } },
     _, 0, 0, 0, 1, 1, 2, _, _, _, rfl, rfl, by decide +kernel, by decide +kernel, rfl, rfl, by decide +kernel, rfl, by decide +kernel⟩,
   ⟨{ live with fab := { hold := some 0 } }, _, 100000000000000, 0, rfl, rfl, by decide +kernel⟩,
   ⟨live, _, 0, rfl, rfl, by decide +kernel⟩,
   ⟨live, _, 0, _, _, rfl, rfl, rfl, rfl⟩,
   ⟨{ live with fab := { sends := [({ page := 0, series := 0, seq := 0, msg := 0, dst := 1, began := 0 } : FabSendOp)] } }, _, 100000000000000, 0, 0,
     0, ({ page := 0, series := 0, seq := 0, msg := 0, dst := 1, began := 0 } : FabSendOp), rfl, rfl, by decide +kernel⟩,
   ⟨live, _, 0, 0, 0, 0, rfl, rfl, by decide +kernel⟩,
   ⟨live, _, 0, aMirror, rfl, rfl, by decide +kernel⟩,
   ⟨{ give live .standbyConfig 0xFFFF [(16, 1, 2), (18, 2, 1), (20, 1, 1)] with fab := { role := 2 } }, _, 0, aMirror, by decide +kernel, rfl,
     by decide +kernel, by decide +kernel, rfl⟩,
   ⟨{ give live .standbyConfig 0xFFFF [(16, 1, 2), (18, 2, 1), (20, 1, 1)] with fab := { role := 2, ports := [(0, { up := true, peer := 1 })], recs := [(1, some ({ node := 1, epoch := 5, nbrs := [(0, 0)], partner := 0, role := 0, prio := 0, pps := false } : LinkRec))] } },
     _, 0, 0, by decide +kernel, rfl, by decide +kernel⟩,
   ⟨live, _, 0, rfl, rfl, by decide +kernel⟩,
   ⟨{ live with fab := { role := 2 } }, _, 0, rfl, rfl, by decide +kernel⟩,
   ⟨{ give live .standbyConfig 0xFFFF [(16, 1, 2), (18, 2, 1), (20, 1, 1)] with fab := { role := 2, orderDesc := some (0, 0, 0) } }, _, 0, 0, 0, 0,
     by decide +kernel, rfl, by decide +kernel⟩,
   ⟨live, _, 0, rfl, rfl, by decide +kernel⟩,
   ⟨{ give live .standbyConfig 0xFFFF [(16, 1, 2), (18, 2, 1), (20, 1, 1)] with fab := { role := 2, unreach := [(1, some 0)] } }, _, 100000000000000,
     0, by decide +kernel, rfl, by decide +kernel⟩,
   ⟨{ live with fab := { role := 1, deposeRow := [(0, 2)] } }, _, 0, 0, rfl, rfl, by decide +kernel⟩⟩

theorem witness_CanEvents :
    (∃ (s : State) (u : State) (t : Time) (c : Nat), s.power = .running ∧ u = s.at t ∧ c < 4 ∧ (u.can c).mode ≠ 0 ∧ (u.can c).err ≠ 2) ∧
    (∃ (s : State) (u : State) (t : Time) (c : Nat), s.power = .running ∧ u = s.at t ∧ c < 4 ∧ ((u.can c).mode = 0 ∨ (u.can c).err = 2)) ∧
    (∃ (s : State) (u : State) (t : Time) (c : Nat) (b : CanRx) (rest : _), s.power = .running ∧ u = s.at t ∧ c < 4 ∧ (u.can c).rx = b :: rest) ∧
    (∃ (s : State) (u : State) (t : Time) (c : Nat), s.power = .running ∧ u = s.at t ∧ c < 4 ∧ (u.can c).rx = []) ∧
    (∃ (s : State) (u : State) (t : Time) (c : Nat), s.power = .running ∧ u = s.at t ∧ c < 4 ∧ u.canSends c = false) ∧
    (∃ (s : State) (u : State) (t : Time) (c : Nat) (sof : _) (k : _) (f : CanTx), s.power = .running ∧ u = s.at t ∧ c < 4 ∧ u.canSends c = true ∧
      u.canChoice c sof = some k ∧ Tab.get (u.can c).tx none k = some f) ∧
    (∃ (s : State) (u : State) (t : Time) (c : Nat) (sof : _) (k : _) (f : CanTx) (x : State), s.power = .running ∧ u = s.at t ∧ c < 4 ∧ u.canSends c
      = true ∧ u.canChoice c sof = some k ∧ Tab.get (u.can c).tx none k = some f ∧ f.dead = false ∧ k ≠ 2 ∧ u.canN c 19 = 0 ∧ x = (u.setCan c
      { u.can c with tx := Tab.set (u.can c).tx none k (some { f with tries := f.tries + 1, cause := 6 }), tec := (u.can c).tec, errors := (u.can c).errors }).canJudge
      c (some k) ∧ x.canN c 19 = 0) ∧
    (∃ (s : State) (u : State) (t : Time) (c : Nat), s.power = .running ∧ u = s.at t ∧ c < 4 ∧ (u.can c).err = 2 ∧ (u.can c).busOffs.length < 3) ∧
    (∃ (s : State) (u : State) (t : Time) (c : Nat), s.power = .running ∧ u = s.at t ∧ c < 4 ∧ (u.can c).err ≠ 2) ∧
    (∃ (s : State) (u : State) (t : Time) (c : Nat), s.power = .running ∧ u = s.at t ∧ c < 4 ∧ (u.can c).err = 2 ∧ 3 ≤ (u.can c).busOffs.length) ∧
    (∃ (s : State) (u : State) (t : Time) (c : Nat) (w : _), s.power = .running ∧ u = s.at t ∧ c < 4 ∧ (u.can c).holdUntil = some w) ∧
    (∃ (s : State) (u : State) (t : Time) (c : Nat), s.power = .running ∧ u = s.at t ∧ c < 4 ∧ (u.can c).holdUntil = none) ∧
    (∃ (s : State) (u : State) (t : Time) (c : Nat) (q : CanSearch), s.power = .running ∧ u = s.at t ∧ c < 4 ∧ (u.can c).search = some q) ∧
    (∃ (s : State) (u : State) (t : Time) (c : Nat), s.power = .running ∧ u = s.at t ∧ c < 4 ∧ (u.can c).search = none) ∧
    (∃ (s : State) (u : State) (t : Time) (c : Nat), s.power = .running ∧ u = s.at t ∧ c < 4 ∧ (u.can c).mode = 0) ∧
    (∃ (s : State) (u : State) (t : Time) (c : Nat), s.power = .running ∧ u = s.at t ∧ c < 4 ∧ (u.can c).mode ≠ 0) :=
  ⟨⟨live.setCan 0 { mode := 1 }, _, 0, 0, by decide +kernel, rfl, by decide +kernel⟩,
   ⟨live, _, 0, 0, rfl, rfl, by decide +kernel⟩,
   ⟨live.setCan 0 { rx := [({ page := 0, series := 0, seq := 0, buffer := 0, count := 4, written := 1 } : CanRx)] }, _, 100000000000000, 0,
     ({ page := 0, series := 0, seq := 0, buffer := 0, count := 4, written := 1 } : CanRx), [], by decide +kernel, rfl, by decide +kernel⟩,
   ⟨live, _, 0, 0, rfl, rfl, by decide +kernel⟩,
   ⟨live, _, 0, 0, rfl, rfl, by decide +kernel⟩,
   ⟨live.setCan 0 { mode := 1, tx := [(0, some ({ page := 0, series := 0, seq := 0, frame := zeros 80, loadedAt := 0 } : CanTx))] }, _, 0, 0, 1, 0,
     ({ page := 0, series := 0, seq := 0, frame := zeros 80, loadedAt := 0 } : CanTx), by decide +kernel, rfl, by decide +kernel⟩,
   ⟨(give live .canConfig 0 [(19, 1, 0)]).setCan 0
     { mode := 1, tx := [(0, some ({ page := 0, series := 0, seq := 0, frame := zeros 80, loadedAt := 0 } : CanTx))] }, _, 0, 0, 1, 0,
     ({ page := 0, series := 0, seq := 0, frame := zeros 80, loadedAt := 0 } : CanTx), _, by decide +kernel, rfl, by decide +kernel,
     by decide +kernel, by decide +kernel, by decide +kernel, by decide +kernel, by decide +kernel, by decide +kernel, rfl, by decide +kernel⟩,
   ⟨live.setCan 0 { err := 2 }, _, 0, 0, by decide +kernel, rfl, by decide +kernel⟩,
   ⟨live, _, 0, 0, rfl, rfl, by decide +kernel⟩,
   ⟨live.setCan 0 { err := 2, busOffs := [0, 0, 0] }, _, 0, 0, by decide +kernel, rfl, by decide +kernel⟩,
   ⟨live.setCan 0 { holdUntil := some 0 }, _, 0, 0, 0, by decide +kernel, rfl, by decide +kernel⟩,
   ⟨live, _, 0, 0, rfl, rfl, by decide +kernel⟩,
   ⟨live.setCan 0 { search := some ({ page := 0, series := 0, seq := 0, dwell := 0, rounds := 1 } : CanSearch) }, _, 0, 0,
     ({ page := 0, series := 0, seq := 0, dwell := 0, rounds := 1 } : CanSearch), by decide +kernel, rfl, by decide +kernel⟩,
   ⟨live, _, 0, 0, rfl, rfl, by decide +kernel⟩,
   ⟨live, _, 0, 0, rfl, rfl, by decide +kernel⟩,
   ⟨live.setCan 0 { mode := 1 }, _, 0, 0, by decide +kernel, rfl, by decide +kernel⟩⟩

theorem witness_StorageEvents :
    (∃ (s : State) (u : State) (t : Time), s.power = .running ∧ u = s.at t ∧ u.stor.keeps = true) ∧
    (∃ (s : State) (u : State) (t : Time), s.power = .running ∧ u = s.at t ∧ u.stor.keeps = false) ∧
    (∃ (s : State) (u : State) (t : Time), s.power = .running ∧ u = s.at t) ∧
    (∃ (s : State) (u : State) (t : Time), s.power = .running ∧ u = s.at t) ∧
    (∃ (s : State) (u : State) (t : Time), s.power = .running ∧ u = s.at t) ∧
    (∃ (s : State) (u : State) (t : Time) (p : _), s.power = .running ∧ u = s.at t ∧ p < 8 ∧ (u.bufOf p = none ∨ ∃ b, u.bufOf p = some b ∧ b.trigged =
      none)) ∧
    (∃ (s : State) (u : State) (t : Time) (p : _) (b : MorBuf) (cause : _) (code : _) (t0 : _) (c : Capture) (v : State) (fresh : MorBuf), s.power =
      .running ∧ u = s.at t ∧ p < 8 ∧ u.bufOf p = some b ∧ b.trigged = some (cause, code, t0) ∧ t0 + nsOf b.post ≤ u.now ∧ b.pages ≠ 0 ∧ (c =
      { record := u.stor.nextRecord, part := p, priority := b.priority, poisoned := b.poisoned, cause := cause, t := t0, length := (b.samples.map fun e => e.2.length).foldl (· + ·) 0, code := code, rate := b.rate, rep := b.rep, mask := b.mask, pages := b.pages, samples := b.samples })
      ∧ v = u.setStor { u.stor with captures := u.stor.captures ++ [c], nextRecord := (u.stor.nextRecord + 1) % 2 ^ 32 } ∧ fresh =
      { b with pages := 0, samples := [], trigged := none, rep := 0, poisoned := false }) ∧
    (∃ (s : State) (u : State) (t : Time), s.power = .running ∧ u = s.at t) ∧
    (∃ (s : State) (u : State) (t : Time) (page : _) (series : _) (seq : _), s.power = .running ∧ u = s.at t ∧ ((u.stor.ops.find? fun o => o.page =
      page && o.series = series && o.seq = seq) = none)) ∧
    (∃ (s : State) (u : State) (t : Time) (page : _) (series : _) (seq : _) (o : StorOp), s.power = .running ∧ u = s.at t ∧ ((u.stor.ops.find? fun o
      => o.page = page && o.series = series && o.seq = seq) = some o) ∧ o.held u = false) ∧
    (∃ (s : State) (u : State) (t : Time) (page : _) (series : _) (seq : _) (o : StorOp), s.power = .running ∧ u = s.at t ∧ ((u.stor.ops.find? fun o
      => o.page = page && o.series = series && o.seq = seq) = some o) ∧ o.held u = false) :=
  ⟨⟨stocked, _, 0, by decide +kernel, rfl, by decide +kernel⟩,
   ⟨live, _, 0, rfl, rfl, by decide +kernel⟩,
   ⟨{ live with sec := { staged := List.replicate 32 anAudit } }, _, 0, rfl, rfl⟩,
   ⟨{ live with sec := { sinceCheck := 256 } }, _, 0, rfl, rfl⟩,
   ⟨stocked, _, 100000000000000, by decide +kernel, rfl⟩,
   ⟨live, _, 0, 0, rfl, rfl, by decide +kernel⟩,
   ⟨live.setStor
     { bufs := [(0, some ({ trig := 1, priority := 0, rate := 0, cellArm := 0, mask := 1, pre := 0, post := 0, pages := 1, trigged := some (0, 0, 0) } : MorBuf))] },
     _, 100000000000000, 0,
     ({ trig := 1, priority := 0, rate := 0, cellArm := 0, mask := 1, pre := 0, post := 0, pages := 1, trigged := some (0, 0, 0) } : MorBuf), 0, 0, 0,
     _, _, _, by decide +kernel, rfl, by decide +kernel, by decide +kernel, by decide +kernel, by decide +kernel, by decide +kernel, rfl, rfl, rfl⟩,
   ⟨stocked, _, 0, by decide +kernel, rfl⟩,
   ⟨live, _, 0, 0, 0, 0, rfl, rfl, by decide +kernel⟩,
   ⟨live.setStor { ops := [({ page := 0, series := 0, seq := 0, op := 0xAA, target := 0, data := [], key := 0, aux := 0, buffer := 0 } : StorOp)] },
     _, 0, 0, 0, 0, ({ page := 0, series := 0, seq := 0, op := 0xAA, target := 0, data := [], key := 0, aux := 0, buffer := 0 } : StorOp),
     by decide +kernel, rfl, by decide +kernel⟩,
   ⟨live.setStor { ops := [({ page := 0, series := 0, seq := 0, op := 0xAA, target := 0, data := [], key := 0, aux := 0, buffer := 0 } : StorOp)] },
     _, 0, 0, 0, 0, ({ page := 0, series := 0, seq := 0, op := 0xAA, target := 0, data := [], key := 0, aux := 0, buffer := 0 } : StorOp),
     by decide +kernel, rfl, by decide +kernel⟩⟩

theorem witness_PowerEvents :
    (∃ (s : State), (s.power = .running ∨ s.power = .failed)) ∧
    (∃ (s : State), s.power = .recovery) ∧
    (∃ (s : State), s.power = .pfail ∧ s.sys.pfReason = 2) ∧
    (∃ (s : State), s.power = .pfail ∧ s.sys.pfReason = 0) ∧
    (∃ (s : State), s.power = .idle ∧ s.sys.pfReason ≠ 3) ∧
    (∃ (s : State), s.power ≠ .idle) ∧
    (∃ (s : State), s.power ≠ .pfail) ∧
    (∃ (s : State), (s.power ≠ .held ∨ s.sys.porst = true)) ∧
    (∃ (s : State), s.power ≠ .warm) ∧
    (∃ (s : State), (s.power ≠ .failed ∨ (s.regWord 0x0410 0).testBit 0 = false ∨ s.sys.dieShutdown = true ∨ s.sys.pfailLow = true)) ∧
    (∃ (s : State) (rail : _), rail < 6 ∧ (s.power = .running ∨ s.power = .failed) ∧ s.sys.pfailLow = false) ∧
    (∃ (s : State) (b : Boot), s.power = .held ∧ s.sys.porst = false ∧ b.crystal = false) ∧
    (∃ (s : State) (b : Boot), s.power = .held ∧ s.sys.porst = false ∧ b.crystal = true) ∧
    (∃ (s : State) (t : Time) (w : _), s.power = .warm ∧ w = (s.at t).warmKept) ∧
    (∃ (s : State) (t : Time) (w : _), s.power = .failed ∧ (s.regWord 0x0410 0).testBit 0 = true ∧ s.sys.failRecordAt = some w ∧ w + 1000000000 ≤ max
      s.now t ∧ s.sys.lastFailRestart = none ∧ s.sys.dieShutdown = false ∧ s.sys.pfailLow = false) :=
  ⟨⟨live, by decide +kernel⟩,
   ⟨{ State.reset with power := .recovery }, rfl⟩,
   ⟨{ State.reset with power := .pfail, sys := { pfReason := 2 } }, rfl, by decide +kernel⟩,
   ⟨{ State.reset with power := .pfail }, rfl, by decide +kernel⟩,
   ⟨{ State.reset with power := .idle }, rfl, by decide +kernel⟩,
   ⟨live, by decide +kernel⟩,
   ⟨State.reset, by decide +kernel⟩,
   ⟨live, by decide +kernel⟩,
   ⟨State.reset, by decide +kernel⟩,
   ⟨live, by decide +kernel⟩,
   ⟨live, 5, by decide +kernel⟩,
   ⟨{ State.reset with power := .held },
     ({ crystal := false, rails := 63, link := 0, geom := 0, okA := true, okB := true, hosts := 3, regions := 0, tripnet := true, bad := [], signed := true, flushKib := 0, pendLimit := 0, epoch := 0, leases := [], pfailAt := 0 }
     : Boot), rfl, by decide +kernel⟩,
   ⟨{ State.reset with power := .held },
     ({ crystal := true, rails := 63, link := 0, geom := 0, okA := true, okB := true, hosts := 3, regions := 0, tripnet := true, bad := [], signed := true, flushKib := 0, pendLimit := 0, epoch := 0, leases := [], pfailAt := 0 }
     : Boot), rfl, by decide +kernel⟩,
   ⟨{ State.reset with power := .warm }, 0, _, rfl, rfl⟩,
   ⟨{ State.setRegWord State.reset 0x0410 0 1 with power := .failed, sys := { failRecordAt := some 0 } }, 100000000000000, 0, by decide +kernel⟩⟩

theorem witness_FreezeEvents :
    (∃ (s : State), s.frzPin = true ∧ (s.power = .running ∨ s.power = .failed)) ∧
    (∃ (s : State), (s.frzPin = false ∨ (s.power ≠ .running ∧ s.power ≠ .failed ∧ s.power ≠ .entering))) ∧
    (∃ (s : State), s.power ≠ .entering) ∧
    (∃ (s : State) (t : Time), s.power = .entering ∧ (s.at t).unconfirmedLanes ≠ [] ∧ (s.at t).now < (s.at t).frz.tFreeze + 2 * (s.at t).tMaxNs +
      20000) ∧
    (∃ (s : State) (t : Time), s.power = .entering ∧ (s.at t).unconfirmedLanes = [] ∧ s.sec.certified = false) ∧
    (∃ (s : State), s.power = .frozen) ∧
    (∃ (s : State) (off : _), s.power ≠ .frozen ∧ msixTable off = false) ∧
    (∃ (s : State), s.power = .frozen) ∧
    (∃ (s : State), s.power = .frozen) ∧
    (∃ (s : State) (key : _) (pinHigh : _), (¬ (s.power = .frozen ∧ key = 0x54484157 ∧ pinHigh = true))) :=
  ⟨⟨live.setRegWord 0x1800 0 1, by decide +kernel⟩,
   ⟨live, by decide +kernel⟩,
   ⟨live, by decide +kernel⟩,
   ⟨{ State.reset with power := .entering, frz := { trained := [5] } }, 0, rfl, by decide +kernel⟩,
   ⟨{ State.reset with power := .entering }, 0, rfl, by decide +kernel⟩,
   ⟨{ State.reset with power := .frozen }, rfl⟩,
   ⟨live, 0, by decide +kernel⟩,
   ⟨{ State.reset with power := .frozen }, rfl⟩,
   ⟨{ State.reset with power := .frozen }, rfl⟩,
   ⟨live, 0, true, by decide +kernel⟩⟩

theorem witness_ClockEvents :
    (∃ (s : State) (u : State) (t : Time), s.power = .running ∧ u = s.at t) ∧
    (∃ (s : State) (u : State) (t : Time), s.power = .running ∧ u = s.at t ∧ u.avs.fault = false) ∧
    (∃ (s : State) (u : State) (t : Time), s.power = .running ∧ u = s.at t ∧ u.avs.fault = true) ∧
    (∃ (s : State) (u : State) (t : Time) (n : _), s.power = .running ∧ u = s.at t ∧ u.avs.fault = false ∧ u.avs.probe = false ∧ u.nextVoltage / 10 ≠
      u.avs.vCmd / 10 ∧ 2 ≤ n) ∧
    (∃ (s : State) (u : State) (t : Time) (k : _), s.power = .running ∧ u = s.at t ∧ k < 16 ∧ s.writes 0x0C10 = true) ∧
    (∃ (s : State) (u : State) (t : Time) (k : _), s.power = .running ∧ u = s.at t ∧ k < 16) ∧
    (∃ (s : State) (u : State) (t : Time), s.power = .running ∧ u = s.at t ∧ s.writes 0xD004 = true ∧ u.blockLocked 0xD000 = false) ∧
    (∃ (s : State) (u : State) (t : Time) (k : _), s.power = .running ∧ u = s.at t ∧ k < 128) :=
  ⟨⟨live, _, 0, rfl, rfl⟩,
   ⟨live, _, 0, rfl, rfl, by decide +kernel⟩,
   ⟨{ live with avs := { vCmd := 900, fault := true } }, _, 0, rfl, rfl, by decide +kernel⟩,
   ⟨{ live with avs := { vCmd := 900, vGoal := 800 } }, _, 0, 2, rfl, rfl, by decide +kernel⟩,
   ⟨live, _, 0, 0, rfl, rfl, by decide +kernel⟩,
   ⟨live, _, 0, 0, rfl, rfl, by decide +kernel⟩,
   ⟨live, _, 0, rfl, rfl, by decide +kernel⟩,
   ⟨clocked, _, 0, 0, by decide +kernel, rfl, by decide +kernel⟩⟩

theorem witness_RegisterWrites :
    (∃ (s : State) (u : State) (t : Time), u = s.at t) ∧
    (∃ (s : State) (u : State) (t : Time), u = s.at t) ∧
    (∃ (s : State) (u : State) (t : Time) (v : Nat), u = s.at t ∧ s.writes 0x0028 = true ∧ v.testBit 0 = true) ∧
    (∃ (s : State) (u : State) (t : Time) (v : Nat), u = s.at t ∧ s.writes 0x103C = true ∧ u.blockLocked 0x1000 = false ∧ v.testBit 0 = true) ∧
    (∃ (s : State) (u : State) (t : Time) (v : Nat) (off : _), u = s.at t ∧ lockWord off = true ∧ blockOf off ≠ 0x1000 ∧ s.writes off = true ∧
      u.blockLocked (blockOf off) = false ∧ v.testBit 0 = true) ∧
    (∃ (s : State) (u : State) (t : Time) (v : Nat), u = s.at t ∧ s.writes 0x2008 = true ∧ v.testBit 31 = true) ∧
    (∃ (s : State) (u : State) (t : Time), u = s.at t ∧ s.writes 0xF004 = true ∧ u.sec.certified = false ∧ u.sec.debugLock = false) ∧
    (∃ (s : State) (u : State) (t : Time), u = s.at t) ∧
    (∃ (s : State) (u : State) (t : Time), u = s.at t) ∧
    (∃ (s : State) (u : State) (t : Time), u = s.at t) ∧
    (∃ (s : State) (u : State) (t : Time), u = s.at t) ∧
    (∃ (s : State) (u : State) (t : Time) (off : Nat), u = s.at t ∧ off < 65536 ∧ s.writes off = false ∧ msixTable off = false) ∧
    (∃ (s : State) (u : State) (t : Time) (off : Nat) (bs : List Byte), u = s.at t ∧ off < 65536 ∧ off % 4 = 0 ∧ bs.length = 4 ∧ s.writes off = true ∧
      u.writes off = true) :=
  ⟨⟨live, _, 0, rfl⟩,
   ⟨live, _, 0, rfl⟩,
   ⟨live, _, 0, 1, rfl, by decide +kernel⟩,
   ⟨live, _, 0, 1, rfl, by decide +kernel⟩,
   ⟨live, _, 0, 1, 0xB020, rfl, by decide +kernel⟩,
   ⟨live, _, 0, 0x80000000, rfl, by decide +kernel⟩,
   ⟨live, _, 0, rfl, by decide +kernel⟩,
   ⟨live, _, 0, rfl⟩,
   ⟨live, _, 0, rfl⟩,
   ⟨live, _, 0, rfl⟩,
   ⟨live, _, 0, rfl⟩,
   ⟨State.reset, _, 0, 0xC000, rfl, by decide +kernel⟩,
   ⟨live, _, 0, 0x0410, [0, 0, 0, 0], rfl, by decide +kernel⟩⟩

theorem witness_StepperStandsStill :
    (∃ (s : State) (u : State) (t : Time) (m : Nat), s.power = .running ∧ u = s.at t ∧ m < 16 ∧ u.auxMode m = 2 ∧ (u.auxOf m).st = 5 ∧ (u.auxOf
      m).stepAt + nsOf (u.stepP m 48) ≤ u.now) ∧
    (∃ (s : State) (u : State) (t : Time) (m : Nat), s.power = .running ∧ u = s.at t ∧ m < 16 ∧ u.auxMode m = 2 ∧ (u.auxOf m).st = 5 ∧ (¬ (u.auxOf
      m).stepAt + nsOf (u.stepP m 48) ≤ u.now)) ∧
    (∃ (s : State) (u : State) (t : Time) (m : Nat) (d : Int) (iv : _), s.power = .running ∧ u = s.at t ∧ m < 16 ∧ u.auxMode m = 2 ∧ u.stepNext m =
      some (d, iv) ∧ (u.auxOf m).st = 8 ∧ (u.auxOf m).wakeAt = none) ∧
    (∃ (s : State) (u : State) (t : Time) (m : Nat) (d : Int) (iv : _) (w : _), s.power = .running ∧ u = s.at t ∧ m < 16 ∧ u.auxMode m = 2 ∧
      u.stepNext m = some (d, iv) ∧ (u.auxOf m).st = 8 ∧ (u.auxOf m).wakeAt = some w ∧ (¬ ((u.auxOf m).seenA = true ∧ (u.auxOf m).seenB = true)) ∧
      u.now < w + 2000000) ∧
    (∃ (s : State) (u : State) (t : Time) (m : Nat) (d : Int) (iv : _) (w : _), s.power = .running ∧ u = s.at t ∧ m < 16 ∧ u.auxMode m = 2 ∧
      u.stepNext m = some (d, iv) ∧ (u.auxOf m).st = 8 ∧ (u.auxOf m).wakeAt = some w ∧ (((u.auxOf m).seenA = true ∧ (u.auxOf m).seenB = true) ∨ w +
      2000000 ≤ u.now)) :=
  ⟨⟨(give live .auxMode 0 [(16, 1, 2)]).setAux 0 { st := 5 }, _, 100000000000000, 0, by decide +kernel, rfl, by decide +kernel⟩,
   ⟨(give (give live .stepConfig 0 []) .auxMode 0 [(16, 1, 2)]).setAux 0 { st := 5, stepAt := 5 }, _, 0, 0, by decide +kernel, rfl, by decide +kernel⟩,
   ⟨(give (give live .stepConfig 0 []) .auxMode 0 [(16, 1, 2)]).setAux 0 { st := 8, coarse := [(1, 1, 20000)] }, _, 0, 0, 1, 31250, by decide +kernel,
     rfl, by decide +kernel⟩,
   ⟨(give (give live .stepConfig 0 []) .auxMode 0 [(16, 1, 2)]).setAux 0 { st := 8, coarse := [(1, 1, 20000)], wakeAt := some 0 }, _, 0, 0, 1, 31250,
     0, by decide +kernel, rfl, by decide +kernel⟩,
   ⟨(give (give live .stepConfig 0 []) .auxMode 0 [(16, 1, 2)]).setAux 0 { st := 8, coarse := [(1, 1, 20000)], wakeAt := some 0 }, _, 100000000000000,
     0, 1, 31250, 0, by decide +kernel, rfl, by decide +kernel⟩⟩
end Sys2Proof.Tests
end

namespace Sys2Proof.Machine
open Sys2Proof

/-! ### Events of a motor channel -/

/-- A running chip takes an event of a motor channel that is in the event's mode. -/
theorem motorEvent_running {s : State} (hrun : s.power = .running) {t : Time} {m mode : Nat} (hm : m < 16)
    (hmode : (s.at t).auxMode m = mode) (f : State → State) : motorEvent t m mode s f = .next (f (s.at t)) := by
  unfold motorEvent
  rw [within_next _ _ hm, awake_running hrun, if_pos hmode]

/-! ### What events and faults of a channel leave of its record -/

/-- The auxiliary channels belong to the drive. -/
theorem auxOf_of_drive {a b : State} (h : a.drive = b.drive) (c : Nat) : a.auxOf c = b.auxOf c := by
  have haux : a.drive.aux = b.drive.aux := congrArg State.aux h
  exact congrArg (Tab.get · {} c) haux

@[simp] theorem auxEmit_auxOf (s : State) (c cls code : Nat) (data : List Byte) (k : Nat) :
    (s.auxEmit c cls code data).auxOf k = s.auxOf k :=
  auxOf_of_drive (emitTo_drive s _ cls _ code data) k

/-- A stepper's channel has issued its last output step at a time, stands at a position, and does not wait to be re-energised (R290). -/
def State.Stepped (s : State) (m : Nat) (pos : Int) (time : Time) : Prop :=
  (s.auxOf m).pos = pos ∧ (s.auxOf m).stepAt = time ∧ (s.auxOf m).wakeAt = none

theorem auxEmit_stepped {s : State} {m : Nat} {pos : Int} {time : Time} (h : s.Stepped m pos time) (c cls code : Nat) (data : List Byte) :
    (s.auxEmit c cls code data).Stepped m pos time := by
  simpa [State.Stepped] using h

/-- A channel whose gates go off with a fault stays where its last step took it. -/
theorem auxFault_stepped {s : State} {m : Nat} {pos : Int} {time : Time} (h : s.Stepped m pos time) (code : Nat) (data : List Byte) :
    (s.auxFault m code data).Stepped m pos time := by
  obtain ⟨hpos, htime, -⟩ := h
  simp [State.Stepped, State.auxFault, State.auxHalt, hpos, htime]

/-- A record written with that position, that time of the last step and no wait. -/
theorem setAux_stepped {s : State} {m : Nat} {pos : Int} {time : Time} {x : Aux} (hpos : x.pos = pos) (htime : x.stepAt = time)
    (hwake : x.wakeAt = none) : (s.setAux m x).Stepped m pos time := by
  simp [State.Stepped, hpos, htime, hwake]

theorem ite_stepped {c : Prop} [Decidable c] {a b : State} {m : Nat} {pos : Int} {time : Time} (ha : a.Stepped m pos time)
    (hb : b.Stepped m pos time) : (if c then a else b).Stepped m pos time := by
  split
  · exact ha
  · exact hb

/-- A record changed elsewhere than in its position, the time of its last step and its wait. -/
theorem State.Stepped.setAux {s : State} {m : Nat} {pos : Int} {time : Time} (h : s.Stepped m pos time) {x : Aux}
    (hpos : x.pos = (s.auxOf m).pos := by rfl) (htime : x.stepAt = (s.auxOf m).stepAt := by rfl)
    (hwake : x.wakeAt = (s.auxOf m).wakeAt := by rfl) :
    (s.setAux m x).Stepped m pos time :=
  setAux_stepped (hpos.trans h.1) (htime.trans h.2.1) (hwake.trans h.2.2)

/-- The load measurement (R289) moves nothing, whether it finds a stall that faults the channel, a stall that it only reports, or none. -/
theorem stepMeasure_stepped {s : State} {m : Nat} {pos : Int} {time : Time} (h : s.Stepped m pos time) (rate e : Q) :
    (s.stepMeasure m rate e).Stepped m pos time := by
  unfold State.stepMeasure
  refine ite_stepped (ite_stepped ?faults ?reports) ?measures
  case measures => exact h.setAux
  case reports => exact auxEmit_stepped h.setAux.setAux m 6 0x0A08 []
  case faults => exact (auxFault_stepped h.setAux.setAux 0x0A08 []).setAux

/-! ### Standstill of a stepper (R290) -/

section
variable {s : State} {t : Time} {m : Nat}

/-- `STEPPER_STANDSTILL` by its two outcomes. -/
theorem execStepperStandstill_eq (hrun : s.power = .running) (hm : m < 16) (hmode : (s.at t).auxMode m = 2) :
    execStepperStandstill t m s = .next
      (if ((s.at t).auxOf m).st = 5 ∧ ((s.at t).auxOf m).stepAt + nsOf ((s.at t).stepP m 48) ≤ (s.at t).now then
        (s.at t).setAux m { (s.at t).auxOf m with
          st := 8, stAt := (s.at t).now, shorted := decide ((s.at t).stepByte m 17 1 = 1), coarseAt := none, timer := none }
      else s.at t) :=
  motorEvent_running hrun hm hmode _

/-- The first step of a channel that stands still only re-energises its coils. -/
theorem execStepTimer_wakes (hrun : s.power = .running) (hm : m < 16) (hmode : (s.at t).auxMode m = 2) {d : Int} {iv : Nat}
    (hnext : (s.at t).stepNext m = some (d, iv)) (hst : ((s.at t).auxOf m).st = 8) (hwake : ((s.at t).auxOf m).wakeAt = none) (e : Q) :
    execStepTimer t m e s = .next ((s.at t).setAux m { (s.at t).auxOf m with
      wakeAt := some (s.at t).now, seenA := false, seenB := false, f := 1, shorted := false }) := by
  unfold execStepTimer
  rw [motorEvent_running hrun hm hmode]
  simp only [hnext, hst, hwake, and_self, if_true]

/-- A re-energised channel keeps its step until both coil comparators have asserted or 2 ms have passed. -/
theorem execStepTimer_waits (hrun : s.power = .running) (hm : m < 16) (hmode : (s.at t).auxMode m = 2) {d : Int} {iv : Nat} {w : Time}
    (hnext : (s.at t).stepNext m = some (d, iv)) (hst : ((s.at t).auxOf m).st = 8) (hwake : ((s.at t).auxOf m).wakeAt = some w)
    (hseen : ¬ (((s.at t).auxOf m).seenA = true ∧ ((s.at t).auxOf m).seenB = true)) (hearly : (s.at t).now < w + 2000000) (e : Q) :
    execStepTimer t m e s = .next (s.at t) := by
  have hwait : ¬ ((((s.at t).auxOf m).seenA = true ∧ ((s.at t).auxOf m).seenB = true) ∨ w + 2000000 ≤ (s.at t).now) :=
    not_or.mpr ⟨hseen, Nat.not_le.mpr hearly⟩
  unfold execStepTimer
  rw [motorEvent_running hrun hm hmode]
  simp [hnext, hst, hwake, hwait]

/-- A re-energised channel issues its step once both coil comparators have asserted or 2 ms have passed. -/
theorem execStepTimer_steps (hrun : s.power = .running) (hm : m < 16) (hmode : (s.at t).auxMode m = 2) {d : Int} {iv : Nat} {w : Time}
    (hnext : (s.at t).stepNext m = some (d, iv)) (hst : ((s.at t).auxOf m).st = 8) (hwake : ((s.at t).auxOf m).wakeAt = some w)
    (hready : (((s.at t).auxOf m).seenA = true ∧ ((s.at t).auxOf m).seenB = true) ∨ w + 2000000 ≤ (s.at t).now) (e : Q) :
    ∃ x, execStepTimer t m e s = .next x ∧
      x.Stepped m (((s.at t).auxOf m).pos + d * (s.at t).stepUnit m) (s.at t).now := by
  refine ⟨_, motorEvent_running hrun hm hmode _, ?_⟩
  simp only [hnext, hst, hwake]
  rw [if_neg (by simp), if_neg (fun h => h.2 hready), if_neg (by simp), if_neg (by simp)]
  exact ite_stepped (stepMeasure_stepped (setAux_stepped rfl rfl rfl) _ _) (setAux_stepped rfl rfl rfl)

end

/-- Settles O60: standstill after `stand_time`, then the wake of R290 in its three stages, re-energising, waiting and stepping. -/
theorem stepperStandsStill : Obligations.StepperStandsStill := by
  unfold Obligations.StepperStandsStill
  rintro s _ t m hrun rfl hm hmode
  simp only [exec_stepperStandstill, exec_stepTimer, execStepperStandstill_eq hrun hm hmode]
  refine ⟨?stands, ?runs, ?wakes, ?waits, ?steps⟩
  case stands =>
    intro hst hlong
    rw [if_pos ⟨hst, hlong⟩]
  case runs =>
    intro _ hshort
    rw [if_neg fun h => hshort h.2]
  case wakes =>
    intro e d iv hnext hst hwake
    exact execStepTimer_wakes hrun hm hmode hnext hst hwake e
  case waits =>
    intro e d iv w hnext hst hwake hseen hearly
    exact execStepTimer_waits hrun hm hmode hnext hst hwake hseen hearly e
  case steps =>
    intro e d iv w hnext hst hwake hready
    exact execStepTimer_steps hrun hm hmode hnext hst hwake hready e

end Sys2Proof.Machine

namespace Sys2Proof.Machine
open Sys2Proof

/-! ### Descriptor commands and the checks of R321 -/

/-- A descriptor command is the host core serving its descriptor; only `FENCE` also lets the fences at the head of the list complete (R333). -/
theorem exec_descriptor {i : Instr} {s : State} {o : Order} (ho : s.orderOf i = some o) :
    (∃ d, i = .fence d) ∨ ∃ eff, exec i s = .next (serve o.info o.d o.buf eff s) := by
  cases i
  case fence d => exact .inl ⟨d, rfl⟩
  all_goals cases ho
  all_goals exact .inr ⟨_, rfl⟩

/-- A descriptor command that a check turns away completes with the check's status and leaves the drive as it was. -/
theorem exec_turnsAway {i : Instr} {s : State} {o : Order} {st : Nat} (ho : s.orderOf i = some o) (h : s.turnsAway o st = true) :
    ∃ t, exec i s = .next t ∧ t.drive = (s.at o.d.t).drive ∧ t.completed o st [] := by
  obtain ⟨d, rfl⟩ | ⟨eff, hexec⟩ := exec_descriptor ho
  · cases ho
    have hserving : s.serving d = true := by
      simp only [State.turnsAway, State.begins, Bool.and_eq_true] at h
      exact h.1.1.1.1.1
    obtain ⟨hdrive, hrec⟩ := serve_turnsAway s ⟨infoFence, d, none⟩ (fun s => { st := s, await := some .earlier }) st h
    refine ⟨_, exec_fence d s, ?_⟩
    rw [if_pos hserving]
    exact ⟨(fencesDone_drive _ _ _).trans hdrive, fencesDone_records _ _ _ _ _ hrec⟩
  · exact ⟨_, hexec, serve_turnsAway s o eff st h⟩

/-- `URGENT_REFUSED` is the answer of the checks exactly where those before it in R321 pass and the urgent doorbell brings an opcode that it does
not accept. -/
theorem checks_eq_urgentRefused_iff (s : State) (i : OpInfo) (d : Desc) (buf : Option Nat) :
    s.checks i d buf = 0x000B ↔
      d.tenant = d.page ∧ ¬ (i.op ≥ 0xF0 ∧ (s.sec.certified = true ∨ d.page ≠ 0 ∨ s.sys.tapOpen = false)) ∧ d.flags < 16 ∧
        reservedClear i.lay d.payload = true ∧ d.flags.testBit 1 = true ∧ d.series = 4 ∧ i.urgent = false := by
  have harms : s.checks i d buf = 0x000B ↔
      ¬ d.tenant ≠ d.page ∧ ¬ (i.op ≥ 0xF0 ∧ (s.sec.certified = true ∨ d.page ≠ 0 ∨ ¬ s.sys.tapOpen = true)) ∧
        ¬ (d.flags ≥ 16 ∨ ¬ reservedClear i.lay d.payload = true) ∧ ¬ d.flags.testBit 1 ≠ decide (d.series = 4) ∧
        d.series = 4 ∧ ¬ i.urgent = true := by
    simp only [State.checks, ite_eq_iff, Nat.reduceEqDiff, OfNat.zero_ne_ofNat, and_false, and_true, or_false, false_or]
  rw [harms]
  simp only [ne_eq, not_not, not_or, Nat.not_le, ge_iff_le, Bool.not_eq_true]
  grind

/-- Acceptance leaves the certified mode and the test access port as they are. -/
theorem taken_certified_tapOpen (s : State) (o : Order) :
    (s.taken o).sec.certified = s.sec.certified ∧ (s.taken o).sys.tapOpen = s.sys.tapOpen := by
  have hat : (s.at o.d.t).sec = s.sec ∧ (s.at o.d.t).sys = s.sys := by
    unfold State.at
    split <;> exact ⟨rfl, rfl⟩
  have hsec : (s.taken o).sec.certified = (s.at o.d.t).sec.certified := congrArg (·.sec.certified) (taken_drive s o)
  have hsys : (s.taken o).sys.tapOpen = (s.at o.d.t).sys.tapOpen := congrArg (·.sys.tapOpen) (taken_drive s o)
  rw [hsec, hsys, hat.1, hat.2]
  exact ⟨rfl, rfl⟩

/-! ### The urgent doorbell (R328) -/

/-- The opcodes that R328 lists. -/
def urgentOpcodes : List Nat := [0x01, 0x1A, 0x48, 0x67, 0x74, 0x75, 0x76, 0x7B]

/-- Every descriptor command's opcode is marked for the urgent doorbell exactly where R328 lists it. -/
theorem orderOf_urgent {i : Instr} {s : State} {o : Order} (ho : s.orderOf i = some o) :
    o.info.urgent = decide (o.info.op ∈ urgentOpcodes) := by
  cases i
  all_goals cases ho
  all_goals rfl

/-- Settles O58: every command's mark agrees with R328's list, and the fifth check answers `URGENT_REFUSED` by that mark alone. -/
theorem urgentDoorbellOpcodes : Obligations.UrgentDoorbellOpcodes := by
  unfold Obligations.UrgentDoorbellOpcodes
  intro i s o ho
  have hmark := orderOf_urgent ho
  refine ⟨?listed, ?others⟩
  case listed =>
    intro hop hrefused
    obtain ⟨-, -, -, -, -, -, hbarred⟩ := (checks_eq_urgentRefused_iff _ _ _ _).mp hrefused
    rw [hmark, decide_eq_false_iff_not] at hbarred
    exact hbarred hop
  case others =>
    intro hop hbegins hseries htenant htest hflags hclear hurgent
    have hbarred : o.info.urgent = false := hmark.trans (decide_eq_false hop)
    obtain ⟨hcert, htap⟩ := taken_certified_tapOpen s o
    rw [← hcert, ← htap] at htest
    have hrefused : (s.taken o).checks o.info o.d o.buf = 0x000B :=
      (checks_eq_urgentRefused_iff _ _ _ _).mpr ⟨htenant, htest, hflags, hclear, hurgent, hseries, hbarred⟩
    exact exec_turnsAway ho (by simp [State.turnsAway, hbegins, hrefused])

end Sys2Proof.Machine

namespace Sys2Proof.Machine
open Sys2Proof

/-! ### What a tenant has asked of telemetry (R442)

Reports and completions reach a tenant through its page, whose other fields they leave alone. -/

/-- What a tenant has asked of telemetry: its lowest class and coalescing window (R442), and its streams (R443). -/
def Page.telemetry (p : Page) : Nat × Time × Tab (Option Stream) := (p.minClass, p.coalWindow, p.streams)

/-- What tenant m has asked of telemetry. -/
def State.telemetryOf (s : State) (m : Nat) : Nat × Time × Tab (Option Stream) := (s.page m).telemetry

theorem setPage_telemetryOf (s : State) (n : Nat) (p : Page) (m : Nat) (h : p.telemetry = s.telemetryOf n) :
    (s.setPage n p).telemetryOf m = s.telemetryOf m := by
  unfold State.telemetryOf at h ⊢
  rw [page_setPage]
  split
  case isTrue hm => rw [hm, h]
  case isFalse => rfl

theorem changeAcc_telemetryOf (s : State) (n x q : Nat) (f : Acc → Acc) (m : Nat) :
    (s.changeAcc n x q f).telemetryOf m = s.telemetryOf m := setPage_telemetryOf s n _ m rfl

theorem urgentDone_telemetryOf (s : State) (n x q m : Nat) : (s.urgentDone n x q).telemetryOf m = s.telemetryOf m :=
  congrArg Page.telemetry (urgentDone_page s n x q m)

theorem post_telemetryOf (s : State) (w : Post) (m : Nat) : (s.post w).telemetryOf m = s.telemetryOf m :=
  congrArg Page.telemetry (post_page s w m)

theorem signal_telemetryOf (s : State) (n r : Nat) (b : Bool) (m : Nat) : (s.signal n r b).telemetryOf m = s.telemetryOf m := by
  obtain ⟨g, hg⟩ := signal_page s n r b m
  unfold State.telemetryOf
  rw [hg]
  rfl

theorem postCompletion_telemetryOf (s : State) (n : Nat) (c : CRec) (m : Nat) :
    (s.postCompletion n c).telemetryOf m = s.telemetryOf m := by
  have hwritten (w : Post) (p : Page) (hp : p.telemetry = s.telemetryOf n) : ((s.post w).setPage n p).telemetryOf m = s.telemetryOf m :=
    (setPage_telemetryOf _ n p m (hp.trans (post_telemetryOf s w n).symm)).trans (post_telemetryOf s w m)
  unfold State.postCompletion
  dsimp only
  split
  case isTrue =>
    split
    · exact (signal_telemetryOf _ n 4 _ m).trans (hwritten _ _ rfl)
    · exact hwritten _ _ rfl
  case isFalse => exact setPage_telemetryOf s n _ m rfl

theorem foldl_postCompletion_telemetryOf (n : Nat) (f : Acc → CRec) (l : List Acc) (s : State) (m : Nat) :
    (l.foldl (fun s a => s.postCompletion n (f a)) s).telemetryOf m = s.telemetryOf m := by
  induction l generalizing s with
  | nil => rfl
  | cons a r ih => exact (ih _).trans (postCompletion_telemetryOf s n (f a) m)

theorem fencesDone_telemetryOf (n : Nat) (l : List Acc) (s : State) (m : Nat) : (s.fencesDone n l).telemetryOf m = s.telemetryOf m := by
  induction l generalizing s with
  | nil => rfl
  | cons a r ih =>
    have hremoved : (s.setPage n ((s.page n).remove a.series a.seq)).telemetryOf m = s.telemetryOf m := setPage_telemetryOf s n _ m rfl
    unfold State.fencesDone
    dsimp only
    split
    case isTrue =>
      rw [ih]
      split
      · exact hremoved
      · exact (postCompletion_telemetryOf _ n _ m).trans hremoved
    case isFalse => rfl

/-- The end with `OK` of a descriptor's work raises no event: only records of completion reach a page. -/
theorem finish_ok_telemetryOf (s : State) (n x q : Nat) (result : List Byte) (m : Nat) :
    (s.finish n x q 0 result).telemetryOf m = s.telemetryOf m := by
  unfold State.finish
  dsimp only
  split
  case h_1 => rfl
  case h_2 a _ =>
    rw [fencesDone_telemetryOf, urgentDone_telemetryOf, foldl_postCompletion_telemetryOf n (·.record 1 [])]
    split
    · rw [if_pos rfl]
      exact setPage_telemetryOf s n _ m rfl
    · exact (postCompletion_telemetryOf _ n _ m).trans (setPage_telemetryOf s n _ m rfl)

/-- What follows the effect of a descriptor that succeeds at once, is neither audited nor retained and writes no host buffer, leaves what
tenants have asked of telemetry as the effect made it. -/
theorem perform_telemetryOf (s : State) (i : OpInfo) (d : Desc) (eff : State → Reply) (m : Nat) (haudit : i.audit = false)
    (hkept : i.kept = false) (hstatus : (eff s).status = 0) (hwaits : (eff s).waits = false) (hqueued : (eff s).queued = false)
    (hhandled : (eff s).handled = false) (hwrite : (eff s).write = none) (hawait : (eff s).await = none) :
    (s.perform i d eff).telemetryOf m = (eff s).st.telemetryOf m := by
  unfold State.perform
  simp only [haudit, hkept, hstatus, hwaits, hqueued, hhandled, hwrite, hawait, ne_eq, not_true_eq_false, if_false, Bool.false_eq_true,
    false_and, Option.isSome_none, finish_ok_telemetryOf]
  split
  · rw [urgentDone_telemetryOf, postCompletion_telemetryOf, changeAcc_telemetryOf, changeAcc_telemetryOf]
  · exact changeAcc_telemetryOf _ _ _ _ _ m

/-! ### The classes a tenant asks for (R442) -/

/-- What follows the effect of a descriptor that succeeds and is not retained leaves the drive as the effect made it. -/
theorem perform_drive_of_not_kept (s : State) (i : OpInfo) (d : Desc) (eff : State → Reply) (hkept : i.kept = false)
    (hstatus : (eff s).status = 0) (hwaits : (eff s).waits = false) (hqueued : (eff s).queued = false) (hhandled : (eff s).handled = false) :
    (s.perform i d eff).drive = (eff s).st.drive := by
  rw [perform_drive s i d eff hstatus hwaits hqueued hhandled, State.keep]
  simp only [hkept, Bool.false_eq_true, if_false, false_and]

/-- The effect of `EVENT_CONFIG`: the sender's class and window. -/
def eventConfigReply (d : Desc) (s : State) : Reply :=
  { st := s.setPage d.page { s.page d.page with minClass := d.u8 16, coalWindow := nsOf (d.f32 20) } }

/-- `EVENT_CONFIG` taken sets its sender's class and window, and nothing of the drive. -/
theorem eventConfig_taken {d : Desc} {s u : State} (ht : Taken (.eventConfig d) s u) :
    ∃ t, exec (.eventConfig d) s = .next t ∧ t.drive = u.drive ∧
      (t.page d.page).minClass = d.u8 16 ∧ (t.page d.page).coalWindow = nsOf (d.f32 20) := by
  obtain ⟨o, ho, htakes, rfl⟩ := ht
  have hexec : exec (.eventConfig d) s = .next (serve o.info o.d o.buf (eventConfigReply d) s) := by cases ho; rfl
  rw [serve_takes s o _ htakes] at hexec
  have hkept : o.info.kept = false := by cases ho; rfl
  have haudit : o.info.audit = false := by cases ho; rfl
  have hdrive := perform_drive_of_not_kept (s.taken o) o.info o.d (eventConfigReply d) hkept rfl rfl rfl rfl
  have hasked : ((s.taken o).perform o.info o.d (eventConfigReply d)).telemetryOf d.page =
      ((eventConfigReply d (s.taken o)).st.page d.page).telemetry :=
    perform_telemetryOf (s.taken o) o.info o.d (eventConfigReply d) d.page haudit hkept rfl rfl rfl rfl rfl rfl
  rw [eventConfigReply, setPage_self] at hasked
  obtain ⟨hclass, hrest⟩ := Prod.mk.inj hasked
  obtain ⟨hwindow, -⟩ := Prod.mk.inj hrest
  exact ⟨_, hexec, hdrive, hclass, hwindow⟩

/-- Of the classes STATE, INFO and DEBUG a tenant takes none below the lowest it asked for. -/
theorem minClass_le_of_wants {s : State} {n cls : Nat} (hcls : cls ∈ [1, 2, 4]) (hwants : s.wants n cls = true) :
    (s.page n).minClass ≤ cls := by
  have hasked : cls = 1 ∨ cls = 2 ∨ cls = 4 := by simpa using hcls
  rw [State.wants, if_pos hasked, Bool.and_eq_true, decide_eq_true_eq] at hwants
  exact hwants.2

/-- A descriptor that is open to every role passes the check of rights whoever sends it (R321, R340). -/
theorem rightOk_of_need_all {i : OpInfo} (hneed : i.need = .all) (s : State) (d : Desc) : s.rightOk i d = true := by
  simp only [State.rightOk, hneed, ite_self]

/-- Settles O59: the effect of `EVENT_CONFIG` outlasts its completion, and `State.wants` compares with the class it set. -/
theorem eventClassesAsked : Obligations.EventClassesAsked := by
  unfold Obligations.EventClassesAsked
  refine ⟨?configured, ?byDefault, ?taken, ?everyRole⟩
  case configured => exact fun _ _ _ ht => eventConfig_taken ht
  case byDefault => exact fun _ => rfl
  case taken => exact fun _ _ _ hcls hwants => minClass_le_of_wants hcls hwants
  case everyRole =>
    intro s d i o hi ho
    rcases List.mem_pair.mp hi with rfl | rfl
    all_goals cases ho
    all_goals exact rightOk_of_need_all rfl s d

end Sys2Proof.Machine

namespace Sys2Proof.Machine
open Sys2Proof

/-! ### The queue -/

/-- Settles O1: `step` by its definition on a queue that is not empty. -/
theorem stepRunsTheFrontCommand : Obligations.StepRunsTheFrontCommand := by
  unfold Obligations.StepRunsTheFrontCommand step
  intro s c rest hqueue
  rw [hqueue]

/-- Settles O2: `step` by its definition on an empty queue. -/
theorem emptyQueueIdles : Obligations.EmptyQueueIdles := by
  unfold Obligations.EmptyQueueIdles step
  intro s hqueue
  rw [hqueue]

/-! ### What a command answers -/

/-- A command answers a next state, which on a stopped chip is the state it found; or it is ill-formed and answers the one fault. -/
def Orderly (i : Instr) (s : State) : Prop :=
  (∃ t, exec i s = .next t ∧ (s.stopped = true → t = s)) ∨ (exec i s = .fault .noSuchElement ∧ i.wf = false)

theorem orderly_live {i : Instr} {s : State} {t : Time} {f : State → State} (h : exec i s = .next (s.live t f)) : Orderly i s :=
  .inl ⟨_, h, fun hs => live_stopped hs t f⟩

theorem orderly_awake {i : Instr} {s : State} {t : Time} {f : State → State} (h : exec i s = .next (s.awake t f)) : Orderly i s :=
  .inl ⟨_, h, fun hs => awake_other hs t f⟩

/-- An event of one of the elements of a kind, whose number a well-formed command has in range. -/
theorem orderly_within {i : Instr} {s : State} {n top : Nat} {f : State → State} (h : exec i s = within n top s f)
    (hwf : i.wf = true → n < top) (hf : s.stopped = true → f s = s) : Orderly i s := by
  rcases within_cases n top s f with ⟨-, hnext⟩ | ⟨hout, hfault⟩
  · exact .inl ⟨_, h.trans hnext, hf⟩
  · exact .inr ⟨h.trans hfault, Bool.eq_false_iff.mpr fun hi => hout (hwf hi)⟩

theorem orderly_within_live {i : Instr} {s : State} {n top : Nat} {t : Time} {f : State → State}
    (h : exec i s = within n top s fun s => s.live t f) (hwf : i.wf = (timeOk t && decide (n < top))) : Orderly i s :=
  orderly_within h (fun hi => of_decide_eq_true (Bool.and_eq_true_iff.mp (hwf ▸ hi)).2) fun hs => live_stopped hs t f

theorem orderly_within_awake {i : Instr} {s : State} {n top : Nat} {t : Time} {f : State → State}
    (h : exec i s = within n top s fun s => s.awake t f) (hwf : i.wf = (timeOk t && decide (n < top))) : Orderly i s :=
  orderly_within h (fun hi => of_decide_eq_true (Bool.and_eq_true_iff.mp (hwf ▸ hi)).2) fun hs => awake_other hs t f

/-- A temperature site's event (R300): the number of the sensor within its class is in range as well. -/
theorem orderly_site {i : Instr} {s : State} {t : Time} {cls idx : Nat} {f : State → Site → State} (h : exec i s = siteEvent t cls idx s f)
    (hwf : i.wf = (timeOk t && decide (cls < 3) && decide (idx < siteCount cls))) : Orderly i s := by
  refine orderly_within h (fun hi => ?_) fun hs => live_stopped hs t _
  rw [hwf] at hi
  simp only [Bool.and_eq_true, decide_eq_true_eq] at hi
  exact hi.1.2

/-- A sag group's event (R293): eight regions of four groups. -/
theorem orderly_sag {i : Instr} {s : State} {t : Time} {r g : Nat} {f : State → State}
    (h : exec i s = within (if g < 4 then 4 * r + g else 32) 32 s fun s => s.awake t f)
    (hwf : i.wf = (timeOk t && decide (r < 8) && decide (g < 4))) : Orderly i s := by
  refine orderly_within h (fun hi => ?_) fun hs => awake_other hs t _
  rw [hwf] at hi
  simp only [Bool.and_eq_true, decide_eq_true_eq] at hi
  rw [if_pos hi.2]
  omega

theorem serve_unserved (i : OpInfo) {d : Desc} (buf : Option Nat) (eff : State → Reply) {s : State} (h : s.serving d = false) :
    serve i d buf eff s = s := by
  unfold serve
  rw [if_pos (by simp [h])]

/-- A descriptor that the device does not serve changes nothing (R319). -/
theorem exec_unserved {i : Instr} {s : State} {o : Order} (ho : s.orderOf i = some o) (h : s.serving o.d = false) :
    exec i s = .next s := by
  obtain ⟨d, rfl⟩ | ⟨eff, hexec⟩ := exec_descriptor ho
  · cases ho
    rw [exec_fence, execFence, if_neg (by simp [h])]
  · rw [hexec, serve_unserved _ _ _ h]

/-- Settles O7: the first test of `serve`, and of `FENCE`. -/
theorem unservedDescriptorChangesNothing : Obligations.UnservedDescriptorChangesNothing := by
  unfold Obligations.UnservedDescriptorChangesNothing
  exact fun _ _ _ => exec_unserved

theorem orderly_descriptor {i : Instr} {s : State} {o : Order} (ho : s.orderOf i = some o) : Orderly i s := by
  have hunserved (hs : s.stopped = true) : s.serving o.d = false := by
    by_contra hserving
    simp [State.serving] at hserving
    simp [State.stopped, hserving] at hs
  obtain ⟨d, rfl⟩ | ⟨eff, hexec⟩ := exec_descriptor ho
  · exact .inl ⟨_, exec_fence d s, fun hs => Host.Outcome.next.inj (exec_unserved ho (hunserved hs))⟩
  · exact .inl ⟨_, hexec, fun hs => Host.Outcome.next.inj (hexec.symm.trans (exec_unserved ho (hunserved hs)))⟩

/-! ### What a stopped chip keeps -/

/-- The state t has all of s but what may change while the chip is stopped; device time stands while it is held or frozen (R429). -/
structure Stands (s t : State) : Prop where
  still : t.still = s.still
  pending : t.pending = s.pending
  time : s.power = .held ∨ s.power = .frozen → t.now = s.now

theorem Stands.refl (s : State) : Stands s s := ⟨rfl, rfl, fun _ => rfl⟩

theorem Stands.power {s t : State} (h : Stands s t) : t.power = s.power := (congrArg State.power h.still :)

theorem Stands.trans {s t u : State} (h : Stands s t) (k : Stands t u) : Stands s u :=
  ⟨k.still.trans h.still, k.pending.trans h.pending, fun hp => (k.time (h.power ▸ hp)).trans (h.time hp)⟩

theorem Stands.foldl {α : Type} {f : State → α → State} (h : ∀ s a, Stands s (f s a)) (l : List α) (s : State) : Stands s (l.foldl f s) := by
  induction l generalizing s with
  | nil => exact .refl s
  | cons a l ih => exact (h s a).trans (ih (f s a))

theorem Stands.ite {s a b : State} {c : Prop} [Decidable c] (ha : c → Stands s a) (hb : ¬ c → Stands s b) : Stands s (if c then a else b) := by
  split
  case isTrue h => exact ha h
  case isFalse h => exact hb h

theorem stands_at (s : State) (t : Time) : Stands s (s.at t) := by
  unfold State.at
  split
  case isTrue => exact .refl s
  case isFalse h => exact ⟨rfl, rfl, fun hp => absurd hp.symm h⟩

theorem stopped_of_stands {s t : State} (h : Stands s t) (hs : s.stopped = true) : t.stopped = true := by
  unfold State.stopped at *
  rwa [h.power]

theorem stopped_cases {s : State} (hs : s.stopped = true) : s.power = .held ∨ s.power = .idle ∨ s.power = .off ∨ s.power = .frozen := by
  simpa [State.stopped, or_assoc] using hs

/-- The three power states in which pins reach partitions. -/
theorem not_serving {s : State} (hs : s.stopped = true) : ¬ (s.power = .running ∨ s.power = .pfail ∨ s.power = .entering) := by
  rcases stopped_cases hs with h | h | h | h <;> simp [h]

/-! ### Register writes -/

/-- A stopped chip takes writes only while it is frozen, to identification and to freeze (R478). -/
theorem writes_stopped {s : State} {off : Nat} (hs : s.stopped = true) (h : s.writes off = true) :
    s.power = .frozen ∧ (blockOf off = 0 ∨ blockOf off = 0x1800) := by
  rcases stopped_cases hs with hp | hp | hp | hp <;> simp [State.writes, hp] at h
  exact ⟨hp, h⟩

theorem regWrite_stopped {s : State} {off : Nat} (hs : s.stopped = true) (h0 : blockOf off ≠ 0) (hfrz : blockOf off ≠ 0x1800) (t : Time)
    (f : State → State) : s.regWrite t off f = .next s := by
  unfold State.regWrite
  rw [if_neg]
  intro hw
  exact (writes_stopped hs hw).2.elim h0 hfrz

/-- In a list that falls, no element that passes a bound lies above the first that does. -/
theorem le_find_of_mem {l : List Nat} {off b c : Nat} (hl : l.Pairwise (· ≥ ·)) (hb : b ∈ l) (hle : b ≤ off)
    (h : l.find? (fun b => b ≤ off) = some c) : b ≤ c := by
  induction l with
  | nil => cases hb
  | cons x l ih =>
    obtain ⟨hx, hl⟩ := List.pairwise_cons.mp hl
    by_cases hoff : x ≤ off
    · obtain rfl : x = c := by simpa [hoff] using h
      rcases List.mem_cons.mp hb with rfl | hb
      · exact le_rfl
      · exact hx b hb
    · rcases List.mem_cons.mp hb with rfl | hb
      · exact absurd hle hoff
      · exact ih hl hb (by simpa [hoff] using h)

theorem find_blockOf (off : Nat) : blockBases.find? (fun b => b ≤ off) = some (blockOf off) := by
  unfold blockOf
  cases h : blockBases.find? fun b => b ≤ off with
  | none =>
    have hno := List.find?_eq_none.mp h 0 (by decide)
    simp at hno
  | some b => rfl

theorem le_blockOf {b off : Nat} (hb : b ∈ blockBases) (h : b ≤ off) : b ≤ blockOf off :=
  le_find_of_mem (by decide) hb h (find_blockOf off)

theorem blockOf_le (off : Nat) : blockOf off ≤ off := by
  simpa using List.find?_some (find_blockOf off)

theorem lt_next_of_blockOf {off : Nat} (h : blockOf off = 0 ∨ blockOf off = 0x1800) : off < 0x400 ∨ (0x1800 ≤ off ∧ off < 0x2000) := by
  rcases h with h | h
  · refine .inl (not_le.mp fun hle => ?_)
    have := le_blockOf (b := 0x400) (by decide) hle
    omega
  · refine .inr ⟨h ▸ blockOf_le off, not_le.mp fun hle => ?_⟩
    have := le_blockOf (b := 0x2000) (by decide) hle
    omega

theorem not_staging_of_frozen {s : State} (h : s.power = .frozen) : s.staging = false := by simp [State.staging, h]

theorem stands_clearHold {s : State} (h : s.power = .frozen) : Stands s s.clearHold := by
  unfold State.clearHold
  simp only [not_staging_of_frozen h, Bool.and_false, Bool.false_eq_true, not_false_eq_true, if_true]
  refine .ite (fun _ => .refl s) fun _ => .ite (fun _ => ?_) fun _ => ?_
  all_goals exact ⟨rfl, rfl, fun _ => rfl⟩

theorem stands_writeFlags {s : State} (h : s.power = .frozen) (v : Nat) : Stands s (s.writeFlags v) := by
  unfold State.writeFlags
  have hsys (x : Sys) : Stands s { s with sys := x } := ⟨rfl, rfl, fun _ => rfl⟩
  exact .ite (fun _ => hsys _) fun _ => (hsys _).trans (stands_clearHold h)

theorem stands_retain {s : State} (h : s.power = .frozen) (off v : Nat) : Stands s (s.retain off v) := by
  unfold State.retain
  simp only [not_staging_of_frozen h, Bool.and_false, Bool.false_eq_true, not_false_eq_true, if_true]
  refine .ite (fun _ => ?_) fun _ => ?_
  all_goals exact ⟨rfl, rfl, fun _ => rfl⟩

/-- Of the words that a frozen chip serves, `REG_FLAGS` acts, retained fields are kept, and the rest take nothing (R452, R478). -/
theorem writeWord_of_frozen_block (s : State) {off : Nat} (v : Nat) (h : off < 0x400 ∨ (0x1800 ≤ off ∧ off < 0x2000)) :
    s.writeWord off v = if ¬ s.shown off then s else if off = 0x0028 then s.writeFlags v
      else if retMask off ≠ 0 then s.unlocked off fun s => s.retain off (s.takenValue off v) else s := by
  have hword (first n : Nat) (hf : (0x400 ≤ first ∧ first + 4 * n ≤ 0x1800) ∨ 0x2000 ≤ first) : isWord first n off = false := by
    simp [isWord]
    omega
  have hne (c : Nat) (hc : (0x400 ≤ c ∧ c < 0x1800) ∨ 0x2000 ≤ c) : off ≠ c := by omega
  unfold State.writeWord State.writeRetained lockWord
  simp [hword, hne]

theorem stands_writeWord {s : State} {off : Nat} (hp : s.power = .frozen) (h : blockOf off = 0 ∨ blockOf off = 0x1800) (v : Nat) :
    Stands s (s.writeWord off v) := by
  rw [writeWord_of_frozen_block s v (lt_next_of_blockOf h)]
  refine .ite (fun _ => .refl s) fun _ => .ite (fun _ => stands_writeFlags hp v) fun _ => .ite (fun _ => ?_) fun _ => .refl s
  unfold State.unlocked
  exact .ite (fun _ => ⟨rfl, rfl, fun _ => rfl⟩) fun _ => stands_retain hp off _

/-- One word of a write, where the block is served. -/
theorem stands_writeWord_served {s : State} (hs : s.stopped = true) (off v : Nat) :
    Stands s (if s.writes off then s.writeWord off v else s) :=
  .ite (fun hw => let ⟨hp, hb⟩ := writes_stopped hs hw; stands_writeWord hp hb v) fun _ => .refl s

theorem stands_writeBytes {s : State} (hs : s.stopped = true) (off : Nat) (bs : List Byte) : Stands s (s.writeBytes off bs) := by
  unfold State.writeBytes
  have hlow := stands_writeWord_served hs off (leNat bs 0 4)
  refine .ite (fun _ => hlow) fun _ => .ite (fun _ => ?_) fun _ => ⟨rfl, rfl, fun _ => rfl⟩
  exact hlow.trans (stands_writeWord_served (stopped_of_stands hlow hs) _ _)

/-! ### The MSI-X table -/

theorem stands_fireVector (s : State) (n : Nat) : Stands s (s.fireVector n) := by
  unfold State.fireVector
  refine .ite (fun _ => ⟨rfl, rfl, fun _ => rfl⟩) fun _ => ?_
  unfold State.post
  refine .ite (fun _ => ?_) fun _ => ⟨rfl, rfl, fun _ => rfl⟩
  simp only [Post.free]
  exact ⟨by simp [State.still, State.noteHigh], rfl, fun _ => rfl⟩

theorem stands_writeMsix (s : State) (o v : Nat) : Stands s (s.writeMsix o v) := by
  have hput (n : Nat) (e : Msix) : Stands s { s with msix := Tab.set s.msix {} n e } := ⟨rfl, rfl, fun _ => rfl⟩
  unfold State.writeMsix
  exact .ite (fun _ => hput _ _) fun _ => .ite (fun _ => hput _ _) fun _ => .ite (fun _ => hput _ _) fun _ =>
    .ite (fun _ => (hput _ _).trans (stands_fireVector _ _)) fun _ => hput _ _

theorem stands_writeTable (s : State) (o : Nat) (bs : List Byte) : Stands s (s.writeTable o bs) := by
  unfold State.writeTable
  have hlow := stands_writeMsix s o (leNat bs 0 4)
  exact .ite (fun _ => hlow) fun _ => .ite (fun _ => hlow.trans (stands_writeMsix _ _ _)) fun _ => .refl s

/-! ### Pins -/

theorem leaveSafeOff_stopped {s : State} (hs : s.stopped = true) : s.leaveSafeOff = s := if_neg (not_serving hs)

theorem stands_stoChannel {s : State} (hs : s.stopped = true) (g : Nat) (b : Bool) : Stands s (s.stoChannel g b) := by
  have hset (x : Sto) : Stands s (s.setSto g x) := ⟨rfl, rfl, fun _ => rfl⟩
  unfold State.stoChannel
  refine .ite (fun h => absurd h (not_serving (stopped_of_stands (hset _) hs))) fun _ => .ite (fun _ => ?_) fun _ => hset _
  exact ⟨rfl, rfl, fun _ => rfl⟩

/-! ### Every command answers -/

/-- A command answers a next state, for which a stopped chip stands unless the command restarts it; or it is ill-formed and answers the
one fault. -/
def Answered (i : Instr) (s : State) : Prop :=
  (∃ t, exec i s = .next t ∧ (s.stopped = true → restarts i = false → Stands s t)) ∨ (exec i s = .fault .noSuchElement ∧ i.wf = false)

theorem answered_of_orderly {i : Instr} {s : State} (h : Orderly i s) : Answered i s :=
  h.imp_left fun ⟨t, hnext, hstopped⟩ => ⟨t, hnext, fun hs _ => hstopped hs ▸ .refl s⟩

theorem answered_next {i : Instr} {s t : State} (h : exec i s = .next t) (hst : s.stopped = true → Stands s t) : Answered i s :=
  .inl ⟨t, h, fun hs _ => hst hs⟩

theorem answered_restart {i : Instr} {s t : State} (h : exec i s = .next t) (hr : restarts i = true) : Answered i s :=
  .inl ⟨t, h, fun _ hno => absurd (hr.symm.trans hno) nofun⟩

theorem answered_same {i : Instr} {s t : State} (h : exec i s = .next t) (hst : s.stopped = true → t = s) : Answered i s :=
  answered_next h fun hs => hst hs ▸ .refl s

theorem answered_within {i : Instr} {s : State} {n top : Nat} {f : State → State} (h : exec i s = within n top s f)
    (hwf : i.wf = true → n < top) (hst : s.stopped = true → Stands s (f s)) : Answered i s := by
  rcases within_cases n top s f with ⟨-, hnext⟩ | ⟨hout, hfault⟩
  · exact answered_next (h.trans hnext) hst
  · exact .inr ⟨h.trans hfault, Bool.eq_false_iff.mpr fun hi => hout (hwf hi)⟩

/-- A write to a block that no stopped chip serves. -/
theorem answered_regWrite {i : Instr} {s : State} {t : Time} {off : Nat} {f : State → State} (h : exec i s = s.regWrite t off f)
    (h0 : blockOf off ≠ 0) (hfrz : blockOf off ≠ 0x1800) : Answered i s :=
  answered_same (h.trans rfl) fun hs => Host.Outcome.next.inj (regWrite_stopped hs h0 hfrz t f)

theorem lt_of_wf {t : Time} {n top : Nat} (h : (timeOk t && decide (n < top)) = true) : n < top :=
  of_decide_eq_true (Bool.and_eq_true_iff.mp h).2

theorem not_storing {s : State} (hs : s.stopped = true) : s.storing = false := by
  rcases stopped_cases hs with h | h | h | h <;> simp [State.storing, h]

theorem not_avsRuns {s : State} (hs : s.stopped = true) : s.avsRuns = false := by
  rcases stopped_cases hs with h | h | h | h <;> simp [State.avsRuns, h]

theorem power_ne_of_stopped {s : State} {q : Power} (hs : s.stopped = true) (hq : q ≠ .held ∧ q ≠ .idle ∧ q ≠ .off ∧ q ≠ .frozen) :
    s.power ≠ q := by
  obtain ⟨h1, h2, h3, h4⟩ := hq
  rintro rfl
  rcases stopped_cases hs with h | h | h | h <;> contradiction

theorem stands_with_sys (s : State) (x : Sys) : Stands s { s with sys := x } := ⟨rfl, rfl, fun _ => rfl⟩

theorem answered_pcieLinkLoss (t : Time) (s : State) : Answered (.pcieLinkLoss t) s := by
  have hpages (l : List Nat) (u : State) : Stands u (l.foldl (fun s n => s.setPage n (s.page n).disableAll) u) :=
    .foldl (f := fun (s : State) n => s.setPage n (s.page n).disableAll) (fun _ _ => ⟨rfl, rfl, fun _ => rfl⟩) l u
  by_cases hp : s.power = .held
  · exact answered_next (if_pos hp) fun _ => .refl s
  · exact answered_next (if_neg hp) fun _ => ((stands_at s t).trans (hpages _ _)).trans (stands_with_sys _ _)

theorem answered_pcieLinkUp (t : Time) (word : Nat) (s : State) : Answered (.pcieLinkUp t word) s := by
  by_cases hp : s.power = .held
  · exact answered_next (if_pos hp) fun _ => .refl s
  · exact answered_next (if_neg hp) fun _ => (stands_at s t).trans (stands_with_sys _ _)

theorem stands_tripin {s : State} (hs : s.stopped = true) (t : Time) (m : Nat) :
    Stands s { s.at t with tripin := m } ∧ ¬ ((s.at t).power = .running ∨ (s.at t).power = .pfail ∨ (s.at t).power = .entering) := by
  have h : Stands s { s.at t with tripin := m } := (stands_at s t).trans ⟨rfl, rfl, fun _ => rfl⟩
  exact ⟨h, not_serving (stopped_of_stands (stands_at s t) hs)⟩

theorem answered_tripinAssert (t : Time) (i : Nat) (s : State) : Answered (.tripinAssert t i) s := by
  refine answered_within (exec_tripinAssert t i s) lt_of_wf fun hs => ?_
  obtain ⟨hpin, hpower⟩ := stands_tripin hs t (setBit s.tripin i true)
  refine .ite (fun h => absurd h hpower) fun _ => .ite (fun _ => hpin.trans (.ite (fun _ => .refl _) fun _ => ?_)) fun _ => hpin
  exact ⟨rfl, rfl, fun _ => rfl⟩

theorem answered_tripinRelease (t : Time) (i : Nat) (s : State) : Answered (.tripinRelease t i) s := by
  refine answered_within (exec_tripinRelease t i s) lt_of_wf fun hs => ?_
  obtain ⟨hpin, hpower⟩ := stands_tripin hs t (setBit s.tripin i false)
  exact .ite (fun h => absurd h hpower) fun _ => hpin

theorem stands_setSto (s : State) (g : Nat) (x : Sto) : Stands s (s.setSto g x) := ⟨rfl, rfl, fun _ => rfl⟩

theorem answered_stoRelease (t : Time) (g : Nat) (s : State) : Answered (.stoRelease t g) s := by
  refine answered_within (exec_stoRelease t g s) lt_of_wf fun hs => ?_
  have hset (x : Sto) : Stands s ((s.at t).setSto g x) := (stands_at s t).trans (stands_setSto _ g x)
  refine .ite (fun _ => hset _) fun _ => ?_
  rw [leaveSafeOff_stopped (stopped_of_stands (hset _) hs)]
  exact hset _

theorem answered_stoDiscrepancy (t : Time) (g : Nat) (lowA lowB : Bool) (us : Nat) (s : State) :
    Answered (.stoDiscrepancy t g lowA lowB us) s := by
  refine answered_within (exec_stoDiscrepancy t g lowA lowB us s) lt_of_wf fun hs => ?_
  have hset (x : Sto) : Stands s ((s.at t).setSto g x) := (stands_at s t).trans (stands_setSto _ g x)
  exact .ite (fun h => absurd h (not_serving (stopped_of_stands (hset _) hs))) fun _ => hset _

theorem answered_railFault (t : Time) (rail : Nat) (nand : Bool) (s : State) : Answered (.railFault t rail nand) s := by
  refine answered_within (exec_railFault t rail nand s) lt_of_wf fun hs => ?_
  have hsys (x : Sys) : Stands s { s.at t with sys := x } := (stands_at s t).trans (stands_with_sys _ x)
  have hpower (x : Sys) (q : Power) (hq : q ≠ .held ∧ q ≠ .idle ∧ q ≠ .off ∧ q ≠ .frozen) : { s.at t with sys := x }.power ≠ q :=
    power_ne_of_stopped (stopped_of_stands (hsys x) hs) hq
  refine .ite (fun h => ?_) fun _ => .ite (fun h => absurd h.1 (hpower _ _ (by decide))) fun _ => hsys _
  exact absurd h.1 (not_or.mpr ⟨hpower _ _ (by decide), hpower _ _ (by decide)⟩)

theorem contains_auxCodes {c : Nat} : auxCodes.contains c = true ↔ c < 16 ∨ (0x20 ≤ c ∧ c < 0x40) := by
  simp only [auxCodes, List.contains_iff_mem, List.mem_append, List.mem_range, List.mem_map]
  refine or_congr_right ⟨?_, fun h => ⟨c - 0x20, by omega⟩⟩
  rintro ⟨k, hk, rfl⟩
  omega

theorem answered_auxDiagStep (t : Time) (c : Nat) (volts : List Q) (s : State) : Answered (.auxDiagStep t c volts) s := by
  by_cases hc : auxCodes.contains c
  · exact answered_same ((exec_auxDiagStep t c volts s).trans (if_neg (not_not.mpr hc))) fun hs => live_stopped hs t _
  · refine .inr ⟨(exec_auxDiagStep t c volts s).trans (if_pos hc), ?_⟩
    have hout : ¬ (c < 16 ∨ (0x20 ≤ c ∧ c < 0x40)) := fun h => hc (contains_auxCodes.mpr h)
    rw [Instr.wf, decide_eq_false hout, Bool.and_false]

theorem storing_off {s : State} (hs : s.stopped = true) : ¬ s.storing := by simp [not_storing hs]

theorem stands_frz (s : State) (t : Time) (x : Freeze) : Stands s { s.at t with frz := x } :=
  (stands_at s t).trans ⟨rfl, rfl, fun _ => rfl⟩

theorem answered_failRestart (t : Time) (s : State) : Answered (.failRestart t) s :=
  answered_same (exec_failRestart t s) fun hs => if_neg fun h => power_ne_of_stopped hs (by decide) h.1

theorem answered_freezeNLow (t : Time) (s : State) : Answered (.freezeNLow t) s := by
  refine answered_same (exec_freezeNLow t s) fun hs => ?_
  have hpower (q : Power) (hq : q ≠ .held ∧ q ≠ .idle ∧ q ≠ .off ∧ q ≠ .frozen) := power_ne_of_stopped hs hq
  simp [hpower .running (by decide), hpower .failed (by decide), hpower .entering (by decide)]

theorem answered_pfailNFall (t : Time) (s : State) : Answered (.pfailNFall t) s := by
  refine answered_next (exec_pfailNFall t s) fun hs => ?_
  dsimp only
  split
  case h_5 => exact stands_with_sys s _
  all_goals next h => exact absurd h (power_ne_of_stopped hs (by decide))

theorem answered_tapFrzData (t : Time) (sel : Bool) (addr : Nat) (s : State) : Answered (.tapFrzData t sel addr) s :=
  answered_next (exec_tapFrzData t sel addr s) fun _ =>
    .ite (fun _ => stands_frz s t _) fun _ => .ite (fun _ => stands_at s t) fun _ => stands_frz s t _

theorem answered_mclkDivWrite (t : Time) (k v : Nat) (s : State) : Answered (.mclkDivWrite t k v) s :=
  answered_within (exec_mclkDivWrite t k v s) lt_of_wf fun hs =>
    .ite (fun hw => absurd (writes_stopped hs hw).2 (by decide)) fun _ => .refl s

theorem answered_regHoldClear (t : Time) (v : Nat) (s : State) : Answered (.regHoldClear t v) s :=
  answered_next (exec_regHoldClear t v s) fun hs => .ite (fun hw => (stands_at s t).trans
    (stands_writeFlags ((stands_at s t).power.trans (writes_stopped hs hw).1) v)) fun _ => .refl s

theorem answered_blockLock (t : Time) (off v : Nat) (s : State) : Answered (.blockLock t off v) s := by
  by_cases hlock : lockWord off
  · have hoff : off = 0xB020 ∨ off = 0xC010 ∨ off = 0xD07C := by simpa [lockWord, or_assoc] using hlock
    have hblock : blockOf off ≠ 0 ∧ blockOf off ≠ 0x1800 := by rcases hoff with rfl | rfl | rfl <;> decide
    exact answered_regWrite ((exec_blockLock t off v s).trans (if_pos hlock)) hblock.1 hblock.2
  · refine .inr ⟨(exec_blockLock t off v s).trans (if_neg hlock), ?_⟩
    have hoff : ¬ (off = 0xB020 ∨ off = 0xC010 ∨ off = 0xD07C) := by simpa [lockWord, or_assoc] using hlock
    rw [Instr.wf, decide_eq_false hoff, Bool.and_false]

theorem answered_registerWrite (t : Time) (off : Nat) (bs : List Byte) (s : State) : Answered (.registerWrite t off bs) s := by
  by_cases htable : msixTable off
  · refine answered_next ((exec_registerWrite t off bs s).trans (if_pos htable)) fun _ => .ite (fun _ => .refl s) fun _ => ?_
    exact (stands_at s t).trans (stands_writeTable _ _ bs)
  · refine answered_within ((exec_registerWrite t off bs s).trans (if_neg htable)) (fun hwf => ?_) fun hs => .ite (fun _ => ?_) fun _ => .refl s
    · have hoff : off < 65536 ∨ (0x3FF0000 ≤ off ∧ off < 0x3FF8000) := of_decide_eq_true (Bool.and_eq_true_iff.mp hwf).2
      have hno : ¬ (0x3FF0000 ≤ off ∧ off < 0x3FF8000) := by simpa [msixTable] using htable
      exact hoff.resolve_right hno
    · exact (stands_at s t).trans (stands_writeBytes (stopped_of_stands (stands_at s t) hs) off bs)

theorem answered_stoAssert (t : Time) (g : Nat) (b : Bool) (s : State) : Answered (.stoAssert t g b) s :=
  answered_within (exec_stoAssert t g b s) lt_of_wf fun hs =>
    (stands_at s t).trans (stands_stoChannel (stopped_of_stands (stands_at s t) hs) g b)

theorem answered_ss1Request (t : Time) (g : Nat) (b : Bool) (s : State) : Answered (.ss1Request t g b) s :=
  answered_within (exec_ss1Request t g b s) lt_of_wf fun hs =>
    (stands_at s t).trans (stands_stoChannel (stopped_of_stands (stands_at s t) hs) g b)

/-- Every command, by the guard that its meaning opens with: what only a running or waking chip takes first, then reset, boot and power,
the pins, registers, the read-out of frozen state, and the PCIe link. -/
theorem exec_answered (i : Instr) (s : State) : Answered i s := by
  cases i with
  | linkConfig | linkRetrain | linkStatus | partStatus | cellStatus | cellBypass | partRelease | fbStatus | refSource | curveLoad | curveInput
    | shockConfig | drumConfig | drumSet | profileLimits | profileMove | profileStop | vlimitConfig | tension | heaveConfig | heaveRef
    | motionStatus | auxMode | bldcConfig | bldcCurve | stepConfig | stepSource | switchConfig | sagConfig | auxDiag | auxRunStart | auxRunStop
    | auxInput | auxReset | auxStatus | nop | cancel | fence | leaseAcquire | leaseRelease | leaseTransfer | leaseRevoke | leaseQuery | brakeConfig
    | emergConfig | rideConfig | limp | crashStopStart | crashStopEnd | estopControlled | estopShortCircuit | winchEmergEndRender | winchEmergRender
    | winchEmergQuickRelease | brakeStatus | tandemConfig | tandemRatio | tandemMaster | coreMigrate | setpoint | supplySetpoint | machStatus
    | protConfig | tripLink | protSelftest | protTrip | protRecord | protStatus | regionRestart | thermConfig | coolantConfig | thermGroups
    | thermSensorReset | thermStatus | partConfig | armConfig | laneAssign | partCommit | prechargeConfig | cellPolicy | modConfig | edgeConfig
    | balanceConfig | circConfig | armSense | shareConfig | modLimit | modStatus | machConfig | machParams | currentConfig | observerConfig
    | speedConfig | limits | fieldConfig | supplyConfig | exciterConfig | fbConfig | encConfig | resConfig | bissConfig | sensorlessConfig
    | restartConfig | limitConfig | precharge | enable | disable | block | tripReset | cellAdmit | consumerConfig | demandLimit | supplyRecord
    | calveConfig | calve | calveClear | interleaveConfig | plantReserve | plantRelease | plantStatus | fabSend | fabRecv | standbyConfig
    | fabCalConfig | takeover | shareSubConfig | sharePublish | fabTrace | fabTopology | fabStatus | firnSync | firnLoad | firnErase | firnExport
    | moraineConfig | moraineTrigger | moraineList | moraineRead | moraineProtect | auditRead | userWrite | userRead | userDelete | storFormat
    | storStatus | telemSub | telemUnsub | eventConfig | trackerStatus | eventLog | eventStatus | tenantCreate | tenantBind | tenantRetire
    | tenantStatus | slotSchedule | secCtrlEnter | secCtrlLeave | secCtrlConsent | secCtrlEnrolKey | secCtrlRevokeKey | fwUpdate | attest
    | canConfig | canRateConfig | canDetect | canRxPost | canTx | canTxAbort | canStatus | freeze | testEccInject | testWdogStop
    | testLinkSilence =>
    exact answered_of_orderly (orderly_descriptor rfl)
  | readmitTimeout | prechargePassiveDone | prechargeTimeout | readyFloorExpiry | openLoopBlendEnd | hardLimitActive | hardLimitInactive
    | yieldHoldReached | yieldTimeout | curveInputLost | heaveSampleReceived | auxOuterLoop | sqTail | cqHead | eqHead | urgentStage | urgentCommit
    | descriptorFetch | irqHoldoffExpiry | coalesceWindowEnd | shedCount | scBrakingOrder | scBrakingEnd | scArmsAlternate | estopStandstill
    | brakeSetHoldEnd | brakeRelease | brakeReleaseHoldEnd | quickReleaseEnd | rideThroughResyncDone | rideThroughDelayEnd | rideThroughExpiry
    | tandemMessageReceived | tandemMasterLost | currentLoopStep | speedStep | zeroVoltagePulseEnd | standstillHoldEnd | earthCurrent | positionLost
    | pllLocked | pllLost | exciterFault | exciterReady | exciterEnableTimeout | currentSaturationAlarm | observerDivergence | partnerLost
    | setpointTimeout | migration | machineCoreSelftest | computeWindowStart | armPlacement | thermalEvaluation | prechargeComplete
    | disableComplete | supplyStale | breakerInputActive | busCollapseDetected | reserveRequestReceived | nodeFailed | fabPortUp | fabPortDown
    | fabRetransmit | fabFrameReceived | timeExchange | deposed | morainePostWindowEnd | telemSample | bulkWait | canDetectDwellEnd
    | canFrameReceived | canRxFlush | canTxAttemptEnd | canBusError | canBusOn | canTxHoldoffEnd | testLinkSilenceEnd =>
    exact answered_of_orderly (orderly_within_live rfl rfl)
  | upFrameReceived | laneLockAcquired | trainingTimeout | linkDown | linkRetryExpiry | linkSearchInterval | selftestTimeout | alarmSReceived
    | alarmUReceived | retrainSilenceEnd | upFrameWindowEnd | encIllegalTransition | indexPulse | indexMissing | resolverSample | bissRequest
    | bissFrameEnd | bldcCheckEnd | bldcCheckWaitTimeout | bldcAlignEnd | bldcZeroCrossing | bldcCommutation | bldcRampEnd | bldcStartRetry
    | bldcPeakComparator | scHoldEnd | stepTimer | stepInputEdge | stepperStandstill | stepperChopComparator | switchComparatorAssert
    | switchInrushEnd | switchPullEnd | ss1Timeout | supervisorWatchdogExpiry | fastWindowCross | protSelftestDone | cellCycleStart
    | downFrameWindowStart | hostDmaCompletion | mclkRelockEnd | sdStuck =>
    exact answered_of_orderly (orderly_within_awake rfl rfl)
  | leaseTimeout | ringEnable | ringDisable | allocRoundPublish | roundRecordReceived | allocRoundCompute | grantApply | calvingEventReceived
    | reserveRetry | reserveTimeout | linkStateReceived | linkStateFlood | controlResend | fabSendTimeout | holdoverTimeout | ppsInEdge
    | mirrorRecordReceived | mirrorTimeout | standbyTakeover | moraineFlush | auditCheckpoint | retentionScrubPass | certifiedSlotStart =>
    exact answered_of_orderly (orderly_live rfl)
  | hostCoreWatchdogExpiry | timeBaseFailure | tripNetDisagree | scrubWord | remoteTripReceived =>
    exact answered_of_orderly (orderly_awake rfl)
  | sensorFailed t cls idx => exact answered_of_orderly (orderly_site (exec_sensorFailed t cls idx s) rfl)
  | thermalLevelRise t cls idx => exact answered_of_orderly (orderly_site (exec_thermalLevelRise t cls idx s) rfl)
  | sagGroupActive | sagGroupInactive =>
    exact answered_of_orderly (orderly_sag rfl rfl)
  | pcieLinkLoss => exact answered_pcieLinkLoss _ s
  | pcieLinkUp => exact answered_pcieLinkUp _ _ s
  | stoAssert => exact answered_stoAssert _ _ _ s
  | ss1Request => exact answered_ss1Request _ _ _ s
  | stoRelease => exact answered_stoRelease _ _ s
  | stoDiscrepancy => exact answered_stoDiscrepancy _ _ _ _ _ s
  | tripinAssert => exact answered_tripinAssert _ _ s
  | tripinRelease => exact answered_tripinRelease _ _ s
  | auxDiagStep => exact answered_auxDiagStep _ _ _ s
  | firnCommitDone t upTo spare => exact answered_same (exec_firnCommitDone t upTo spare s) fun hs => if_pos (.inl (storing_off hs))
  | auditCommit t => exact answered_same (exec_auditCommit t s) fun hs => if_pos (storing_off hs)
  | storageOperationDone t page series seq ok =>
    exact answered_same (exec_storageOperationDone t page series seq ok s) fun hs => if_pos (storing_off hs)
  | pfailNFall => exact answered_pfailNFall _ s
  | pfailSequenceEnd t steps frzLow =>
    exact answered_same (exec_pfailSequenceEnd t steps frzLow s) fun hs => if_pos (power_ne_of_stopped hs (by decide))
  | railFault => exact answered_railFault _ _ _ s
  | failRestart => exact answered_failRestart _ s
  | porstNLow | boot | pfailNRestored | frzThaw => exact answered_restart rfl rfl
  | warmReset t b => exact answered_same (exec_warmReset t b s) fun hs => if_pos (power_ne_of_stopped hs (by decide))
  | devTimeLoRead t => exact answered_next (exec_devTimeLoRead t s) fun _ => .ite (fun _ => .refl s) fun _ =>
      (stands_at s t).trans (stands_with_sys _ _)
  | freezeNLow => exact answered_freezeNLow _ s
  | freezeStep2End t => exact answered_same (exec_freezeStep2End t s) fun hs => if_pos (power_ne_of_stopped hs (by decide))
  | freezeReadout t off len => exact answered_next (exec_freezeReadout t off len s) fun _ => stands_frz s t _
  | tapFrzData => exact answered_tapFrzData _ _ _ s
  | avsGoalUpdate t => exact answered_same (exec_avsGoalUpdate t s) fun hs => if_pos (by simp [not_avsRuns hs])
  | avsVoltageWrite t fails => exact answered_same (exec_avsVoltageWrite t fails s) fun hs => if_pos (by simp [not_avsRuns hs])
  | mclkDivWrite => exact answered_mclkDivWrite _ _ _ s
  | regHoldClear => exact answered_regHoldClear _ _ s
  | blockLock => exact answered_blockLock _ _ _ s
  | registerWrite => exact answered_registerWrite _ _ _ s
  | rstCtrlWarm t v => exact answered_regWrite (exec_rstCtrlWarm t v s) (by decide) (by decide)
  | rstCtrlShutdown t v => exact answered_regWrite (exec_rstCtrlShutdown t v s) (by decide) (by decide)
  | sdCfgWrite t v => exact answered_regWrite (exec_sdCfgWrite t v s) (by decide) (by decide)
  | tripLock t v => exact answered_regWrite (exec_tripLock t v s) (by decide) (by decide)
  | pcieErrClear t v => exact answered_regWrite (exec_pcieErrClear t v s) (by decide) (by decide)
  | dbgTapFull t v => exact answered_regWrite (exec_dbgTapFull t v s) (by decide) (by decide)
  | mbReadCertificate t => exact answered_regWrite (exec_mbReadCertificate t s) (by decide) (by decide)
  | mbWriteRecoveryChunk t => exact answered_regWrite (exec_mbWriteRecoveryChunk t s) (by decide) (by decide)
  | mbFinishRecoveryImage t ok svn raises => exact answered_regWrite (exec_mbFinishRecoveryImage t ok svn raises s) (by decide) (by decide)

/-- Settles O4: what every command answers on a stopped chip, on the state with the queue's rest. -/
theorem stoppedChipStandsStill : Obligations.StoppedChipStandsStill := by
  unfold Obligations.StoppedChipStandsStill
  intro s t c rest hqueue hstopped hno hstep
  rw [stepRunsTheFrontCommand s c rest hqueue] at hstep
  rcases exec_answered c (s.withRest rest) with ⟨u, hnext, hstands⟩ | ⟨hfault, -⟩
  · obtain rfl : u = t := Host.Outcome.next.inj (hnext.symm.trans hstep)
    have h := hstands hstopped hno
    exact ⟨h.still, h.power, h.pending, h.time⟩
  · exact absurd (hfault.symm.trans hstep) nofun

/-- Settles O5: of the two answers, the fault is to an ill-formed command. -/
theorem wellFormedCommandsRun : Obligations.WellFormedCommandsRun := by
  unfold Obligations.WellFormedCommandsRun
  intro i s hwf
  rcases exec_answered i s with ⟨t, hnext, -⟩ | ⟨-, hill⟩
  · exact ⟨t, hnext⟩
  · exact absurd (hwf.symm.trans hill) nofun

/-- Settles O6: a command answers a next state or the one fault. -/
theorem onlyMissingElementsFault : Obligations.OnlyMissingElementsFault := by
  unfold Obligations.OnlyMissingElementsFault
  intro i s
  rcases exec_answered i s with ⟨t, hnext, -⟩ | ⟨hfault, hill⟩
  · rw [hnext]
    exact ⟨nofun, nofun⟩
  · rw [hfault]
    exact ⟨nofun, fun f hf => ⟨(Host.Outcome.fault.inj hf).symm, hill⟩⟩

/-- Settles O8: a descriptor that a check turns away is answered with that check's status, and nothing else. -/
theorem refusedDescriptorHasNoEffect : Obligations.RefusedDescriptorHasNoEffect := by
  unfold Obligations.RefusedDescriptorHasNoEffect
  exact fun _ _ _ _ ho h => exec_turnsAway ho h

end Sys2Proof.Machine

namespace Sys2Proof.Machine
open Sys2Proof

/-- A sequence neither expected nor newer, for a ring that takes descriptors, is answered as stale (R322). -/
theorem accept_stale {s : State} {op : Nat} {d : Desc} (hnew : (s.page d.page).find d.series d.seq = none)
    (hring : d.series < 4 → ((s.page d.page).ring d.series).enable = true ∧ (s.page d.page).window < 12)
    (hurgent : 4 ≤ d.series → (s.page d.page).window < 16) (hne : d.seq ≠ Tab.get (s.page d.page).expect 0 d.series)
    (hold : newer d.seq (Tab.get (s.page d.page).expect 0 d.series) = false) :
    s.accept op d = (s.postCompletion d.page (recordOf d op 0x000A), false) := by
  have hopen : ¬ (d.series < 4 ∧ (¬ ((s.page d.page).ring d.series).enable = true ∨ 12 ≤ (s.page d.page).window)) := by
    rintro ⟨hlow, hno | hfull⟩
    · exact hno (hring hlow).1
    · have := (hring hlow).2
      omega
  have hroom : ¬ (4 ≤ d.series ∧ 16 ≤ (s.page d.page).window) := by
    rintro ⟨hhigh, hfull⟩
    have := hurgent hhigh
    omega
  unfold State.accept
  simp only [hnew]
  rw [if_neg hopen, if_neg hroom, if_pos ⟨hne, by simp [hold]⟩]

/-- A descriptor that is served but not accepted leaves what its acceptance leaves. -/
theorem serve_not_accepted {s : State} {i : OpInfo} {d : Desc} {buf : Option Nat} {eff : State → Reply} (hs : s.serving d = true)
    (h : ((s.at d.t).accept i.op d).2 = false) : serve i d buf eff s = ((s.at d.t).accept i.op d).1 := by
  unfold serve
  rw [if_neg (not_not.mpr hs)]
  exact if_pos (by simp [h])

theorem record_recordOf (o : Order) (st : Nat) : recordOf o.d o.info.op st = o.record st [] := rfl

/-- Settles O9: acceptance posts the record, and no effect is served. -/
theorem oldSequenceIsStale : Obligations.OldSequenceIsStale := by
  unfold Obligations.OldSequenceIsStale
  intro i s o ho hserving hnew hring hurgent hne hold
  have haccept : (s.at o.d.t).accept o.info.op o.d = ((s.at o.d.t).postCompletion o.d.page (recordOf o.d o.info.op 0x000A), false) := by
    have hpage : (s.at o.d.t).page o.d.page = s.page o.d.page := by unfold State.at; split <;> rfl
    exact accept_stale (hpage ▸ hnew) (hpage ▸ hring) (hpage ▸ hurgent) (hpage ▸ hne) (hpage ▸ hold)
  have hserve (eff : State → Reply) :
      serve o.info o.d o.buf eff s = (s.at o.d.t).postCompletion o.d.page (recordOf o.d o.info.op 0x000A) := by
    rw [serve_not_accepted hserving (by rw [haccept]), haccept]
  have hrecord : ((s.at o.d.t).postCompletion o.d.page (recordOf o.d o.info.op 0x000A)).completed o 0x000A [] :=
    ((postCompletion_page _ _ _ _).2 _).mpr (.inr ⟨rfl, record_recordOf o _⟩)
  obtain ⟨d, rfl⟩ | ⟨eff, hexec⟩ := exec_descriptor ho
  · cases ho
    refine ⟨_, exec_fence d s, ?_⟩
    rw [if_pos hserving, hserve]
    exact ⟨(fencesDone_drive _ _ _).trans (postCompletion_drive _ _ _), fencesDone_records _ _ _ _ _ hrecord⟩
  · exact ⟨_, hexec, by rw [hserve, postCompletion_drive], by rw [hserve]; exact hrecord⟩

/-! ### Descriptors whose work ends at once -/

section Replies
variable {i : Instr} {s u v e : State} {o : Order} {eff : State → Reply} {res : List Byte}

/-- A descriptor that is taken, whose work ends at once, gives the state of its reply with what the device keeps of it. -/
theorem gives_of_reply {aw : Option Await} {w : Option (List Byte)} {kc : Nat} (ho : s.orderOf i = some o)
    (he : exec i s = .next (serve o.info o.d o.buf eff s)) (ht : Taken i s u)
    (hr : eff u = { st := v, result := res, await := aw, write := w, keyC := kc })
    (hst : (v.keep o.info o.d { st := v, keyC := kc }).drive = e.drive) : Gives i s e :=
  gives_of_serve ho he ht (by rw [hr]) (by rw [hr]) (by rw [hr]) (by rw [hr]) (by rw [hr]; exact hst)

/-- A descriptor that is taken and not retained, whose work ends at once with a result, answers it. -/
theorem answers_of_reply (ho : s.orderOf i = some o) (he : exec i s = .next (serve o.info o.d o.buf eff s)) (ht : Taken i s u)
    (hr : eff u = { st := v, result := res }) (hk : o.info.kept = false) (hg : o.info.gives = true ∨ res = []) (hst : v.drive = e.drive)
    (hd : v.desk o.d.page = u.desk o.d.page) : Answers i s e res := by
  have h := answers_of_serve (e := e) ho he ht hk (by rw [hr]) (by rw [hr]) (by rw [hr]) (by rw [hr]) (by rw [hr]) (by rw [hr])
    (by rw [hr]; exact hst) (by rw [hr]; exact hd) (by rw [hr]; exact hg)
  rwa [hr] at h

/-- A descriptor that is taken and not retained, whose work ends with bytes for its host buffer, issues them. -/
theorem writes_of_reply {bs : List Byte} (ho : s.orderOf i = some o) (he : exec i s = .next (serve o.info o.d o.buf eff s))
    (ht : Taken i s u) (hr : eff u = { st := v, result := res, write := some bs }) (hk : o.info.kept = false) (hst : v.drive = e.drive) :
    Writes i s e bs :=
  writes_of_serve ho he ht hk (by rw [hr]) (by rw [hr]) (by rw [hr]) (by rw [hr]) (by rw [hr]) (by rw [hr]; exact hst)

end Replies

theorem answers_fabTrace {d : Desc} {rtt h : Nat} {s u : State} (ht : Taken (.fabTrace d rtt) s u) (hh : u.hops (d.u16 16) = some h) :
    Answers (.fabTrace d rtt) s u
      (leBytes 1 h ++ leBytes 1 ((u.routePort (d.u16 16)).getD (Config.noValue 0)) ++ zeros 2 ++ leBytes 4 rtt) :=
  answers_of_reply (v := u) rfl (exec_fabTrace d rtt s) ht (by simp only [hh]) rfl (.inl rfl) rfl rfl

/-- Settles O14: each status descriptor's reply, with no buffer named. -/
theorem statusResults : Obligations.StatusResults := by
  unfold Obligations.StatusResults
  intro d s u
  refine ⟨?nop, ?partStatus, ?modStatus, ?machStatus, ?motionStatus, ?fbStatus, ?thermStatus, ?plantStatus, ?brakeStatus, ?protStatus,
    ?auxStatus, ?eventStatus, ?storStatus, ?fabTrace, ?fabStatus, ?canStatus, ?tenantStatus⟩
  case nop => exact fun ht => answers_of_reply rfl (exec_nop d s) ht rfl rfl (.inr rfl) rfl rfl
  case partStatus => exact fun ht => answers_of_reply rfl (exec_partStatus d s) ht rfl rfl (.inl rfl) rfl rfl
  case modStatus => exact fun ht => answers_of_reply rfl (exec_modStatus d s) ht rfl rfl (.inl rfl) rfl rfl
  case machStatus => exact fun ht hb => answers_of_reply rfl (exec_machStatus d s) ht (by rw [if_pos hb]) rfl (.inl rfl) rfl rfl
  case motionStatus => exact fun ht hb => answers_of_reply rfl (exec_motionStatus d s) ht (if_pos hb) rfl (.inl rfl) rfl rfl
  case fbStatus => exact fun ht hb => answers_of_reply rfl (exec_fbStatus d s) ht (if_pos hb) rfl (.inl rfl) rfl rfl
  case thermStatus => exact fun ht => answers_of_reply rfl (exec_thermStatus d s) ht rfl rfl (.inl rfl) rfl rfl
  case plantStatus =>
    exact fun ht hb => answers_of_reply (v := u) rfl (exec_plantStatus d s) ht (by simp only [if_pos hb]) rfl (.inl rfl) rfl rfl
  case brakeStatus => exact fun ht => answers_of_reply rfl (exec_brakeStatus d s) ht rfl rfl (.inl rfl) rfl rfl
  case protStatus => exact fun ht => answers_of_reply rfl (exec_protStatus d s) ht rfl rfl (.inl rfl) rfl rfl
  case auxStatus => exact fun ht hb => answers_of_reply rfl (exec_auxStatus d s) ht (if_pos hb) rfl (.inl rfl) rfl rfl
  case eventStatus =>
    exact fun ht => answers_of_reply rfl (exec_eventStatus d s) ht rfl rfl (.inl rfl) (setPage_drive _ _ _) (setPage_desk _ _ _ _ rfl)
  case storStatus => exact fun ht => answers_of_reply rfl (exec_storStatus d s) ht rfl rfl (.inl rfl) rfl rfl
  case fabTrace => exact fun rtt h ht hh => answers_fabTrace ht hh
  case fabStatus => exact fun ht => answers_of_reply rfl (exec_fabStatus d s) ht rfl rfl (.inl rfl) rfl rfl
  case canStatus => exact fun ht => answers_of_reply rfl (exec_canStatus d s) ht rfl rfl (.inl rfl) rfl rfl
  case tenantStatus => exact fun ht => answers_of_reply rfl (exec_tenantStatus d s) ht rfl rfl (.inl rfl) rfl rfl

/-- Settles O15: each reply's bytes for the buffer that is named. -/
theorem bufferResults : Obligations.BufferResults := by
  unfold Obligations.BufferResults
  intro d s u
  refine ⟨?cellStatus, ?machStatus, ?motionStatus, ?fbStatus, ?plantStatus, ?protRecord, ?linkStatus, ?auxStatus, ?trackerStatus, ?eventLog,
    ?moraineList, ?moraineRead, ?fabTopology, ?attest⟩
  case cellStatus => exact fun ht => writes_of_reply rfl (exec_cellStatus d s) ht rfl rfl rfl
  case machStatus => exact fun ht hb => writes_of_reply rfl (exec_machStatus d s) ht (by rw [if_neg hb]) rfl rfl
  case motionStatus => exact fun ht hb => writes_of_reply rfl (exec_motionStatus d s) ht (if_neg hb) rfl rfl
  case fbStatus => exact fun ht hb => writes_of_reply rfl (exec_fbStatus d s) ht (if_neg hb) rfl rfl
  case plantStatus =>
    exact fun ht hb => writes_of_reply (v := u.setPlant { u.plant with diverge := 0 }) (res := u.plantResult d.target) rfl (exec_plantStatus d s) ht
      (by simp only [if_neg hb]) rfl rfl
  case protRecord => exact fun ht => writes_of_reply rfl (exec_protRecord d s) ht rfl rfl rfl
  case linkStatus => exact fun ht => writes_of_reply rfl (exec_linkStatus d s) ht rfl rfl rfl
  case auxStatus => exact fun ht hb => writes_of_reply rfl (exec_auxStatus d s) ht (if_neg hb) rfl rfl
  case trackerStatus => exact fun ht => writes_of_reply rfl (exec_trackerStatus d s) ht rfl rfl rfl
  case eventLog => exact fun ht => writes_of_reply rfl (exec_eventLog d s) ht rfl rfl rfl
  case moraineList => exact fun ht hmedium => writes_of_reply (v := u) rfl (exec_moraineList d s) ht (if_neg hmedium) rfl rfl
  case moraineRead =>
    intro c ht hmedium hc hreads hmine
    refine writes_of_reply (v := u) (res := []) rfl (exec_moraineRead d s) ht ?_ rfl rfl
    simp only [State.stored_, hmedium, hc, hreads, hmine, if_false, if_true, not_true_eq_false]
  case fabTopology => exact fun ht => writes_of_reply rfl (exec_fabTopology d s) ht rfl rfl rfl
  case attest => exact fun ht => writes_of_reply rfl (exec_attest d s) ht rfl rfl rfl

/-! ### Descriptors that their own rule turns away -/

/-- The entry of a descriptor that is taken stands in its tenant's list. -/
theorem find_of_takes {s : State} {o : Order} (h : s.takes o = true) :
    ((s.taken o).page o.d.page).find o.d.series o.d.seq = some o.entry := by
  simp only [State.takes, State.begins, Bool.and_eq_true, decide_eq_true_eq] at h
  exact h.1.1.1.1.1.1.2

/-- A descriptor whose work ends with a status completes with it and the result, and changes nothing. -/
theorem refused_of_reply {i : Instr} {s u : State} {o : Order} {eff : State → Reply} {st : Nat} {res : List Byte} (ho : s.orderOf i = some o)
    (he : exec i s = .next (serve o.info o.d o.buf eff s)) (ht : Taken i s u)
    (hr : eff u = { st := u, status := st, result := res }) (hst : st ≠ 0) :
    ∃ t o, s.orderOf i = some o ∧ exec i s = .next t ∧ t.drive = u.drive ∧ t.completed o st res := by
  obtain ⟨o', ho', htk, rfl⟩ := ht
  obtain rfl : o = o' := Option.some.inj (ho.symm.trans ho')
  have hstatus : (eff (s.taken o)).status ≠ 0 := by rw [hr]; exact hst
  rw [serve_takes s o eff htk] at he
  refine ⟨_, o, ho, he, ?_, ?_⟩
  · rw [perform_drive_refused _ _ _ _ hstatus, hr]
  · have hfinish (v : State) (hv : v.desk o.d.page = (s.taken o).desk o.d.page) :
        (v.finish o.d.page o.d.series o.d.seq st res).completed o st res :=
      finish_records v _ _ _ st res o.entry ((find_desk _ _ _ _ _ hv).trans (find_of_takes htk)) rfl
    unfold State.perform
    simp only [hr, ne_eq, hst, not_false_eq_true, if_true]
    apply hfinish
    split
    · exact auditRefusal_desk _ _ _ _ _
    · split
      · exact audit_desk _ _ _ _ _ _ _
      · rfl

theorem masterOnly_follower {d : Desc} {eff : State → Reply} {u : State} (h : u.follows d.target = true) :
    masterOnly d eff u = { st := u, status := 0x0701, result := (notMaster u d.target).result } := if_pos h

/-- Settles O13: the eight commands answer through `masterOnly`. -/
theorem followerTurnsAway : Obligations.FollowerTurnsAway := by
  unfold Obligations.FollowerTurnsAway
  intro d s u i hi ht hf
  simp only [List.mem_cons, List.not_mem_nil, or_false] at hi
  rcases hi with rfl | rfl | rfl | rfl | rfl | rfl | rfl | rfl
  · exact refused_of_reply rfl (exec_setpoint d s) ht (masterOnly_follower hf) (by decide)
  · exact refused_of_reply rfl (exec_refSource d s) ht (masterOnly_follower hf) (by decide)
  · exact refused_of_reply rfl (exec_curveInput d s) ht (masterOnly_follower hf) (by decide)
  · exact refused_of_reply rfl (exec_profileMove d s) ht (masterOnly_follower hf) (by decide)
  · exact refused_of_reply rfl (exec_profileStop d s) ht (masterOnly_follower hf) (by decide)
  · exact refused_of_reply rfl (exec_tension d s) ht (masterOnly_follower hf) (by decide)
  · exact refused_of_reply rfl (exec_heaveRef d s) ht (masterOnly_follower hf) (by decide)
  · exact refused_of_reply rfl (exec_profileLimits d s) ht (masterOnly_follower hf) (by decide)

/-- Settles O3: the tables of the reset state are empty but for T0's own entry. -/
theorem resetState : Obligations.ResetState := by
  unfold Obligations.ResetState
  refine ⟨rfl, rfl, rfl, rfl, fun _ => ⟨rfl, rfl⟩, fun _ => ⟨rfl, rfl⟩, fun _ _ _ => rfl, fun _ _ => rfl, rfl, rfl, rfl, fun n hn => ?_⟩
  have hother : State.reset.tenant n = {} := if_neg (Ne.symm hn)
  rw [hother]

/-! ### Descriptors that store their bytes -/

theorem lag_of_not_lagging {op : Nat} (h : lagOps.contains op = false) (s : State) (target : Nat) : s.lag op target = s :=
  if_pos (by rw [h]; rfl)

section Stored
variable {i : Instr} {s u v : State} {info : OpInfo} {d : Desc} {buf : Option Nat} {eff : State → Reply} {kc : Nat}

/-- A retained descriptor that is taken, whose work ends at once, gives the state of its reply with its bytes stored. -/
theorem gives_stored (ho : s.orderOf i = some ⟨info, d, buf⟩) (he : exec i s = .next (serve info d buf eff s)) (ht : Taken i s u)
    (hr : eff u = { st := v, keyC := kc }) (hk : info.kept = true) :
    Gives i s ((v.lag info.op d.target).withStored info.op d kc) := by
  refine gives_of_reply (res := []) (aw := none) (w := none) ho he ht hr ?_
  unfold State.keep State.withStored
  simp only [hk, if_true, Bool.false_eq_true, not_false_eq_true, and_self]

/-- The same where no bytes stay in force until a later step. -/
theorem gives_stored_at_once {op : Nat} (ho : s.orderOf i = some ⟨info, d, buf⟩) (he : exec i s = .next (serve info d buf eff s)) (ht : Taken i s u)
    (hr : eff u = { st := v, keyC := kc }) (hk : info.kept = true) (hop : info.op = op) (hlag : lagOps.contains op = false) :
    Gives i s (v.withStored op d kc) := by
  subst hop
  have h := gives_stored ho he ht hr hk
  rwa [lag_of_not_lagging hlag] at h

/-- A retained descriptor that is taken, whose work leaves lists of descriptors, storage and power alone, is answered as R371 asks. -/
theorem retains_stored (ho : s.orderOf i = some ⟨info, d, buf⟩) (he : exec i s = .next (serve info d buf eff s)) (ht : Taken i s u)
    (hr : eff u = { st := v, keyC := kc }) (hk : info.kept = true) (hd : v.desk d.page = u.desk d.page) (hst : v.stor = u.stor)
    (hp : v.power = u.power) : Retains i s u info.op kc :=
  retains_of_serve ho he ht hk (by rw [hr]) (by rw [hr]) (by rw [hr]) (by rw [hr]) (by rw [hr]) (by rw [hr]) (by rw [hr]) (by rw [hr])
    (by rw [hr]; exact hd) (by rw [hr]; exact hst) (by rw [hr]; exact hp) (by rw [hr])

end Stored

theorem storeEffect_of_arrival {op kc : Nat} {d : Desc} {u : State} (h : (u.withStored op d kc).arrival op d.target = 0) :
    storeEffect op d kc u = { st := u, keyC := kc } := if_neg (not_not.mpr h)

/-- A retained descriptor that does nothing but store its bytes. -/
theorem stored_of_arrival {i : Instr} {s u : State} {info : OpInfo} {d : Desc} {buf : Option Nat} {op : Nat} (ho : s.orderOf i = some ⟨info, d, buf⟩)
    (he : exec i s = .next (serve info d buf (storeEffect op d 0) s)) (ht : Taken i s u) (hop : info.op = op)
    (hk : info.kept = true) (h : (u.withStored op d 0).arrival op d.target = 0) :
    Gives i s ((u.lag op d.target).withStored op d 0) ∧ Retains i s u op 0 := by
  subst hop
  exact ⟨gives_stored ho he ht (storeEffect_of_arrival h) hk, retains_stored ho he ht (storeEffect_of_arrival h) hk rfl rfl rfl⟩

theorem confEffect_of_status {op kc : Nat} {d : Desc} {u : State} (h : (confEffect allChecks op d kc u).status = 0) :
    confEffect allChecks op d kc u = { st := u, keyC := kc } := by
  unfold confEffect at h ⊢
  by_cases hc : crossStatus allChecks op (u.withStored op d kc) d.target ≠ 0
  · simp only [if_pos hc] at h
    exact absurd h hc
  · rw [if_neg hc]

/-- The state with the bond and the arm engines of a partition as they follow from the configuration of another state (R45, R47). -/
def State.reformed (u : State) (p : Nat) (w : State) : State :=
  u.setPart p { u.part p with bonded := w.bondSet p, engines := w.engineMap p }

theorem reformEffect_unconfigured {op kc : Nat} {d : Desc} {u : State} (h : (confEffect allChecks op d kc u).status = 0)
    (hst : (u.part d.target).st = .unconfigured) : reformEffect allChecks op d kc u = { st := u, keyC := kc } :=
  (if_pos (.inr hst)).trans (confEffect_of_status h)

theorem reformEffect_configured {op kc : Nat} {d : Desc} {u : State} (h : (confEffect allChecks op d kc u).status = 0)
    (hst : (u.part d.target).st ≠ .unconfigured) (hre : (u.withStored op d kc).reformStatus d.target = 0) :
    reformEffect allChecks op d kc u = { st := u.reformed d.target (u.withStored op d kc), keyC := kc } := by
  unfold reformEffect
  simp only
  rw [if_neg (not_or.mpr ⟨not_not.mpr h, hst⟩), if_neg (not_not.mpr hre), confEffect_of_status h]
  rfl

/-- Settles O10: the descriptors of the list only store; `PART_CONFIG` also forms what follows from it. -/
theorem configurationStored : Obligations.ConfigurationStored := by
  unfold Obligations.ConfigurationStored
  refine ⟨?stored, ?partConfig⟩
  case stored =>
    intro d s u c hc ht harr
    simp only [List.mem_cons, List.not_mem_nil, or_false] at hc
    rcases hc with rfl | rfl | rfl | rfl | rfl | rfl | rfl | rfl | rfl | rfl | rfl | rfl | rfl | rfl | rfl | rfl | rfl | rfl | rfl | rfl |
      rfl | rfl | rfl | rfl | rfl | rfl | rfl
    · exact stored_of_arrival rfl (exec_prechargeConfig d s) ht rfl rfl harr
    · exact stored_of_arrival rfl (exec_cellPolicy d s) ht rfl rfl harr
    · exact stored_of_arrival rfl (exec_modConfig d s) ht rfl rfl harr
    · exact stored_of_arrival rfl (exec_edgeConfig d s) ht rfl rfl harr
    · exact stored_of_arrival rfl (exec_balanceConfig d s) ht rfl rfl harr
    · exact stored_of_arrival rfl (exec_circConfig d s) ht rfl rfl harr
    · exact stored_of_arrival rfl (exec_armSense d s) ht rfl rfl harr
    · exact stored_of_arrival rfl (exec_shareConfig d s) ht rfl rfl harr
    · exact stored_of_arrival rfl (exec_modLimit d s) ht rfl rfl harr
    · exact stored_of_arrival rfl (exec_machConfig d s) ht rfl rfl harr
    · exact stored_of_arrival rfl (exec_machParams d s) ht rfl rfl harr
    · exact stored_of_arrival rfl (exec_currentConfig d s) ht rfl rfl harr
    · exact stored_of_arrival rfl (exec_observerConfig d s) ht rfl rfl harr
    · exact stored_of_arrival rfl (exec_speedConfig d s) ht rfl rfl harr
    · exact stored_of_arrival rfl (exec_limits d s) ht rfl rfl harr
    · exact stored_of_arrival rfl (exec_fieldConfig d s) ht rfl rfl harr
    · exact stored_of_arrival rfl (exec_supplyConfig d s) ht rfl rfl harr
    · exact stored_of_arrival rfl (exec_shockConfig d s) ht rfl rfl harr
    · exact stored_of_arrival rfl (exec_encConfig d s) ht rfl rfl harr
    · exact stored_of_arrival rfl (exec_resConfig d s) ht rfl rfl harr
    · exact stored_of_arrival rfl (exec_restartConfig d s) ht rfl rfl harr
    · exact stored_of_arrival rfl (exec_consumerConfig d s) ht rfl rfl harr
    · exact stored_of_arrival rfl (exec_demandLimit d s) ht rfl rfl harr
    · exact stored_of_arrival rfl (exec_brakeConfig d s) ht rfl rfl harr
    · exact stored_of_arrival rfl (exec_rideConfig d s) ht rfl rfl harr
    · exact stored_of_arrival rfl (exec_protConfig d s) ht rfl rfl harr
    · exact stored_of_arrival rfl (exec_tripLink d s) ht rfl rfl harr
  case partConfig =>
    intro d s u ht hregions hcross
    have heff : partConfigEffect d u = reformEffect allChecks 0x10 d 0 u := if_neg (not_not.mpr hregions)
    refine ⟨fun hst => ?_, fun hst hre => ?_⟩
    · have hr := heff.trans (reformEffect_unconfigured hcross hst)
      exact ⟨gives_stored_at_once rfl (exec_partConfig d s) ht hr rfl rfl rfl, retains_stored rfl (exec_partConfig d s) ht hr rfl rfl rfl rfl⟩
    · have hr := heff.trans (reformEffect_configured hcross hst hre)
      exact ⟨gives_stored_at_once rfl (exec_partConfig d s) ht hr rfl rfl rfl, retains_stored rfl (exec_partConfig d s) ht hr rfl rfl rfl rfl⟩

/-! ### Configuration with checks of its own -/

theorem exciterEffect_resolver {d : Desc} {u : State} (hmode : d.u8 16 = 1) (hregion : (u.confRegions d.target).contains (auxRegion (d.u8 17)) = true)
    (hfree : u.claimFree (motorClaim (d.u8 17)) 0x3A d.target = true) : exciterEffect d u = storeEffect 0x3A d 0 u := by
  unfold exciterEffect
  simp only [hmode, hregion, hfree, if_true, not_true_eq_false, if_false]

theorem exciterEffect_other {d : Desc} {u : State} (hmode : d.u8 16 ≠ 1) (hchan : d.u8 17 < 8) :
    exciterEffect d u = storeEffect 0x3A d 0 u := by
  unfold exciterEffect
  simp only [hmode, if_false, Nat.not_le.mpr hchan]

theorem fbConfigEffect_free {d : Desc} {u : State} (hnone : d.u8 16 = 0xFF → d.u8 18 = 2)
    (hfree : d.u8 16 ≠ 0xFF → u.fbTaken d.target (d.u8 16) = false) : fbConfigEffect d u = storeEffect 0x50 d 0 u := by
  unfold fbConfigEffect
  rw [if_neg fun h => h.2 (hnone h.1), if_neg fun h => by simp [hfree h.1] at h]

theorem vlimitEffect_fits {d : Desc} {u : State} {lo hi : Q} (harr : (u.withStored 0x49 d 0).arrival 0x49 d.target = 0)
    (hlim : (lo, hi) = (u.withStored 0x49 d 0).vlimits d.target)
    (hin : (u.motOf d.target).calibrated = true → lo ≤ u.payout d.target ∧ u.payout d.target ≤ hi ∧ ((u.motOf d.target).moving = true →
        lo ≤ (u.motOf d.target).target ∧ (u.motOf d.target).target ≤ hi ∧ ∀ y, (u.motOf d.target).follow = some y → lo ≤ y ∧ y ≤ hi))
    (hstop : (u.motOf d.target).moving = true → stopFits (u.plimP d.target 24) (u.plimP d.target 28) (u.motOf d.target)
        ((if 0 ≤ (u.motOf d.target).vRef then hi - (u.motOf d.target).pRef else (u.motOf d.target).pRef - lo) -
          (u.withStored 0x49 d 0).vlimP d.target 28) = true) : vlimitEffect d u = { st := u } := by
  have hinside {y : Q} (h : lo ≤ y ∧ y ≤ hi) : (decide (y < lo) || decide (hi < y)) = false := by
    simp [not_lt.mpr h.1, not_lt.mpr h.2]
  unfold vlimitEffect
  simp only [storeEffect_of_arrival harr, ← hlim, ne_eq, not_true_eq_false, if_false]
  rw [if_neg, if_neg]
  · rintro ⟨hmoving, hno⟩
    exact hno (hstop hmoving)
  · rintro ⟨hcal, hout⟩
    obtain ⟨hlo, hhi, hmove⟩ := hin hcal
    rcases hout with hout | ⟨hmoving, hout⟩
    · rw [hinside ⟨hlo, hhi⟩] at hout
      cases hout
    · obtain ⟨htlo, hthi, hfollow⟩ := hmove hmoving
      rw [hinside ⟨htlo, hthi⟩] at hout
      rcases hout with hout | hout
      · cases hout
      · cases hy : (u.motOf d.target).follow with
        | none => rw [hy] at hout; cases hout
        | some y =>
          rw [hy, Option.any_some, hinside (hfollow y hy)] at hout
          cases hout

theorem profLimitsEffect_fits {d : Desc} {u : State} (hrender : (u.brkOf d.target).render = false)
    (hstop : (u.motOf d.target).moving = true → (u.motOf d.target).movedAt ≠ some u.now → stopFits (d.f32 24) (d.f32 28) (u.motOf d.target)
        (minQ (absQ ((u.motOf d.target).target - (u.motOf d.target).pRef)) ((if 0 ≤ (u.motOf d.target).vRef
          then (u.vlimits d.target).2 - (u.motOf d.target).pRef else (u.motOf d.target).pRef - (u.vlimits d.target).1) -
            u.vlimP d.target 28)) = true) : profLimitsEffect d u = { st := u } := by
  unfold profLimitsEffect
  simp only
  rw [if_neg (by simp [hrender]), if_neg]
  rintro ⟨hmoving, hlater, hno⟩
  exact hno (hstop hmoving hlater)

/-- Of a list of channel codes none is refused where every one that is given may be claimed. -/
theorem any_given_false {l : List Nat} {f : Nat → Bool} (h : ∀ c ∈ l, c ≠ 0xFF → f c = true) :
    ((l.filter fun c => c ≠ 0xFF).any fun c => !f c) = false := by
  simp only [List.any_eq_false, List.mem_filter, decide_eq_true_eq, Bool.not_eq_true', Bool.not_eq_false]
  exact fun c hc => h c hc.1 hc.2

theorem calveConfigEffect_free {d : Desc} {u : State}
    (h : ∀ k < 4, d.u8 (16 + k) ≠ 0xFF → u.claimFree (d.u8 (16 + k)) 0x66 0xFFFF = true) : calveConfigEffect d u = { st := u } := by
  unfold calveConfigEffect
  simp only
  rw [any_given_false]
  · rfl
  · intro c hc hgiven
    obtain ⟨k, hk, rfl⟩ := List.mem_map.mp hc
    exact h k (List.mem_range.mp hk) hgiven

theorem emergEffect_free {d : Desc} {u : State} (ht0 : u.t0Changed d = false)
    (hfree : ∀ c ∈ [d.u8 16, d.u8 17], c ≠ 0xFF → (u.confRegions d.target).contains (c / 4) = true ∧ u.claimFree (0x20 + c) 0x71 d.target = true)
    (hne : d.u8 16 = 0xFF ∨ d.u8 16 ≠ d.u8 17) : emergEffect d u = storeEffect 0x71 d 0 u := by
  unfold emergEffect
  simp only
  rw [any_given_false fun c hc hgiven => (hfree c hc hgiven).1, any_given_false fun c hc hgiven => (hfree c hc hgiven).2, ht0]
  simp only [Bool.false_eq_true, if_false, or_false]
  rw [if_neg]
  rintro ⟨hsame, hgiven⟩
  exact hne.elim hgiven fun h => h hsame

theorem limpEffect_end {d : Desc} {u : State} (harm : (u.armsOf d.target).any (fun a => u.limpArm d.target a) = true) (hn : d.u16 16 = 0) :
    limpEffect d u = { st := u } := by
  unfold limpEffect
  simp only
  rw [if_neg, if_pos (.inl hn)]
  intro hnone
  obtain ⟨a, ha, hlimp⟩ := List.any_eq_true.mp harm
  exact List.filter_eq_nil_iff.mp hnone a ha hlimp

theorem auxStore_of_free {op : Nat} {motor claimOk : Bool} {d : Desc} {u : State} (hbar : u.auxConfBar d motor claimOk = 0)
    (hlev : (u.withStored op d 0).auxLevels d.target = false) : auxStore op motor claimOk d u = { st := u } := by
  unfold auxStore
  simp only [hbar, hlev, ne_eq, not_true_eq_false, if_false, Bool.false_eq_true]

theorem canOwned_of_owner {d : Desc} {u : State} {f : State → Reply}
    (h : (u.can d.target).owner = none ∨ (u.can d.target).owner = some d.page) : u.canOwned d f = f u := by
  unfold State.canOwned
  rcases h with h | h <;> simp only [h, if_true]

theorem subs_in_range {d : Desc} {n : Nat}
    (h : ∀ k < n, d.u16 (20 + 4 * k) ≤ 0x3FF ∧ (d.u16 (22 + 4 * k) ≤ 0x3FF ∨ d.u16 (22 + 4 * k) = 0xFFFF)) :
    ((List.range n).any fun k =>
      decide (0x3FF < d.u16 (20 + 4 * k)) || (decide (0x3FF < d.u16 (22 + 4 * k)) && decide (d.u16 (22 + 4 * k) ≠ 0xFFFF))) = false := by
  simp only [List.any_eq_false, List.mem_range, Bool.or_eq_true, Bool.and_eq_true, decide_eq_true_eq]
  intro k hk
  have := h k hk
  omega

theorem curve_given {d : Desc} (h : ∀ i < 33, (f32 (leNat d.host (4 * i) 4)).isSome = true) :
    ((List.range 33).any fun i => (f32 (leNat d.host (4 * i) 4)).isNone) = false := by
  simp only [List.any_eq_false, List.mem_range, Option.isNone_iff_eq_none]
  exact fun i hi hnone => by simpa [hnone] using h i hi

/-- Settles O11: each descriptor's own checks, then the bytes stored. -/
theorem checkedConfigurationStored : Obligations.CheckedConfigurationStored := by
  unfold Obligations.CheckedConfigurationStored
  intro d s u
  refine ⟨?armUnconfigured, ?armConfigured, ?exciterResolver, ?exciterOther, ?fb, ?sensorless, ?biss, ?limit, ?curve, ?vlimit, ?profile, ?heave,
    ?therm, ?coolant, ?groups, ?ratio, ?interleave, ?calve, ?emerg, ?limp, ?link, ?fabCal, ?shareSub, ?canRate, ?bldc, ?step, ?switch⟩
  case armUnconfigured =>
    intro ht hr hcross hst
    exact gives_stored_at_once rfl (exec_armConfig d s) ht ((if_neg (Nat.not_le.mpr hr)).trans (reformEffect_unconfigured hcross hst)) rfl rfl rfl
  case armConfigured =>
    intro ht hr hcross hst hre
    exact gives_stored_at_once rfl (exec_armConfig d s) ht ((if_neg (Nat.not_le.mpr hr)).trans (reformEffect_configured hcross hst hre)) rfl rfl rfl
  case exciterResolver =>
    intro ht hmode hregion hfree harr
    exact gives_stored_at_once rfl (exec_exciterConfig d s) ht
      ((exciterEffect_resolver hmode hregion hfree).trans (storeEffect_of_arrival harr)) rfl rfl rfl
  case exciterOther =>
    intro ht hmode hchan harr
    exact gives_stored_at_once rfl (exec_exciterConfig d s) ht ((exciterEffect_other hmode hchan).trans (storeEffect_of_arrival harr)) rfl rfl rfl
  case fb =>
    intro ht hnone hfree harr
    exact gives_stored_at_once rfl (exec_fbConfig d s) ht ((fbConfigEffect_free hnone hfree).trans (storeEffect_of_arrival harr)) rfl rfl rfl
  case sensorless =>
    intro ht hrange harr
    exact gives_stored_at_once rfl (exec_sensorlessConfig d s) ht ((if_pos hrange).trans (storeEffect_of_arrival harr)) rfl rfl rfl
  case biss =>
    intro ht hbits harr
    exact gives_stored_at_once rfl (exec_bissConfig d s) ht ((if_pos hbits).trans (storeEffect_of_arrival harr)) rfl rfl rfl
  case limit =>
    intro ht hsource harr
    exact gives_stored rfl (exec_limitConfig d s) ht ((if_neg (not_not.mpr hsource)).trans (storeEffect_of_arrival harr)) rfl
  case curve =>
    intro ht hgiven hstatus
    exact gives_stored_at_once (v := u) rfl (exec_curveLoad d s) ht
      ((if_neg (by rw [curve_given hgiven]; nofun)).trans (if_neg (not_not.mpr hstatus))) rfl rfl rfl
  case vlimit =>
    intro lo hi ht harr hlim hin hstop
    exact gives_stored_at_once rfl (exec_vlimitConfig d s) ht (vlimitEffect_fits harr hlim hin hstop) rfl rfl rfl
  case profile =>
    intro ht hfollows hrender hstop
    exact gives_stored_at_once rfl (exec_profileLimits d s) ht
      ((if_neg (by simp [hfollows])).trans (profLimitsEffect_fits hrender hstop)) rfl rfl rfl
  case heave => exact fun ht => gives_stored_at_once rfl (exec_heaveConfig d s) ht rfl rfl rfl rfl
  case therm => exact fun ht horder => gives_stored_at_once rfl (exec_thermConfig d s) ht (if_pos horder) rfl rfl rfl
  case coolant => exact fun ht horder => gives_stored_at_once rfl (exec_coolantConfig d s) ht (if_pos horder) rfl rfl rfl
  case groups => exact fun ht => gives_stored_at_once rfl (exec_thermGroups d s) ht rfl rfl rfl rfl
  case ratio => exact fun ht => gives_stored_at_once rfl (exec_tandemRatio d s) ht rfl rfl rfl rfl
  case interleave =>
    intro ht hslot hmethod harr
    exact gives_stored_at_once rfl (exec_interleaveConfig d s) ht
      ((if_neg (Nat.not_le.mpr hslot)).trans ((if_neg hmethod).trans (storeEffect_of_arrival harr))) rfl rfl rfl
  case calve => exact fun ht hfree => gives_stored_at_once rfl (exec_calveConfig d s) ht (calveConfigEffect_free hfree) rfl rfl rfl
  case emerg =>
    intro ht ht0 hfree hne harr
    exact gives_stored_at_once rfl (exec_emergConfig d s) ht ((emergEffect_free ht0 hfree hne).trans (storeEffect_of_arrival harr)) rfl rfl rfl
  case limp => exact fun ht harm hn => gives_stored_at_once rfl (exec_limp d s) ht (limpEffect_end harm hn) rfl rfl rfl
  case link => exact fun ht => gives_stored_at_once rfl (exec_linkConfig d s) ht rfl rfl rfl rfl
  case fabCal =>
    intro ht harr
    exact gives_stored_at_once (v := u) (kc := d.u8 16) rfl (exec_fabCalConfig d s) ht (by rw [storeEffect_of_arrival harr]) rfl rfl rfl
  case shareSub =>
    intro ht hrange harr
    exact gives_stored_at_once rfl (exec_shareSubConfig d s) ht
      ((if_neg (by rw [subs_in_range hrange]; nofun)).trans (storeEffect_of_arrival harr)) rfl rfl rfl
  case canRate =>
    intro ht howner hmode hrange hrates
    exact gives_stored_at_once (v := u) rfl (exec_canRateConfig d s) ht ((canOwned_of_owner howner).trans ((if_neg (not_not.mpr hmode)).trans
      ((if_neg (not_not.mpr hrange)).trans (if_neg (not_not.mpr hrates))))) rfl rfl rfl
  case bldc => exact fun ht hbar hlev => gives_stored_at_once rfl (exec_bldcConfig d s) ht (auxStore_of_free hbar hlev) rfl rfl rfl
  case step => exact fun ht hbar hlev => gives_stored_at_once rfl (exec_stepConfig d s) ht (auxStore_of_free hbar hlev) rfl rfl rfl
  case switch => exact fun ht hbar hlev => gives_stored_at_once rfl (exec_switchConfig d s) ht (auxStore_of_free hbar hlev) rfl rfl rfl

/-! ### Configuration that also takes effect -/

theorem entries_ok {w : State} {p : Nat} (h : ∀ e ∈ w.laneMap p, w.entryOk p e = true) :
    ¬ ((w.laneMap p).any fun e => ¬ w.entryOk p e) = true := by
  simpa using h

theorem laneAssignEffect_unconfigured {d : Desc} {u : State}
    (hok : ∀ e ∈ (u.withStored 0x12 d 0).laneMap d.target, (u.withStored 0x12 d 0).entryOk d.target e = true)
    (hcross : (confEffect allChecks 0x12 d 0 u).status = 0) (hst : (u.part d.target).st = .unconfigured) :
    laneAssignEffect allChecks d u = { st := u } :=
  (if_neg (entries_ok hok)).trans ((if_neg (not_not.mpr hcross)).trans ((if_pos hst).trans (confEffect_of_status hcross)))

theorem laneAssignEffect_configured {d : Desc} {u : State}
    (hok : ∀ e ∈ (u.withStored 0x12 d 0).laneMap d.target, (u.withStored 0x12 d 0).entryOk d.target e = true)
    (hcross : (confEffect allChecks 0x12 d 0 u).status = 0) (hst : (u.part d.target).st ≠ .unconfigured)
    (hmap : (u.withStored 0x12 d 0).mapStatus d.target = 0) :
    laneAssignEffect allChecks d u = { st := ((u.withStored 0x12 d 0).freeLanes d.target).formCells d.target } :=
  (if_neg (entries_ok hok)).trans ((if_neg (not_not.mpr hcross)).trans ((if_neg hst).trans (if_neg (not_not.mpr hmap))))

theorem tandemEffect_free {d : Desc} {u : State} (hrange : tandemRange d = true) (hfree : u.inTandem d.target = false)
    (hms : ∀ m ∈ membersOf d.payload, u.memberHeld d.target (membersOf d.payload) m = true ∧
      (m.node = u.node → u.inTandem m.part = false ∧ ((u.part m.part).st = .unconfigured ∨ (u.part m.part).st = .blocked))) :
    tandemEffect d u = { st := { u with cfg := Tab.set u.cfg [] (cfgKey 0x61 d.target 0) [] }.setTan d.target {} } := by
  have hlocal {m : Member} (hm : m ∈ (membersOf d.payload).filter fun m => m.node = u.node) :
      u.inTandem m.part = false ∧ ((u.part m.part).st = .unconfigured ∨ (u.part m.part).st = .blocked) := by
    obtain ⟨hmem, hnode⟩ := List.mem_filter.mp hm
    exact (hms m hmem).2 (of_decide_eq_true hnode)
  unfold tandemEffect
  simp only [hrange, not_true_eq_false, if_false]
  rw [if_neg, if_neg, if_neg]
  · rw [List.any_eq_true]
    rintro ⟨m, hmem, hno⟩
    simp [(hms m hmem).1] at hno
  · rw [List.any_eq_true]
    rintro ⟨m, hm, hno⟩
    rcases (hlocal hm).2 with h | h <;> simp [h] at hno
  · rw [List.any_eq_true]
    rintro ⟨q, hq, hno⟩
    rcases List.mem_cons.mp hq with rfl | hq
    · simp [hfree] at hno
    · obtain ⟨m, hm, rfl⟩ := List.mem_map.mp hq
      simp [(hlocal hm).1] at hno

theorem auxModeEffect_free {d : Desc} {u : State} (hbar : u.auxConfBar d (isMotor d.target) false = 0)
    (hlev : (u.withStored 0x80 d 0).auxLevels d.target = false)
    (hmotor : isMotor d.target = true → d.u8 17 = 0xFF ∧ (d.u8 16 = 1 → d.u8 18 ≠ 0xFF)) (hswitch : isMotor d.target = false → d.u8 18 = 0xFF) :
    auxModeEffect d u = { st := (u.auxHalt d.target).setAux d.target { (u.auxHalt d.target).auxOf d.target with
        owner := if d.u8 16 = 0 then none else some d.page,
        st := if ((u.auxHalt d.target).auxOf d.target).st = 9 then 9 else if d.u8 16 = 2 ∧ ¬ isMotor d.target = true then 4 else 0,
        stAt := (u.auxHalt d.target).now, lastRun := none, ff := [],
        stopAt := if d.u8 16 = 0 then some (u.auxHalt d.target).now else ((u.auxHalt d.target).auxOf d.target).stopAt } } := by
  unfold auxModeEffect
  simp only [auxStore_of_free hbar hlev, ne_eq, not_true_eq_false, if_false]
  rw [if_neg]
  cases hm : isMotor d.target with
  | true =>
    obtain ⟨hsag, hgroup⟩ := hmotor hm
    rintro (⟨-, h⟩ | ⟨h, -⟩ | ⟨-, hmode, h⟩)
    · exact h hsag
    · exact h rfl
    · exact hgroup hmode h
  | false =>
    rintro (⟨h, -⟩ | ⟨-, h⟩ | ⟨h, -⟩)
    · cases h
    · exact h (hswitch hm)
    · cases h

theorem bldcCurveEffect_fits {d : Desc} {u : State} (hbar : u.auxConfBar d true false = 0)
    (hlev : (u.withStored 0x82 d 0).auxLevels d.target = false) (hx : d.f32 20 < d.f32 24) (hy : d.f32 32 < d.f32 28)
    (hpoints : ∀ k < 17, (f32 (leNat d.host (4 * k) 4)).isSome = true ∧
        0 ≤ bufQ (d.payload ++ d.host) (4 * k) ∧ bufQ (d.payload ++ d.host) (4 * k) ≤ 1000) :
    bldcCurveEffect d u = { st := u.setAux d.target { u.auxOf d.target with curveOn := false, inLost := false } } := by
  unfold bldcCurveEffect
  simp only [auxStore_of_free hbar hlev, ne_eq, not_true_eq_false, if_false]
  rw [if_neg]
  rintro (h | h | h | h)
  · exact not_le.mpr hx h
  · exact not_le.mpr hy h
  · obtain ⟨k, hk, hnone⟩ := List.mem_map.mp (List.contains_iff_mem.mp h)
    simpa [hnone] using (hpoints k (List.mem_range.mp hk)).1
  · obtain ⟨y, hy, hout⟩ := List.any_eq_true.mp h
    obtain ⟨k, hk, rfl⟩ := List.mem_map.mp hy
    obtain ⟨-, hlo, hhi⟩ := hpoints k (List.mem_range.mp hk)
    exact (of_decide_eq_true hout).elim (not_lt.mpr hlo) (not_lt.mpr hhi)

theorem stepSourceEffect_inputs {d : Desc} {u : State} (hbar : u.auxConfBar d true false = 0)
    (hlev : (u.withStored 0x84 d 0).auxLevels d.target = false) (hmode : d.u8 16 = 1)
    (hins : ∀ c ∈ [d.u8 17, d.u8 18], switchRegion c = auxRegion d.target ∧ u.claimFree c 0x84 d.target = true) (hne : d.u8 17 ≠ d.u8 18) :
    stepSourceEffect d u = { st := u.setAux d.target { u.auxOf d.target with coarse := [], coarseAt := none } } := by
  unfold stepSourceEffect
  simp only [auxStore_of_free hbar hlev, hmode, ne_eq, not_true_eq_false, if_false, if_true]
  rw [if_neg, if_neg]
  · rintro (h | h)
    · exact hne h
    · obtain ⟨c, hc, hno⟩ := List.any_eq_true.mp h
      simp [(hins c hc).2] at hno
  · intro h
    obtain ⟨c, hc, hno⟩ := List.any_eq_true.mp h
    simp [(hins c hc).1] at hno

theorem stepSourceEffect_gear {d : Desc} {u : State} (hbar : u.auxConfBar d true false = 0)
    (hlev : (u.withStored 0x84 d 0).auxLevels d.target = false) (hmode : d.u8 16 ≠ 1)
    (hregion : (u.partRegions (d.u8 20)).contains (auxRegion d.target) = true) :
    stepSourceEffect d u = { st := u.setAux d.target { u.auxOf d.target with gearIv := none, gearLast := none } } := by
  unfold stepSourceEffect
  simp only [auxStore_of_free hbar hlev, hmode, hregion, ne_eq, not_true_eq_false, if_false]

theorem sagEffect_free {d : Desc} {u : State}
    (hms : ∀ c ∈ u.sagMembers (d.target - 0x40), (u.auxOf c).owner = some d.page ∧
      ((u.auxOf c).st = 0 ∨ (u.auxOf c).st = 9 ∨ (u.auxOf c).st = 4))
    (hinput : d.u8 16 = 0xFF ∨ d.u8 16 / 16 = (d.target - 0x40) / 4) :
    sagEffect d u = { st := { u with sag := setBit u.sag (d.target - 0x40) false } } := by
  unfold sagEffect
  simp only
  rw [if_neg, if_neg, if_neg]
  · rintro ⟨hgiven, hother⟩
    exact hinput.elim hgiven hother
  · rw [List.any_eq_true]
    rintro ⟨c, hc, hno⟩
    obtain ⟨h0, h9, h4⟩ := of_decide_eq_true hno
    exact (hms c hc).2.elim h0 fun h => h.elim h9 h4
  · rw [List.any_eq_true]
    rintro ⟨c, hc, hno⟩
    simp [(hms c hc).1] at hno

theorem auxDiagEffect_waits {d : Desc} {u : State} (hbar : u.auxConfBar d (isMotor d.target) true = 0) (hlim : d.f32 20 < d.f32 24)
    (h : d.u8 17 ≠ 1 ∨ (u.auxOf d.target).st ≠ 0) : auxDiagEffect d u = { st := u } := by
  unfold auxDiagEffect
  simp only [hbar, ne_eq, not_true_eq_false, if_false]
  rw [if_neg (not_le.mpr hlim), if_neg fun hnow => h.elim (· hnow.1) (· hnow.2)]

theorem auxDiagEffect_checks {d : Desc} {u : State} (hbar : u.auxConfBar d (isMotor d.target) true = 0) (hlim : d.f32 20 < d.f32 24)
    (hnow : d.u8 17 = 1) (hst : (u.auxOf d.target).st = 0) : auxDiagEffect d u = { st := u.auxCheck d.target 0 } := by
  unfold auxDiagEffect
  simp only [hbar, ne_eq, not_true_eq_false, if_false]
  rw [if_neg (not_le.mpr hlim), if_pos ⟨hnow, hst⟩]

theorem canRates_ok {d : Desc} (hrate : rateOk (d.u8 22) (d.u16 20) (d.u8 23) 10000 1000000 = true)
    (hfd : d.u8 17 = 1 → rateOk (d.u8 25) (d.u8 26) (d.u8 27) 0 8000000 = true) :
    ¬ (¬ rateOk (d.u8 22) (d.u16 20) (d.u8 23) 10000 1000000 = true ∨
      (d.u8 17 = 1 ∧ ¬ rateOk (d.u8 25) (d.u8 26) (d.u8 27) 0 8000000 = true)) :=
  not_or.mpr ⟨not_not.mpr hrate, fun h => h.2 (hfd h.1)⟩

/-- Settles O12: each descriptor's reply carries what it changes, and the device stores its bytes. -/
theorem configurationTakesEffect : Obligations.ConfigurationTakesEffect := by
  unfold Obligations.ConfigurationTakesEffect
  intro d s u
  refine ⟨?laneUnconfigured, ?laneConfigured, ?drum, ?tandem, ?standby, ?auxMode, ?bldcCurve, ?stepInputs, ?stepGear, ?sag, ?diagWaits,
    ?diagChecks, ?canOff, ?canOn⟩
  case laneUnconfigured =>
    intro ht hok hcross hst
    exact gives_stored_at_once rfl (exec_laneAssign d s) ht (laneAssignEffect_unconfigured hok hcross hst) rfl rfl rfl
  case laneConfigured =>
    intro ht hok hcross hst hmap
    exact gives_stored_at_once rfl (exec_laneAssign d s) ht (laneAssignEffect_configured hok hcross hst hmap) rfl rfl rfl
  case drum =>
    intro ht hdrum harr
    exact gives_stored_at_once rfl (exec_drumConfig d s) ht ((if_neg (not_not.mpr hdrum)).trans (storeEffect_of_arrival harr)) rfl rfl rfl
  case tandem =>
    intro ht hrange hfree hms
    exact gives_stored_at_once rfl (exec_tandemConfig d s) ht (tandemEffect_free hrange hfree hms) rfl rfl rfl
  case standby =>
    intro ht harr
    refine gives_stored_at_once (kc := 0) rfl (exec_standbyConfig d s) ht ?_ rfl rfl rfl
    simp only [storeEffect_of_arrival harr, if_true]
  case auxMode =>
    intro ht hbar hlev hmotor hswitch
    exact gives_stored_at_once rfl (exec_auxMode d s) ht (auxModeEffect_free hbar hlev hmotor hswitch) rfl rfl rfl
  case bldcCurve =>
    intro ht hbar hlev hx hy hpoints
    exact gives_stored_at_once rfl (exec_bldcCurve d s) ht (bldcCurveEffect_fits hbar hlev hx hy hpoints) rfl rfl rfl
  case stepInputs =>
    intro ht hbar hlev hmode hins hne
    exact gives_stored_at_once rfl (exec_stepSource d s) ht (stepSourceEffect_inputs hbar hlev hmode hins hne) rfl rfl rfl
  case stepGear =>
    intro ht hbar hlev hmode hregion
    exact gives_stored_at_once rfl (exec_stepSource d s) ht (stepSourceEffect_gear hbar hlev hmode hregion) rfl rfl rfl
  case sag => exact fun ht hms hinput => gives_stored_at_once rfl (exec_sagConfig d s) ht (sagEffect_free hms hinput) rfl rfl rfl
  case diagWaits =>
    exact fun ht hbar hlim h => gives_stored_at_once rfl (exec_auxDiag d s) ht (auxDiagEffect_waits hbar hlim h) rfl rfl rfl
  case diagChecks =>
    intro ht hbar hlim hnow hst
    exact gives_stored_at_once rfl (exec_auxDiag d s) ht (auxDiagEffect_checks hbar hlim hnow hst) rfl rfl rfl
  case canOff =>
    intro ht howner hrate hfd hmode
    exact gives_stored_at_once rfl (exec_canConfig d s) ht
      ((canOwned_of_owner howner).trans ((if_neg (canRates_ok hrate hfd)).trans (if_pos hmode))) rfl rfl rfl
  case canOn =>
    intro ht howner hrate hfd hmode hidle
    exact gives_stored_at_once rfl (exec_canConfig d s) ht
      ((canOwned_of_owner howner).trans ((if_neg (canRates_ok hrate hfd)).trans ((if_neg hmode).trans (if_neg (not_not.mpr hidle))))) rfl rfl rfl


end Sys2Proof.Machine

namespace Sys2Proof.Machine
open Sys2Proof

/-! ### What completions leave of a tenant's page -/

/-- A page but for its rings, its list of descriptors, and the completion records and chains that these end with. -/
def Page.asked (p : Page) : Page := { p with rings := [], acc := [], retained := [], held := [], chainDead := [] }

theorem setPage_asked (s : State) (n : Nat) (p : Page) (m : Nat) (h : p.asked = (s.page n).asked) :
    ((s.setPage n p).page m).asked = (s.page m).asked := by
  rw [page_setPage]
  split
  case isTrue hm => rw [hm, h]
  case isFalse => rfl

theorem changeAcc_asked (s : State) (n x q : Nat) (f : Acc → Acc) (m : Nat) :
    ((s.changeAcc n x q f).page m).asked = (s.page m).asked := setPage_asked s n _ m rfl

theorem signal_asked (s : State) (n r : Nat) (b : Bool) (m : Nat) : ((s.signal n r b).page m).asked = (s.page m).asked := by
  obtain ⟨g, hg⟩ := signal_page s n r b m
  rw [hg]
  rfl

theorem postCompletion_asked (s : State) (n : Nat) (c : CRec) (m : Nat) : ((s.postCompletion n c).page m).asked = (s.page m).asked := by
  have hwritten (w : Post) (p : Page) (hp : p.asked = (s.page n).asked) : (((s.post w).setPage n p).page m).asked = (s.page m).asked := by
    rw [setPage_asked _ n p m (hp.trans (congrArg Page.asked (post_page s w n)).symm), post_page]
  unfold State.postCompletion
  dsimp only
  split
  case isTrue =>
    split
    · exact (signal_asked _ n 4 _ m).trans (hwritten _ _ rfl)
    · exact hwritten _ _ rfl
  case isFalse => exact setPage_asked s n _ m rfl

theorem foldl_postCompletion_asked (n : Nat) (f : Acc → CRec) (l : List Acc) (s : State) (m : Nat) :
    ((l.foldl (fun s a => s.postCompletion n (f a)) s).page m).asked = (s.page m).asked := by
  induction l generalizing s with
  | nil => rfl
  | cons a r ih => exact (ih _).trans (postCompletion_asked s n (f a) m)

theorem fencesDone_asked (n : Nat) (l : List Acc) (s : State) (m : Nat) : ((s.fencesDone n l).page m).asked = (s.page m).asked := by
  induction l generalizing s with
  | nil => rfl
  | cons a r ih =>
    have hremoved : ((s.setPage n ((s.page n).remove a.series a.seq)).page m).asked = (s.page m).asked := setPage_asked s n _ m rfl
    unfold State.fencesDone
    dsimp only
    split
    case isTrue =>
      rw [ih]
      split
      · exact hremoved
      · exact (postCompletion_asked _ n _ m).trans hremoved
    case isFalse => rfl

/-- The end with `OK` of a descriptor's work raises no event: only records of completion reach a page. -/
theorem finish_ok_asked (s : State) (n x q : Nat) (result : List Byte) (m : Nat) : ((s.finish n x q 0 result).page m).asked = (s.page m).asked := by
  unfold State.finish
  dsimp only
  split
  case h_1 => rfl
  case h_2 a _ =>
    rw [fencesDone_asked, urgentDone_page, foldl_postCompletion_asked n (·.record 1 [])]
    split
    · rw [if_pos rfl]
      exact setPage_asked s n _ m rfl
    · exact (postCompletion_asked _ n _ m).trans (setPage_asked s n _ m rfl)

/-- A descriptor's entry with its work begun. -/
def Acc.begun (aw : Option Await) (result : List Byte) (a : Acc) : Acc :=
  { a with started := true, applied := true, await := aw.getD .own, result := result }

/-- The state in which a descriptor without an audit entry or a Firn record has begun, answered at once where it asks for that (R320). -/
def State.begun (u : State) (i : OpInfo) (d : Desc) (aw : Option Await) (result : List Byte) : State :=
  let v := u.changeAcc d.page d.series d.seq (Acc.begun aw result)
  if d.flags.testBit 2 ∧ ¬ i.gives then
    ((v.changeAcc d.page d.series d.seq fun a => { a with early := true }).postCompletion d.page (recordOf d i.op 0)).urgentDone d.page d.series d.seq
  else v

section Perform
variable {s v : State} {i : OpInfo} {d : Desc} {eff : State → Reply} {result : List Byte}

theorem perform_plain {aw : Option Await} (hr : eff s = { st := v, result := result, await := aw }) (haudit : i.audit = false) (hkept : i.kept = false) :
    s.perform i d eff =
      if aw.isSome then v.begun i d aw result else (v.begun i d aw result).finish d.page d.series d.seq 0 result := by
  unfold State.perform State.begun
  simp only [hr, haudit, hkept, ne_eq, not_true_eq_false, Bool.false_eq_true, if_false, false_and]
  rfl

theorem perform_handled (hr : eff s = { st := v, handled := true }) :
    s.perform i d eff = if i.audit then v.audit d.page i.op d.target 0 [] else v := by
  unfold State.perform
  simp only [hr, ne_eq, not_true_eq_false, Bool.false_eq_true, if_false, if_true]

theorem perform_queued (hr : eff s = { st := v, queued := true }) :
    s.perform i d eff = v.changeAcc d.page d.series d.seq fun a => { a with queued := true } := by
  unfold State.perform
  simp only [hr, ne_eq, not_true_eq_false, Bool.false_eq_true, if_false, if_true]

end Perform

theorem begun_asked (u : State) (i : OpInfo) (d : Desc) (aw : Option Await) (result : List Byte) (m : Nat) :
    ((u.begun i d aw result).page m).asked = (u.page m).asked := by
  unfold State.begun
  simp only
  split
  · rw [urgentDone_page, postCompletion_asked, changeAcc_asked, changeAcc_asked]
  · exact changeAcc_asked _ _ _ _ _ m

theorem begun_drive (u : State) (i : OpInfo) (d : Desc) (aw : Option Await) (result : List Byte) : (u.begun i d aw result).drive = u.drive := by
  unfold State.begun
  simp only
  split <;> simp only [urgentDone_drive, postCompletion_drive, changeAcc_drive]

/-- What follows the effect of a descriptor that succeeds at once leaves of the tenants' pages what `Page.asked` names. -/
theorem perform_asked {s v : State} {i : OpInfo} {d : Desc} {eff : State → Reply} {result : List Byte} (hr : eff s = { st := v, result := result })
    (haudit : i.audit = false) (hkept : i.kept = false) (m : Nat) : ((s.perform i d eff).page m).asked = (v.page m).asked := by
  rw [perform_plain hr haudit hkept]
  exact (finish_ok_asked _ _ _ _ _ m).trans (begun_asked _ _ _ _ _ m)

/-! ### Records that stay -/

/-- Every completion record of s stands in t. -/
def KeepsRecords (s t : State) : Prop := ∀ m c, c ∈ (s.page m).records → c ∈ (t.page m).records

theorem KeepsRecords.refl (s : State) : KeepsRecords s s := fun _ _ h => h
theorem KeepsRecords.trans {s t u : State} (h : KeepsRecords s t) (k : KeepsRecords t u) : KeepsRecords s u := fun m c hc => k m c (h m c hc)

theorem keepsRecords_of_desk {s t : State} (h : ∀ m, t.desk m = s.desk m) : KeepsRecords s t := fun m c hc => by
  rwa [records_of_desk s t m (h m)]

theorem keepsRecords_changeAcc (s : State) (n x q : Nat) (f : Acc → Acc) : KeepsRecords s (s.changeAcc n x q f) := fun m c hc => by
  unfold State.changeAcc
  rw [page_setPage]
  split
  case isTrue hm => subst hm; exact hc
  case isFalse => exact hc

theorem keepsRecords_postCompletion (s : State) (n : Nat) (r : CRec) : KeepsRecords s (s.postCompletion n r) := fun m c hc =>
  ((postCompletion_page s n r m).2 c).mpr (.inl hc)

theorem keepsRecords_urgentDone (s : State) (n x q : Nat) : KeepsRecords s (s.urgentDone n x q) := fun m c hc => by rwa [urgentDone_page]

theorem keepsRecords_finish (s : State) (n x q st : Nat) (res : List Byte) : KeepsRecords s (s.finish n x q st res) :=
  fun m c hc => finish_keeps s n x q st res m c hc

theorem keepsRecords_post (s : State) (w : Post) : KeepsRecords s (s.post w) := fun m c hc => by rwa [post_page]

theorem keepsRecords_audit (s : State) (n op tg st : Nat) (det : List Byte) : KeepsRecords s (s.audit n op tg st det) :=
  keepsRecords_of_desk fun m => audit_desk s n op tg st det m

theorem keepsRecords_begun (u : State) (i : OpInfo) (d : Desc) (aw : Option Await) (result : List Byte) : KeepsRecords u (u.begun i d aw result) := by
  unfold State.begun
  simp only
  split
  · exact (((keepsRecords_changeAcc _ _ _ _ _).trans (keepsRecords_changeAcc _ _ _ _ _)).trans (keepsRecords_postCompletion _ _ _)).trans
      (keepsRecords_urgentDone _ _ _ _)
  · exact keepsRecords_changeAcc _ _ _ _ _

theorem keepsRecords_perform {s v : State} {i : OpInfo} {d : Desc} {eff : State → Reply} {result : List Byte}
    (hr : eff s = { st := v, result := result }) (haudit : i.audit = false) (hkept : i.kept = false) : KeepsRecords v (s.perform i d eff) := by
  rw [perform_plain hr haudit hkept]
  exact (keepsRecords_begun _ _ _ _ _).trans (keepsRecords_finish _ _ _ _ _ _)

theorem leaseTo_page (s : State) (p : Nat) (h : Option Nat) (m : Nat) : (s.leaseTo p h).page m = s.page m := by
  unfold State.leaseTo State.stageDevice State.stageRec
  simp only
  split
  · rfl
  · rfl

theorem keepsRecords_grant (s : State) (n set : Nat) : KeepsRecords s (s.grant n set).1 := by
  unfold State.grant
  generalize (maskList 8 set).filter (fun p => !decide ((s.lease p).holder = some n)) = l
  simp only
  induction l generalizing s with
  | nil => exact .refl s
  | cons p l ih => exact KeepsRecords.trans (fun m c hc => by rwa [leaseTo_page]) (ih (s.leaseTo p (some n)))

theorem keepsRecords_leaseDone (s : State) (n x q buffer changed : Nat) : KeepsRecords s (s.leaseDone n x q buffer changed) := by
  unfold State.leaseDone
  simp only
  split
  · exact keepsRecords_changeAcc _ _ _ _ _
  · split
    · exact (keepsRecords_post _ _).trans (keepsRecords_changeAcc _ _ _ _ _)
    · exact keepsRecords_finish _ _ _ _ _ _

theorem keepsRecords_leaseScan (l : List LeaseReq) (s : State) : KeepsRecords s (s.leaseScan l) := by
  induction l generalizing s with
  | nil => exact .refl s
  | cons r rest ih =>
    unfold State.leaseScan
    split
    · have hqueue : KeepsRecords s { s with leaseQ := s.leaseQ.filter fun x => x ≠ r } := fun _ _ h => h
      exact (((hqueue.trans (keepsRecords_grant _ _ _)).trans (keepsRecords_leaseDone _ _ _ _ _ _)).trans (keepsRecords_audit _ _ _ _ _ _)).trans
        (ih _)
    · exact ih s

/-! ### Fences -/

/-- A descriptor that is taken and served by `serve` alone. -/
theorem exec_of_taken {i : Instr} {s u : State} {o : Order} {eff : State → Reply} (ho : s.orderOf i = some o)
    (he : exec i s = .next (serve o.info o.d o.buf eff s)) (ht : Taken i s u) : exec i s = .next (u.perform o.info o.d eff) := by
  obtain ⟨o', ho', htk, rfl⟩ := ht
  obtain rfl : o = o' := Option.some.inj (ho.symm.trans ho')
  rw [he, serve_takes s o eff htk]

/-- Its entry stands in its tenant's list. -/
theorem find_of_taken {i : Instr} {s u : State} {o : Order} (ho : s.orderOf i = some o) (ht : Taken i s u) :
    (u.page o.d.page).find o.d.series o.d.seq = some o.entry := by
  obtain ⟨o', ho', htk, rfl⟩ := ht
  obtain rfl : o = o' := Option.some.inj (ho.symm.trans ho')
  exact find_of_takes htk

theorem serving_of_takes {s : State} {o : Order} (h : s.takes o = true) : s.serving o.d = true := by
  simp only [State.takes, State.begins, Bool.and_eq_true] at h
  exact h.1.1.1.1.1.1.1.1

/-- The state with a fence begun. -/
def State.fenced (u : State) (d : Desc) : State := u.begun infoFence d (some .earlier) []

/-- A fence that is taken begins, and the fences at the head of the list complete. -/
theorem exec_fence_taken {d : Desc} {s u : State} (ht : Taken (.fence d) s u) :
    exec (.fence d) s = .next ((u.fenced d).fencesDone d.page ((u.fenced d).page d.page).acc) := by
  obtain ⟨o, ho, htk, rfl⟩ := ht
  cases ho
  have hserve : serve infoFence d none (fun s => { st := s, await := some .earlier }) s = (s.taken ⟨infoFence, d, none⟩).fenced d :=
    (serve_takes s ⟨infoFence, d, none⟩ _ htk).trans
      ((perform_plain (eff := fun s => { st := s, await := some .earlier }) rfl rfl rfl).trans (if_pos rfl))
  rw [exec_fence, execFence, if_pos (serving_of_takes htk), hserve]

theorem fenced_late {u : State} {d : Desc} (h : d.flags.testBit 2 = false) :
    u.fenced d = u.changeAcc d.page d.series d.seq (Acc.begun (some .earlier) []) :=
  if_neg (by simp [h])

theorem fenced_early {u : State} {d : Desc} (h : d.flags.testBit 2 = true) :
    u.fenced d = (((u.changeAcc d.page d.series d.seq (Acc.begun (some .earlier) [])).changeAcc d.page d.series d.seq
      fun a => { a with early := true }).postCompletion d.page (recordOf d 0x02 0)).urgentDone d.page d.series d.seq :=
  if_pos ⟨h, nofun⟩

/-- The entry of a fence once it has begun: answered already where the descriptor asks for that (R320). -/
def fencedEntry (d : Desc) : Acc :=
  { series := d.series, seq := d.seq, op := 0x02, flags := d.flags, target := d.target
    started := true, applied := true, await := .earlier, early := d.flags.testBit 2 }

theorem acc_of_length_one {u : State} {d : Desc} {a : Acc} (hfind : (u.page d.page).find d.series d.seq = some a)
    (hlen : (u.page d.page).acc.length = 1) : (u.page d.page).acc = [a] := by
  obtain ⟨b, hb⟩ := List.length_eq_one_iff.mp hlen
  unfold Page.find at hfind
  rw [hb] at hfind ⊢
  have hab : b = a := by
    rw [List.find?_singleton] at hfind
    split at hfind
    · exact Option.some.inj hfind
    · cases hfind
  rw [hab]

/-- A fence that is alone in the list stands there alone once it has begun. -/
theorem acc_fenced {u : State} {d : Desc} (h : (u.page d.page).acc = [Order.entry ⟨infoFence, d, none⟩]) :
    ((u.fenced d).page d.page).acc = [fencedEntry d] := by
  have hbegun : ((u.changeAcc d.page d.series d.seq (Acc.begun (some .earlier) [])).page d.page).acc =
      [Acc.begun (some .earlier) [] (Order.entry ⟨infoFence, d, none⟩)] := by
    unfold State.changeAcc Page.change
    rw [page_setPage_self, h]
    simp [Order.entry]
  cases hflag : d.flags.testBit 2 with
  | false =>
    rw [fenced_late hflag, hbegun]
    simp [fencedEntry, Acc.begun, Order.entry, hflag, infoFence]
  | true =>
    rw [fenced_early hflag, urgentDone_page, (postCompletion_page _ _ _ _).1]
    rw [State.changeAcc, page_setPage_self, Page.change, hbegun]
    simp [fencedEntry, Acc.begun, Order.entry, hflag, infoFence]

theorem fenced_completed {u : State} {d : Desc} (h : d.flags.testBit 2 = true) :
    recordOf d 0x02 0 ∈ ((u.fenced d).page d.page).records := by
  rw [fenced_early h, urgentDone_page]
  exact ((postCompletion_page _ _ _ _).2 _).mpr (.inr ⟨rfl, rfl⟩)

/-- `FENCE` with `COMPLETE_ON_ACCEPT` (R320). -/
theorem fence_completes_on_accept {d : Desc} {s u : State} (ht : Taken (.fence d) s u) (h : d.flags.testBit 2 = true) :
    ∃ t o, s.orderOf (.fence d) = some o ∧ exec (.fence d) s = .next t ∧ t.completed o 0 [] :=
  ⟨_, ⟨infoFence, d, none⟩, rfl, exec_fence_taken ht, fencesDone_records _ _ _ _ _ (fenced_completed h)⟩

/-- `FENCE` alone in its tenant's list (R333). -/
theorem fence_completes_alone {d : Desc} {s u : State} (ht : Taken (.fence d) s u) (h : (u.page d.page).acc.length = 1) :
    ∃ t o, s.orderOf (.fence d) = some o ∧ exec (.fence d) s = .next t ∧ t.completed o 0 [] ∧ (t.page d.page).acc = [] := by
  have halone := acc_fenced (acc_of_length_one (find_of_taken (o := ⟨infoFence, d, none⟩) rfl ht) h)
  have hexec := exec_fence_taken ht
  have hremoved : ((u.fenced d).page d.page).remove d.series d.seq = { (u.fenced d).page d.page with acc := [] } := by
    unfold Page.remove
    rw [halone]
    simp [fencedEntry]
  have hdone : (u.fenced d).fencesDone d.page [fencedEntry d] =
      if d.flags.testBit 2 then (u.fenced d).setPage d.page { (u.fenced d).page d.page with acc := [] }
      else ((u.fenced d).setPage d.page { (u.fenced d).page d.page with acc := [] }).postCompletion d.page ((fencedEntry d).record 0 []) := by
    rw [← hremoved]
    rfl
  rw [halone, hdone] at hexec
  refine ⟨_, ⟨infoFence, d, none⟩, rfl, hexec, ?_⟩
  cases hflag : d.flags.testBit 2 with
  | true =>
    rw [if_pos rfl]
    refine ⟨?_, by rw [page_setPage_self]⟩
    unfold State.completed
    rw [page_setPage_self]
    exact fenced_completed hflag
  | false =>
    rw [if_neg (by nofun)]
    obtain ⟨hacc, hrecords⟩ := postCompletion_page ((u.fenced d).setPage d.page { (u.fenced d).page d.page with acc := [] }) d.page
      ((fencedEntry d).record 0 []) d.page
    exact ⟨(hrecords _).mpr (.inr ⟨rfl, rfl⟩), by rw [hacc, page_setPage_self]⟩

/-- `FENCE` behind another descriptor at the head of the list (R333). -/
theorem fence_waits {d : Desc} {s u : State} {a : Acc} {rest : List Acc} (ht : Taken (.fence d) s u) (hacc : (u.page d.page).acc = a :: rest)
    (hop : a.op ≠ 0x02) (hflag : d.flags.testBit 2 = false) :
    ∃ t b, exec (.fence d) s = .next t ∧ (t.page d.page).find d.series d.seq = some b ∧ b.started = true ∧ b.await = .earlier := by
  have hexec := exec_fence_taken ht
  have hchanged := fenced_late (u := u) hflag
  have hhead : ((u.fenced d).page d.page).acc =
      (if a.series = d.series ∧ a.seq = d.seq then Acc.begun (some .earlier) [] a else a) ::
        rest.map fun a => if a.series = d.series ∧ a.seq = d.seq then Acc.begun (some .earlier) [] a else a := by
    rw [hchanged, State.changeAcc, page_setPage_self, Page.change, hacc]
    rfl
  have hstops (l : List Acc) : (u.fenced d).fencesDone d.page
      ((if a.series = d.series ∧ a.seq = d.seq then Acc.begun (some .earlier) [] a else a) :: l) = u.fenced d := by
    unfold State.fencesDone
    rw [if_neg]
    rintro ⟨hfence, -⟩
    split at hfence
    · exact hop hfence
    · exact hop hfence
  rw [hhead, hstops] at hexec
  refine ⟨_, Acc.begun (some .earlier) [] (Order.entry ⟨infoFence, d, none⟩), hexec, ?_, rfl, rfl⟩
  · rw [hchanged, changeAcc_find u d.page d.series d.seq (Acc.begun (some .earlier) []) fun _ => ⟨rfl, rfl⟩,
      find_of_taken (o := ⟨infoFence, d, none⟩) rfl ht, Option.map_some]

/-! ### Cancels -/

section Cancel
variable {d : Desc} {s u : State}

theorem answers_cancel {result : List Byte} (ht : Taken (.cancel d) s u) (hr : cancelEffect d u = { st := u, result := result }) :
    Answers (.cancel d) s u result :=
  answers_of_reply rfl (exec_cancel d s) ht hr rfl (.inl rfl) rfl rfl

theorem cancelEffect_started {a : Acc} (hfind : (u.page d.page).find (d.u8 16) (d.u32 20) = some a)
    (h : a.started = true ∨ (d.u8 16 = d.series ∧ d.u32 20 = d.seq)) : cancelEffect d u = { st := u, result := leBytes 1 1 } := by
  unfold cancelEffect
  simp only [hfind]
  rw [if_pos h]

theorem cancelEffect_waiting {a : Acc} (hfind : (u.page d.page).find (d.u8 16) (d.u32 20) = some a) (hst : a.started = false)
    (hother : ¬ (d.u8 16 = d.series ∧ d.u32 20 = d.seq)) :
    cancelEffect d u = { st := (State.finish { u with leaseQ := u.leaseQ.filter fun r =>
      ¬ (r.tenant = d.page ∧ r.series = d.u8 16 ∧ r.seq = d.u32 20) } d.page (d.u8 16) (d.u32 20) 1 []).scanLeases, result := leBytes 1 0 } := by
  unfold cancelEffect
  simp only [hfind]
  rw [if_neg (by rw [hst]; simpa using hother)]

theorem cancelEffect_crossed (hfind : (u.page d.page).find (d.u8 16) (d.u32 20) = none)
    (hcrossed : (u.page d.page).crossed.contains (d.u8 16, d.u32 20) = true) :
    cancelEffect d u = { st := u.setPage d.page { u.page d.page with crossed := (u.page d.page).crossed.filter fun c => c ≠ (d.u8 16, d.u32 20) },
                         result := leBytes 1 3 } := by
  unfold cancelEffect
  simp only [hfind]
  rw [if_pos hcrossed]

theorem cancelEffect_behind (hfind : (u.page d.page).find (d.u8 16) (d.u32 20) = none)
    (hcrossed : (u.page d.page).crossed.contains (d.u8 16, d.u32 20) = false) (hne : d.u32 20 ≠ Tab.get (u.page d.page).expect 0 (d.u8 16))
    (hold : newer (d.u32 20) (Tab.get (u.page d.page).expect 0 (d.u8 16)) = false) : cancelEffect d u = { st := u, result := leBytes 1 2 } := by
  unfold cancelEffect
  simp only [hfind]
  rw [hcrossed, if_neg (by nofun), if_neg (not_or.mpr ⟨hne, by rw [hold]; nofun⟩)]

theorem cancelEffect_ahead (hfind : (u.page d.page).find (d.u8 16) (d.u32 20) = none)
    (hcrossed : (u.page d.page).crossed.contains (d.u8 16, d.u32 20) = false)
    (hnew : d.u32 20 = Tab.get (u.page d.page).expect 0 (d.u8 16) ∨ newer (d.u32 20) (Tab.get (u.page d.page).expect 0 (d.u8 16)) = true)
    (hroom : (u.page d.page).pendCancel.length < 4) :
    ∃ v, cancelEffect d u = { st := v, result := leBytes 1 3 } ∧ v.drive = u.drive ∧ v.desk d.page = u.desk d.page ∧
      (d.u8 16, d.u32 20) ∈ (v.page d.page).pendCancel := by
  unfold cancelEffect
  simp only [hfind]
  rw [hcrossed, if_neg (by nofun), if_pos hnew]
  split
  case isTrue hkept => exact ⟨u, rfl, rfl, rfl, by simpa using hkept⟩
  case isFalse =>
    rw [if_neg (Nat.not_le.mpr hroom)]
    exact ⟨_, rfl, setPage_drive _ _ _, setPage_desk _ _ _ _ rfl, by simp⟩

/-- A `CANCEL` of a descriptor that has not started: it completes with `CANCELLED`, and the lease queue is served (R332). -/
theorem cancel_waiting {a : Acc} (ht : Taken (.cancel d) s u) (hfind : (u.page d.page).find (d.u8 16) (d.u32 20) = some a)
    (hst : a.started = false) (hother : ¬ (d.u8 16 = d.series ∧ d.u32 20 = d.seq)) :
    ∃ t, exec (.cancel d) s = .next t ∧
      t.drive = ((State.finish { u with leaseQ := u.leaseQ.filter fun r =>
        ¬ (r.tenant = d.page ∧ r.series = d.u8 16 ∧ r.seq = d.u32 20) } d.page (d.u8 16) (d.u32 20) 1 []).scanLeases).drive ∧
      (a.early = false → a.record 1 [] ∈ (t.page d.page).records) := by
  have hr := cancelEffect_waiting hfind hst hother
  refine ⟨_, exec_of_taken rfl (exec_cancel d s) ht, ?_, fun hearly => ?_⟩
  · rw [perform_drive_of_not_kept _ _ _ _ rfl (by rw [hr]) (by rw [hr]) (by rw [hr]) (by rw [hr]), hr]
  · refine keepsRecords_perform hr rfl rfl _ _ (keepsRecords_leaseScan _ _ _ _ ?_)
    exact finish_records _ _ _ _ _ _ _ hfind hearly

theorem cancel_ahead (ht : Taken (.cancel d) s u) (hfind : (u.page d.page).find (d.u8 16) (d.u32 20) = none)
    (hcrossed : (u.page d.page).crossed.contains (d.u8 16, d.u32 20) = false)
    (hnew : d.u32 20 = Tab.get (u.page d.page).expect 0 (d.u8 16) ∨ newer (d.u32 20) (Tab.get (u.page d.page).expect 0 (d.u8 16)) = true)
    (hroom : (u.page d.page).pendCancel.length < 4) :
    ∃ t o, s.orderOf (.cancel d) = some o ∧ exec (.cancel d) s = .next t ∧ t.drive = u.drive ∧
      t.completed o 0 (leBytes 1 3) ∧ (d.u8 16, d.u32 20) ∈ (t.page d.page).pendCancel := by
  obtain ⟨v, hr, hdrive, hdesk, hmem⟩ := cancelEffect_ahead hfind hcrossed hnew hroom
  obtain ⟨t, o, ho, hexec, htd, hcompleted⟩ : Answers (.cancel d) s u (leBytes 1 3) :=
    answers_of_reply rfl (exec_cancel d s) ht hr rfl (.inl rfl) hdrive hdesk
  refine ⟨t, o, ho, hexec, htd, hcompleted, ?_⟩
  obtain rfl := Host.Outcome.next.inj (hexec.symm.trans (exec_of_taken rfl (exec_cancel d s) ht))
  have hpend := congrArg Page.pendCancel (perform_asked (i := infoCancel) (d := d) hr rfl rfl d.page)
  exact (show _ = (v.page d.page).pendCancel from hpend) ▸ hmem

end Cancel

/-- Settles O16: a fence begins and the head of the list completes; a cancel answers what it meets. -/
theorem fenceAndCancel : Obligations.FenceAndCancel := by
  unfold Obligations.FenceAndCancel
  intro d s u
  refine ⟨fun ht => ⟨?gives, ?early, ?alone, ?waits⟩, fun ht => ⟨?started, ?waiting, ?behind, ?crossed, ?ahead⟩⟩
  case gives => exact ⟨_, exec_fence_taken ht, (fencesDone_drive _ _ _).trans (begun_drive _ _ _ _ _)⟩
  case early => exact fence_completes_on_accept ht
  case alone => exact fence_completes_alone ht
  case waits => exact fun a rest hacc hop hflag => fence_waits ht hacc hop hflag
  case started => exact fun a hfind h => answers_cancel ht (cancelEffect_started hfind h)
  case waiting => exact fun a hfind hst hother => cancel_waiting ht hfind hst hother
  case behind => exact fun hfind hcrossed hne hold => answers_cancel ht (cancelEffect_behind hfind hcrossed hne hold)
  case crossed =>
    intro hfind hcrossed
    exact answers_of_reply rfl (exec_cancel d s) ht (cancelEffect_crossed hfind hcrossed) rfl (.inl rfl) (setPage_drive _ _ _)
      (setPage_desk _ _ _ _ rfl)
  case ahead => exact fun hfind hcrossed hnew hroom => cancel_ahead ht hfind hcrossed hnew hroom

/-! ### Leases -/

theorem leaseDone_drive (s : State) (n x q buffer changed : Nat) : (s.leaseDone n x q buffer changed).drive = s.drive := by
  unfold State.leaseDone
  simp only
  split
  · exact changeAcc_drive _ _ _ _ _
  · split
    · rw [changeAcc_drive, post_drive]
    · exact finish_drive _ _ _ _ _ _

theorem lease_of_drive {s t : State} (h : t.drive = s.drive) (p : Nat) : t.lease p = s.lease p :=
  (congrArg (fun x : State => x.lease p) h :)

theorem lease_leaseTo (s : State) (p : Nat) (h : Option Nat) (q : Nat) :
    ((s.leaseTo p h).lease q).holder = if q = p then h else (s.lease q).holder := by
  have hstage : (s.leaseTo p h).lease q = (s.setLease p { holder := h, epoch := nextEpoch (s.lease p).epoch }).lease q :=
    lease_of_drive (stageDevice_drive _ _ _ _) q
  rw [hstage]
  unfold State.lease State.setLease
  rw [Tab.get_set]
  split <;> rfl

theorem lease_foldl_leaseTo (n : Nat) (l : List Nat) (s : State) (q : Nat) :
    ((l.foldl (fun s p => s.leaseTo p (some n)) s).lease q).holder = if q ∈ l then some n else (s.lease q).holder := by
  induction l generalizing s with
  | nil => simp
  | cons p l ih =>
    rw [List.foldl_cons, ih, lease_leaseTo]
    by_cases hl : q ∈ l <;> by_cases hp : q = p <;> simp [hl, hp]

/-- After a grant the tenant holds every partition of the set (R345). -/
theorem lease_grant {s : State} {n set p : Nat} (h : p ∈ maskList 8 set) : ((s.grant n set).1.lease p).holder = some n := by
  unfold State.grant
  simp only
  rw [lease_foldl_leaseTo]
  split
  case isTrue => rfl
  case isFalse hno =>
    by_contra hother
    exact hno (List.mem_filter.mpr ⟨h, by simp [hother]⟩)

/-- The entry of a query that waits for the records that stand staged (R344). -/
def State.queried (u : State) (d : Desc) (a : Acc) : Acc :=
  { a with started := true, applied := true, await := .firn u.stor.nextSeq, result := u.leaseResult d.page 0
           after := if d.buffer = 0xFFFFFFFF then none else some ((u.tenant d.page).winBase + d.buffer, u.leaseBytes) }

section Lease
variable {d : Desc} {s u : State}

/-- The tenant may ask for a set: T0, or one that commands all of it (R345). -/
theorem acquire_allowed (hparts : d.page = 0 ∨ ∀ p ∈ maskList 8 (d.u8 17), (u.tenant d.page).cmdParts.testBit p = true)
    (hstates : u.leaseStates d.page (d.u8 17) = true) :
    ¬ ((d.page ≠ 0 ∧ ¬ ((maskList 8 (d.u8 17)).all fun p => (u.tenant d.page).cmdParts.testBit p) = true) ∨
      ¬ u.leaseStates d.page (d.u8 17) = true) := by
  rintro (⟨hne, hno⟩ | hno)
  · rcases hparts with h | h
    · exact hne h
    · exact hno (List.all_eq_true.mpr h)
  · exact hno hstates

theorem acquireEffect_free (hset : d.u8 17 ≠ 0)
    (hparts : d.page = 0 ∨ ∀ p ∈ maskList 8 (d.u8 17), (u.tenant d.page).cmdParts.testBit p = true)
    (hstates : u.leaseStates d.page (d.u8 17) = true) (hfree : u.leaseFree d.page (d.u8 17) = true) :
    acquireEffect d u = { st := (u.grant d.page (d.u8 17)).1.leaseDone d.page d.series d.seq d.buffer (u.grant d.page (d.u8 17)).2,
                          handled := true } :=
  (if_neg hset).trans ((if_neg (acquire_allowed hparts hstates)).trans (if_pos hfree))

theorem acquireEffect_waits (hset : d.u8 17 ≠ 0)
    (hparts : d.page = 0 ∨ ∀ p ∈ maskList 8 (d.u8 17), (u.tenant d.page).cmdParts.testBit p = true)
    (hstates : u.leaseStates d.page (d.u8 17) = true) (hfree : u.leaseFree d.page (d.u8 17) = false) (hwait : d.u8 18 ≠ 0)
    (hroom : u.leaseQ.length < 64) :
    acquireEffect d u = { st := { u with leaseQ := u.leaseQ ++ [
      { tenant := d.page, series := d.series, seq := d.seq, parts := d.u8 17, buffer := d.buffer, began := u.now, timeout := nsOf (d.f32 24) }] },
                          queued := true } :=
  (if_neg hset).trans ((if_neg (acquire_allowed hparts hstates)).trans ((if_neg (by rw [hfree]; nofun)).trans
    ((if_neg hwait).trans (if_neg (Nat.not_le.mpr hroom)))))

theorem acquire_granted (ht : Taken (.leaseAcquire d) s u) (hset : d.u8 17 ≠ 0)
    (hparts : d.page = 0 ∨ ∀ p ∈ maskList 8 (d.u8 17), (u.tenant d.page).cmdParts.testBit p = true)
    (hstates : u.leaseStates d.page (d.u8 17) = true) (hfree : u.leaseFree d.page (d.u8 17) = true) :
    ∃ t, exec (.leaseAcquire d) s = .next t ∧ t.drive = (u.grant d.page (d.u8 17)).1.drive ∧
      ∀ p ∈ maskList 8 (d.u8 17), (t.lease p).holder = some d.page := by
  have hdrive := (perform_drive_handled u (infoLease .leaseTake true) d (acquireEffect d) (by rw [acquireEffect_free hset hparts hstates hfree])
    (.inr (by rw [acquireEffect_free hset hparts hstates hfree]))).trans
    ((congrArg (fun r : Reply => r.st.drive) (acquireEffect_free hset hparts hstates hfree)).trans (leaseDone_drive _ _ _ _ _ _))
  refine ⟨_, exec_of_taken rfl (exec_leaseAcquire d s) ht, hdrive, fun p hp => ?_⟩
  rw [lease_of_drive hdrive, lease_grant hp]

theorem releaseEffect_held (hset : d.u8 17 ≠ 0) (hheld : u.holdsAll d.page (d.u8 17) = true) :
    releaseEffect d u = { st := ((u.leaseDrop (maskList 8 (d.u8 17))).leaseDone d.page d.series d.seq d.buffer (d.u8 17)).scanLeases,
                          handled := true } :=
  (if_neg hset).trans (if_neg (not_not.mpr hheld))

theorem revokeEffect_held (hset : d.u8 17 ≠ 0) (hheld : u.holdsAll (d.u16 20) (d.u8 17) = true) :
    revokeEffect d u = { st := ((u.leaseRevoke (d.u16 20) (maskList 8 (d.u8 17))).leaseDone d.page d.series d.seq d.buffer (d.u8 17)).scanLeases,
                         handled := true } :=
  (if_neg hset).trans (if_neg (not_not.mpr hheld))

/-- The waiting request of the named tenant takes the set in one step; the completions of both and the audit entry leave the machine as the
grant made it (R344, R345). -/
theorem transferEffect_taken {r : LeaseReq} (hset : d.u8 17 ≠ 0) (hheld : u.holdsAll d.page (d.u8 17) = true)
    (hr : u.leaseQ.find? (fun r => decide (r.tenant = d.u16 20 ∧ r.parts &&& d.u8 17 = d.u8 17) &&
        (u.leaseDrop (maskList 8 (d.u8 17))).leaseFree (d.u16 20) r.parts && (u.leaseDrop (maskList 8 (d.u8 17))).leaseStates (d.u16 20) r.parts)
        = some r) :
    ∃ v : State, transferEffect d u = { st := v.scanLeases, handled := true } ∧
      v.drive = (State.grant { u with leaseQ := u.leaseQ.filter fun x => x ≠ r } (d.u16 20) r.parts).1.drive := by
  unfold transferEffect
  simp only
  rw [if_neg hset, if_neg (not_not.mpr hheld), hr]
  exact ⟨_, rfl, by rw [audit_drive, leaseDone_drive, leaseDone_drive]⟩

theorem exec_leaseQuery_taken (ht : Taken (.leaseQuery d) s u) :
    exec (.leaseQuery d) s = .next (u.leaseDone d.page d.series d.seq d.buffer 0) := by
  rw [exec_of_taken rfl (exec_leaseQuery d s) ht, perform_handled rfl]
  rfl

theorem query_answers (ht : Taken (.leaseQuery d) s u) (hbuf : d.buffer = 0xFFFFFFFF) (hnone : u.stor.keeps = false ∨ u.stor.pend = []) :
    Answers (.leaseQuery d) s u (u.leaseResult d.page 0) := by
  have hdone : u.leaseDone d.page d.series d.seq d.buffer 0 = u.finish d.page d.series d.seq 0 (u.leaseResult d.page 0) := by
    unfold State.leaseDone
    simp only
    rw [if_neg (by rcases hnone with h | h <;> simp [h]), if_pos hbuf]
  have hexec := exec_leaseQuery_taken ht
  rw [hdone] at hexec
  have hfind := find_of_taken (o := ⟨infoLease .leaseAsk false, d, leaseBuf d⟩) rfl ht
  have hrecord := finish_records u d.page d.series d.seq 0 (u.leaseResult d.page 0) _ hfind rfl
  exact ⟨_, ⟨infoLease .leaseAsk false, d, leaseBuf d⟩, rfl, hexec, finish_drive _ _ _ _ _ _, hrecord⟩

theorem query_writes (ht : Taken (.leaseQuery d) s u) (hbuf : d.buffer ≠ 0xFFFFFFFF) (hnone : u.stor.keeps = false ∨ u.stor.pend = []) :
    Writes (.leaseQuery d) s u u.leaseBytes := by
  have hdone : ∃ f, u.leaseDone d.page d.series d.seq d.buffer 0 = (u.bufWrite d u.leaseBytes).changeAcc d.page d.series d.seq f := by
    unfold State.leaseDone
    simp only
    rw [if_neg (by rcases hnone with h | h <;> simp [h]), if_neg hbuf]
    exact ⟨_, rfl⟩
  obtain ⟨f, hdone⟩ := hdone
  have hexec := exec_leaseQuery_taken ht
  rw [hdone] at hexec
  exact ⟨_, ⟨infoLease .leaseAsk false, d, leaseBuf d⟩, rfl, hexec, by rw [changeAcc_drive, bufWrite_drive],
    bufWrite_wrote u ⟨infoLease .leaseAsk false, d, leaseBuf d⟩ u.leaseBytes d.page d.series d.seq f⟩

theorem query_waits (ht : Taken (.leaseQuery d) s u) (hkeeps : u.stor.keeps = true) (hpend : u.stor.pend ≠ []) :
    ∃ t b, exec (.leaseQuery d) s = .next t ∧ t.drive = u.drive ∧ (t.page d.page).find d.series d.seq = some b ∧
      b.await = .firn u.stor.nextSeq ∧ b.result = leBytes 1 (u.heldMask d.page) ++ leBytes 1 0 ++ zeros 6 := by
  have hdone : u.leaseDone d.page d.series d.seq d.buffer 0 = u.changeAcc d.page d.series d.seq (u.queried d) := if_pos ⟨hkeeps, hpend⟩
  have hexec := exec_leaseQuery_taken ht
  rw [hdone] at hexec
  refine ⟨_, u.queried d (Order.entry ⟨infoLease .leaseAsk false, d, leaseBuf d⟩), hexec, changeAcc_drive _ _ _ _ _, ?_, rfl, rfl⟩
  rw [changeAcc_find u d.page d.series d.seq (u.queried d) fun _ => ⟨rfl, rfl⟩, find_of_taken (o := ⟨infoLease .leaseAsk false, d, leaseBuf d⟩) rfl ht]
  rfl

end Lease

/-- Settles O17: the five operations of the lease core. -/
theorem leaseCommands : Obligations.LeaseCommands := by
  unfold Obligations.LeaseCommands
  intro d s u
  refine ⟨?granted, ?waits, ?release, ?transfer, ?revoke, ?query, ?queryBuffer, ?queryWaits⟩
  case granted => exact acquire_granted
  case waits =>
    intro ht hset hparts hstates hfree hwait hroom
    have hr := acquireEffect_waits hset hparts hstates hfree hwait hroom
    exact gives_of_handled rfl (exec_leaseAcquire d s) ht (by rw [hr]) (.inl (by rw [hr])) (by rw [hr])
  case release =>
    intro ht hset hheld
    have hr := releaseEffect_held hset hheld
    exact gives_of_handled rfl (exec_leaseRelease d s) ht (by rw [hr]) (.inr (by rw [hr])) (by rw [hr])
  case transfer =>
    intro r ht hset hheld hr
    obtain ⟨v, hreply, hdrive⟩ := transferEffect_taken hset hheld hr
    refine ⟨_, v, exec_of_taken rfl (exec_leaseTransfer d s) ht, ?_, hdrive⟩
    rw [perform_drive_handled _ _ _ _ (by rw [hreply]) (.inr (by rw [hreply])), hreply]
  case revoke =>
    intro ht hset hheld
    have hr := revokeEffect_held hset hheld
    exact gives_of_handled rfl (exec_leaseRevoke d s) ht (by rw [hr]) (.inr (by rw [hr])) (by rw [hr])
  case query => exact query_answers
  case queryBuffer => exact query_writes
  case queryWaits => exact query_waits


end Sys2Proof.Machine

namespace Sys2Proof.Machine
open Sys2Proof

/-! ### Descriptors that keep nothing -/

/-- A descriptor that is taken and not retained, whose work ends at once or waits for its own event, gives the state of its reply. -/
theorem gives_plain {i : Instr} {s u v : State} {info : OpInfo} {d : Desc} {buf : Option Nat} {eff : State → Reply} {res : List Byte}
    {aw : Option Await} (ho : s.orderOf i = some ⟨info, d, buf⟩) (he : exec i s = .next (serve info d buf eff s)) (ht : Taken i s u)
    (hr : eff u = { st := v, result := res, await := aw }) (hk : info.kept = false) : Gives i s v := by
  refine gives_of_reply ho he ht hr ?_
  unfold State.keep
  rw [if_neg (by simp [hk]), if_neg (by simp [hk])]

/-- The same for a reply without result or wait. -/
theorem gives_now {i : Instr} {s u v : State} {info : OpInfo} {d : Desc} {buf : Option Nat} {eff : State → Reply}
    (ho : s.orderOf i = some ⟨info, d, buf⟩) (he : exec i s = .next (serve info d buf eff s)) (ht : Taken i s u) (hr : eff u = { st := v })
    (hk : info.kept = false) : Gives i s v := gives_plain ho he ht hr hk

/-- A descriptor that stages its own record keeps nothing further. -/
theorem keep_ownRec {s : State} {i : OpInfo} {d : Desc} {r : Reply} (hown : r.ownRec = true) (hlag : lagOps.contains i.op = false) :
    s.keep i d r = s := by
  unfold State.keep
  rw [if_neg (by simp [hown]), lag_of_not_lagging hlag, ite_self]

/-! ### The state of a partition -/

theorem part_of_drive {a b : State} (h : a.drive = b.drive) (p : Nat) : a.part p = b.part p :=
  (congrArg (fun x : State => x.part p) h :)

theorem leaseTo_part (s : State) (p : Nat) (h : Option Nat) (q : Nat) : (s.leaseTo p h).part q = s.part q :=
  part_of_drive (stageDevice_drive _ _ _ _) q

theorem grant_part (s : State) (n set q : Nat) : (s.grant n set).1.part q = s.part q := by
  unfold State.grant
  generalize (maskList 8 set).filter (fun p => !decide ((s.lease p).holder = some n)) = l
  simp only
  induction l generalizing s with
  | nil => rfl
  | cons p l ih => exact (ih (s.leaseTo p (some n))).trans (leaseTo_part s p _ q)

/-- Serving the lease queue moves leases, not partitions. -/
theorem leaseScan_part (l : List LeaseReq) (s : State) (q : Nat) : (s.leaseScan l).part q = s.part q := by
  induction l generalizing s with
  | nil => rfl
  | cons r rest ih =>
    unfold State.leaseScan
    split
    · rw [ih, part_of_drive (audit_drive _ _ _ _ _ _), part_of_drive (leaseDone_drive _ _ _ _ _ _), grant_part]
      rfl
    · exact ih s

@[simp] theorem setPState_part_st (s : State) (p : Nat) (x : PState) : ((s.setPState p x).part p).st = x := by
  have hscan (c : Prop) [Decidable c] (w : State) : (if c then w.scanLeases else w).part p = w.part p := by
    split
    · exact leaseScan_part _ _ _
    · rfl
  have hmot (c : Prop) [Decidable c] (w : State) (m : Tab Mot) : (if c then { w with mot := m } else w).part p = w.part p := by
    split <;> rfl
  unfold State.setPState
  exact congrArg Part.st ((hscan _ _).trans ((hmot _ _ _).trans (setPart_self _ _ _)))

/-- A descriptor that gives a state in which a partition stands where that state has it. -/
theorem enters_of_gives {i : Instr} {s e : State} {p : Nat} {x : PState} (h : Gives i s e) (hx : (e.part p).st = x) : Enters i s e p x := by
  obtain ⟨t, hexec, hdrive⟩ := h
  exact ⟨t, hexec, hdrive, by rw [part_of_drive hdrive, hx]⟩

/-! ### The life of a partition -/

section PartitionLife
variable {d : Desc} {u : State}

theorem prechargeEffect_charges {differs : Bool} (hb : u.beaten d.target 9 = false) (hbar : u.prechargeBar d.target differs = 0)
    (hwait : (Tab.get u.precWait none d.target).isSome = false) (hchans : ((u.brakeCodes d.target).filter fun c => (u.auxOf c).st = 0) = []) :
    prechargeEffect differs d u = { st := u.prechargeAll d.target } :=
  (if_neg (by simp [hb])).trans ((if_neg (not_not.mpr hbar)).trans ((if_neg (by simp [hwait])).trans (if_pos hchans)))

theorem prechargeEffect_checks {differs : Bool} (hb : u.beaten d.target 9 = false) (hbar : u.prechargeBar d.target differs = 0)
    (hwait : (Tab.get u.precWait none d.target).isSome = false) (hchans : ((u.brakeCodes d.target).filter fun c => (u.auxOf c).st = 0) ≠ []) :
    prechargeEffect differs d u = { st :=
      { ((u.brakeCodes d.target).filter fun c => (u.auxOf c).st = 0).foldl (fun x c => x.auxCheck c 0) u with
          precWait := Tab.set (((u.brakeCodes d.target).filter fun c => (u.auxOf c).st = 0).foldl (fun x c => x.auxCheck c 0) u).precWait none
            d.target (some (d.page, d.series, d.seq)) }, await := some .own } :=
  (if_neg (by simp [hb])).trans ((if_neg (not_not.mpr hbar)).trans ((if_neg (by simp [hwait])).trans (if_neg hchans)))

/-- An `ENABLE` that nothing bars comes to the choice of its start (R60, R108). -/
theorem enableEffect_unbarred (hb : u.beaten d.target 9 = false) (hst : u.selftestBar d.target = 0) (hhot : u.tooHot d.target = false)
    (hwait : (u.ctlOf d.target).enWait = none) : enableEffect d u =
      if u.shape d.target ≠ 6 ∧ u.machine d.target = 4 then
        { st := (u.setCtl d.target { u.ctlOf d.target with enWait := some (d.page, d.series, d.seq, u.now) }).setFb d.target
            { u.fbOf d.target with restart := 1 }, await := some .own }
      else if u.needsPulses d.target then
        { st := ((u.setCtl d.target { u.ctlOf d.target with enWait := some (d.page, d.series, d.seq, u.now) }).setFb d.target
            { u.fbOf d.target with restart := 1 }).begin d.target, await := some .own }
      else { st := u.enterRunning d.target } :=
  (if_neg (by simp [hb])).trans ((if_neg (not_not.mpr hst)).trans ((if_neg (by simp [hhot])).trans (if_neg (by simp [hwait]))))

theorem blockEffect_energised (hst : (u.part d.target).st.energised = true) (hb : u.beaten d.target 4 = false) :
    blockEffect d u = { st := (u.quiet d.target).setPState d.target .blocked } := if_pos ⟨hst, by simp [hb]⟩

theorem blockEffect_still (h : (u.part d.target).st.energised = false ∨ u.beaten d.target 4 = true) : blockEffect d u = { st := u } := by
  unfold blockEffect
  simp only
  rw [if_neg]
  rintro ⟨hst, hb⟩
  rcases h with h | h
  · simp [h] at hst
  · exact hb h

theorem tripResetEffect_clear (hb : u.beaten d.target 9 = false) (hnew : ∀ r ∈ (u.protOf d.target).recs, r.t ≠ u.now)
    (hsource : u.sourceActive d.target = false) (hsto : u.stoHolds d.target = false) :
    tripResetEffect d u = { st := u.setPState d.target .blocked } := by
  unfold tripResetEffect
  simp only
  rw [if_neg, if_neg (by simp [hsource]), if_neg (by simp [hsto])]
  rintro (h | h)
  · simp [hb] at h
  · obtain ⟨r, hr, hnow⟩ := List.any_eq_true.mp h
    exact hnew r hr (of_decide_eq_true hnow)

end PartitionLife

/-- Settles O18: each reply of the commands of a partition's life. -/
theorem partitionLife : Obligations.PartitionLife := by
  unfold Obligations.PartitionLife
  intro d s u
  refine ⟨?commit, ?release, ?charge, ?check, ?enable, ?disable, ?block, ?blockStill, ?reset⟩
  case commit =>
    intro ht hstatus
    exact gives_stored_at_once rfl (exec_partCommit d s) ht (if_neg (not_not.mpr hstatus)) rfl rfl rfl
  case release =>
    exact fun ht => gives_of_serve rfl (exec_partRelease d s) ht rfl rfl rfl rfl (congrArg State.drive (keep_ownRec rfl rfl))
  case charge =>
    intro differs ht hb hbar hwait hchans
    exact gives_plain rfl (exec_precharge d differs s) ht (prechargeEffect_charges hb hbar hwait hchans) rfl
  case check =>
    intro differs ht hb hbar hwait hchans
    exact gives_plain rfl (exec_precharge d differs s) ht (prechargeEffect_checks hb hbar hwait hchans) rfl
  case enable =>
    intro ht hb hst hhot hwait
    have hr := enableEffect_unbarred hb hst hhot hwait
    refine ⟨fun hself hpulses => ?_, fun hself hpulses => ?_, fun hshape hmachine => ?_⟩
    · exact gives_plain rfl (exec_enable d s) ht (hr.trans ((if_neg hself).trans (if_neg (by simp [hpulses])))) rfl
    · exact gives_plain rfl (exec_enable d s) ht (hr.trans ((if_neg hself).trans (if_pos hpulses))) rfl
    · exact gives_plain rfl (exec_enable d s) ht (hr.trans (if_pos ⟨hshape, hmachine⟩)) rfl
  case disable => exact fun ht hb => gives_plain rfl (exec_disable d s) ht (if_neg (by simp [hb])) rfl
  case block =>
    intro ht hst hb
    exact enters_of_gives (gives_plain rfl (exec_block d s) ht (blockEffect_energised hst hb) rfl) (setPState_part_st _ _ _)
  case blockStill => exact fun ht h => gives_plain rfl (exec_block d s) ht (blockEffect_still h) rfl
  case reset =>
    intro ht hb hnew hsource hsto
    exact enters_of_gives (gives_plain rfl (exec_tripReset d s) ht (tripResetEffect_clear hb hnew hsource hsto) rfl) (setPState_part_st _ _ _)

/-! ### Commands on cells, cores, regions and lanes -/

section Cells
variable {d : Desc} {u : State} {l : Nat}

theorem cellBypassEffect_loses (hl : u.laneAt d.target (d.u8 16) (d.u8 17) = some l) (hst : (u.cell l).st ≠ .bypassed)
    (hspare : ¬ (((u.part d.target).st = .running ∨ (u.part d.target).st = .braking) ∧ (u.cell l).st = .available ∧
        u.availCount d.target (u.cell l).arm - 1 < u.needed d.target (u.cell l).arm)) :
    cellBypassEffect d u = { st := u.loseCell l 8, keyC := d.u8 16 * 256 + d.u8 17 } := by
  unfold cellBypassEffect
  simp only [hl]
  rw [if_neg hst, if_neg hspare]

theorem cellBypassEffect_bypassed (hl : u.laneAt d.target (d.u8 16) (d.u8 17) = some l) (hst : (u.cell l).st = .bypassed) :
    cellBypassEffect d u = { st := u.finish d.page d.series d.seq 0 [], handled := true } := by
  unfold cellBypassEffect
  simp only [hl]
  rw [if_pos hst]

theorem cellAdmitEffect_in_use (hl : u.laneAt d.target (d.u8 16) (d.u8 17) = some l) (hst : (u.cell l).st ≠ .bypassed)
    (hiso : (u.cell l).st ≠ .isolated) :
    cellAdmitEffect State.cellHot d u = { st := u.finish d.page d.series d.seq 0 [], handled := true } := by
  unfold cellAdmitEffect
  simp only [hl]
  rw [if_neg hiso, if_pos hst]

/-- A bypassed cell that is not too hot comes to the choice of its admission (R62, R64). -/
theorem cellAdmitEffect_bypassed (hl : u.laneAt d.target (d.u8 16) (d.u8 17) = some l) (hst : (u.cell l).st = .bypassed) (hcool : u.cellHot l = 0) :
    cellAdmitEffect State.cellHot d u =
      if (u.part d.target).st = .blocked ∨ (u.part d.target).st = .precharge then { st := u.unbypass l, keyC := d.u8 16 * 256 + d.u8 17 }
      else if ¬ isMmc (u.shape d.target) ∨ (u.lane l).lstate ≠ 4 ∨ ¬ (u.cell l).known then Reply.no u 0x0004
      else { st := u.startAdmit l, keyC := d.u8 16 * 256 + d.u8 17 } := by
  unfold cellAdmitEffect
  simp only [hl]
  rw [if_neg (by simp [hst]), if_neg (by simp [hst]), if_neg (by simp [hcool])]

theorem sensorResetEffect_cell (hmode : d.u8 16 ≠ 1) (hl : u.laneAt d.target (d.u8 17) (d.u8 18) = some l) :
    sensorResetEffect d u = { st := (u.markSensor (cellSensor l 0) false).markSensor (cellSensor l 1) false } := by
  unfold sensorResetEffect
  simp only [hl]
  rw [if_neg hmode]

theorem coreMigrateEffect_same (h : d.u8 16 = 1 ↔ (u.part d.target).core1 = true) : coreMigrateEffect d u = { st := u } := if_pos (propext h)

theorem coreMigrateEffect_other (h : ¬ (d.u8 16 = 1 ↔ (u.part d.target).core1 = true))
    (hcore : (if d.u8 16 = 1 then (u.part d.target).core1Failed else (u.part d.target).core0Failed) = false) :
    coreMigrateEffect d u = { st := u.setPart d.target { u.part d.target with
        migrating := true, migDesc := (u.part d.target).migDesc ++ [(d.page, d.series, d.seq)] }, await := some .own } :=
  (if_neg fun heq => h (iff_of_eq heq)).trans (if_neg (by rw [hcore]; nofun))

theorem linkRetrainEffect_retrains (hlane : d.u16 16 < 1024) (hused : (u.cell (d.u16 16)).used = true)
    (hpart : (u.cell (d.u16 16)).part = d.target) (hiso : (u.cell (d.u16 16)).st ≠ .isolated) (hlost : (u.lane (d.u16 16)).lstate ≠ 5)
    (hfree : (u.part d.target).st.energised = true → (u.cell (d.u16 16)).st ∉ [.available, .qualifying, .charging]) :
    linkRetrainEffect d u = { st := u.setLane (d.u16 16) { u.lane (d.u16 16) with silentUntil := some (u.now + 25000) } } := by
  unfold linkRetrainEffect
  simp only
  rw [if_neg, if_neg (not_or.mpr ⟨hiso, hlost⟩), if_neg]
  · rintro ⟨hen, hst⟩
    exact hfree hen (by simpa using hst)
  · simp [Nat.not_le.mpr hlane, hused, hpart]

end Cells

/-- Settles O19: each reply of the commands on cells, sensors, cores, regions and lanes. -/
theorem cellCommands : Obligations.CellCommands := by
  unfold Obligations.CellCommands
  intro d s u
  refine ⟨?bypass, ?bypassed, ?inUse, ?unbypass, ?readmit, ?coolSensor, ?cellSensor, ?sameCore, ?otherCore, ?region, ?retrain⟩
  case bypass =>
    exact fun l ht hl hst hspare => gives_stored_at_once rfl (exec_cellBypass d s) ht (cellBypassEffect_loses hl hst hspare) rfl rfl rfl
  case bypassed =>
    intro l ht hl hst
    have hr := cellBypassEffect_bypassed hl hst
    exact gives_of_handled rfl (exec_cellBypass d s) ht (by rw [hr]) (.inr (by rw [hr])) (by rw [hr, finish_drive])
  case inUse =>
    intro l ht hl hst hiso
    have hr := cellAdmitEffect_in_use hl hst hiso
    exact gives_of_handled rfl (exec_cellAdmit d s) ht (by rw [hr]) (.inr (by rw [hr])) (by rw [hr, finish_drive])
  case unbypass =>
    intro l ht hl hst hcool hp
    exact gives_stored_at_once rfl (exec_cellAdmit d s) ht ((cellAdmitEffect_bypassed hl hst hcool).trans (if_pos hp)) rfl rfl rfl
  case readmit =>
    intro l ht hl hst hcool hp hmmc hlane hknown
    refine gives_stored_at_once rfl (exec_cellAdmit d s) ht ((cellAdmitEffect_bypassed hl hst hcool).trans ((if_neg hp).trans (if_neg ?_))) rfl rfl rfl
    simp [hmmc, hlane, hknown]
  case coolSensor =>
    exact fun ht hmode hk => gives_plain rfl (exec_thermSensorReset d s) ht ((if_pos hmode).trans (if_pos hk)) rfl
  case cellSensor => exact fun l ht hmode hl => gives_plain rfl (exec_thermSensorReset d s) ht (sensorResetEffect_cell hmode hl) rfl
  case sameCore => exact fun ht h => gives_plain rfl (exec_coreMigrate d s) ht (coreMigrateEffect_same h) rfl
  case otherCore => exact fun ht h hcore => gives_plain rfl (exec_coreMigrate d s) ht (coreMigrateEffect_other h hcore) rfl
  case region =>
    exact fun ht hfenced => gives_plain rfl (exec_regionRestart d 0 s) ht ((if_neg (not_not.mpr hfenced)).trans (if_neg (by decide))) rfl
  case retrain =>
    intro ht hlane hused hpart hiso hlost hfree
    exact gives_plain rfl (exec_linkRetrain d s) ht (linkRetrainEffect_retrains hlane hused hpart hiso hlost hfree) rfl

/-! ### References -/

section References
variable {d : Desc} {u : State}

theorem masterOnly_self {eff : State → Reply} (h : u.follows d.target = false) : masterOnly d eff u = eff u := if_neg (by simp [h])

theorem setpointEffect_taken (hem : u.emergActive d.target = false) (hsrc : (u.motOf d.target).source = 0)
    (hmax : d.u8 16 = 0 → absQ (d.f32 20) ≤ u.nMax d.target) : setpointEffect d u =
      { st := u.setCtl d.target { u.ctlOf d.target with spNew := some (d.u8 16, d.f32 20), spAt := some u.now, spTimedOut := false } } :=
  (if_neg (by simp [hem])).trans ((if_neg (not_not.mpr hsrc)).trans (if_neg fun h => not_lt.mpr (hmax h.1) h.2))

/-- A change of source that neither an emergency nor a move holds back comes to the conditions of its kind (R126). -/
theorem refSourceEffect_free (hem : u.emergActive d.target = false)
    (hmove : d.u8 16 ≠ (u.motOf d.target).source → (u.motOf d.target).source = 2 ∨ (u.motOf d.target).source = 4 →
      (u.motOf d.target).moving = false) : refSourceEffect d u =
      if (d.u8 16 = 2 ∨ d.u8 16 = 3 ∨ d.u8 16 = 4) ∧ (u.part d.target).st = .running ∧ u.nMax d.target / 100 ≤ absQ (u.speed d.target) then
        Reply.no u 0x0004
      else if d.u8 16 = 1 ∧ ¬ u.given 0x41 d.target 0 then Reply.no u 0x0400
      else if (d.u8 16 = 2 ∨ d.u8 16 = 3 ∨ d.u8 16 = 4) ∧
          ¬ ((u.motOf d.target).calibrated ∧ u.given 0x49 d.target 0 ∧ (d.u8 16 ≠ 4 ∨ u.given 0x4B d.target 0)) then Reply.no u 0x0406
      else { st := u.setMot d.target { u.motOf d.target with srcNew := some (d.u8 16) } } :=
  (if_neg (by simp [hem])).trans (if_neg fun h => by simp [hmove h.1 h.2.1] at h)

/-- A move that nothing turns away (R138). -/
theorem moveEffect_free (hrender : (u.brkOf d.target).render = false) (hstop : u.stopInRound d.target = false)
    (hcal : (u.motOf d.target).calibrated = true) (hsrc : (u.motOf d.target).source = 2 ∨ (u.motOf d.target).source = 4)
    (hrope : d.f32 16 ≤ u.ropeLen d.target) (hlo : (u.vlimits d.target).1 ≤ d.f32 16) (hhi : d.f32 16 ≤ (u.vlimits d.target).2) :
    moveEffect d u = if (u.motOf d.target).moving then
        if d.u8 20 = 0 ∨ (u.motOf d.target).follow.isSome then Reply.no u 0x0402
        else { st := u.setMot d.target { u.motOf d.target with follow := some (d.f32 16) } }
      else if d.f32 16 = (u.motOf d.target).pRef then { st := u }
      else { st := u.setMot d.target { u.motOf d.target with moving := true, target := d.f32 16, movedAt := some u.now } } :=
  (if_neg (not_lt.mpr hrope)).trans ((if_neg (by simp [hrender])).trans ((if_neg (by simp [hstop])).trans
    ((if_neg (not_not.mpr hcal)).trans ((if_neg fun h => hsrc.elim h.1 h.2).trans
      (if_neg (not_or.mpr ⟨not_lt.mpr hlo, not_lt.mpr hhi⟩))))))

end References

/-- Settles O20: each reply of the commands of reference, which `masterOnly` lets pass where no master is followed. -/
theorem referencesTaken : Obligations.ReferencesTaken := by
  unfold Obligations.ReferencesTaken
  intro d s u hf
  refine ⟨?setpoint, ?supply, ?source0, ?source1, ?sourceWinch, ?lever, ?leverDropped, ?drum, ?move, ?moveThere, ?moveNext, ?stop, ?tension, ?heave,
    ?heaveDropped, ?masterAlready, ?masterTakes⟩
  case setpoint =>
    exact fun ht hem hsrc hmax => gives_plain rfl (exec_setpoint d s) ht ((masterOnly_self hf).trans (setpointEffect_taken hem hsrc hmax)) rfl
  case supply =>
    intro ht hlo hhi
    exact gives_plain rfl (exec_supplySetpoint d s) ht (if_neg (not_or.mpr ⟨not_lt.mpr hlo, not_lt.mpr hhi⟩)) rfl
  case source0 =>
    intro ht hem hmove hk
    refine gives_now rfl (exec_refSource d s) ht ((masterOnly_self hf).trans ((refSourceEffect_free hem hmove).trans ?_)) rfl
    simp [hk]
  case source1 =>
    intro ht hem hmove hk hgiven
    refine gives_now rfl (exec_refSource d s) ht ((masterOnly_self hf).trans ((refSourceEffect_free hem hmove).trans ?_)) rfl
    simp [hk, hgiven]
  case sourceWinch =>
    intro ht hem hmove hk hslow hcal hlim hheave
    refine gives_now rfl (exec_refSource d s) ht ((masterOnly_self hf).trans ((refSourceEffect_free hem hmove).trans ?_)) rfl
    have hk1 : d.u8 16 ≠ 1 := fun h => by simp [h] at hk
    have hgiven : d.u8 16 ≠ 4 ∨ u.given 0x4B d.target 0 = true := or_iff_not_imp_left.mpr fun h => hheave (not_not.mp h)
    rw [if_neg fun h => not_le.mpr (hslow h.2.1) h.2.2, if_neg fun h => hk1 h.1, if_neg fun h => h.2 ⟨hcal, hlim, hgiven⟩]
  case lever =>
    intro ht hcrash hcurve
    refine gives_now rfl (exec_curveInput d s) ht ((masterOnly_self hf).trans ((if_neg (by simp [hcrash])).trans ?_)) rfl
    simp only [if_pos hcurve]
  case leverDropped =>
    intro ht hcrash hcurve
    refine gives_now rfl (exec_curveInput d s) ht ((masterOnly_self hf).trans ((if_neg (by simp [hcrash])).trans ?_)) rfl
    simp only [if_neg hcurve]
  case drum =>
    intro ht hgiven hrope
    exact gives_plain rfl (exec_drumSet d s) ht ((if_neg (not_not.mpr hgiven)).trans (if_neg (not_lt.mpr hrope))) rfl
  case move =>
    intro ht hrender hstop hcal hsrc hrope hlo hhi hmoving hother
    exact gives_plain rfl (exec_profileMove d s) ht ((masterOnly_self hf).trans ((moveEffect_free hrender hstop hcal hsrc hrope hlo hhi).trans
      ((if_neg (by simp [hmoving])).trans (if_neg hother)))) rfl
  case moveThere =>
    intro ht hrender hstop hcal hsrc hrope hlo hhi hmoving hthere
    exact gives_plain rfl (exec_profileMove d s) ht ((masterOnly_self hf).trans ((moveEffect_free hrender hstop hcal hsrc hrope hlo hhi).trans
      ((if_neg (by simp [hmoving])).trans (if_pos hthere)))) rfl
  case moveNext =>
    intro ht hrender hstop hcal hsrc hrope hlo hhi hmoving hnext hnone
    exact gives_plain rfl (exec_profileMove d s) ht ((masterOnly_self hf).trans ((moveEffect_free hrender hstop hcal hsrc hrope hlo hhi).trans
      ((if_pos hmoving).trans (if_neg (by simp [hnext, hnone]))))) rfl
  case stop => exact fun ht hrender => gives_plain rfl (exec_profileStop d s) ht ((masterOnly_self hf).trans (if_neg (by simp [hrender]))) rfl
  case tension => exact fun ht hrender => gives_plain rfl (exec_tension d s) ht ((masterOnly_self hf).trans (if_neg (by simp [hrender]))) rfl
  case heave =>
    intro ht hsrc
    refine gives_now rfl (exec_heaveRef d s) ht ((masterOnly_self hf).trans ?_) rfl
    rw [if_pos hsrc]
  case heaveDropped =>
    intro ht hsrc
    refine gives_now rfl (exec_heaveRef d s) ht ((masterOnly_self hf).trans ?_) rfl
    rw [if_neg hsrc]
  case masterAlready =>
    intro ht h
    exact gives_plain rfl (exec_tandemMaster d s) ht (if_pos (h.imp_left fun h => by simp [h])) rfl
  case masterTakes =>
    intro ht h
    exact gives_plain rfl (exec_tandemMaster d s) ht (if_neg fun hno => h (hno.imp_left fun hno => by simpa using hno)) rfl

/-! ### Emergency orders -/

theorem brakeFrom_part (s : State) (p q : Nat) : (s.brakeFrom p).part q = s.part q := rfl

theorem toBraking_part_st (s : State) (p : Nat) : ((s.toBraking p).part p).st = .braking := by
  unfold State.toBraking
  split
  case isTrue h => exact h
  case isFalse => rw [brakeFrom_part, setPState_part_st]

theorem startEstop_part_st (s : State) (p : Nat) : ((s.startEstop p).part p).st = .braking := by
  have hstart : ((if (s.part p).st = .braking then s.brakeFrom p else s.toBraking p).part p).st = .braking := by
    split
    case isTrue h => exact h
    case isFalse => exact toBraking_part_st s p
  exact hstart

theorem orderSc_part_st {s : State} {p trigger : Nat} (h : s.scAvail p = true) : ((s.orderSc p trigger).part p).st = .braking := by
  unfold State.orderSc
  rw [if_neg (not_not.mpr h), part_of_drive (alarm_drive _ _ _ _)]
  exact toBraking_part_st s p

theorem switchOn_part (s : State) (c q : Nat) : (s.switchOn c).part q = s.part q := by
  unfold State.switchOn
  simp only
  split
  · rfl
  · split <;> rfl

theorem driveBrakes_part (s : State) (p q : Nat) : (s.driveBrakes p true).part q = s.part q := by
  have hfold (l : List Nat) (u : State) : (l.foldl (fun s c => s.switchOn c) u).part q = u.part q := by
    induction l generalizing u with
    | nil => rfl
    | cons c l ih => exact (ih _).trans (switchOn_part u c q)
  exact hfold _ _

theorem brkOf_of_drive {a b : State} (h : a.drive = b.drive) (p : Nat) : a.brkOf p = b.brkOf p :=
  (congrArg (fun x : State => x.brkOf p) h :)
theorem motOf_of_drive {a b : State} (h : a.drive = b.drive) (p : Nat) : a.motOf p = b.motOf p :=
  (congrArg (fun x : State => x.motOf p) h :)
theorem ctlOf_of_drive {a b : State} (h : a.drive = b.drive) (p : Nat) : a.ctlOf p = b.ctlOf p :=
  (congrArg (fun x : State => x.ctlOf p) h :)

/-- A crash stop is in force with the values of its descriptor (R209). -/
def State.crashOrdered (u : State) (d : Desc) : State :=
  u.setBrk d.target { u.brkOf d.target with crash := some (d.f32 20, d.f32 24, d.f32 28, d.f32 32), render := false }

/-- A crash stop begins: the machine leaves its source and its move, for speed control (R209). -/
def State.crashBegun (s : State) (p : Nat) : State :=
  let s := s.setMot p { s.motOf p with source := 0, srcNew := none, moving := false, follow := none }
  (s.setCtl p { s.ctlOf p with mode := 0 }).bumpless p

theorem resumeAt_brkOf (s : State) (p : Nat) (tq : Q) (k : Nat) : (s.resumeAt p tq).brkOf k = s.brkOf k := rfl
theorem resumeAt_motOf (s : State) (p : Nat) (tq : Q) (k : Nat) : (s.resumeAt p tq).motOf k = s.motOf k := rfl
theorem resumeAt_mode (s : State) (p : Nat) (tq : Q) : ((s.resumeAt p tq).ctlOf p).mode = (s.ctlOf p).mode := by
  rw [State.resumeAt, setCtl_self]

theorem setCtl_motOf (s : State) (p : Nat) (c : Ctl) (k : Nat) : (s.setCtl p c).motOf k = s.motOf k := rfl
theorem setCtl_brkOf (s : State) (p : Nat) (c : Ctl) (k : Nat) : (s.setCtl p c).brkOf k = s.brkOf k := rfl
theorem setMot_brkOf (s : State) (p : Nat) (m : Mot) (k : Nat) : (s.setMot p m).brkOf k = s.brkOf k := rfl

theorem crashBegun_brkOf (s : State) (p : Nat) : (s.crashBegun p).brkOf p = s.brkOf p := by
  unfold State.crashBegun State.bumpless
  rw [resumeAt_brkOf, setCtl_brkOf, setMot_brkOf]

theorem crashBegun_motOf (s : State) (p : Nat) :
    (s.crashBegun p).motOf p = { s.motOf p with source := 0, srcNew := none, moving := false, follow := none } := by
  unfold State.crashBegun State.bumpless
  rw [resumeAt_motOf, setCtl_motOf, setMot_self]

theorem crashBegun_mode (s : State) (p : Nat) : ((s.crashBegun p).ctlOf p).mode = 0 := by
  unfold State.crashBegun State.bumpless
  rw [resumeAt_mode, setCtl_self]

section Emergency
variable {d : Desc} {s u : State}

/-- A crash stop that nothing outranks (R209). -/
theorem crashStart_free (hmax : absQ (d.f32 20) ≤ u.nMax d.target) (hrank : u.outranked d.target 9 = false) (hb : u.beaten d.target 10 = false) :
    crashStart d u =
      { st := if (u.brkOf d.target).crash.isNone then (u.crashOrdered d).crashBegun d.target else u.crashOrdered d } :=
  (if_neg (not_lt.mpr hmax)).trans (if_neg (by simp [hrank, hb]))

/-- A crash stop takes the machine off its source and back to speed control (R209). -/
theorem crash_starts (ht : Taken (.crashStopStart d) s u) (hmax : absQ (d.f32 20) ≤ u.nMax d.target) (hrank : u.outranked d.target 9 = false)
    (hb : u.beaten d.target 10 = false) (hnone : (u.brkOf d.target).crash = none) :
    ∃ t, exec (.crashStopStart d) s = .next t ∧
        (t.brkOf d.target).crash = some (d.f32 20, d.f32 24, d.f32 28, d.f32 32) ∧ (t.brkOf d.target).render = false ∧
        (t.motOf d.target).source = 0 ∧ (t.motOf d.target).moving = false ∧ (t.ctlOf d.target).mode = 0 := by
  have hr := crashStart_free hmax hrank hb
  rw [if_pos (by rw [hnone]; rfl)] at hr
  obtain ⟨t, hexec, hdrive⟩ := gives_now rfl (exec_crashStopStart d s) ht hr rfl
  have hbrk := (brkOf_of_drive hdrive d.target).trans ((crashBegun_brkOf _ _).trans (setBrk_self _ _ _))
  have hmot := (motOf_of_drive hdrive d.target).trans (crashBegun_motOf _ _)
  have hmode := (congrArg Ctl.mode (ctlOf_of_drive hdrive d.target)).trans (crashBegun_mode _ _)
  exact ⟨t, hexec, congrArg Brk.crash hbrk, congrArg Brk.render hbrk, congrArg Mot.source hmot, congrArg Mot.moving hmot, hmode⟩

theorem estopEffect_starts (hready : (u.part d.target).st ≠ .ready) (hrank : u.outranked d.target 6 = false) (hb : u.beaten d.target 7 = false)
    (h : (u.brkOf d.target).estop = 0 ∨ (u.brkOf d.target).qr = true) : estopEffect d u = { st := u.startEstop d.target } :=
  (if_neg hready).trans ((if_neg (by simp [hrank, hb])).trans (if_neg fun hno => h.elim hno.1 hno.2))

theorem estopEffect_runs (hrank : u.outranked d.target 6 = false) (hb : u.beaten d.target 7 = false) (hestop : (u.brkOf d.target).estop ≠ 0)
    (hqr : (u.brkOf d.target).qr = false) : estopEffect d u = { st := u } := by
  have hrun : ¬ (u.outranked d.target 6 = true ∨ u.beaten d.target 7 = true) := by simp [hrank, hb]
  have hestop : (u.brkOf d.target).estop ≠ 0 ∧ ¬ (u.brkOf d.target).qr = true := ⟨hestop, by simp [hqr]⟩
  unfold estopEffect
  simp only [if_neg hrun, if_pos hestop, ite_self]

theorem estopScEffect_runs (hrank : u.outranked d.target 5 = false) (hb : u.beaten d.target 6 = false) (hsc : (u.brkOf d.target).sc.isSome = true) :
    estopScEffect d u = { st := u } := by
  have hrun : ¬ (u.outranked d.target 5 = true ∨ u.beaten d.target 6 = true) := by simp [hrank, hb]
  unfold estopScEffect
  simp only [if_neg hrun, if_pos hsc, ite_self]

theorem estopScEffect_starts (hready : (u.part d.target).st ≠ .ready) (hrank : u.outranked d.target 5 = false) (hb : u.beaten d.target 6 = false)
    (hsc : (u.brkOf d.target).sc = none) (havail : u.scAvail d.target = true) : estopScEffect d u = { st := u.orderSc d.target 2 } :=
  (if_neg hready).trans ((if_neg (by simp [hrank, hb])).trans ((if_neg (by simp [hsc])).trans (if_pos havail)))

theorem renderEffect_starts (hrank : u.outranked d.target 10 = false) (hb : u.beaten d.target 11 = false)
    (hcal : (u.motOf d.target).calibrated = true) (hrender : (u.brkOf d.target).render = false) :
    renderEffect d u =
      { st := (u.setMot d.target { u.motOf d.target with
            moving := false, follow := none, fRamp := u.emP d.target 40
            fInt := if u.drumNow d.target = 0 then 0 else (u.ctlOf d.target).te * 2 * u.gear d.target / u.drumNow d.target }).setBrk d.target
          { u.brkOf d.target with render := true } } :=
  (if_neg (by simp [hrank, hb])).trans ((if_neg (not_not.mpr hcal)).trans (if_neg (by simp [hrender])))

theorem quickReleaseEffect_starts (hrole : (u.tenant d.page).role = 0 ∨ (u.tenant d.page).role = 1) (hallowed : u.emByte d.target 18 0 = 1)
    (hrank : u.outranked d.target 7 = false) (hb : u.beaten d.target 8 = false) (hsrc : 2 ≤ (u.motOf d.target).source) :
    quickReleaseEffect d u =
      { st := ((u.toBraking d.target).driveBrakes d.target true).setBrk d.target
          { ((u.toBraking d.target).driveBrakes d.target true).brkOf d.target with
            qr := true, qrSlow := none, estop := 0, relAt := none, relWait := false, rampDown := false } } :=
  (if_neg (not_not.mpr ⟨hrole, hallowed⟩)).trans ((if_neg (by simp [hrank, hb])).trans (if_neg (Nat.not_lt.mpr hsrc)))

end Emergency

/-- Settles O21: each reply of the emergency orders, and the state that it leaves the partition in. -/
theorem emergencyOrders : Obligations.EmergencyOrders := by
  unfold Obligations.EmergencyOrders
  intro d s u
  refine ⟨?crashAgain, ?crash, ?crashEnd, ?estop, ?estopReady, ?estopRuns, ?scReady, ?scRuns, ?sc, ?renderEnd, ?render, ?quick, ?trip, ?selftest⟩
  case crashAgain =>
    intro ht hmax hrank hb hcrash
    refine gives_now rfl (exec_crashStopStart d s) ht ((crashStart_free hmax hrank hb).trans ?_) rfl
    rw [if_neg (by simp [Option.ne_none_iff_isSome, hcrash])]
    rfl
  case crash => exact crash_starts
  case crashEnd =>
    intro ht hmax hrank
    exact gives_plain rfl (exec_crashStopEnd d s) ht ((if_neg (not_lt.mpr hmax)).trans (if_neg (by simp [hrank]))) rfl
  case estop =>
    intro ht hready hrank hb h
    exact enters_of_gives (gives_plain rfl (exec_estopControlled d s) ht (estopEffect_starts hready hrank hb h) rfl) (startEstop_part_st _ _)
  case estopReady => exact fun ht hready => gives_plain rfl (exec_estopControlled d s) ht (if_pos hready) rfl
  case estopRuns =>
    exact fun ht hrank hb hestop hqr => gives_plain rfl (exec_estopControlled d s) ht (estopEffect_runs hrank hb hestop hqr) rfl
  case scReady => exact fun ht hready => gives_plain rfl (exec_estopShortCircuit d s) ht (if_pos hready) rfl
  case scRuns => exact fun ht hrank hb hsc => gives_plain rfl (exec_estopShortCircuit d s) ht (estopScEffect_runs hrank hb hsc) rfl
  case sc =>
    intro ht hready hrank hb hsc havail
    exact enters_of_gives (gives_plain rfl (exec_estopShortCircuit d s) ht (estopScEffect_starts hready hrank hb hsc havail) rfl)
      (orderSc_part_st havail)
  case renderEnd => exact fun ht hrank => gives_plain rfl (exec_winchEmergEndRender d s) ht (if_neg (by simp [hrank])) rfl
  case render =>
    exact fun ht hrank hb hcal hrender => gives_plain rfl (exec_winchEmergRender d s) ht (renderEffect_starts hrank hb hcal hrender) rfl
  case quick =>
    intro ht hrole hallowed hrank hb hsrc
    refine enters_of_gives (gives_plain rfl (exec_winchEmergQuickRelease d s) ht (quickReleaseEffect_starts hrole hallowed hrank hb hsrc) rfl) ?_
    exact (congrArg Part.st (driveBrakes_part _ _ _)).trans (toBraking_part_st _ _)
  case trip => exact fun ht => gives_plain rfl (exec_protTrip d s) ht rfl rfl
  case selftest => exact fun ht hnone => gives_plain rfl (exec_protSelftest d s) ht (if_neg (by simp [hnone])) rfl

/-! ### The plant -/

theorem calveOf_of_drive {a b : State} (h : a.drive = b.drive) (k : Nat) : a.calveOf k = b.calveOf k :=
  (congrArg (fun x : State => x.calveOf k) h :)

theorem level_endCalve (s : State) (sec k : Nat) : ((s.endCalve sec).calveOf k).level = if k = sec then 0 else (s.calveOf k).level := by
  unfold State.endCalve
  split
  case isTrue h =>
    split
    case isTrue hk => rw [hk, h]
    case isFalse => rfl
  case isFalse =>
    rw [calveOf_of_drive (inform_drive _ _ _ _)]
    unfold State.calveOf State.setPlant
    simp only
    rw [Tab.get_set]
    split <;> rfl

theorem level_foldl_endCalve (l : List Nat) (s : State) (k : Nat) :
    ((l.foldl State.endCalve s).calveOf k).level = if k ∈ l then 0 else (s.calveOf k).level := by
  induction l generalizing s with
  | nil => simp
  | cons sec l ih =>
    rw [List.foldl_cons, ih, level_endCalve]
    by_cases hl : k ∈ l <;> by_cases hk : k = sec <;> simp [hl, hk]

theorem plantReserveEffect_sends {d : Desc} {u : State}
    (h : ∀ e ∈ reserveEntries d, e.1 < 1024 ∧ e.2 < 8 ∧ e.1 ≠ u.node ∧ (u.hops e.1).isSome = true) :
    plantReserveEffect d u =
      { st := (u.setPlant { u.plant with
          reqs := u.plant.reqs ++ [
            { page := d.page, series := d.series, seq := d.seq, handle := (Config.handle u.plant.handles).toNat, stamp := u.now,
              deadline := u.now + nsOf (d.f32 20), parts := (reserveEntries d).map fun e => (e.1, e.2, false) }]
          handles := u.plant.handles + 1 }).sendReserve
            { page := d.page, series := d.series, seq := d.seq, handle := (Config.handle u.plant.handles).toNat, stamp := u.now,
              deadline := u.now + nsOf (d.f32 20), parts := (reserveEntries d).map fun e => (e.1, e.2, false) }
        await := some .own } := by
  unfold plantReserveEffect
  simp only
  rw [if_neg, if_neg]
  · rw [List.any_eq_true]
    rintro ⟨e, he, hno⟩
    obtain ⟨-, -, -, hhops⟩ := h e he
    rw [Option.isNone_iff_eq_none.mp hno] at hhops
    cases hhops
  · rw [List.any_eq_true]
    rintro ⟨e, he, hno⟩
    obtain ⟨hnode, hpart, hother, -⟩ := h e he
    simp [Nat.not_le.mpr hnode, Nat.not_le.mpr hpart, hother] at hno

/-- Settles O22: each reply of the commands of the plant. -/
theorem plantCommands : Obligations.PlantCommands := by
  unfold Obligations.PlantCommands
  intro d s u
  refine ⟨?record, ?calve, ?clear, ?reserve, ?release⟩
  case record => exact fun ht => gives_plain rfl (exec_supplyRecord d s) ht rfl rfl
  case calve => exact fun ht => gives_plain rfl (exec_calve d s) ht rfl rfl
  case clear =>
    intro ht
    obtain ⟨t, hexec, hdrive⟩ := gives_plain rfl (exec_calveClear d s) ht rfl rfl
    refine ⟨t, hexec, hdrive, fun k hk => ?_⟩
    rw [calveOf_of_drive hdrive]
    exact (level_foldl_endCalve _ _ _).trans (if_pos hk)
  case reserve =>
    intro ht h
    exact ⟨_, rfl, rfl, rfl, rfl, rfl, rfl, rfl, gives_plain rfl (exec_plantReserve d s) ht (plantReserveEffect_sends h) rfl⟩
  case release =>
    intro r ht hr
    refine gives_now rfl (exec_plantRelease d s) ht ?_ rfl
    simp only [hr]


end Sys2Proof.Machine

namespace Sys2Proof.Machine
open Sys2Proof

/-! ### What taking a partition out of service leaves alone -/

/-- The clock and the power state, the freeze, the trip records, and what every partition and every cell stands at. -/
structure Outline where
  now : Time
  power : Power
  frz : Freeze
  prot : Tab Prot
  part : Nat → PState
  cell : Nat → CState × Nat

def State.outline (s : State) : Outline where
  now := s.now
  power := s.power
  frz := s.frz
  prot := s.prot
  part := fun p => (s.part p).st
  cell := fun l => ((s.cell l).st, (s.cell l).reason)

theorem outline_of_drive {a b : State} (h : a.drive = b.drive) : a.outline = b.outline :=
  (congrArg (fun x : State => x.outline) h :)

theorem foldl_outline {α : Type} {f : State → α → State} (hf : ∀ s a, (f s a).outline = s.outline) (l : List α) (s : State) :
    (l.foldl f s).outline = s.outline := by
  induction l generalizing s with
  | nil => rfl
  | cons a l ih => exact (ih _).trans (hf s a)

theorem ite_outline {c : Prop} [Decidable c] {a b s : State} (ha : a.outline = s.outline) (hb : b.outline = s.outline) :
    (if c then a else b).outline = s.outline := by
  split
  · exact ha
  · exact hb

theorem setPart_outline (s : State) (p : Nat) (x : Part) :
    (s.setPart p x).outline = { s.outline with part := Function.update s.outline.part p x.st } := by
  have hpart : (fun q => ((s.setPart p x).part q).st) = Function.update s.outline.part p x.st := by
    funext q
    by_cases h : q = p
    · rw [h, setPart_self, Function.update_self]
    · rw [setPart_other s p q x h, Function.update_of_ne h]
      rfl
  exact congrArg (fun f => { s.outline with part := f }) hpart

theorem setPart_outline_of_st {s : State} {p : Nat} {x : Part} (h : x.st = (s.part p).st) : (s.setPart p x).outline = s.outline := by
  have hsame : Function.update s.outline.part p x.st = s.outline.part := by
    rw [h]
    exact Function.update_eq_self p s.outline.part
  rw [setPart_outline, hsame]

theorem setProt_outline (s : State) (p : Nat) (x : Prot) : (s.setProt p x).outline = { s.outline with prot := Tab.set s.prot {} p x } := rfl

theorem setCell_outline (s : State) (l : Nat) (c : Cell) :
    (s.setCell l c).outline = { s.outline with cell := Function.update s.outline.cell l (c.st, c.reason) } := by
  have hcell : (fun m => (((s.setCell l c).cell m).st, ((s.setCell l c).cell m).reason)) = Function.update s.outline.cell l (c.st, c.reason) := by
    funext m
    by_cases h : m = l
    · rw [h, setCell_self, Function.update_self]
    · rw [setCell_other s l m c h, Function.update_of_ne h]
      rfl
  exact congrArg (fun f => { s.outline with cell := f }) hcell

@[simp] theorem setLane_outline (s : State) (l : Nat) (x : Lane) : (s.setLane l x).outline = s.outline := rfl
@[simp] theorem setAux_outline (s : State) (c : Nat) (x : Aux) : (s.setAux c x).outline = s.outline := rfl
@[simp] theorem setCan_outline (s : State) (c : Nat) (x : Can) : (s.setCan c x).outline = s.outline := rfl
@[simp] theorem setMot_outline (s : State) (p : Nat) (x : Mot) : (s.setMot p x).outline = s.outline := rfl
@[simp] theorem setBrk_outline (s : State) (p : Nat) (x : Brk) : (s.setBrk p x).outline = s.outline := rfl
@[simp] theorem setFb_outline (s : State) (p : Nat) (x : Fb) : (s.setFb p x).outline = s.outline := rfl
@[simp] theorem setCtl_outline (s : State) (p : Nat) (x : Ctl) : (s.setCtl p x).outline = s.outline := rfl
@[simp] theorem setMod_outline (s : State) (p : Nat) (x : Mod) : (s.setMod p x).outline = s.outline := rfl
@[simp] theorem setLease_outline (s : State) (p : Nat) (x : Lease) : (s.setLease p x).outline = s.outline := rfl

@[simp] theorem finish_outline (s : State) (n x q st : Nat) (res : List Byte) : (s.finish n x q st res).outline = s.outline :=
  outline_of_drive (finish_drive _ _ _ _ _ _)
@[simp] theorem emit_outline (s : State) (cls src code : Nat) (data : List Byte) : (s.emit cls src code data).outline = s.outline :=
  outline_of_drive (emit_drive _ _ _ _ _)
@[simp] theorem alarm_outline (s : State) (src code : Nat) (data : List Byte) : (s.alarm src code data).outline = s.outline :=
  outline_of_drive (alarm_drive _ _ _ _)
@[simp] theorem inform_outline (s : State) (src code : Nat) (data : List Byte) : (s.inform src code data).outline = s.outline :=
  outline_of_drive (inform_drive _ _ _ _)
@[simp] theorem moraine_outline (s : State) (p cause code : Nat) : (s.moraine p cause code).outline = s.outline :=
  outline_of_drive (moraine_drive _ _ _ _)
@[simp] theorem mark_outline (s : State) (k e u : Nat) : (s.mark k e u).outline = s.outline := outline_of_drive (mark_drive _ _ _ _)
@[simp] theorem stageDevice_outline (s : State) (k key : Nat) (body : List Byte) : (s.stageDevice k key body).outline = s.outline :=
  outline_of_drive (stageDevice_drive _ _ _ _)
@[simp] theorem stageRec_outline (s : State) (k a b c n : Nat) (body : List Byte) : (s.stageRec k a b c n body).outline = s.outline :=
  outline_of_drive (stageRec_drive _ _ _ _ _ _ _)

/-! #### Frames of the fabric, channels, controllers -/

theorem setFab_outline (s : State) (f : Fab) : State.outline { s with fab := f } = s.outline := rfl

theorem transmit_outline (s : State) (k : Nat) (bytes : List Byte) : (s.transmit k bytes).outline = s.outline := ite_outline rfl rfl

theorem launch_outline (s : State) (cls dst kind q n : Nat) (body : List Byte) : (s.launch cls dst kind q n body).outline = s.outline := by
  unfold State.launch
  simp only
  split
  · exact foldl_outline (fun s k => transmit_outline s k _) _ _
  · split
    · exact transmit_outline _ _ _
    · rfl

theorem fabSendFrom_outline (s : State) (origin : Option Nat) (cls dst kind : Nat) (body : List Byte) :
    (s.fabSendFrom origin cls dst kind body).outline = s.outline := by
  unfold State.fabSendFrom
  simp only
  rw [launch_outline]
  split
  · rw [mark_outline, setFab_outline, setFab_outline]
  · rw [setFab_outline]

theorem fabSend_outline (s : State) (cls dst kind : Nat) (body : List Byte) : (s.fabSend cls dst kind body).outline = s.outline :=
  fabSendFrom_outline s none cls dst kind body

theorem remoteTrips_outline (s : State) (p cause : Nat) : (s.remoteTrips p cause).outline = s.outline :=
  ite_outline rfl (foldl_outline (fun s _ => fabSend_outline s _ _ _ _) _ _)

theorem auxHalt_outline (s : State) (c : Nat) : (s.auxHalt c).outline = s.outline := setAux_outline s c _

theorem auxAllOff_outline (s : State) : s.auxAllOff.outline = s.outline := foldl_outline auxHalt_outline auxCodes s

theorem switchOff_outline (s : State) (c : Nat) : (s.switchOff c).outline = s.outline := ite_outline rfl (auxHalt_outline s c)

theorem canRxDone_outline (s : State) (c : Nat) : (s.canRxDone c).outline = s.outline := by
  unfold State.canRxDone
  split
  · rfl
  · rw [finish_outline, setCan_outline]

theorem canTxDone_outline (s : State) (c k status : Nat) (result : List Byte) : (s.canTxDone c k status result).outline = s.outline := by
  unfold State.canTxDone
  simp only
  split
  · rfl
  · rw [finish_outline, setCan_outline]

theorem canOff_outline (s : State) (c : Nat) : (s.canOff c).outline = s.outline := by
  have hdone : (((s.canRxDone c).canRxDone c).canTxAll c 0x0E08).outline = s.outline :=
    (foldl_outline (fun s k => canTxDone_outline s c k 0x0E08 []) [0, 1, 2, 2] ((s.canRxDone c).canRxDone c)).trans
      ((canRxDone_outline _ c).trans (canRxDone_outline s c))
  unfold State.canOff
  simp only
  rw [setCan_outline]
  split
  · rw [finish_outline, setCan_outline, hdone]
  · exact hdone

theorem canAllOff_outline (s : State) : s.canAllOff.outline = s.outline :=
  foldl_outline (fun s c => (setCan_outline _ c _).trans (canOff_outline s c)) (List.range 4) s

/-! #### A partition stops -/

theorem blockLanes_outline (s : State) (p : Nat) : (s.blockLanes p).outline = s.outline :=
  foldl_outline (fun s l => setLane_outline s l _) (s.lanesOf p) s

theorem leaveRunning_outline (s : State) (p : Nat) : (s.leaveRunning p).outline = s.outline := by
  unfold State.leaveRunning
  simp only
  split
  · split
    · rw [inform_outline, setBrk_outline, setMot_outline]
    · rw [setBrk_outline, setMot_outline]
  · rfl

theorem dropWaits_outline (s : State) (p : Nat) : (s.dropWaits p).outline = s.outline := by
  have hdone (l : List (Nat × Nat × Nat)) :
      (l.foldl (fun s d => s.finish d.1 d.2.1 d.2.2 0x0004 []) (s.setPart p { s.part p with disabling := [] })).outline = s.outline :=
    (foldl_outline (fun s d => finish_outline s _ _ _ _ _) l _).trans (setPart_outline_of_st rfl)
  unfold State.dropWaits
  simp only
  split
  · rw [finish_outline, setCtl_outline, hdone]
  · exact hdone _

theorem endControl_outline (s : State) (p : Nat) : (s.endControl p).outline = s.outline := by
  unfold State.endControl
  simp only
  rw [setCtl_outline, setFb_outline, setBrk_outline, State.driveBrakes]
  exact (foldl_outline switchOff_outline _ _).trans (setBrk_outline s p _)

/-- A table in which the entries of some keys changed reads as before where the change does not show. -/
theorem get_map_entries {α β : Type} (m : Tab α) (d : α) (k : Nat) (f : α → α) (c : α → Bool) (view : α → β) (h : ∀ x, view (f x) = view x) :
    view (Tab.get (m.map fun e => if c e.2 then (e.1, f e.2) else e) d k) = view (Tab.get m d k) := by
  induction m with
  | nil => rfl
  | cons e m ih =>
    obtain ⟨j, x⟩ := e
    simp only [List.map_cons, Tab.get]
    by_cases hc : c x = true <;> by_cases hj : j = k <;> simp [hc, hj, h, ih]

theorem clearCarry_outline (s : State) (p : Nat) : (s.clearCarry p).outline = s.outline := by
  have hcell : (s.clearCarry p).outline.cell = s.outline.cell := funext fun l =>
    get_map_entries s.cells {} l (fun c => { c with carry := 0, due := 0 }) (fun c => c.used && c.part = p) (fun c => (c.st, c.reason)) fun _ => rfl
  exact congrArg (fun f => { s.outline with cell := f }) hcell

theorem quiet_outline (s : State) (p : Nat) : (s.quiet p).outline = s.outline := by
  unfold State.quiet
  simp only
  rw [setMod_outline, setBrk_outline, clearCarry_outline, endControl_outline, dropWaits_outline, leaveRunning_outline, blockLanes_outline]

theorem leaseTo_outline (s : State) (p : Nat) (h : Option Nat) : (s.leaseTo p h).outline = s.outline := by
  unfold State.leaseTo
  simp only
  rw [stageDevice_outline, setLease_outline]

theorem grant_outline (s : State) (n set : Nat) : (s.grant n set).1.outline = s.outline :=
  foldl_outline (fun s p => leaseTo_outline s p (some n)) ((maskList 8 set).filter fun p => !decide ((s.lease p).holder = some n)) s

theorem leaseScan_outline (l : List LeaseReq) (s : State) : (s.leaseScan l).outline = s.outline := by
  induction l generalizing s with
  | nil => rfl
  | cons r rest ih =>
    unfold State.leaseScan
    split
    · rw [ih, outline_of_drive (audit_drive _ _ _ _ _ _), outline_of_drive (leaseDone_drive _ _ _ _ _ _), grant_outline]
      rfl
    · exact ih s

theorem setPState_outline (s : State) (p : Nat) (x : PState) :
    (s.setPState p x).outline = { s.outline with part := Function.update s.outline.part p x } := by
  have hset (w : State) (h : w.outline = s.outline) : (w.setPart p { w.part p with st := x, phase := 0, stamp := w.now }).outline =
      { s.outline with part := Function.update s.outline.part p x } := by
    rw [setPart_outline, h]
  have hscan (c : Prop) [Decidable c] (w : State) : (if c then w.scanLeases else w).outline = w.outline :=
    ite_outline (leaseScan_outline _ w) rfl
  have hmot (c : Prop) [Decidable c] (w : State) (m : Tab Mot) : (if c then { w with mot := m } else w).outline = w.outline :=
    ite_outline rfl rfl
  have hclear (c : Prop) [Decidable c] : (if c then s.clearCarry p else s).outline = s.outline := ite_outline (clearCarry_outline s p) rfl
  unfold State.setPState
  exact (hscan _ _).trans ((hmot _ _ _).trans (hset _ (hclear _)))

theorem toTripped_outline (s : State) (p : Nat) :
    (s.toTripped p).outline = { s.outline with part := Function.update s.outline.part p .tripped } := by
  rw [State.toTripped, setPState_outline, quiet_outline]

/-! ### Trips -/

/-- An energised partition trips on a source that is new to it. -/
theorem assertSource_trips {s : State} {p cause source : Nat} (value : Q) (tenant : Nat) (h : (s.part p).st.energised = true)
    (hnew : ¬ (lastingCause cause = true ∧ (s.protOf p).active.contains (cause, source) = true)) :
    ∃ x : Prot, (s.assertSource p cause source value tenant).outline = { s.outline with
        part := Function.update s.outline.part p .tripped
        prot := Tab.set s.prot {} p { x with firstAt := some s.now, firstCause := cause, firstSource := source, later := 0 } } := by
  unfold State.assertSource
  simp only
  rw [if_neg hnew, if_pos h, moraine_outline, remoteTrips_outline, emit_outline, toTripped_outline, setProt_outline]
  exact ⟨_, rfl⟩

/-- Settles O38: the trip records its cause in the partition's protection entry before it takes the partition to TRIPPED. -/
theorem tripKeepsFirstCause : Obligations.TripKeepsFirstCause := by
  unfold Obligations.TripKeepsFirstCause
  intro s p cause source value tenant h hnew
  obtain ⟨x, hout⟩ := assertSource_trips value tenant h hnew
  have hst (q : Nat) : ((s.assertSource p cause source value tenant).part q).st = Function.update s.outline.part p .tripped q :=
    congrArg (fun o : Outline => o.part q) hout
  have hprot : (s.assertSource p cause source value tenant).protOf p =
      { x with firstAt := some s.now, firstCause := cause, firstSource := source, later := 0 } :=
    (congrArg (fun o : Outline => Tab.get o.prot {} p) hout).trans (Tab.get_set_self _ _ _ _)
  refine ⟨?tripped, ?at_, ?cause, ?source, ?later, ?others⟩
  case tripped => rw [hst, Function.update_self]
  case at_ => rw [hprot]
  case cause => rw [hprot]
  case source => rw [hprot]
  case later => rw [hprot]
  case others =>
    intro q hq
    rw [hst, Function.update_of_ne hq]
    rfl

/-- A source that asserts leaves the clock, the freeze and every cell as they are. -/
theorem assertSource_outline (s : State) (p cause source : Nat) (value : Q) (tenant : Nat) :
    ∃ prot part, (s.assertSource p cause source value tenant).outline = { s.outline with prot := prot, part := part } := by
  have hnext (w : State) (r : TripRec) : ∃ prot, (w.nextCause p r).outline = { w.outline with prot := prot } := by
    unfold State.nextCause
    simp only
    split
    · exact ⟨_, emit_outline _ _ _ _ _⟩
    · exact ⟨_, rfl⟩
  by_cases hnew : lastingCause cause = true ∧ (s.protOf p).active.contains (cause, source) = true
  · rw [State.assertSource, if_pos hnew]
    exact ⟨_, _, rfl⟩
  by_cases hlive : (s.part p).st.energised = true
  · obtain ⟨x, hout⟩ := assertSource_trips value tenant hlive hnew
    exact ⟨_, _, hout⟩
  unfold State.assertSource
  simp only
  rw [if_neg hnew, if_neg hlive]
  split
  · exact ⟨_, _, alarm_outline _ _ _ _⟩
  · obtain ⟨prot, hout⟩ := hnext (s.setProt p (if lastingCause cause = true then (s.protOf p).drive (cause, source) else s.protOf p))
      { t := s.now, cause := cause, source := source, before := (s.part p).st.code, order := 0, more := 0, value := value,
        cycle := s.cycleNo p % 2 ^ 32, tenant := tenant }
    exact ⟨_, _, hout⟩

theorem assertSource_cell (s : State) (p cause source : Nat) (value : Q) (tenant : Nat) :
    (s.assertSource p cause source value tenant).outline.cell = s.outline.cell := by
  obtain ⟨prot, part, hout⟩ := assertSource_outline s p cause source value tenant
  rw [hout]

/-! ### A lost cell -/

theorem setBypassEntry_outline (s : State) (c : Cell) (v : Nat) : (s.setBypassEntry c v).outline = s.outline := stageRec_outline _ _ _ _ _ _ _

theorem tripExhausted_cell (s : State) (p a : Nat) : (s.tripExhausted p a).outline.cell = s.outline.cell := by
  unfold State.tripExhausted
  simp only
  split
  · rw [assertSource_cell, assertSource_cell]
  · rw [assertSource_cell]

theorem dropExhaustion_cell (s : State) (p : Nat) : (s.dropExhaustion p).outline.cell = s.outline.cell := by
  unfold State.dropExhaustion
  split <;> rfl

/-- A lost cell stands BYPASSED, or ISOLATED where its lane could not be, with the reason of its loss. -/
theorem loseCell_cell {s : State} {l reason : Nat} (hused : (s.cell l).used = true) (hb : (s.cell l).st ≠ .bypassed) (hi : (s.cell l).st ≠ .isolated) :
    (s.loseCell l reason).outline.cell =
      Function.update s.outline.cell l (if reason = 6 then CState.isolated else CState.bypassed, reason) := by
  unfold State.loseCell
  simp only
  rw [if_neg (by simp [hused, hb, hi])]
  have halarm (c : Prop) [Decidable c] (w : State) (src code : Nat) (data : List Byte) :
      (if c then w.alarm src code data else w).outline.cell = w.outline.cell :=
    congrArg Outline.cell (ite_outline (alarm_outline w src code data) rfl)
  have hout (c : Prop) [Decidable c] (w : State) (p a : Nat) :
      (if c then (w.tripExhausted p a).dropExhaustion p else w).outline.cell = w.outline.cell := by
    split
    · rw [dropExhaustion_cell, tripExhausted_cell]
    · rfl
  rw [hout, halarm, State.alarmBypassed, alarm_outline]
  split
  · rw [setLane_outline, setCell_outline]
  · rw [setBypassEntry_outline, setCell_outline]

/-- Settles O36: what a lost cell goes through after it is set out of use touches no cell's state. -/
theorem lostCellIsOut : Obligations.LostCellIsOut := by
  unfold Obligations.LostCellIsOut
  intro s l reason hused hb hi
  have hcell (m : Nat) : (((s.loseCell l reason).cell m).st, ((s.loseCell l reason).cell m).reason) =
      Function.update s.outline.cell l (if reason = 6 then CState.isolated else CState.bypassed, reason) m :=
    congrFun (loseCell_cell hused hb hi) m
  have hself := hcell l
  rw [Function.update_self] at hself
  refine ⟨congrArg Prod.fst hself, congrArg Prod.snd hself, fun m hm => ?_⟩
  have hother := hcell m
  rw [Function.update_of_ne hm] at hother
  exact congrArg Prod.fst hother

/-! ### Reporting -/

theorem assertSource_power (s : State) (p cause source : Nat) (value : Q) (tenant : Nat) :
    (s.assertSource p cause source value tenant).outline.power = s.outline.power := by
  obtain ⟨prot, part, hout⟩ := assertSource_outline s p cause source value tenant
  rw [hout]

theorem assertSource_frz (s : State) (p cause source : Nat) (value : Q) (tenant : Nat) :
    (s.assertSource p cause source value tenant).outline.frz = s.outline.frz := by
  obtain ⟨prot, part, hout⟩ := assertSource_outline s p cause source value tenant
  rw [hout]

theorem allOff_outline (s : State) : s.auxAllOff.canAllOff.announceFailure.outline = s.outline := by
  rw [State.announceFailure, fabSend_outline, canAllOff_outline, auxAllOff_outline]

/-- The freeze engine has begun (R450). -/
def State.freezeBegun (s : State) (pin : Bool) : State :=
  { s with
    power := .entering
    frz := { s.frz with
      stoHeld := maskOf ((List.range 2).filter fun g => (Tab.get s.sto {} g).active), state := 1, causePin := pin, tFreeze := s.now
      freezes := (s.frz.freezes + 1) % 65536, confirmed := [], trained := (s.lanes.filter fun e => e.2.lstate = 4).map fun e => e.1
      unconfirmed := 0, chipFailed := s.sys.chipDown, latched := [], readOut := [] } }

theorem beginFreeze_eq (s : State) (pin : Bool) (tenant : Nat) : s.beginFreeze pin tenant =
    (((List.range 8).filter fun p => (s.part p).st.energised).foldl (fun s p => s.assertSource p 0x0906 0xFFFF 0 tenant)
      (s.freezeBegun pin)).auxAllOff.canAllOff.announceFailure := rfl

/-- The trips that a freeze begins with leave the power state and the freeze engine alone (R450). -/
theorem beginFreeze_power (s : State) (pin : Bool) (tenant : Nat) : (s.beginFreeze pin tenant).outline.power = .entering := by
  have htrips (l : List Nat) (w : State) : (l.foldl (fun s p => s.assertSource p 0x0906 0xFFFF 0 tenant) w).outline.power = w.outline.power := by
    induction l generalizing w with
    | nil => rfl
    | cons p l ih => exact (ih _).trans (assertSource_power w p 0x0906 0xFFFF 0 tenant)
  rw [beginFreeze_eq, allOff_outline, htrips]
  rfl

theorem beginFreeze_frz (s : State) (pin : Bool) (tenant : Nat) : (s.beginFreeze pin tenant).outline.frz = (s.freezeBegun pin).frz := by
  have htrips (l : List Nat) (w : State) : (l.foldl (fun s p => s.assertSource p 0x0906 0xFFFF 0 tenant) w).outline.frz = w.outline.frz := by
    induction l generalizing w with
    | nil => rfl
    | cons p l ih => exact (ih _).trans (assertSource_frz w p 0x0906 0xFFFF 0 tenant)
  rw [beginFreeze_eq, allOff_outline, htrips]
  rfl

theorem streams_of_asked {p q : Page} (h : p.asked = q.asked) : p.streams = q.streams := (congrArg Page.streams h :)

/-- A descriptor that succeeds at once leaves its sender's streams as its effect does. -/
theorem streams_of_reply {i : Instr} {s u v : State} {info : OpInfo} {d : Desc} {buf : Option Nat} {eff : State → Reply}
    (ho : s.orderOf i = some ⟨info, d, buf⟩) (he : exec i s = .next (serve info d buf eff s)) (ht : Taken i s u) (hr : eff u = { st := v })
    (haudit : info.audit = false) (hkept : info.kept = false) :
    ∃ t, exec i s = .next t ∧ t.drive = v.drive ∧ (t.page d.page).streams = (v.page d.page).streams := by
  have hexec := exec_of_taken ho he ht
  obtain ⟨t, hnext, hdrive⟩ := gives_now ho he ht hr hkept
  obtain rfl : t = u.perform info d eff := by
    rw [hexec] at hnext
    cases hnext
    rfl
  exact ⟨_, hexec, hdrive, streams_of_asked (perform_asked hr haudit hkept d.page)⟩

theorem telemSubEffect_fits {d : Desc} {u : State} {x : Stream}
    (hx : x = { part := d.target, cls := d.u8 17, rate := d.u8 18, cellArm := d.u8 19, mask := d.u32 20, count := d.u32 24, buffer := d.buffer })
    (hmask : d.u32 20 ≠ 0) (hsize : u.recordSize d.target (d.u32 20) (d.u8 19) ≤ 1024)
    (hown : ((u.streams.filter fun e => ¬ (e.1 = d.page ∧ e.2.1 = d.u8 16)).filter fun e => e.1 = d.page).length < 16)
    (hall : (u.streams.filter fun e => ¬ (e.1 = d.page ∧ e.2.1 = d.u8 16)).length < 256)
    (hload : (((u.streams.filter fun e => ¬ (e.1 = d.page ∧ e.2.1 = d.u8 16)).map fun e => u.streamLoad e.2.2).foldl (· + ·) 0) + u.streamLoad x ≤
      256000000) : telemSubEffect d u = { st := u.setStream d.page (d.u8 16) (some x) } := by
  subst hx
  exact (if_neg fun h => h.elim hmask (Nat.not_lt.mpr hsize)).trans
    ((if_neg fun h => h.elim (Nat.not_le.mpr hown) (Nat.not_le.mpr hall)).trans (if_neg (Nat.not_lt.mpr hload)))

theorem setStream_streams (s : State) (n k : Nat) (x : Option Stream) :
    Tab.get ((s.setStream n k x).page n).streams none k = x := by
  rw [State.setStream, setPage_self, Tab.get_set_self]

theorem setStream_drive (s : State) (n k : Nat) (x : Option Stream) : (s.setStream n k x).drive = s.drive := rfl

/-- Settles O24: streams stay as the effect set them, and a freeze that begins stands before its descriptor waits. -/
theorem reportingCommands : Obligations.ReportingCommands := by
  unfold Obligations.ReportingCommands
  intro d s u
  refine ⟨?sub, ?unsub, ?config, ?freeze⟩
  case sub =>
    intro x ht hx hmask hsize hown hall hload
    obtain ⟨t, hexec, hdrive, hstreams⟩ := streams_of_reply rfl (exec_telemSub d s) ht (telemSubEffect_fits hx hmask hsize hown hall hload) rfl rfl
    exact ⟨t, hexec, hdrive, by rw [hstreams, setStream_streams]⟩
  case unsub =>
    intro x ht hx hpart
    obtain ⟨t, hexec, hdrive, hstreams⟩ :=
      streams_of_reply (v := u.setStream d.page (d.u8 16) none) rfl (exec_telemUnsub d s) ht (by simp only [hx, hpart, if_true]) rfl rfl
    exact ⟨t, hexec, hdrive, by rw [hstreams, setStream_streams]⟩
  case config => exact eventConfig_taken
  case freeze =>
    intro ht
    obtain ⟨t, hexec, hdrive⟩ := gives_plain rfl (exec_freeze d s) ht rfl rfl
    have hout := outline_of_drive hdrive
    have hfrz : t.frz = (u.freezeBegun false).frz := (congrArg Outline.frz hout).trans (beginFreeze_frz u false 0)
    exact ⟨t, hexec, hdrive, (congrArg Outline.power hout).trans (beginFreeze_power u false 0), by rw [hfrz]; rfl, by rw [hfrz]; rfl,
      by rw [hfrz]; rfl⟩

end Sys2Proof.Machine

namespace Sys2Proof.Machine
open Sys2Proof

/-! ### What completions leave of storage -/

theorem post_stor (s : State) (w : Post) : (s.post w).stor = s.stor := by
  unfold State.post
  split <;> rfl

theorem fireVector_stor (s : State) (v : Nat) : (s.fireVector v).stor = s.stor := by
  unfold State.fireVector
  simp only
  split
  · rfl
  · exact post_stor _ _

theorem signal_stor (s : State) (n r : Nat) (b : Bool) : (s.signal n r b).stor = s.stor := by
  have heither (c : Prop) [Decidable c] (a b : State) (v : Nat) (ha : a.stor = s.stor) (hb : b.stor = s.stor) :
      (if c then a.fireVector v else b).stor = s.stor := by
    split
    · rw [fireVector_stor, ha]
    · exact hb
  exact heither _ _ _ _ rfl rfl

theorem postCompletion_stor (s : State) (n : Nat) (c : CRec) : (s.postCompletion n c).stor = s.stor := by
  unfold State.postCompletion
  simp only
  split
  · split
    · exact (signal_stor _ _ _ _).trans (post_stor s _)
    · exact post_stor s _
  · rfl

theorem postCompletion_find (s : State) (n : Nat) (c : CRec) (m x q : Nat) :
    ((s.postCompletion n c).page m).find x q = (s.page m).find x q := by
  unfold Page.find
  rw [(postCompletion_page s n c m).1]

theorem urgentDone_stor (s : State) (n x q : Nat) : (s.urgentDone n x q).stor = s.stor := by
  unfold State.urgentDone
  split <;> rfl

theorem foldl_postCompletion_stor (n : Nat) (f : Acc → CRec) (l : List Acc) (s : State) :
    (l.foldl (fun s a => s.postCompletion n (f a)) s).stor = s.stor := by
  induction l generalizing s with
  | nil => rfl
  | cons a r ih => exact (ih _).trans (postCompletion_stor s n (f a))

theorem fencesDone_stor (n : Nat) (l : List Acc) (s : State) : (s.fencesDone n l).stor = s.stor := by
  induction l generalizing s with
  | nil => rfl
  | cons a r ih =>
    unfold State.fencesDone
    simp only
    split
    · rw [ih]
      split
      · rfl
      · exact postCompletion_stor _ _ _
    · rfl

theorem finish_ok_stor (s : State) (n x q : Nat) (result : List Byte) : (s.finish n x q 0 result).stor = s.stor := by
  unfold State.finish
  dsimp only
  split
  case h_1 => rfl
  case h_2 a _ =>
    rw [fencesDone_stor, urgentDone_stor, foldl_postCompletion_stor n (·.record 1 [])]
    split
    · rw [if_pos rfl]
      rfl
    · exact postCompletion_stor _ _ _

theorem begun_stor (u : State) (i : OpInfo) (d : Desc) (aw : Option Await) (result : List Byte) : (u.begun i d aw result).stor = u.stor := by
  unfold State.begun
  simp only
  split
  · exact (urgentDone_stor _ _ _ _).trans (postCompletion_stor _ _ _)
  · rfl

section
variable {i : Instr} {s u v : State} {info : OpInfo} {d : Desc} {buf : Option Nat} {eff : State → Reply}

/-- A descriptor that succeeds at once leaves storage as its effect does. -/
theorem stor_of_reply (ho : s.orderOf i = some ⟨info, d, buf⟩) (he : exec i s = .next (serve info d buf eff s)) (ht : Taken i s u)
    (hr : eff u = { st := v }) (haudit : info.audit = false) (hkept : info.kept = false) :
    ∃ t, exec i s = .next t ∧ t.drive = v.drive ∧ t.stor = v.stor := by
  have hexec := exec_of_taken ho he ht
  have hperform : u.perform info d eff = (v.begun info d none []).finish d.page d.series d.seq 0 [] := perform_plain hr haudit hkept
  refine ⟨_, hexec, ?_, ?_⟩
  · rw [hperform, finish_drive, begun_drive]
  · rw [hperform, finish_ok_stor, begun_stor]

/-- A descriptor that begins to wait stands started in its tenant's list, with what it waits for. -/
theorem waits_of_reply {w : Await} (ho : s.orderOf i = some ⟨info, d, buf⟩) (he : exec i s = .next (serve info d buf eff s)) (ht : Taken i s u)
    (hr : eff u = { st := u, await := some w }) (haudit : info.audit = false) (hkept : info.kept = false) :
    ∃ t b, exec i s = .next t ∧ t.drive = u.drive ∧ (t.page d.page).find d.series d.seq = some b ∧ b.started = true ∧ b.await = w := by
  have hexec := exec_of_taken ho he ht
  have hperform : u.perform info d eff = u.begun info d (some w) [] := (perform_plain hr haudit hkept).trans (if_pos rfl)
  have hentry := (changeAcc_find u d.page d.series d.seq (Acc.begun (some w) []) fun _ => ⟨rfl, rfl⟩).trans
    (congrArg (Option.map (Acc.begun (some w) [])) (find_of_taken (o := ⟨info, d, buf⟩) ho ht))
  rw [hperform] at hexec
  refine ⟨_, ?_, hexec, begun_drive _ _ _ _ _, ?_⟩
  · exact if d.flags.testBit 2 ∧ ¬ info.gives then
      { Acc.begun (some w) [] (Order.entry ⟨info, d, buf⟩) with early := true } else Acc.begun (some w) [] (Order.entry ⟨info, d, buf⟩)
  unfold State.begun
  simp only
  split
  · rw [urgentDone_page, postCompletion_find, changeAcc_find _ _ _ _ (fun a => { a with early := true }) fun _ => ⟨rfl, rfl⟩, hentry]
    exact ⟨rfl, rfl, rfl⟩
  · exact ⟨hentry, rfl, rfl⟩

/-- A descriptor whose operation is issued to NAND (R37). -/
theorem gives_issue {op key aux : Nat} {data : List Byte} (ho : s.orderOf i = some ⟨info, d, buf⟩)
    (he : exec i s = .next (serve info d buf eff s)) (ht : Taken i s u) (hr : eff u = u.issue d op key aux data)
    (hroom : u.stor.ops.length < 960) (hkept : info.kept = false) :
    Gives i s (u.setStor { u.stor with ops := u.stor.ops ++ [
      { page := d.page, series := d.series, seq := d.seq, op := op, target := d.target, data := data, key := key, aux := aux, buffer := d.buffer }] }) := by
  have hlen (o : StorOp) : ¬ 961 ≤ (u.stor.ops ++ [o]).length := by
    rw [List.length_append, List.length_singleton]
    omega
  obtain ⟨t, hexec, hdrive⟩ := gives_plain ho he ht (hr.trans (if_neg (hlen _))) hkept
  exact ⟨t, hexec, hdrive.trans (mark_drive _ _ _ _)⟩

end

theorem stored_of_medium {s : State} (f : State → Reply) (h : s.stor.state ≠ 0) : s.stored_ f = f s := if_neg h

/-- Settles O25: each reply of the storage descriptors, on a chip whose medium is in use. -/
theorem storageCommands : Obligations.StorageCommands := by
  unfold Obligations.StorageCommands
  intro d s u
  refine ⟨?unformatted, fun hmedium => ⟨?synced, ?sync, ?load, ?erase, ?export_, ?config, ?trigger, ?read, ?protect, ?auditRead, ?userWrite,
    ?userRead, ?userDelete, ?format⟩⟩
  case unformatted =>
    intro signed ht hsigned hstate hpresent
    exact gives_now rfl (exec_storFormat d signed s) ht (by simp [hstate, hpresent, hsigned]) rfl
  case synced =>
    intro ht hpend
    exact answers_of_reply rfl (exec_firnSync d s) ht ((stored_of_medium _ hmedium).trans (by rw [hpend]; rfl)) rfl (.inr rfl) rfl rfl
  case sync =>
    intro r ht hr
    exact waits_of_reply rfl (exec_firnSync d s) ht ((stored_of_medium _ hmedium).trans (by rw [hr]; rfl)) rfl rfl
  case load =>
    intro signed ht hsigned hro hrecs
    have hall : ((parseRecs (fitTo (d.u32 16) d.host).length (fitTo (d.u32 16) d.host)).any fun r => decide (r.stepping ≠ 0xB1)) = false := by
      simpa using hrecs
    exact gives_plain rfl (exec_firnLoad d signed s) ht ((stored_of_medium _ hmedium).trans (by simp only [hall, hsigned, hro]; rfl)) rfl
  case erase =>
    intro signed ht hsigned hro
    exact gives_plain rfl (exec_firnErase d signed s) ht ((stored_of_medium _ hmedium).trans (by simp only [hsigned, hro]; rfl)) rfl
  case export_ =>
    intro ht hlen hroom
    exact gives_issue rfl (exec_firnExport d s) ht ((stored_of_medium _ hmedium).trans (if_neg (Nat.not_lt.mpr hlen))) hroom rfl
  case config =>
    intro ht hneed hall
    obtain ⟨t, hexec, hdrive, hstor⟩ := stor_of_reply rfl (exec_moraineConfig d s) ht
      ((stored_of_medium _ hmedium).trans (if_neg fun h => h.elim (Nat.not_lt.mpr hneed) (Nat.not_lt.mpr hall))) rfl rfl
    exact ⟨t, hexec, hdrive, congrArg Stor.bufs hstor⟩
  case trigger =>
    intro ht
    obtain ⟨t, hexec, hdrive, hstor⟩ := stor_of_reply rfl (exec_moraineTrigger d s) ht (stored_of_medium _ hmedium) rfl rfl
    exact ⟨t, hexec, hdrive.trans (moraine_drive _ _ _ _), congrArg Stor.bufs hstor⟩
  case read =>
    intro c ht hcap hreads hram hroom
    exact gives_issue rfl (exec_moraineRead d s) ht ((stored_of_medium _ hmedium).trans (by simp only [hcap, hreads, hram]; rfl)) hroom rfl
  case protect =>
    intro c ht hcap hreads hquota
    have hfits : ¬ (d.u8 20 = 1 ∧ u.moraineBytes <
        4 * (((u.captures.filter fun x => x.prot && x.record ≠ c.record).map fun x => x.length + 32).foldl (· + ·) 0 + c.length + 32)) :=
      fun h => Nat.not_lt.mpr (hquota h.1) h.2
    exact gives_now rfl (exec_moraineProtect d s) ht ((stored_of_medium _ hmedium).trans (by simp only [hcap, hreads, hfits]; rfl)) rfl
  case auditRead =>
    intro ht hentry hroom
    exact gives_issue rfl (exec_auditRead d s) ht ((stored_of_medium _ hmedium).trans (if_pos (by simpa using hentry))) hroom rfl
  case userWrite =>
    intro ht hsome hquota hworn huse hroom
    exact gives_issue rfl (exec_userWrite d s) ht ((stored_of_medium _ hmedium).trans ((if_neg fun h => h.elim hsome (Nat.not_lt.mpr hquota)).trans
      ((if_neg (by simp [hworn])).trans (if_neg (Nat.not_lt.mpr huse))))) hroom rfl
  case userRead =>
    intro b ht hblob hgen hroom
    exact gives_issue rfl (exec_userRead d s) ht ((stored_of_medium _ hmedium).trans (by simp [hblob, hgen])) hroom rfl
  case userDelete =>
    intro b ht hblob
    obtain ⟨t, hexec, hdrive⟩ := gives_now (v := u.setBlob d.page (d.u8 16) none) rfl (exec_userDelete d s) ht
      ((stored_of_medium _ hmedium).trans (by simp only [hblob])) rfl
    refine ⟨t, hexec, hdrive, ?_⟩
    have hblobs : t.stor.medium.blobs = (u.setBlob d.page (d.u8 16) none).stor.medium.blobs := (congrArg (fun x : State => x.stor.medium.blobs) hdrive :)
    rw [State.blob, hblobs]
    exact Tab.get_set_self u.stor.medium.blobs none (64 * d.page + d.u8 16) none
  case format =>
    intro signed ht hsigned hstate
    exact gives_now rfl (exec_storFormat d signed s) ht (by simp [hstate, hsigned]) rfl

/-! ### The fabric -/

theorem mark_fab (s : State) (k e used : Nat) : (s.mark k e used).fab = s.fab := (congrArg State.fab (mark_drive s k e used) :)

/-- Frames that go out leave the bulk messages under way as they are. -/
theorem transmit_sends (s : State) (k : Nat) (bytes : List Byte) : (s.transmit k bytes).fab.sends = s.fab.sends := by
  unfold State.transmit
  simp only
  split <;> rfl

theorem foldl_sends {α : Type} {f : State → α → State} (hf : ∀ s a, (f s a).fab.sends = s.fab.sends) (l : List α) (s : State) :
    (l.foldl f s).fab.sends = s.fab.sends := by
  induction l generalizing s with
  | nil => rfl
  | cons a l ih => exact (ih _).trans (hf s a)

theorem launch_sends (s : State) (cls dst kind q n : Nat) (body : List Byte) : (s.launch cls dst kind q n body).fab.sends = s.fab.sends := by
  unfold State.launch
  simp only
  split
  · exact foldl_sends (fun s k => transmit_sends s k _) _ _
  · split
    · exact transmit_sends _ _ _
    · rfl

theorem fabSend_sends (s : State) (cls dst kind : Nat) (body : List Byte) : (s.fabSend cls dst kind body).fab.sends = s.fab.sends := by
  unfold State.fabSend State.fabSendFrom
  simp only
  rw [launch_sends]
  split
  · rw [mark_fab]
  · rfl

section Bulk
variable {d : Desc} {u : State}

/-- The state in which a bulk message of the sender is under way. -/
def State.bulkBegun (u : State) (d : Desc) : State :=
  { u with fab := { u.fab with
      msgs := (u.fab.msgs + 1) % 2 ^ 32
      sends := u.fab.sends ++ [{ page := d.page, series := d.series, seq := d.seq, msg := u.fab.msgs, dst := d.u16 16, began := u.now }] } }

theorem fabSendEffect_home {r : FabRecv} (hhome : d.u16 16 = u.node)
    (hrecv : u.bulkRecv u.node (d.u16 18) d.page (fitTo (d.u32 20) d.host).length = some r) :
    fabSendEffect d u =
      { st := (u.bulkBegun d).bulkArrived u.node u.fab.msgs (d.u16 18) d.page (d.u32 24) (fitTo (d.u32 20) d.host), await := some .own } :=
  (if_neg fun h => h.1 hhome).trans ((if_neg fun h => h.1 hhome).trans
    ((if_neg fun h => Option.some_ne_none r (hrecv.symm.trans (Option.isNone_iff_eq_none.mp h.2))).trans (if_pos hhome)))

theorem fabSendEffect_away (haway : d.u16 16 ≠ u.node) (hroute : (u.hops (u.standIn (d.u16 16))).isSome = true) (hroom : u.fabOpen < 7680) :
    fabSendEffect d u =
      { st := (List.range (((fitTo (d.u32 20) d.host).length + bulkChunk - 1) / bulkChunk)).foldl (fun (s : State) k =>
          s.fabSend 4 (d.u16 16) 1 (leBytes 2 (d.u16 18) ++ leBytes 2 d.page ++ leBytes 4 (d.u32 24) ++ leBytes 4 u.fab.msgs ++
            leBytes 4 (fitTo (d.u32 20) d.host).length ++ leBytes 4 (k * bulkChunk) ++
            ((fitTo (d.u32 20) d.host).drop (k * bulkChunk)).take bulkChunk)) (u.bulkBegun d)
        await := some .own } :=
  (if_neg fun h => by rw [Option.isNone_iff_eq_none.mp h.2] at hroute; cases hroute).trans ((if_neg fun h => Nat.not_le.mpr hroom h.2).trans
    ((if_neg fun h => haway h.1).trans (if_neg haway)))

/-- A message that arrives at home takes the receive that waits for it. -/
theorem bulkArrived_taken {r : FabRecv} {src msg dt st tag : Nat} {bs : List Byte} (h : u.bulkRecv src dt st bs.length = some r) :
    (u.bulkArrived src msg dt st tag bs).fab.recvs = u.fab.recvs.filter (fun x => x ≠ r) ∧
      (u.bulkArrived src msg dt st tag bs).fab.writes = u.fab.writes ++ [
        { page := r.page, series := r.series, seq := r.seq, src := src, msg := msg }] := by
  have hpost (w : State) (p : Post) : (w.post p).fab = w.fab := (congrArg State.fab (post_drive w p) :)
  unfold State.bulkArrived
  rw [h]
  simp only
  rw [hpost]
  exact ⟨rfl, rfl⟩

end Bulk

/-- Settles O26: each reply of the fabric's descriptors. -/
theorem fabricCommands : Obligations.FabricCommands := by
  unfold Obligations.FabricCommands
  intro d s u
  refine ⟨?takeover, ?alone, ?publish, ?home, ?away, ?receive⟩
  case takeover =>
    intro ready ht hready horder
    exact gives_plain rfl (exec_takeover d ready s) ht ((if_neg (not_not.mpr hready)).trans (if_neg (by simp [horder]))) rfl
  case alone =>
    intro ht hsubs
    exact gives_now rfl (exec_sharePublish d s) ht (by rw [hsubs]; rfl) rfl
  case publish =>
    intro n m ht hsubs haway hdirect
    have hself : ¬ (m ≠ 0xFFFF ∧ u.roleOf n ≠ 1 ∧ u.roleOf m = 1) := fun h => hdirect.elim h.1 fun h' => h'.elim h.2.1 fun h'' => h'' h.2.2
    exact gives_now rfl (exec_sharePublish d s) ht (by simp only [hsubs, List.foldl_cons, List.foldl_nil, if_neg hself, if_neg haway]) rfl
  case home =>
    intro r ht hhome hrecv
    have hr := fabSendEffect_home hhome hrecv
    refine ⟨gives_plain rfl (exec_fabSend d s) ht (hr.trans (by rw [hr])) rfl, ?_⟩
    rw [hr]
    exact bulkArrived_taken (u := u.bulkBegun d) hrecv
  case away =>
    intro ht haway hroute hroom
    have hr := fabSendEffect_away haway hroute hroom
    refine ⟨gives_plain rfl (exec_fabSend d s) ht (hr.trans (by rw [hr])) rfl, ?_⟩
    rw [hr]
    exact foldl_sends (fun s _ => fabSend_sends s _ _ _ _) _ (u.bulkBegun d)
  case receive => exact fun ht hroom => gives_plain rfl (exec_fabRecv d s) ht (if_neg (Nat.not_le.mpr hroom)) rfl

/-! ### The CAN ports -/

theorem can_of_drive {a b : State} (h : a.drive = b.drive) (c : Nat) : a.can c = b.can c := (congrArg (fun x : State => x.can c) h :)

/-- A transmit buffer that completes is empty, with nothing behind it where nothing was. -/
theorem canTxDone_clears {s : State} {c k status : Nat} {result : List Byte} (hnext : (s.can c).next = none) :
    ((s.canTxDone c k status result).can c).next = none ∧
      ∀ j, Tab.get ((s.canTxDone c k status result).can c).tx none j = if j = k then none else Tab.get (s.can c).tx none j := by
  unfold State.canTxDone
  simp only
  split
  case h_1 hempty =>
    refine ⟨hnext, fun j => ?_⟩
    split
    case isTrue hj => rw [hj, hempty]
    case isFalse => rfl
  case h_2 =>
    rw [can_of_drive (finish_drive _ _ _ _ _ _), setCan_self, hnext]
    refine ⟨ite_self _, fun j => ?_⟩
    rw [ite_self, Tab.get_set]

/-- What `CAN_TX_ABORT` does with one transmit buffer (R419). -/
def State.canAbort (c : Nat) (fly : Option Nat) (s : State) (k : Nat) : State :=
  let x := s.can c
  let s := match (if k = 2 then x.next else none) with
    | some w => (s.setCan c { x with next := none }).finish w.page w.series w.seq 0x0E08 []
    | none => s
  if fly = some k then
    s.setCan c { s.can c with tx := Tab.set (s.can c).tx none k ((Tab.get (s.can c).tx none k).map fun f => { f with dead := true }) }
  else s.canTxDone c k 0x0E08 []

theorem canAbort_idle {s : State} {c k : Nat} (hnext : (s.can c).next = none) : s.canAbort c none k = s.canTxDone c k 0x0E08 [] := by
  unfold State.canAbort
  simp only [hnext, ite_self, reduceCtorEq, if_false]

/-- With no frame on its way, the buffers named end empty. -/
theorem foldl_canAbort_clears {c : Nat} (l : List Nat) {s : State} (hnext : (s.can c).next = none) :
    ∀ k, k ∈ l ∨ Tab.get (s.can c).tx none k = none → Tab.get ((l.foldl (State.canAbort c none) s).can c).tx none k = none := by
  induction l generalizing s with
  | nil => exact fun k hk => hk.resolve_left List.not_mem_nil
  | cons k₀ l ih =>
    intro k hk
    rw [List.foldl_cons, canAbort_idle hnext]
    obtain ⟨hnext', htx⟩ := canTxDone_clears (s := s) (k := k₀) (status := 0x0E08) (result := []) hnext
    refine ih hnext' k ?_
    rw [htx]
    rcases hk with hk | hk
    · rcases List.mem_cons.mp hk with rfl | hk
      · exact .inr (if_pos rfl)
      · exact .inl hk
    · exact .inr (by rw [hk, ite_self])

/-- A frame as it stands loaded (R416). -/
def canLoaded (d : Desc) (u : State) : CanTx :=
  { page := d.page, series := d.series, seq := d.seq, frame := canFrame d, loadedAt := u.now }

theorem canTxEffect_loads {d : Desc} {u : State} {sof : Nat} (hmode : (u.can d.target).mode = 1) (hframe : u.canFrameOk d.target (canFrame d) = true)
    (hstop : u.canStop d.target (leNat (canFrame d) 8 4) = decide (d.u8 16 = 2)) (hfree : Tab.get (u.can d.target).tx none (d.u8 16) = none) :
    canTxEffect d sof u =
      { st := u.setCan d.target { u.can d.target with tx := Tab.set (u.can d.target).tx none (d.u8 16) (some (canLoaded d u)) }
        await := some .own } := by
  unfold canTxEffect
  simp only [hframe, hstop, hmode, hfree, ne_eq, not_true_eq_false, or_self, if_false]
  rfl

/-- A receive buffer with no frame staged for it is taken behind the others. -/
theorem canDrain_idle {s : State} {c : Nat} (h : (s.can c).stage = []) : s.canDrain c = s.setCan c { s.can c with stage := [] } := by
  unfold State.canDrain
  rw [h]
  rfl

/-- Settles O27: each reply of the CAN descriptors of the port's owner. -/
theorem canCommands : Obligations.CanCommands := by
  unfold Obligations.CanCommands
  intro d s u howner
  refine ⟨?detect, ?post, ?tx, ?abort⟩
  case detect =>
    intro ht hsearch hcands
    obtain ⟨t, hexec, hdrive⟩ := gives_plain rfl (exec_canDetect d s) ht
      ((canOwned_of_owner howner).trans (if_neg fun h => h.elim (by simp [hsearch]) hcands)) rfl
    refine ⟨t, hexec, ?_⟩
    rw [can_of_drive hdrive, setCan_self]
    exact ⟨rfl, rfl, _, rfl, rfl, rfl, rfl, rfl, rfl, rfl⟩
  case post =>
    intro ht hroom hstage
    have hexec := exec_of_taken rfl (exec_canRxPost d s) ht
    rw [perform_handled ((canOwned_of_owner howner).trans (if_neg (Nat.not_le.mpr hroom))), if_neg nofun] at hexec
    refine ⟨_, hexec, ?_⟩
    rw [canDrain_idle (by rw [setCan_self]; exact hstage), setCan_self, setCan_self]
    exact ⟨_, rfl, rfl, rfl, rfl, rfl, rfl⟩
  case tx =>
    intro sof ht hmode hframe hstop hfree
    obtain ⟨t, hexec, hdrive⟩ := gives_plain rfl (exec_canTx d sof s) ht
      ((canOwned_of_owner howner).trans (canTxEffect_loads hmode hframe hstop hfree)) rfl
    refine ⟨t, hexec, ?_⟩
    rw [can_of_drive hdrive, setCan_self]
    exact ⟨canLoaded d u, by simp only [Tab.get_set_self], rfl, rfl, rfl, rfl, rfl⟩
  case abort =>
    intro sof ht hfly hnext
    obtain ⟨t, hexec, hdrive⟩ := gives_now (v := (maskList 3 (d.u8 16)).foldl (State.canAbort d.target none) u) rfl (exec_canTxAbort d sof s) ht
      ((canOwned_of_owner howner).trans (by simp only [hfly]; rfl)) rfl
    refine ⟨t, hexec, fun k hk => ?_⟩
    rw [can_of_drive hdrive]
    exact foldl_canAbort_clears _ hnext k (.inl hk)

/-! ### Tenants, security, test mode -/

theorem tenant_of_drive {a b : State} (h : a.drive = b.drive) (n : Nat) : a.tenant n = b.tenant n := (congrArg (fun x : State => x.tenant n) h :)

theorem setConsent_tenant (s : State) (n : Nat) (byOwner v : Bool) :
    ((s.setConsent n byOwner v).tenant n) =
      if byOwner then { s.tenant n with consentT0 := v } else { s.tenant n with consentOwn := v } := setTenant_self _ _ _

section
variable {i : Instr} {s u v : State} {info : OpInfo} {d : Desc} {buf : Option Nat} {eff : State → Reply}

/-- A retained descriptor that answers a result and acts at once. -/
theorem gives_stored_result {op kc : Nat} {res : List Byte} (ho : s.orderOf i = some ⟨info, d, buf⟩)
    (he : exec i s = .next (serve info d buf eff s)) (ht : Taken i s u) (hr : eff u = { st := v, result := res, keyC := kc }) (hk : info.kept = true)
    (hop : info.op = op) (hlag : lagOps.contains op = false) : Gives i s (v.withStored op d kc) := by
  subst hop
  refine gives_of_reply (aw := none) (w := none) ho he ht hr ?_
  unfold State.keep State.withStored
  simp only [hk, if_true, Bool.false_eq_true, not_false_eq_true, and_self, lag_of_not_lagging hlag]

/-- A descriptor that stages its own record. -/
theorem gives_ownRec (ho : s.orderOf i = some ⟨info, d, buf⟩) (he : exec i s = .next (serve info d buf eff s)) (ht : Taken i s u)
    (hr : eff u = { st := v, ownRec := true }) (hlag : lagOps.contains info.op = false) : Gives i s v :=
  gives_of_serve ho he ht (by rw [hr]) (by rw [hr]) (by rw [hr]) (by rw [hr]) (by rw [hr]; exact congrArg State.drive (keep_ownRec rfl hlag))

end

section Binding
variable {d : Desc} {u : State}

theorem tenantBindEffect_owner (ht : d.target = 0) (hact : (u.tenant 0).active = true) (hbase : d.u64 32 % 4096 = 0) (hlen : d.u64 40 % 4096 = 0)
    (hzero : (d.payload.take 16).any (fun b => b ≠ 0) = false)
    (hrings : ∀ r ∈ u.ringsOn 0, d.u64 32 ≤ ((u.page 0).ring r).base ∧
      ((u.page 0).ring r).base + ((u.page 0).ring r).size * entrySize r ≤ d.u64 32 + d.u64 40) :
    tenantBindEffect d u = { st := u.setTenant 0 ((u.tenant 0).bind d) } := by
  have hwin : (u.tenant 0).bind d = { u.tenant 0 with winBase := d.u64 32, winLen := d.u64 40 } := if_pos ht
  have hinside : ((u.ringsOn 0).all fun r => decide (d.u64 32 ≤ ((u.page 0).ring r).base ∧
      ((u.page 0).ring r).base + ((u.page 0).ring r).size * entrySize r ≤ d.u64 32 + d.u64 40)) = true := by
    simpa using hrings
  unfold tenantBindEffect
  simp only [ht, hwin, hact, hbase, hlen, hzero, hinside]
  simp

theorem tenantBindEffect_other (ht : d.target ≠ 0) (hact : (u.tenant d.target).active = true) (hbase : d.u64 32 % 4096 = 0)
    (hlen : d.u64 40 % 4096 = 0) (hrings : u.ringsOn d.target = []) :
    tenantBindEffect d u = { st := (tenantBindEffect d u).st } := by
  unfold tenantBindEffect
  simp only [ht, hact, hbase, hlen, hrings]
  simp

end Binding

/-- Settles O28: each reply of the descriptors on tenants, on the security state and of test mode. -/
theorem tenantCommands : Obligations.TenantCommands := by
  unfold Obligations.TenantCommands
  intro d s u
  refine ⟨?create, ?bindOwner, ?bind, ?retire, ?schedule, ?enter, ?leave, ?consent, ?enrol, ?revoke, ?update, ?inject, ?wdog, ?silence⟩
  case create =>
    intro ht hfree
    exact gives_stored_result rfl (exec_tenantCreate d s) ht (if_neg (by simp [hfree])) rfl rfl rfl
  case bindOwner =>
    intro ht htarget hact hbase hlen hzero hrings
    exact gives_stored_at_once rfl (exec_tenantBind d s) ht (tenantBindEffect_owner htarget hact hbase hlen hzero hrings) rfl rfl rfl
  case bind =>
    intro ht htarget hact hbase hlen hrings
    exact gives_stored_at_once rfl (exec_tenantBind d s) ht (tenantBindEffect_other htarget hact hbase hlen hrings) rfl rfl rfl
  case retire =>
    intro ht hzero hself hact
    exact gives_stored_at_once rfl (exec_tenantRetire d s) ht ((if_neg (not_or.mpr ⟨hzero, hself⟩)).trans (if_neg (not_not.mpr hact))) rfl rfl rfl
  case schedule =>
    intro ht hslots
    have hrange : ((slotsOf d.host).any fun x => decide (1023 < x) && decide (x ≠ 0xFFFF)) = false := by
      rw [List.any_eq_false]
      intro x hx
      have := hslots x hx
      simp
      omega
    have hactive : ((slotsOf d.host).any fun x => decide (x ≠ 0xFFFF) && !(u.tenant x).active) = false := by
      rw [List.any_eq_false]
      intro x hx
      rcases hslots x hx with h | ⟨-, h⟩ <;> simp [h]
    exact gives_stored_at_once rfl (exec_slotSchedule d s) ht
      ((if_neg (by rw [hrange]; nofun)).trans (if_neg (by rw [hactive]; nofun))) rfl rfl rfl
  case enter =>
    intro signed ht hkeys hsigned
    exact gives_stored_at_once rfl (exec_secCtrlEnter d signed s) ht (if_neg (by simp [hkeys, hsigned])) rfl rfl rfl
  case leave =>
    intro signed ht hkeys hsigned
    exact gives_stored_at_once rfl (exec_secCtrlLeave d signed s) ht (if_neg (by simp [hkeys, hsigned])) rfl rfl rfl
  case consent =>
    intro ht _ hact
    obtain ⟨t, hexec, hdrive⟩ := gives_ownRec rfl (exec_secCtrlConsent d s) ht (if_neg (not_not.mpr hact)) rfl
    have htenant : t.tenant (consentOf d) =
        (u.setConsent (consentOf d) (d.page = 0 && d.target ≠ 0xFFFF) (d.u8 17 = 1)).tenant (consentOf d) :=
      tenant_of_drive (hdrive.trans (stageRec_drive _ _ _ _ _ _ _)) _
    rw [setConsent_tenant] at htenant
    refine ⟨t, hexec, fun h => ?_, fun h => ?_⟩
    · rw [htenant, if_pos (by simpa using h)]
    · rw [htenant, if_neg (by simpa using h)]
  case enrol =>
    intro signed ht hfree hsigned
    exact gives_now rfl (exec_secCtrlEnrolKey d signed s) ht
      ((if_neg (not_not.mpr hfree)).trans (if_neg fun h => hsigned.elim h.1 h.2)) rfl
  case revoke =>
    intro signed ht hkey hothers hsigned
    exact gives_now rfl (exec_secCtrlRevokeKey d signed s) ht
      ((if_neg fun h => h.elim hkey (Nat.not_le.mpr hothers)).trans (if_neg (not_not.mpr hsigned))) rfl
  case update =>
    intro svn raises ht hmedium hsvn hworn hroom
    exact gives_issue rfl (exec_fwUpdate d true svn raises s) ht ((stored_of_medium _ hmedium).trans
      ((if_neg (not_not.mpr rfl)).trans ((if_neg (Nat.not_lt.mpr hsvn)).trans (if_neg (by simp [hworn]))))) hroom rfl
  case inject =>
    intro ht hindex hoff halign hfree
    exact gives_now rfl (exec_testEccInject d s) ht ((if_neg fun h => h.elim (Nat.not_le.mpr hindex) fun h => h.elim (Nat.not_le.mpr hoff)
      (not_not.mpr halign)).trans (if_neg (not_not.mpr hfree))) rfl
  case wdog => exact fun ht hfree => gives_now rfl (exec_testWdogStop d s) ht (if_neg (not_not.mpr hfree)) rfl
  case silence => exact fun ht hfree => gives_now rfl (exec_testLinkSilence d s) ht (if_neg (not_not.mpr hfree)) rfl

end Sys2Proof.Machine

namespace Sys2Proof.Machine
open Sys2Proof

/-! ### Doorbells -/

theorem doorbell_taken {s : State} {n v : Nat} {f : State → State} (hact : (s.tenant n).active = true) (hv : v < 0x10000) :
    s.doorbell n v true f = f s :=
  (if_neg (not_not.mpr hact)).trans (if_neg fun h => h.elim (fun h => h rfl) (Nat.not_le.mpr hv))

theorem setRing_ring_self (p : Page) (r : Nat) (g : Ring) : (p.setRing r g).ring r = g := Tab.get_set_self _ _ _ _

theorem setRing_staging (p : Page) (r : Nat) (g : Ring) : (p.setRing r g).staging = p.staging := rfl

/-- A signalled ring keeps its places, and its page the records it holds (R337). -/
theorem signal_places (s : State) (n r : Nat) (b : Bool) :
    (((s.signal n r b).page n).ring r).tail = ((s.page n).ring r).tail ∧ (((s.signal n r b).page n).ring r).ack = ((s.page n).ring r).ack ∧
      ((s.signal n r b).page n).evWritten = (s.page n).evWritten := by
  have hset (w : State) (g : Ring) (hw : w.page n = (s.page n).setRing r g) (htail : g.tail = ((s.page n).ring r).tail)
      (hack : g.ack = ((s.page n).ring r).ack) : ((w.page n).ring r).tail = ((s.page n).ring r).tail ∧
      ((w.page n).ring r).ack = ((s.page n).ring r).ack ∧ (w.page n).evWritten = (s.page n).evWritten := by
    rw [hw, setRing_ring_self]
    exact ⟨htail, hack, rfl⟩
  have heither (c : Prop) [Decidable c] (v : Nat) (g₁ g₂ : Ring) (h₁ : g₁.tail = ((s.page n).ring r).tail ∧ g₁.ack = ((s.page n).ring r).ack)
      (h₂ : g₂.tail = ((s.page n).ring r).tail ∧ g₂.ack = ((s.page n).ring r).ack) (t : State)
      (ht : t = if c then (s.setPage n ((s.page n).setRing r g₁)).fireVector v else s.setPage n ((s.page n).setRing r g₂)) :
      ((t.page n).ring r).tail = ((s.page n).ring r).tail ∧ ((t.page n).ring r).ack = ((s.page n).ring r).ack ∧
        (t.page n).evWritten = (s.page n).evWritten := by
    split at ht
    · exact hset t g₁ (by rw [ht, fireVector_page, page_setPage_self]) h₁.1 h₁.2
    · exact hset t g₂ (by rw [ht, page_setPage_self]) h₂.1 h₂.2
  exact heither _ _ { (s.page n).ring r with irqPend := 0, irqLast := some s.now }
    { (s.page n).ring r with irqPend := ((s.page n).ring r).irqPend + 1 } ⟨rfl, rfl⟩ ⟨rfl, rfl⟩ _ rfl

/-- An event record written takes its place in the ring and nothing else (R326). -/
theorem postEvent_places (s : State) (n : Nat) (e : ERec) :
    (((s.postEvent n e).page n).ring 5).tail = ((s.page n).ring 5).tail ∧ (((s.postEvent n e).page n).ring 5).ack = ((s.page n).ring 5).ack ∧
      ((s.postEvent n e).page n).evWritten = (s.page n).evWritten ++ [e.seq] := by
  have hset (w : State) (p : Page) (hp : (p.ring 5).tail = ((s.page n).ring 5).tail ∧ (p.ring 5).ack = ((s.page n).ring 5).ack ∧
      p.evWritten = (s.page n).evWritten ++ [e.seq]) (b c : Bool) (t : State)
      (ht : t = if c then (w.setPage n p).signal n 5 b else w.setPage n p) :
      ((t.page n).ring 5).tail = ((s.page n).ring 5).tail ∧ ((t.page n).ring 5).ack = ((s.page n).ring 5).ack ∧
        (t.page n).evWritten = (s.page n).evWritten ++ [e.seq] := by
    obtain ⟨htail, hack, hwritten⟩ := signal_places (w.setPage n p) n 5 b
    rw [page_setPage_self] at htail hack hwritten
    split at ht
    · rw [ht, htail, hack, hwritten]
      exact hp
    · rw [ht, page_setPage_self]
      exact hp
  refine hset _ _ ?_ _ _ _ rfl
  rw [setRing_ring_self]
  exact ⟨rfl, rfl, rfl⟩

/-- With no record staged, at most the one that tells of lost events is written (R327). -/
theorem drainStaging_nil (s : State) (n : Nat) :
    (((s.drainStaging n []).page n).ring 5).tail = ((s.page n).ring 5).tail ∧
      (((s.drainStaging n []).page n).ring 5).ack = ((s.page n).ring 5).ack ∧
      ∃ l, ((s.drainStaging n []).page n).evWritten = (s.page n).evWritten ++ l ∧ ((s.page n).lostEv = none → l = []) := by
  unfold State.drainStaging
  simp only
  split
  case h_1 a b hlost =>
    split
    · obtain ⟨htail, hack, hwritten⟩ := postEvent_places (s.setPage n { s.page n with lostEv := none, evSeq := ((s.page n).evSeq + 1) % 2 ^ 32 }) n
        { seq := (s.page n).evSeq, time := s.now, cls := 9, sev := 6, src := srcTenant n, code := 0x0011, rep := 1,
          data := leBytes 4 5 ++ leBytes 4 a ++ leBytes 4 b }
      rw [page_setPage_self] at htail hack hwritten
      exact ⟨htail, hack, _, hwritten, fun h => absurd (hlost.symm.trans h) (Option.some_ne_none _)⟩
    · exact ⟨rfl, rfl, [], (List.append_nil _).symm, fun _ => rfl⟩
  case h_2 => exact ⟨rfl, rfl, [], (List.append_nil _).symm, fun _ => rfl⟩

theorem refuseWaiting_nil (s : State) (n : Nat) : s.refuseWaiting n [] = s := rfl

/-- Settles O29: the doorbells of an active tenant of a running device. -/
theorem doorbellsTaken : Obligations.DoorbellsTaken := by
  unfold Obligations.DoorbellsTaken
  rintro s u t n v hrun rfl hn hact hv
  have hring (f : State → State) : within n 1024 s (fun s => s.live t fun s => s.doorbell n v true f) = .next (f (s.at t)) := by
    rw [within_next s _ hn, live_running hrun, doorbell_taken hact hv]
  refine ⟨?tail, ?tailOut, ?tailOff, ?cqOff, ?eqOff, ?cq, ?eq, ?stage⟩
  case tail =>
    intro r hr hon hin
    exact (hring _).trans (congrArg _ ((if_neg fun h => h.elim (fun h => h hon) (Nat.not_le.mpr hr)).trans (if_neg (Nat.not_le.mpr hin))))
  case tailOut =>
    intro r hr hon hout
    exact (hring _).trans (congrArg _ ((if_neg fun h => h.elim (fun h => h hon) (Nat.not_le.mpr hr)).trans (if_pos hout)))
  case tailOff => exact fun r hoff => (hring _).trans (congrArg _ (if_pos (.inl (by simp [hoff]))))
  case cqOff => exact fun hoff => (hring _).trans (congrArg _ (if_pos (by simp [hoff])))
  case eqOff => exact fun hoff => (hring _).trans (congrArg _ (if_pos (by simp [hoff])))
  case cq =>
    intro hon hin hack hrefused
    refine (hring _).trans (congrArg _ ((if_neg (not_not.mpr hon)).trans
      ((if_neg fun h => h.elim (Nat.not_le.mpr hin) (Nat.not_lt.mpr hack)).trans ?_)))
    simp only
    rw [page_setPage_self]
    exact (congrArg _ hrefused).trans (refuseWaiting_nil _ _)
  case eq =>
    intro hon hin hack hstaging
    have hexec : exec (.eqHead t n v true) s = .next _ := hring _
    simp only at hexec
    rw [if_neg (not_not.mpr hon), if_neg fun h => h.elim (Nat.not_le.mpr hin) (Nat.not_lt.mpr hack), page_setPage_self,
      setRing_staging] at hexec
    simp only [hstaging] at hexec
    obtain ⟨htail, hheld, l, hwritten, hlost⟩ := drainStaging_nil _ n
    rw [page_setPage_self] at htail hheld hwritten hlost
    rw [setRing_ring_self] at htail hheld
    exact ⟨_, hexec, drainStaging_drive n [] _, htail, hheld, l, hwritten, hlost⟩
  case stage =>
    intro off bytes
    rw [exec_urgentStage, execUrgentStage, within_next s _ hn, live_running hrun]
    exact congrArg _ (if_neg (not_not.mpr hact))

/-! ### Descriptors fetched -/

/-- A running chip whose owner's first ring holds a descriptor, with one of the same sequence in its list. -/
def refetching : State :=
  { State.reset with
    power := .running
    pages := [(0, { rings := [(0, { enable := true, tail := 1 })], acc := [{ series := 0, seq := 0, op := 0, flags := 0, target := 0 }] })] }

/-- The completion records that a next state holds for the owner. -/
def heldRecords : Res → Nat
  | .next t => (t.page 0).held.length
  | _ => 0

/-- Refutes O30: a descriptor fetched under the sequence of one that is in its tenant's list is answered with `SEQUENCE_STALE`, while accepting
it would leave the state alone. -/
theorem not_descriptorsAccepted : ¬ Obligations.DescriptorsAccepted := by
  unfold Obligations.DescriptorsAccepted
  rintro ⟨hfetch, -⟩
  have h := hfetch refetching (refetching.at 0) _ 0 0 0 [] rfl rfl (by decide) (by decide) (by decide) (by decide) (by decide) (by decide) (by decide)
    (by decide) rfl
  exact absurd (congrArg heldRecords h) (by decide)

/-! ### Events of a running chip -/

/-- An event of an element that the chip has, while it runs. -/
theorem within_live {n top : Nat} {s : State} (hn : n < top) (hrun : s.power = .running) (t : Time) (f : State → State) :
    within n top s (fun s => s.live t f) = .next (f (s.at t)) := by
  rw [within_next s _ hn, live_running hrun]

theorem within_awake {n top : Nat} {s : State} (hn : n < top) (hrun : s.power = .running) (t : Time) (f : State → State) :
    within n top s (fun s => s.awake t f) = .next (f (s.at t)) := by
  rw [within_next s _ hn, awake_running hrun]

theorem next_live {s : State} (hrun : s.power = .running) (t : Time) (f : State → State) : (.next (s.live t f) : Res) = .next (f (s.at t)) := by
  rw [live_running hrun]

theorem next_awake {s : State} (hrun : s.power = .running) (t : Time) (f : State → State) : (.next (s.awake t f) : Res) = .next (f (s.at t)) := by
  rw [awake_running hrun]

/-- The effect of an event, as its branch gives it. -/
theorem next_of_eq {a : Res} {s x : State} (ha : a = .next s) (h : s = x) : a = .next x := ha.trans (congrArg _ h)

/-! ### Rings and the endpoint in time -/

theorem disable_ring_enable (p : Page) (r q : Nat) : ((p.disable r).ring q).enable = true → (p.ring q).enable = true ∧ q ≠ r := by
  have hring : (p.disable r).ring q =
      if q = r then { p.ring r with enable := false, head := 0, tail := 0, wr := 0, ack := 0 } else p.ring q := Tab.get_set _ _ _ _ _
  rw [hring]
  split
  case isTrue => exact fun h => nomatch h
  case isFalse h => exact fun he => ⟨he, h⟩

/-- Each of the rings named is off once they are gone through. -/
theorem foldl_disable_off (l : List Nat) (p : Page) (q : Nat)
    (h : ((l.foldl (fun p r => if (p.ring r).enable then p.disable r else p) p).ring q).enable = true) : (p.ring q).enable = true ∧ q ∉ l := by
  induction l generalizing p with
  | nil => exact ⟨h, List.not_mem_nil⟩
  | cons r l ih =>
    obtain ⟨hon, hmem⟩ := ih _ h
    simp only at hon
    split at hon
    case isTrue =>
      obtain ⟨hon, hne⟩ := disable_ring_enable p r q hon
      exact ⟨hon, fun hm => (List.mem_cons.mp hm).elim hne hmem⟩
    case isFalse hoff => exact ⟨hon, fun hm => (List.mem_cons.mp hm).elim (fun h => hoff (h ▸ hon)) hmem⟩

theorem disableAll_off (p : Page) {q : Nat} (hq : q < 6) : ((p.disableAll).ring q).enable = false :=
  Bool.eq_false_iff.mpr fun h => (foldl_disable_off (List.range 6) p q h).2 (List.mem_range.mpr hq)

theorem get_of_not_mem_keys {α : Type} {m : Tab α} (d : α) {k : Nat} (h : k ∉ Tab.keys m) : Tab.get m d k = d := by
  induction m with
  | nil => rfl
  | cons e m ih =>
    obtain ⟨j, x⟩ := e
    rw [Tab.keys, List.map_cons, List.mem_cons, not_or] at h
    exact (if_neg (Ne.symm h.1)).trans (ih h.2)

/-- With the link gone every ring is off (R335). -/
theorem linkLoss_off {s : State} {n r : Nat} (hr : r < 6) :
    ((((Tab.keys s.pages).foldl (fun s n => s.setPage n (s.page n).disableAll) s).page n).ring r).enable = false := by
  have hfold (l : List Nat) (w : State) (h : n ∈ l ∨ ((w.page n).ring r).enable = false) :
      (((l.foldl (fun s n => s.setPage n (s.page n).disableAll) w).page n).ring r).enable = false := by
    induction l generalizing w with
    | nil => exact h.resolve_left List.not_mem_nil
    | cons m l ih =>
      refine ih _ ?_
      rw [page_setPage]
      by_cases hnm : n = m
      · rw [if_pos hnm]
        exact .inr (disableAll_off _ hr)
      · rw [if_neg hnm]
        exact h.imp_left fun h => (List.mem_cons.mp h).resolve_left hnm
  refine hfold _ s ?_
  by_cases hn : n ∈ Tab.keys s.pages
  · exact .inl hn
  · exact .inr (by rw [State.page, get_of_not_mem_keys {} hn]; rfl)

theorem foldl_setPage_drive (l : List Nat) (f : Page → Page) (s : State) : (l.foldl (fun s n => s.setPage n (f (s.page n))) s).drive = s.drive := by
  induction l generalizing s with
  | nil => rfl
  | cons n l ih => exact (ih _).trans (setPage_drive s n _)

theorem not_held {s : State} (h : s.power = .running) : s.power ≠ .held := by rw [h]; nofun

/-- Settles O31: each event of the rings and of the endpoint, by the branch that its hypotheses leave. -/
theorem ringEvents : Obligations.RingEvents := by
  unfold Obligations.RingEvents
  rintro s u t hrun rfl
  refine ⟨?on, ?off, ?holdoff, ?noHoldoff, ?linkLoss, ?linkUp, ?window, ?noWindow, ?noShed, ?shed⟩
  case on => exact fun v => next_live hrun t _
  case off => exact fun v => next_live hrun t _
  case holdoff =>
    intro n r w hn hlast hover hpend
    refine next_of_eq (within_live hn hrun t _) (if_pos ?_)
    simp [hlast, hover, hpend]
  case noHoldoff =>
    intro n r hn hpend
    refine next_of_eq (within_live hn hrun t _) (if_neg ?_)
    simp [hpend]
  case linkLoss =>
    refine ⟨_, if_neg (not_held hrun), ?_, fun n r hr => linkLoss_off hr⟩
    exact congrArg (fun x : State => { x with sys := { x.sys with linkUp := false, linkWord := 0 } }) (foldl_setPage_drive _ Page.disableAll (s.at t))
  case linkUp => exact fun word => if_neg (not_held hrun)
  case window =>
    intro n src code c hn hfind hcount
    refine next_of_eq (within_live hn hrun t _) ?_
    simp only [hfind, hcount, if_false]
  case noWindow =>
    intro n src code hn hfind
    refine next_of_eq (within_live hn hrun t _) ?_
    simp only [hfind]
  case noShed =>
    intro n cls path ended hn hfind
    refine next_of_eq (within_live hn hrun t _) ?_
    simp only [hfind]
  case shed =>
    intro n cls path ended x hn hfind
    refine next_of_eq (within_live hn hrun t _) ?_
    simp only [hfind]

/-! ### The end of a write to the host -/

/-- A running chip with a bulk message's write into the owner's buffer under way. -/
def writingBulk : State :=
  { State.reset with
    power := .running
    pages := [(0, { acc := [{ series := 0, seq := 0, op := 0, flags := 0, target := 0, started := true, await := .dma }] })]
    outbox := [{ kind := .buffer, page := 0, ring := 0, addr := 0, bytes := [] }]
    fab := { State.reset.fab with writes := [{ page := 0, series := 0, seq := 0, src := 0, msg := 0 }] } }

/-- The bulk messages whose bytes are being written, in a next state. -/
def bulkWrites : Res → Nat
  | .next t => t.fab.writes.length
  | _ => 0

/-- Refutes O32: the end of the write of a bulk message also ends the message's own entry, which the statement leaves as it is. -/
theorem not_dmaCompletes : ¬ Obligations.DmaCompletes := by
  unfold Obligations.DmaCompletes
  intro h
  obtain ⟨-, hfailed, -⟩ := h writingBulk (writingBulk.at 0) 0 0 0 { kind := .buffer, page := 0, ring := 0, addr := 0, bytes := [] } [] rfl rfl
    (by decide)
  have hnext := hfailed { series := 0, seq := 0, op := 0, flags := 0, target := 0, started := true, await := .dma } (by decide) (by decide) rfl
  exact absurd (congrArg bulkWrites hnext) (by decide)

/-- Settles O33: each event by the branch that its hypotheses leave. -/
theorem housekeepingEvents : Obligations.HousekeepingEvents := by
  unfold Obligations.HousekeepingEvents
  rintro s u t hrun rfl
  refine ⟨?lease, ?noLease, ?slot, ?bulkFirst, ?bulk, ?silence, ?noTest, ?noStream, ?dropped, ?tested, ?sampled, ?skipped⟩
  case lease =>
    intro n series seq r hfind hover
    have hnext : exec (.leaseTimeout t n series seq) s = .next _ := next_live hrun t _
    simp only [hfind, hover, if_true] at hnext
    exact ⟨_, hnext, by rw [finish_drive, audit_drive]⟩
  case noLease =>
    intro n series seq hfind
    exact next_of_eq (next_live hrun t _) (by simp only [hfind])
  case slot => exact next_live hrun t _
  case bulkFirst =>
    intro r hr hnone
    exact next_of_eq (within_live hr hrun t _) (by simp only [hnone, if_true])
  case bulk =>
    intro r w hr hat
    exact next_of_eq (within_live hr hrun t _) (by simp only [hat, decide_eq_true_eq])
  case silence => exact fun l hl => within_live hl hrun t _
  case noTest =>
    intro p failed hp hnone
    exact next_of_eq (within_awake hp hrun t _) (by simp only [hnone])
  case noStream =>
    intro n sub load hn hnone
    exact next_of_eq (within_live hn hrun t _) (by simp only [hnone])
  case dropped =>
    intro n sub load x hn hstream hgone
    refine next_of_eq (within_live hn hrun t _) ?_
    simp only [hstream]
    exact if_pos (by simpa using hgone)
  case tested =>
    intro p n series seq scope hp htest
    exact next_of_eq (within_awake hp hrun t _) (by simp only [htest, true_and]; rfl)
  case sampled =>
    intro n sub load x hn hstream hact hreads hurgent hthrottle hload
    refine next_of_eq (within_live hn hrun t _) ?_
    simp only [hstream]
    exact (if_neg (by simp [hact, hreads])).trans (if_neg (by simp [hurgent, hthrottle, hload]))
  case skipped =>
    intro n sub load x hn hstream hact hreads hload
    refine next_of_eq (within_live hn hrun t _) ?_
    simp only [hstream]
    exact (if_neg (by simp [hact, hreads])).trans (if_pos (.inr (.inr hload)))

/-! ### Lanes and cells in time -/

/-- Settles O34: each event by the branch that its hypotheses leave. -/
theorem laneEvents : Obligations.LaneEvents := by
  unfold Obligations.LaneEvents
  rintro s u t l hrun rfl hl
  refine ⟨?lock, ?down, ?retryOut, ?retry, ?search, ?timeout, ?silence⟩
  case lock => exact fun hused hst => next_of_eq (within_awake hl hrun t _) (if_pos ⟨hused, hst⟩)
  case down => exact fun hused hoff hfailed hup => next_of_eq (within_awake hl hrun t _) (if_neg (by simp [hused, hoff, hfailed, hup]))
  case retryOut =>
    intro hfailed hdown hover hout
    exact next_of_eq (within_awake hl hrun t _) ((if_pos ⟨hfailed, hdown, hover⟩).trans (if_pos hout))
  case retry =>
    intro hfailed hdown hover hb hi
    exact next_of_eq (within_awake hl hrun t _) ((if_pos ⟨hfailed, hdown, hover⟩).trans (if_neg (not_or.mpr ⟨hb, hi⟩)))
  case search => exact fun hst => next_of_eq (within_awake hl hrun t _) (if_pos hst)
  case timeout =>
    exact fun hst hover => next_of_eq (within_awake hl hrun t _) (if_pos ⟨hst.imp_right fun h => ⟨h.1, .inl h.2⟩, hover⟩)
  case silence =>
    intro w hsilent hover
    exact next_of_eq (within_awake hl hrun t _) (by simp only [hsilent, hover, if_true])

theorem lane_of_drive {a b : State} (h : a.drive = b.drive) (l : Nat) : a.lane l = b.lane l := (congrArg (fun x : State => x.lane l) h :)

theorem ranged_part (s : State) (l : Nat) (x : Option Q) (p : Nat) : (s.ranged l x).part p = s.part p := by
  have halarm (c : Prop) [Decidable c] (w : State) : (if c then w.alarm (srcLane l) 0x1000 [] else w).part p = w.part p := by
    split
    · exact part_of_drive (alarm_drive _ _ _ _) p
    · rfl
  unfold State.ranged
  split
  · rfl
  · exact (halarm _ _).trans rfl

theorem ranged_lstate (s : State) (l : Nat) (x : Option Q) : ((s.ranged l x).lane l).lstate = (s.lane l).lstate := by
  have halarm (c : Prop) [Decidable c] (w : State) : (if c then w.alarm (srcLane l) 0x1000 [] else w).lane l = w.lane l := by
    split
    · exact lane_of_drive (alarm_drive _ _ _ _) l
    · rfl
  unfold State.ranged
  split
  · rfl
  · exact (congrArg Lane.lstate ((halarm _ _).trans (setLane_self _ _ _))).trans rfl

/-- Settles O35: each frame and alarm by the branch that its hypotheses leave. -/
theorem cellFrames : Obligations.CellFrames := by
  unfold Obligations.CellFrames
  rintro s u t l hrun rfl hl
  refine ⟨?error, ?status, ?dropped, ?safe, ?unsafe_, ?readmit, ?admission, ?selftest⟩
  case error =>
    intro bytes chars rtt hused hoff hfailed hinvalid
    exact next_of_eq (within_awake hl hrun t _) ((if_neg (by simp [hused, hoff, hfailed])).trans (if_pos (by simp [hinvalid])))
  case status =>
    intro bytes chars rtt hused hst hvalid hin hcycle hkind hepoch hbyte hboots
    have hage : ¬ (1 ≤ (((s.at t).part ((s.at t).cell l).part).epoch + 256 - byteAt bytes 4) % 256 ∧
        (((s.at t).part ((s.at t).cell l).part).epoch + 256 - byteAt bytes 4) % 256 ≤ 127) := by
      rw [hepoch]
      omega
    refine next_of_eq (within_awake hl hrun t _) ?_
    simp only
    rw [if_neg (by simp [hused, hst]), if_neg (not_not.mpr hvalid), if_neg hin, if_neg (not_not.mpr hcycle), if_neg hkind, ranged_part,
      if_neg hage, ranged_lstate, if_neg (not_not.mpr hst), if_neg (not_not.mpr hboots)]
  case dropped =>
    intro clean hdrop
    exact ⟨next_of_eq (within_awake hl hrun t _) (if_pos (by simp [hdrop])), next_of_eq (within_awake hl hrun t _) (if_pos (by simp [hdrop]))⟩
  case safe =>
    rintro clean v w htakes rfl rfl
    exact next_of_eq (within_awake hl hrun t _) (if_neg (not_not.mpr htakes))
  case unsafe_ =>
    rintro clean v htakes rfl
    exact next_of_eq (within_awake hl hrun t _) (if_neg (not_not.mpr htakes))
  case readmit => exact fun hst hover => next_of_eq (within_live hl hrun t _) (if_pos ⟨hst, hover⟩)
  case admission =>
    exact fun htest hover hadm => next_of_eq (within_awake hl hrun t _) ((if_pos ⟨htest, hover⟩).trans (if_pos hadm))
  case selftest =>
    exact fun htest hover hadm => next_of_eq (within_awake hl hrun t _) ((if_pos ⟨htest, hover⟩).trans (if_neg (by simp [hadm])))

theorem settle_part (ops : List Nat) (s : State) (p q : Nat) : (s.settle ops p).part q = s.part q := rfl

theorem latchInput_part (s : State) (k : Nat) (now mean : Q) (q : Nat) : (s.latchInput k now mean).part q = s.part q := by
  have hflag (c : Prop) [Decidable c] : (if c then s else s.setSdFlag k 2 false).part q = s.part q := by
    split <;> rfl
  unfold State.latchInput
  simp only
  split
  · rfl
  · split
    · rfl
    · exact hflag _

theorem latchFrom_part (s : State) (k : Nat) (now mean : List Q) (q : Nat) : (s.latchFrom k now mean).part q = s.part q := by
  induction now generalizing s k mean with
  | nil => rfl
  | cons x now ih =>
    cases mean with
    | nil => rfl
    | cons y mean => exact (ih _ _ _).trans (latchInput_part s k x y q)

/-- Settles O37: each event of the cycle by the branch that its hypotheses leave. -/
theorem cycleEvents : Obligations.CycleEvents := by
  unfold Obligations.CycleEvents
  rintro s u t p hrun rfl hp
  refine ⟨?partner, ?bare, ?start, ?up, ?compute, ?place, ?noPlace, ?down, ?noDown, ?loop, ?noLoop, ?speed, ?noSpeed⟩
  case partner => exact fun now mean count ages counts hpartner => next_of_eq (within_awake hp hrun t _) (if_pos hpartner)
  case bare =>
    intro now mean count ages counts hpartner hst
    refine next_of_eq (within_awake hp hrun t _) ((if_neg (by simp [hpartner])).trans ?_)
    simp only [latchFrom_part, settle_part, hst, if_true]
    rfl
  case start =>
    rintro now mean count ages counts v w hpartner hst rfl rfl
    refine next_of_eq (within_awake hp hrun t _) ((if_neg (by simp [hpartner])).trans ?_)
    simp only [latchFrom_part, settle_part, hst, if_false]
    rfl
  case up => exact within_awake hp hrun t _
  case compute => exact within_live hp hrun t _
  case place =>
    intro arm hpartner hfenced hgiven hup hcut hrefs
    refine next_of_eq (within_live hp hrun t _) (if_neg ?_)
    rintro (h | h | h | h | h | h)
    · simp [hpartner] at h
    · simp [hfenced] at h
    · exact h hgiven
    · exact Nat.not_lt.mpr hup h
    · exact Nat.not_lt.mpr hcut h
    · exact Nat.ne_of_lt h.1 (hrefs h.2)
  case noPlace =>
    intro arm h
    refine next_of_eq (within_live hp hrun t _) (if_pos ?_)
    rcases h with h | h | h | h | h
    · exact .inl h
    · exact .inr (.inl h)
    · exact .inr (.inr (.inl (by simp [h])))
    · exact .inr (.inr (.inr (.inl h)))
    · exact .inr (.inr (.inr (.inr (.inl h))))
  case down =>
    rintro v hpartner hst rfl
    exact next_of_eq (within_awake hp hrun t _) (if_neg (by simp [hpartner, hst]))
  case noDown => exact fun h => next_of_eq (within_awake hp hrun t _) (if_pos h)
  case loop =>
    intro fresh pd pq pt hpartner hst hshape hfenced
    refine next_of_eq (within_live hp hrun t _) (if_neg ?_)
    rintro (h | h | h | h)
    · exact hst h
    · simp [hpartner] at h
    · exact hshape h
    · exact h.2 (hfenced h.1)
  case noLoop =>
    intro fresh pd pq pt h
    exact next_of_eq (within_live hp hrun t _) (if_pos (or_left_comm.mp h))
  case speed =>
    intro who caps torques speeds states limits hpartner hst hshape
    exact next_of_eq (within_live hp hrun t _) (if_neg (by simp [hpartner, hst, hshape]))
  case noSpeed =>
    intro who caps torques speeds states limits h
    exact next_of_eq (within_live hp hrun t _) (if_pos (or_left_comm.mp h))

/-! ### The start of a partition in time -/

/-- Settles O39: each event by the branch that its hypotheses leave. -/
theorem startEvents : Obligations.StartEvents := by
  unfold Obligations.StartEvents
  rintro s u t p hrun rfl hp
  refine ⟨?noPassive, ?passive, ?other, ?noComplete, ?complete, ?near, ?timeout, ?disable, ?floor, ?noFloor⟩
  case noPassive => exact fun h => next_of_eq (within_live hp hrun t _) (if_pos (by simpa using h))
  case passive =>
    exact fun hst hphase hpassive hshape => next_of_eq (within_live hp hrun t _) ((if_neg (by simp [hst, hphase, hpassive])).trans (if_pos hshape))
  case other =>
    rintro v hst hphase hpassive hmmc hshape rfl
    exact next_of_eq (within_live hp hrun t _) ((if_neg (by simp [hst, hphase, hpassive])).trans (if_neg (by simp [hmmc, hshape])))
  case noComplete =>
    intro h
    refine next_of_eq (within_live hp hrun t _) ?_
    by_cases hst : ((s.at t).part p).st = .precharge
    · obtain ⟨hthree, hfive⟩ := h.resolve_left (not_not.mpr hst)
      exact (if_neg (not_not.mpr hst)).trans ((if_neg fun h => hthree h.1).trans (if_neg hfive))
    · exact if_pos hst
  case complete =>
    intro hst hphase
    exact next_of_eq (within_live hp hrun t _)
      ((if_neg (not_not.mpr hst)).trans ((if_neg (by simp [hphase])).trans (if_pos hphase)))
  case near =>
    rintro v w hst hphase rfl rfl
    refine next_of_eq (within_live hp hrun t _) ((if_neg (not_not.mpr hst)).trans ?_)
    by_cases hnear : ∀ a ∈ (s.at t).armsOf p,
        absQ ((s.at t).armAverage p a - (s.at t).vCellNom p a) ≤ (s.at t).qualBand p * (s.at t).vCellNom p a
    · rw [if_pos hnear]
      exact if_pos ⟨hphase, by simpa using hnear⟩
    · rw [if_neg hnear]
      exact (if_neg fun h => hnear (by simpa using h.2)).trans (if_neg (by simp [hphase]))
  case timeout => exact within_live hp hrun t _
  case disable => exact within_live hp hrun t _
  case floor =>
    exact fun hst hlow => ⟨_, next_of_eq (within_live hp hrun t _) (if_pos ⟨hst, hlow⟩), rfl, setPState_part_st _ _ _⟩
  case noFloor => exact fun h => next_of_eq (within_live hp hrun t _) (if_neg h)

/-! ### Machine control in time -/

/-- Settles O40: each event is its branch, but for the machine core named and the way in which an enable waits. -/
theorem controlEvents : Obligations.ControlEvents := by
  unfold Obligations.ControlEvents
  rintro s u t p hrun rfl hp
  refine ⟨?migration, ?core0, ?core1, ?setpoint, ?ready, ?waits, ?noWait, ?exciter, ?earth, ?position, ?locked, ?lost, ?saturated, ?diverged,
    ?partner⟩
  case migration =>
    rintro x rfl
    exact within_live hp hrun t _
  case core0 => exact fun ok => within_live hp hrun t _
  case core1 => exact fun ok => within_live hp hrun t _
  case setpoint => exact within_live hp hrun t _
  case ready => exact within_live hp hrun t _
  case waits =>
    intro n series seq w hwait
    exact next_of_eq (within_live hp hrun t _) (by simp only [hwait])
  case noWait =>
    intro hnone
    exact next_of_eq (within_live hp hrun t _) (by simp only [hnone])
  case exciter => exact within_live hp hrun t _
  case earth => exact within_live hp hrun t _
  case position => exact within_live hp hrun t _
  case locked => exact within_live hp hrun t _
  case lost => exact within_live hp hrun t _
  case saturated => exact within_live hp hrun t _
  case diverged => exact within_live hp hrun t _
  case partner => exact within_live hp hrun t _

/-! ### Motion in time -/

/-- Settles O41: each event by the branch that its hypotheses leave. -/
theorem motionEvents : Obligations.MotionEvents := by
  unfold Obligations.MotionEvents
  rintro s u t p hrun rfl hp
  refine ⟨?hold, ?timeout, ?noLever, ?lever, ?input, ?heave, ?noLimit, ?limit, ?limitOff, ?noDirection, ?message, ?masterLost⟩
  case hold => exact within_live hp hrun t _
  case timeout => exact within_live hp hrun t _
  case noLever =>
    intro h
    refine next_of_eq (within_live hp hrun t _) (if_neg ?_)
    rcases h with h | h <;> simp [h]
  case lever =>
    intro hlost hgiven hsrc
    refine next_of_eq (within_live hp hrun t _) ?_
    simp [hlost, hgiven, hsrc]
  case input =>
    intro w hlost hgiven hsrc hat
    refine next_of_eq (within_live hp hrun t _) ?_
    simp [hlost, hgiven, hsrc, hat]
  case heave => exact fun node ts z vz => within_live hp hrun t _
  case noLimit => exact fun dir h => next_of_eq (within_live hp hrun t _) (if_pos h)
  case limit =>
    rintro dir a b c hdir hset hoff rfl rfl rfl
    exact next_of_eq (within_live hp hrun t _) (if_neg (by simp [hdir, hset, hoff]))
  case limitOff => exact fun dir hdir => next_of_eq (within_live hp hrun t _) (if_neg (Nat.not_le.mpr hdir))
  case noDirection => exact fun dir hdir => next_of_eq (within_live hp hrun t _) (if_pos hdir)
  case message => exact fun src epoch step share ty nc ramp target shaft => within_live hp hrun t _
  case masterLost => exact fun active announced => within_live hp hrun t _


end Sys2Proof.Machine

namespace Sys2Proof.Machine
open Sys2Proof

/-! ### Feedback in time -/

theorem fbOf_of_drive {a b : State} (h : a.drive = b.drive) (p : Nat) : a.fbOf p = b.fbOf p := (congrArg (fun x : State => x.fbOf p) h :)

/-- An event of a feedback interface that serves a partition with a sensor of its kind. -/
theorem fbEvent_served {s : State} {e ty p : Nat} (he : e < 8) (hrun : s.power = .running) (t : Time) (hserves : (s.at t).servedBy e = some p)
    (hty : (s.at t).fbType p = ty) (f : State → Nat → State) : fbEvent t e ty s f = .next (f (s.at t) p) := by
  refine next_of_eq (within_awake he hrun t _) ?_
  simp only [hserves]
  exact if_pos hty

theorem fbEvent_idle {s : State} {e ty : Nat} (he : e < 8) (hrun : s.power = .running) (t : Time)
    (hno : ∀ p, (s.at t).servedBy e = some p → (s.at t).fbType p ≠ ty) (f : State → Nat → State) : fbEvent t e ty s f = .next (s.at t) := by
  refine next_of_eq (within_awake he hrun t _) ?_
  cases hserves : (s.at t).servedBy e with
  | none => rfl
  | some p => exact if_neg (hno p hserves)

/-- What a sensor's failure or recovery leaves of its readings (R155, R157). -/
def Fb.reading (x : Fb) : Q × Q × Time := (x.wT, x.thT, x.lastAt)

theorem setFb_reading (s : State) (p : Nat) (x : Fb) : ((s.setFb p x).fbOf p).reading = x.reading := congrArg Fb.reading (setFb_self _ _ _)

theorem fbOk_reading (s : State) (p : Nat) : ((s.fbOk p).fbOf p).reading = (s.fbOf p).reading := setFb_reading _ _ _

theorem loseDrum_fbOf (s : State) (p : Nat) : (s.loseDrum p).fbOf p = s.fbOf p := by
  have hstage (c : Prop) [Decidable c] (w : State) : (if c then w.stageDevice 7 p [] else w).fbOf p = w.fbOf p := by
    split
    · exact fbOf_of_drive (stageDevice_drive _ _ _ _) p
    · rfl
  unfold State.loseDrum
  split
  · rfl
  · exact (hstage _ _).trans rfl

theorem fbInvalid_reading (s : State) (p bit : Nat) : ((s.fbInvalid p bit).fbOf p).reading = (s.fbOf p).reading := by
  have halarm (c : Prop) [Decidable c] (w : State) (src code : Nat) (data : List Byte) :
      (if c then w.alarm src code data else w).fbOf p = w.fbOf p := by
    split
    · exact fbOf_of_drive (alarm_drive _ _ _ _) p
    · rfl
  unfold State.fbInvalid
  simp only
  rw [loseDrum_fbOf, halarm, setFb_reading]
  rfl

theorem setFb_bissN (s : State) (p : Nat) (x : Fb) (q off len dflt : Nat) : (s.setFb p x).bissN q off len dflt = s.bissN q off len dflt := rfl

section Resolver
variable {s u : State} {t : Time} {e p : Nat} {sins coss : List (Nat × Q)}

/-- A resolver's sample moves the tracking loop, whatever the supervision of its signals then makes of the sensor (R157). -/
theorem resolverSample_tracks (he : e < 8) (hrun : s.power = .running) (hu : u = s.at t) (hserves : u.servedBy e = some p) (hty : u.fbType p = 2)
    (hsin : (Tab.get u.sdFlags 0 (u.resByte p 24 0)).testBit 1 = false) (hcos : (Tab.get u.sdFlags 0 (u.resByte p 25 0)).testBit 1 = false)
    {err w : Q} (herr : err = u.demodulate p sins * Config.cos (u.fbOf p).thT - u.demodulate p coss * Config.sin (u.fbOf p).thT)
    (hw : w = (u.fbOf p).wT + u.resP p 32 * u.resP p 32 * err * (1 / (2 * u.resP p 16))) :
    ∃ x, exec (.resolverSample t e sins coss) s = .next x ∧
      (x.fbOf p).reading = (w, (u.fbOf p).thT + (w + 14 / 10 * u.resP p 32 * err) * (1 / (2 * u.resP p 16)), u.now) := by
  subst hu hw herr
  refine ⟨_, fbEvent_served he hrun t hserves hty _, ?_⟩
  simp only [hsin, hcos, Bool.or_self, Bool.false_eq_true, if_false]
  have hset (x : Fb) (n : Nat) (c₁ c₂ c₃ : Prop) [Decidable c₁] [Decidable c₂] [Decidable c₃] (since : Option Time) :
      ((if c₁ then ((s.at t).setFb p x).fbInvalid p 3 else if c₂ then ((s.at t).setFb p x).fbInvalid p 4
        else if c₃ then match since with
          | some u => if u + 50000000 ≤ n then ((s.at t).setFb p x).fbOk p else (s.at t).setFb p x
          | none => (s.at t).setFb p x
        else (s.at t).setFb p x).fbOf p).reading = x.reading := by
    split
    · rw [fbInvalid_reading, setFb_reading]
    · split
      · rw [fbInvalid_reading, setFb_reading]
      · split
        · split
          · split
            · rw [fbOk_reading, setFb_reading]
            · exact setFb_reading _ _ _
          · exact setFb_reading _ _ _
        · exact setFb_reading _ _ _
  exact (hset _ _ _ _ _ _).trans rfl

end Resolver

/-- Settles O42: each event of an interface by the type of the sensor that it serves. -/
theorem feedbackEvents : Obligations.FeedbackEvents := by
  unfold Obligations.FeedbackEvents
  refine ⟨?unserved, ?served⟩
  case unserved =>
    rintro s u t e hrun rfl he hno count
    exact ⟨fbEvent_idle he hrun t hno _, fbEvent_idle he hrun t hno _, fbEvent_idle he hrun t hno _⟩
  case served =>
    rintro s u t e p hrun rfl he hserves
    refine ⟨?noIndex, ?firstIndex, ?index, ?missing, ?illegal, ?relock, ?resolver, ?request, ?noRequest, ?badFrame, ?frame⟩
    case noIndex =>
      intro count hty huse
      refine ⟨next_of_eq (fbEvent_served he hrun t hserves hty _) (if_pos (by simp [huse])), next_of_eq (fbEvent_served he hrun t hserves hty _) ?_⟩
      simp only
      split
      · rfl
      · exact if_neg (by simp [huse])
    case firstIndex =>
      intro count hty huse hfirst
      refine ⟨next_of_eq (fbEvent_served he hrun t hserves hty _) (by simp only [hfirst]),
        next_of_eq (fbEvent_served he hrun t hserves hty _) ((if_neg (not_not.mpr huse)).trans (by simp only [hfirst]))⟩
    case index =>
      rintro count c0 x hty huse hat rfl
      refine next_of_eq (fbEvent_served he hrun t hserves hty _) ((if_neg (not_not.mpr huse)).trans ?_)
      simp only [hat, decide_eq_true_eq]
    case missing =>
      intro count c0 hty huse hat
      refine next_of_eq (fbEvent_served he hrun t hserves hty _) ?_
      simp only [hat, huse, true_and]
    case illegal =>
      rintro x hty rfl
      refine next_of_eq (fbEvent_served he hrun t hserves hty _) ?_
      simp only [List.length_cons, Nat.reduceLeDiff]
    case relock =>
      intro sins coss hty hrelock
      exact next_of_eq (fbEvent_served he hrun t hserves hty _) (if_pos (by simpa using hrelock))
    case resolver =>
      rintro sins coss err w hty hsin hcos herr hw
      obtain ⟨x, hexec, hx⟩ := resolverSample_tracks he hrun rfl hserves hty hsin hcos herr hw
      exact ⟨x, hexec, congrArg Prod.fst hx, congrArg (fun r => r.2.1) hx, congrArg (fun r => r.2.2) hx⟩
    case request =>
      intro hty hlate
      refine next_of_eq (fbEvent_served he hrun t hserves hty _) (if_neg ?_)
      cases hat : ((s.at t).fbOf p).frameAt with
      | none => simp
      | some w => simpa using hlate w hat
    case noRequest =>
      intro w hty hat hearly
      exact next_of_eq (fbEvent_served he hrun t hserves hty _) (by simp only [hat, hearly, decide_true, if_true])
    case badFrame =>
      rintro n w0 w1 w2 w3 x y hty rfl hbad rfl
      refine next_of_eq (fbEvent_served he hrun t hserves hty _) ?_
      simp only [Option.bind_eq_none_iff.mpr hbad, setFb_self]
    case frame =>
      intro n w0 w1 w2 w3 w b hty hframe hdata hflags hvalid
      have hread : (((s.at t).setFb p { (s.at t).fbOf p with frameAt := some (s.at t).now }).bissFrame p n [w0, w1, w2, w3]).bind
          (fun w => ((s.at t).setFb p { (s.at t).fbOf p with frameAt := some (s.at t).now }).bissData p w) = some b :=
        Option.bind_eq_some_iff.mpr ⟨w, hframe, hdata⟩
      have hnext : exec (.bissFrameEnd t e n w0 w1 w2 w3) s = .next _ := fbEvent_served he hrun t hserves hty _
      simp only [hread, setFb_self, setFb_bissN, hflags, decide_false, Bool.false_and, Bool.not_false, Bool.true_or, not_true_eq_false, if_true,
        if_false, Bool.false_eq_true] at hnext
      rw [if_neg fun h => hvalid.elim h.1 fun hgood => absurd h.2 (by omega)] at hnext
      refine ⟨_, hnext, ?_⟩
      rw [setFb_self]
      exact ⟨rfl, rfl, rfl, rfl, rfl, rfl, rfl, rfl, rfl⟩

/-! ### The start of a running machine -/

/-- Settles O43: each event by the branch that its hypotheses leave. -/
theorem restartEvents : Obligations.RestartEvents := by
  unfold Obligations.RestartEvents
  rintro s u t p hrun rfl hp
  refine ⟨?second, ?run, ?noPulse, ?hold, ?noHold, ?blend, ?noBlend⟩
  case second =>
    intro iu iv iw w hst hrestart hwait hfirst hat hfrom hends hpeak
    refine next_of_eq (within_live hp hrun t _) ((if_neg ?_).trans ?_)
    · rintro (h | h | h | h)
      · exact h hst
      · exact h hrestart
      · rw [Option.isNone_iff_eq_none.mp h] at hwait
        cases hwait
      · rw [hat] at h
        simp only [hfrom, decide_true, Bool.true_and, Bool.or_eq_true, decide_eq_true_eq] at h
        exact h hends.symm
    · simp only [hfirst]
      exact if_neg (not_lt.mpr hpeak)
  case run =>
    intro iu iv iw w n series seq w0 hst hrestart hwait hfirst hat hfrom hends hpeak
    refine next_of_eq (within_live hp hrun t _) ((if_neg ?_).trans ?_)
    · simp [hst, hrestart, hwait, hat, hfrom, hends]
    · simp only [hfirst]
      exact (if_pos hpeak).trans (by simp only [setCtl_self, hwait])
  case noPulse =>
    intro iu iv iw h
    refine next_of_eq (within_live hp hrun t _) (if_pos ?_)
    rcases h with h | h | h | h <;> simp [h]
  case hold =>
    intro w hat
    exact next_of_eq (within_live hp hrun t _) (by simp only [hat])
  case noHold =>
    intro hnone
    exact next_of_eq (within_live hp hrun t _) (by simp only [hnone])
  case blend =>
    intro w hat
    exact next_of_eq (within_live hp hrun t _) (by simp only [hat])
  case noBlend =>
    intro hnone
    exact next_of_eq (within_live hp hrun t _) (by simp only [hnone])

/-! ### What a message leaves alone -/

/-- One state is another but for the host side and the fabric. -/
def Messaged (s t : State) : Prop := ∃ f, t.drive = { s.drive with fab := f }

theorem Messaged.refl (s : State) : Messaged s s := ⟨s.fab, rfl⟩

theorem Messaged.trans {a b c : State} (hab : Messaged a b) (hbc : Messaged b c) : Messaged a c := by
  obtain ⟨f, hf⟩ := hab
  obtain ⟨g, hg⟩ := hbc
  exact ⟨g, by rw [hg, hf]⟩

theorem messaged_of_drive {s t : State} (h : t.drive = s.drive) : Messaged s t := ⟨s.fab, h⟩

theorem messaged_setFab (s : State) (f : Fab) : Messaged s { s with fab := f } := ⟨f, rfl⟩

theorem messaged_foldl {α : Type} {f : State → α → State} (hf : ∀ s a, Messaged s (f s a)) (l : List α) (s : State) : Messaged s (l.foldl f s) := by
  induction l generalizing s with
  | nil => exact .refl s
  | cons a l ih => exact (hf s a).trans (ih _)

theorem messaged_transmit (s : State) (k : Nat) (bytes : List Byte) : Messaged s (s.transmit k bytes) := by
  unfold State.transmit
  simp only
  split
  · exact messaged_setFab s _
  · exact messaged_setFab s _

theorem messaged_launch (s : State) (cls dst kind q n : Nat) (body : List Byte) : Messaged s (s.launch cls dst kind q n body) := by
  unfold State.launch
  simp only
  split
  · exact messaged_foldl (fun s k => messaged_transmit s k _) _ _
  · split
    · exact messaged_transmit _ _ _
    · exact .refl s

theorem messaged_fabSend (s : State) (cls dst kind : Nat) (body : List Byte) : Messaged s (s.fabSend cls dst kind body) := by
  have hmark (c : Prop) [Decidable c] (w v : State) (hv : Messaged w v) (k e used : Nat) : Messaged w (if c then v.mark k e used else w) := by
    split
    · exact hv.trans (messaged_of_drive (mark_drive _ _ _ _))
    · exact .refl w
  exact (messaged_setFab s _).trans ((hmark _ _ _ (messaged_setFab _ _) _ _ _).trans (messaged_launch _ _ _ _ _ _ _))

theorem Messaged.plant {s t : State} (h : Messaged s t) : t.plant = s.plant := by
  obtain ⟨f, hf⟩ := h
  exact (congrArg State.plant hf :)

theorem Messaged.now {s t : State} (h : Messaged s t) : t.now = s.now := by
  obtain ⟨f, hf⟩ := h
  exact (congrArg State.now hf :)

/-! ### The allocator -/

theorem foldl_plant {α : Type} (f : State → α → State) (hf : ∀ s a, (f s a).plant = s.plant) (l : List α) (s : State) :
    (l.foldl f s).plant = s.plant := by
  induction l generalizing s with
  | nil => rfl
  | cons a l ih => exact (ih _).trans (hf s a)

theorem alarm_plant (s : State) (src code : Nat) (data : List Byte) : (s.alarm src code data).plant = s.plant :=
  (congrArg State.plant (alarm_drive s src code data) :)

theorem takeSupply_rounds (s : State) (r : SupplyRec) : (s.takeSupply r).plant.rounds = s.plant.rounds := by
  have heither (c : Prop) [Decidable c] (w : State) (hw : w.plant.rounds = s.plant.rounds) : (if c then w else s).plant.rounds = s.plant.rounds := by
    split
    · exact hw
    · rfl
  exact heither _ _ rfl

theorem checkInterleave_plant (s : State) (r : IlRec) : (s.checkInterleave r).plant = s.plant := by
  refine foldl_plant _ (fun w p => ?_) _ s
  split
  · split
    · exact alarm_plant _ _ _ _
    · rfl
  · rfl

/-- A record of another node that is not failed is kept, whatever else it brings (R184). -/
theorem roundRecord_kept {s : State} {t : Time} {r : RoundRec} (hrun : s.power = .running) (hother : r.node ≠ (s.at t).node)
    (hfailed : (s.at t).fab.failed.contains r.node = false) :
    ∃ x, exec (.roundRecordReceived t r) s = .next x ∧ Tab.get x.plant.rounds none r.node = some r := by
  have hnext : exec (.roundRecordReceived t r) s = .next _ := next_live hrun t _
  rw [if_neg fun h => h.elim hother (Bool.eq_false_iff.mp hfailed)] at hnext
  refine ⟨_, hnext, ?_⟩
  have halarm (c : Prop) [Decidable c] (w : State) (code : Nat) : (if c then w.alarm srcChip code [] else w).plant.rounds = w.plant.rounds := by
    split
    · rw [alarm_plant]
    · rfl
  have hsups (l : List SupplyRec) (w : State) : (l.foldl (fun s u => s.takeSupply u) w).plant.rounds = w.plant.rounds := by
    induction l generalizing w with
    | nil => rfl
    | cons a l ih => exact (ih _).trans (takeSupply_rounds w a)
  have hils (l : List IlRec) (w : State) : (l.foldl (fun s u => s.checkInterleave u) w).plant.rounds = w.plant.rounds :=
    congrArg Plant.rounds (foldl_plant _ checkInterleave_plant l w)
  simp only
  rw [halarm, hils, hsups, halarm]
  exact Tab.get_set_self (s.at t).plant.rounds none r.node (some r)

/-- Consumers' demands set leave everything else alone. -/
theorem foldl_setCons {α : Type} {f : State → α → State} (hf : ∀ s a, ∃ c, f s a = { s with cons := c }) (l : List α) (s : State) :
    ∃ c, l.foldl f s = { s with cons := c } := by
  induction l generalizing s with
  | nil => exact ⟨s.cons, rfl⟩
  | cons a l ih =>
    obtain ⟨c, hc⟩ := hf s a
    obtain ⟨c', hc'⟩ := ih (f s a)
    exact ⟨c', by rw [List.foldl_cons, hc', hc]⟩

/-- The demands and offers of this node's consumers at a round, with what they come from begun anew (R183). -/
def State.demanded (s : State) (who : List Nat) (pmax mot gen : List Q) : State :=
  let v := ((List.range 8).filter fun p => s.publishes p).foldl (fun (s : State) p =>
    let x := s.demandOf p (pmax.getD (who.idxOf p) 0) (mot.getD (who.idxOf p) 0) (gen.getD (who.idxOf p) 0)
    s.setCons p { s.consOf p with demand := x.1, offer := x.2 }) s
  v.consumers.foldl (fun (s : State) p => s.setCons p { s.consOf p with motSum := 0, regSum := 0, steps := 0 }) v

theorem demanded_cons (s : State) (who : List Nat) (pmax mot gen : List Q) : ∃ c, s.demanded who pmax mot gen = { s with cons := c } := by
  obtain ⟨c, hc⟩ := foldl_setCons (f := fun (s : State) p => s.setCons p
    { s.consOf p with
      demand := (s.demandOf p (pmax.getD (who.idxOf p) 0) (mot.getD (who.idxOf p) 0) (gen.getD (who.idxOf p) 0)).1
      offer := (s.demandOf p (pmax.getD (who.idxOf p) 0) (mot.getD (who.idxOf p) 0) (gen.getD (who.idxOf p) 0)).2 })
    (fun _ _ => ⟨_, rfl⟩) ((List.range 8).filter fun p => s.publishes p) s
  obtain ⟨c', hc'⟩ := foldl_setCons (f := fun (s : State) p => s.setCons p { s.consOf p with motSum := 0, regSum := 0, steps := 0 })
    (fun _ _ => ⟨_, rfl⟩) (State.consumers { s with cons := c }) { s with cons := c }
  refine ⟨c', ?_⟩
  unfold State.demanded
  simp only
  rw [hc, hc']

/-- The record that this node publishes for a round (R183). -/
def State.ownRound (s : State) (round : Nat) (parts : List Nat) : RoundRec :=
  { node := s.node, epoch := s.sys.nodeEpoch, round := round, cons := parts.filterMap fun p => s.consRec p
    sups := s.plant.supplies.filterMap fun e => e.2, ils := (List.range 8).filterMap fun p => s.ilRec p, digest := s.plant.digest }

/-- A record published, with the alarms of what clashes in it (R183). -/
def State.announced (s : State) (r : RoundRec) : State :=
  let v := s.setPlant { s.plant with rounds := Tab.set s.plant.rounds none s.node (some r) }
  let v := if nubNat [] (r.cons.map fun c => c.id) = r.cons.map fun c => c.id then v else v.alarm srcChip 0x0702 []
  let v := v.clashing.foldl (fun s p => s.alarm (srcPart p) 0x0703 []) v
  if v.locked then v.fabSend 2 0xFFFF 1 r.bytes else v

theorem announced_plant (s : State) (r : RoundRec) :
    (s.announced r).plant = { s.plant with rounds := Tab.set s.plant.rounds none s.node (some r) } := by
  have hsend (c : Prop) [Decidable c] (w : State) (body : List Byte) : (if c then w.fabSend 2 0xFFFF 1 body else w).plant = w.plant := by
    split
    · exact (messaged_fabSend _ _ _ _ _).plant
    · rfl
  have halarms (l : List Nat) (w : State) : (l.foldl (fun s p => s.alarm (srcPart p) 0x0703 []) w).plant = w.plant :=
    foldl_plant _ (fun s p => alarm_plant s _ _ _) l w
  have halarm (c : Prop) [Decidable c] (w : State) : (if c then w else w.alarm srcChip 0x0702 []).plant = w.plant := by
    split
    · rfl
    · exact alarm_plant _ _ _ _
  unfold State.announced
  simp only
  rw [hsend, halarms, halarm]
  rfl

theorem announced_kept (s : State) (r : RoundRec) : Tab.get (s.announced r).plant.rounds none s.node = some r := by
  rw [announced_plant]
  exact Tab.get_set_self s.plant.rounds none s.node (some r)

/-- This node's record of a round stands in its table with what its tables hold (R183). -/
theorem roundPublished {s : State} {t : Time} (hrun : s.power = .running) (round : Nat) (who : List Nat) (pmax mot gen : List Q) :
    ∃ x r, exec (.allocRoundPublish t round who pmax mot gen) s = .next x ∧ Tab.get x.plant.rounds none (s.at t).node = some r ∧
      r.node = (s.at t).node ∧ r.round = round ∧ r.epoch = (s.at t).sys.nodeEpoch ∧ r.digest = (s.at t).plant.digest ∧
      r.sups = (s.at t).plant.supplies.filterMap fun e => e.2 := by
  have hnext : exec (.allocRoundPublish t round who pmax mot gen) s = .next (((s.at t).demanded who pmax mot gen).announced
      (((s.at t).demanded who pmax mot gen).ownRound round ((List.range 8).filter fun p => (s.at t).publishes p))) := next_live hrun t _
  obtain ⟨c, hc⟩ := demanded_cons (s.at t) who pmax mot gen
  rw [hc] at hnext
  refine ⟨_, State.ownRound { s.at t with cons := c } round ((List.range 8).filter fun p => (s.at t).publishes p), hnext, ?_, rfl, rfl, rfl,
    rfl, rfl⟩
  exact announced_kept { s.at t with cons := c } _

/-- Settles O44: each round by the branch that its hypotheses leave. -/
theorem allocatorRounds : Obligations.AllocatorRounds := by
  unfold Obligations.AllocatorRounds
  rintro s u t hrun rfl
  refine ⟨?publish, ?bare, ?received, ?unread, ?compute, ?notDue, ?apply, ?one⟩
  case publish => exact fun round who pmax mot gen => roundPublished hrun round who pmax mot gen
  case bare =>
    intro r hother hfailed hsups hils hcons hround
    refine next_of_eq (next_live hrun t _) ((if_neg fun h => h.elim hother (Bool.eq_false_iff.mp hfailed)).trans ?_)
    simp [hsups, hils, hcons, hround]
  case received => exact fun r hother hfailed => roundRecord_kept hrun hother hfailed
  case unread => exact fun r h => next_of_eq (next_live hrun t _) (if_pos h)
  case compute => exact fun round => ⟨_, next_live hrun t _, rfl, rfl, rfl, rfl⟩
  case notDue => exact fun round h => next_of_eq (next_live hrun t _) (if_pos h)
  case apply =>
    intro round hround happlied
    have hnext : exec (.grantApply t round) s = .next _ := next_live hrun t _
    rw [if_neg (by simp [hround, happlied])] at hnext
    refine ⟨_, hnext, rfl, rfl, fun hnone => ?_⟩
    simp only [hnone, List.foldl_nil]
  case one =>
    intro round p g hround happlied hone hgrant hsame hlevel
    have hnext : exec (.grantApply t round) s = .next _ := next_live hrun t _
    rw [if_neg (by simp [hround, happlied])] at hnext
    simp only [hone, List.foldl_cons, List.foldl_nil, hgrant, hsame, hlevel] at hnext
    refine ⟨_, hnext, ?_, ?_, rfl⟩
    · exact congrArg Cons.mot (setCons_self (s.at t) p _)
    · exact congrArg Cons.regen (setCons_self (s.at t) p _)

/-! ### The plant in time -/

/-- Settles O45: each event by the branch that its hypotheses leave. -/
theorem plantEvents : Obligations.PlantEvents := by
  unfold Obligations.PlantEvents
  rintro s u t hrun rfl
  refine ⟨?stale, ?breaker, ?collapse, ?calving, ?free, ?held, ?retry, ?noRequest, ?timeout⟩
  case stale =>
    rintro sec next v hsec rfl rfl
    refine next_of_eq (within_live hsec hrun t _) ((if_congr ?_ rfl rfl).trans (ite_not _ _ _))
    simp only [Bool.or_eq_true, not_and_or, not_le]
  case breaker =>
    intro k hk
    refine next_of_eq (within_live hk hrun t _) ((if_congr ?_ rfl rfl).trans (ite_not _ _ _))
    simp only [not_and_or, not_not, ne_eq]
  case collapse =>
    intro p why hp
    refine next_of_eq (within_live hp hrun t _) ((if_congr ?_ rfl rfl).trans (ite_not _ _ _))
    simp only [not_and_or, not_not, ne_eq]
  case calving => exact fun node seq sections level => next_live hrun t _
  case free =>
    intro node tenant part stamp hpart hfree
    refine next_of_eq (within_live hpart hrun t _) ?_
    have hnone : ((s.at t).plant.holds.find? fun x => decide (x.part = part)) = none := by
      rw [List.find?_eq_none]
      exact fun h hh => by simpa using hfree h hh
    simp only [hnone]
  case held =>
    rintro node tenant part stamp g h hpart hheld rfl
    refine ⟨fun hsame => ?_, fun hother holder => ?_, fun hother holder => ?_⟩
    · exact next_of_eq (within_live hpart hrun t _) (by simp only [hheld]; exact if_pos hsame)
    · exact next_of_eq (within_live hpart hrun t _) (by simp only [hheld]; exact (if_neg hother).trans (if_pos holder))
    · exact next_of_eq (within_live hpart hrun t _) (by simp only [hheld]; exact (if_neg hother).trans (if_neg (by simp [holder])))
  case retry =>
    intro handle r w hfind hat
    exact next_of_eq (next_live hrun t _) (by simp only [hfind, hat, decide_eq_true_eq])
  case noRequest =>
    exact fun handle hnone => ⟨next_of_eq (next_live hrun t _) (by simp only [hnone]), next_of_eq (next_live hrun t _) (by simp only [hnone])⟩
  case timeout =>
    intro handle r hfind
    refine next_of_eq (next_live hrun t _) ?_
    simp only [hfind]
    refine (if_congr ?_ rfl rfl).trans (ite_not _ _ _)
    simp only [not_and_or, not_le, Bool.not_eq_false]

/-! ### Braking in time -/

theorem switchOn_now (s : State) (c : Nat) : (s.switchOn c).now = s.now := by
  unfold State.switchOn
  simp only
  split
  · rfl
  · split <;> rfl

theorem driveBrakes_now (s : State) (p : Nat) : (s.driveBrakes p true).now = s.now := by
  have hfold (l : List Nat) (u : State) : (l.foldl (fun s c => s.switchOn c) u).now = u.now := by
    induction l generalizing u with
    | nil => rfl
    | cons c l ih => exact (ih _).trans (switchOn_now u c)
  exact hfold _ _

/-- Settles O46: each event by the branch that its hypotheses leave. -/
theorem brakingEvents : Obligations.BrakingEvents := by
  unfold Obligations.BrakingEvents
  rintro s u t p hrun rfl hp
  refine ⟨?voltage, ?clip, ?noShort, ?shortEnd, ?swap, ?still, ?set, ?release, ?released, ?noRelease, ?quick, ?quickSlow, ?noQuick, ?resync, ?delay,
    ?expiry, ?noExpiry, ?ss1, ?noSs1⟩
  case voltage =>
    intro w hst hsc hss1 hdenied hat hover
    exact next_of_eq (within_live hp hrun t _) ((if_neg (by simpa [hsc, hss1, hdenied, or_iff_not_imp_left] using hst)).trans (if_pos (by simp [hat, hover])))
  case clip =>
    intro w hst hsc hss1 hdenied hnone hat
    refine next_of_eq (within_live hp hrun t _) ((if_neg (by simpa [hsc, hss1, hdenied, or_iff_not_imp_left] using hst)).trans ?_)
    simp [hnone, hat]
  case noShort => exact fun h => next_of_eq (within_live hp hrun t _) (if_pos h)
  case shortEnd => exact within_live hp hrun t _
  case swap => exact within_live hp hrun t _
  case still => exact within_live hp hrun t _
  case set => exact within_live hp hrun t _
  case release =>
    refine next_of_eq (within_live hp hrun t _) ?_
    simp only [driveBrakes_now]
  case released =>
    intro w hat
    exact next_of_eq (within_live hp hrun t _) (by simp only [hat])
  case noRelease =>
    intro hnone
    exact next_of_eq (within_live hp hrun t _) (by simp only [hnone])
  case quick =>
    intro hqr hout
    exact next_of_eq (within_live hp hrun t _) (if_pos ⟨hqr, .inr hout⟩)
  case quickSlow =>
    intro w hqr hin hat
    refine next_of_eq (within_live hp hrun t _) ?_
    simp only [hqr, hat, not_le.mpr hin, decide_eq_true_eq, or_false, true_and]
  case noQuick =>
    intro h
    refine next_of_eq (within_live hp hrun t _) (if_neg ?_)
    rcases h with h | ⟨hin, hnone⟩
    · simp [h]
    · simp [hnone, not_le.mpr hin]
  case resync => exact within_live hp hrun t _
  case delay => exact within_live hp hrun t _
  case expiry =>
    intro hrt hends
    refine next_of_eq (within_live hp hrun t _) (if_pos ⟨hrt, ?_⟩)
    rcases hends with hslow | ⟨w, hat, hover⟩
    · exact .inr hslow
    · simp [hat, hover]
  case noExpiry =>
    intro h
    refine next_of_eq (within_live hp hrun t _) (if_neg fun hact => ?_)
    obtain ⟨hrt, hends⟩ := hact
    rcases h with h | ⟨hfast, hearly⟩
    · exact hrt h
    · rcases hends with hlate | hslow
      · cases hat : ((s.at t).brkOf p).rtAt with
        | none => simp [hat] at hlate
        | some w =>
          simp only [hat, decide_eq_true_eq] at hlate
          exact Nat.not_le.mpr (hearly w hat) hlate
      · exact not_lt.mpr hfast hslow
  case ss1 =>
    intro w group hss1
    exact next_of_eq (within_awake hp hrun t _) (by simp only [hss1])
  case noSs1 =>
    intro hnone
    exact next_of_eq (within_awake hp hrun t _) (by simp only [hnone])

/-! ### Safety in time -/

theorem at_power (s : State) (t : Time) : (s.at t).power = s.power := by
  unfold State.at
  split <;> rfl

/-- Settles O47: each event by the branch that its hypotheses leave. -/
theorem safetyEvents : Obligations.SafetyEvents := by
  unfold Obligations.SafetyEvents
  rintro s u t hrun rfl
  have hpower : (s.at t).power = .running := (at_power s t).trans hrun
  refine ⟨?assert, ?release, ?window, ?remote, ?old, ?disagree, ?sto, ?ss1, ?stoRelease, ?discrepancy, ?watchdog, ?host, ?timeBase, ?scrub⟩
  case assert =>
    rintro i x hi rfl
    rw [exec_tripinAssert, execTripinAssert, within_next s _ hi, at_running hrun]
    exact congrArg Host.Outcome.next (if_pos (Or.inl hrun))
  case release =>
    rintro i x hi rfl
    rw [exec_tripinRelease, execTripinRelease, within_next s _ hi, at_running hrun]
    exact congrArg Host.Outcome.next (if_pos (Or.inl hrun))
  case window => exact fun d v hd => within_awake hd hrun t _
  case remote =>
    intro node mask epoch hepoch
    refine next_of_eq (next_awake hrun t _) (if_neg ?_)
    cases hlast : (s.at t).epochOf node with
    | none => nofun
    | some e => exact Bool.eq_false_iff.mp (hepoch e hlast)
  case old =>
    intro node mask epoch e hlast holder
    exact next_of_eq (next_awake hrun t _) (if_pos (by simp [hlast, holder]))
  case disagree => exact fun signal => next_awake hrun t _
  case sto =>
    intro group chanB hg
    rw [exec_stoAssert, execStoAssert, within_next s _ hg]
  case ss1 =>
    intro group chanB hg
    rw [exec_ss1Request, execSs1Request, within_next s _ hg]
  case stoRelease =>
    intro group hg
    rw [exec_stoRelease, execStoRelease, within_next s _ hg]
    refine congrArg _ (if_congr ?_ rfl rfl)
    rw [Bool.not_eq_true]
  case discrepancy =>
    rintro group lowA lowB us x hg rfl
    rw [exec_stoDiscrepancy, execStoDiscrepancy, within_next s _ hg]
    exact congrArg Host.Outcome.next (if_pos (Or.inl hpower))
  case watchdog => exact fun r hr => within_awake hr hrun t _
  case host => exact next_awake hrun t _
  case timeBase => exact next_awake hrun t _
  case scrub => exact fun area index off bits => next_awake hrun t _

/-! ### Temperatures in time -/

theorem siteEvent_running {s : State} {t : Time} {cls idx : Nat} (hcls : cls < 3) (hrun : s.power = .running) (f : State → Site → State) :
    siteEvent t cls idx s f = .next (f (s.at t)
      (if cls = 0 then .die (idx % 64) else if cls = 1 then .cell (idx / 2 % 1024) (idx % 2) else .cool (idx / 4 % 8) (idx % 4))) :=
  (within_next s _ hcls).trans (next_live hrun t _)

theorem drainPort_sensor (s : State) (port n k : Nat) : (s.drainPort port n).sensor k = s.sensor k := by
  induction n generalizing s with
  | zero => rfl
  | succ n ih =>
    unfold State.drainPort
    split
    · rfl
    · split
      · rfl
      · exact (ih _).trans rfl

theorem releaseBulk_sensor (s : State) (k : Nat) : s.releaseBulk.sensor k = s.sensor k := by
  have hfold (l : List Nat) (w : State) : (l.foldl (fun s k => s.drainPort k s.fab.held.length) w).sensor k = w.sensor k := by
    induction l generalizing w with
    | nil => rfl
    | cons a l ih => exact (ih _).trans (drainPort_sensor w a _ k)
  exact hfold _ s

/-- The level that the readings of a sensor confirm: a suspect one reaches 3 only with another (R302). -/
theorem confirmed_level (n1 n2 n3 : Nat) (suspect failed confirmed : Bool) :
    (if (if 4 ≤ n3 then 3 else if 4 ≤ n2 then 2 else if 4 ≤ n1 then 1 else 0) = 3 ∧ suspect = true ∧ ¬ failed = true ∧ ¬ confirmed = true then 2
      else if 4 ≤ n3 then 3 else if 4 ≤ n2 then 2 else if 4 ≤ n1 then 1 else 0) =
    if 4 ≤ n3 then if suspect = true ∧ failed = false ∧ confirmed = false then 2 else 3
      else if 4 ≤ n2 then 2 else if 4 ≤ n1 then 1 else 0 := by
  by_cases h3 : 4 ≤ n3
  · simp only [if_pos h3, true_and, Bool.not_eq_true]
  · have hless : ¬ ((if 4 ≤ n2 then 2 else if 4 ≤ n1 then 1 else 0) = 3) := by
      split
      · decide
      · split <;> decide
    simp only [if_neg h3, hless, false_and, if_false]

/-- Settles O48: each event by the branch that its hypotheses leave. -/
theorem thermalEvents : Obligations.ThermalEvents := by
  unfold Obligations.ThermalEvents
  rintro s u t hrun rfl
  refine ⟨?fenced, ?evaluated, ?failed, ?fine, ?level⟩
  case fenced => exact fun r die cool hr hfenced => next_of_eq (within_live hr hrun t _) (if_pos hfenced)
  case evaluated =>
    intro r die cool a b c e f hr hfenced ha hb hc he hf
    rw [hf, he, hc, hb, ha, exec_thermalEvaluation, execThermalEvaluation, within_live hr hrun t _, if_neg (Bool.eq_false_iff.mp hfenced)] <;> rfl
  case failed =>
    rintro i x hi rfl hsuspect hfailed hover
    have hnext := exec_sensorFailed t 0 i s
    rw [execSensorFailed, siteEvent_running (Nat.zero_lt_succ 2) hrun, if_pos rfl, Nat.mod_eq_of_lt hi, if_neg (by simp [hsuspect, hfailed, hover])] at hnext
    refine ⟨_, hnext, ?_, ?_⟩
    · rw [releaseBulk_sensor, setSensor_self]
    · rw [releaseBulk_sensor, setSensor_self]
  case fine =>
    rintro i x hi rfl h
    have hnext := exec_sensorFailed t 0 i s
    rw [execSensorFailed, siteEvent_running (Nat.zero_lt_succ 2) hrun, if_pos rfl, Nat.mod_eq_of_lt hi] at hnext
    exact next_of_eq hnext (if_pos (by simpa using h))
  case level =>
    rintro cls idx x top hcls rfl rfl
    rw [exec_thermalLevelRise, execThermalLevelRise, siteEvent_running hcls hrun]
    simp only [confirmed_level]


end Sys2Proof.Machine

namespace Sys2Proof.Machine
open Sys2Proof

/-! ### Motor channels in time -/

theorem foldl_idle {α : Type} {f : State → α → State} {l : List α} {s : State} (h : ∀ b ∈ l, f s b = s) : l.foldl f s = s := by
  induction l with
  | nil => rfl
  | cons a l ih =>
    rw [List.foldl_cons, h a List.mem_cons_self]
    exact ih fun b hb => h b (List.mem_cons_of_mem a hb)

/-- Where one element of a list acts alone, going through the list is that element's act. -/
theorem foldl_only {α : Type} {f : State → α → State} {l : List α} {a : α} {s s' : State} (hnodup : l.Nodup) (ha : a ∈ l)
    (hbefore : ∀ b ∈ l, b ≠ a → f s b = s) (hact : f s a = s') (hafter : ∀ b ∈ l, b ≠ a → f s' b = s') : l.foldl f s = s' := by
  obtain ⟨l₁, l₂, rfl⟩ := List.append_of_mem ha
  have hne₁ : ∀ b ∈ l₁, b ≠ a := by
    rintro b hb rfl
    exact (List.nodup_middle.mp hnodup).notMem (List.mem_append_left l₂ hb)
  have hne₂ : ∀ b ∈ l₂, b ≠ a := by
    rintro b hb rfl
    exact (List.nodup_middle.mp hnodup).notMem (List.mem_append_right l₁ hb)
  rw [List.foldl_append, List.foldl_cons, foldl_idle fun b hb => hbefore b (List.mem_append_left _ hb) (hne₁ b hb), hact]
  exact foldl_idle fun b hb => hafter b (List.mem_append_right _ (List.mem_cons_of_mem a hb)) (hne₂ b hb)

theorem motorEvent_mode {s : State} {t : Time} {m mode : Nat} (hm : m < 16) (hrun : s.power = .running) (hmode : (s.at t).auxMode m = mode)
    (f : State → State) : motorEvent t m mode s f = .next (f (s.at t)) :=
  (within_awake hm hrun t _).trans (congrArg _ (if_pos hmode))

theorem motorEvent_other {s : State} {t : Time} {m mode : Nat} (hm : m < 16) (hrun : s.power = .running) (hmode : (s.at t).auxMode m ≠ mode)
    (f : State → State) : motorEvent t m mode s f = .next (s.at t) :=
  (within_awake hm hrun t _).trans (congrArg _ (if_neg hmode))

section Motor
variable {s : State} {t : Time} {m : Nat}

/-- The edge of a step input moves the one stepper that it drives (R285). -/
theorem stepInputEdge_one {sw : Nat} {dirHigh : Bool} (hrun : s.power = .running) (hm : m < 16) (hmode : (s.at t).auxMode m = 2) (hsw : sw < 32)
    (hsrc : (s.at t).srcByte m 16 = 1) (hinput : (s.at t).srcByte m 17 = 0x20 + sw) (hst : ((s.at t).auxOf m).st = 8)
    (halone : ∀ k < 16, k ≠ m → (s.at t).auxMode k ≠ 2) :
    exec (.stepInputEdge t sw dirHigh) s = .next ((s.at t).setAux m { (s.at t).auxOf m with
      coarse := ((s.at t).auxOf m).coarse ++
        [(if dirHigh then 1 else -1, 2 ^ ((s.at t).stepByte m 16 5 - (s.at t).srcByte m 19), (s.at t).stepFloor m)]
      coarseAt := some (s.at t).now }) := by
  refine next_of_eq (within_awake hsw hrun t _) (foldl_only List.nodup_range (List.mem_range.mpr hm) ?_ ?_ ?_)
  · exact fun k hk hkm => if_neg fun h => halone k (List.mem_range.mp hk) hkm h.1
  · refine (if_pos ⟨hmode, hsrc, hinput, .inr hst⟩).trans ?_
    cases hat : ((s.at t).auxOf m).coarseAt <;> simp [hst]
  · exact fun k hk hkm => if_neg fun h => halone k (List.mem_range.mp hk) hkm h.1

end Motor

theorem setAux_bldcP (s : State) (c : Nat) (x : Aux) (k off : Nat) : (s.setAux c x).bldcP k off = s.bldcP k off := rfl

theorem setAux_bldcSpeed (s : State) (c : Nat) (x : Aux) (k : Nat) (f : Q) : (s.setAux c x).bldcSpeed k f = s.bldcSpeed k f := rfl

theorem setAux_now (s : State) (c : Nat) (x : Aux) : (s.setAux c x).now = s.now := rfl

theorem bldcRun_now (s : State) (c sector : Nat) (duty w : Q) (iv : Nat) : (s.bldcRun c sector duty w iv).now = s.now := rfl

/-- Settles O49: each event by the branch that its hypotheses leave. -/
theorem motorEvents : Obligations.MotorEvents := by
  unfold Obligations.MotorEvents
  refine ⟨?brushless, ?stepper, ?others⟩
  case brushless =>
    rintro s u t m hrun rfl hm hmode
    refine ⟨?noCheck, ?first, ?again, ?turning, ?still, ?waited, ?noWait, ?align, ?ramp, ?crossing, ?rampComm, ?idle, ?comm, ?rampEnd, ?retry,
      ?noRetry, ?cut, ?peak, ?noLoop, ?loop, ?hold, ?noHold⟩
    case noCheck => exact fun f sector h => next_of_eq (motorEvent_mode hm hrun hmode _) (if_pos h)
    case first =>
      intro f sector hst hretry hf hlast
      refine next_of_eq (motorEvent_mode hm hrun hmode _) ((if_neg (by simp [hst, hretry])).trans ((if_pos hf).trans ?_))
      simp only [hlast]
    case again =>
      intro f sector w0 d0 hst hretry hf hlast
      refine next_of_eq (motorEvent_mode hm hrun hmode _) ((if_neg (by simp [hst, hretry])).trans ((if_pos hf).trans ?_))
      simp only [hlast]
    case turning =>
      intro f sector hst hretry hturn hslow
      exact next_of_eq (motorEvent_mode hm hrun hmode _)
        ((if_neg (by simp [hst, hretry])).trans ((if_neg (not_le.mpr hslow)).trans (if_pos hturn)))
    case still =>
      intro f sector hst hretry hslow hback hf
      exact next_of_eq (motorEvent_mode hm hrun hmode _) ((if_neg (by simp [hst, hretry])).trans ((if_neg (not_le.mpr hf)).trans
        ((if_neg (not_le.mpr hslow)).trans (if_neg (not_le.mpr hback)))))
    case waited =>
      intro w hwait
      exact next_of_eq (motorEvent_mode hm hrun hmode _) (by simp only [hwait])
    case noWait =>
      intro hnone
      exact next_of_eq (motorEvent_mode hm hrun hmode _) (by simp only [hnone])
    case align => exact motorEvent_mode hm hrun hmode _
    case ramp =>
      intro order n x y iv hst hiv hn hx hy
      rw [exec_bldcZeroCrossing, execBldcZeroCrossing, motorEvent_mode hm hrun hmode, if_pos hst]
      subst hy hx hn hiv
      simp only [setAux_bldcP, setAux_bldcSpeed, bldcRun_now, setAux_now]
      rfl
    case crossing =>
      intro order hst
      refine next_of_eq (motorEvent_mode hm hrun hmode _) ((if_neg ?_).trans ?_)
      · rcases hst with h | h <;> simp [h]
      · simp only [hst, true_and, Bool.not_eq_true]
    case rampComm => exact fun hst => next_of_eq (motorEvent_mode hm hrun hmode _) (if_pos hst)
    case idle =>
      intro good h4 h5 h6
      refine ⟨next_of_eq (motorEvent_mode hm hrun hmode _) ((if_neg h4).trans (if_neg ?_)),
        next_of_eq (motorEvent_mode hm hrun hmode _) ((if_neg h4).trans (if_neg (not_or.mpr ⟨h5, h6⟩)))⟩
      exact fun h => h.1.elim h5 h6
    case comm =>
      intro w hst hnext
      have hexec : exec (.bldcCommutation t m) s = .next _ := motorEvent_mode hm hrun hmode _
      simp only [hst, hnext, Nat.reduceEqDiff, if_false, true_or, if_true, Option.isSome_some] at hexec
      rw [if_neg (by decide)] at hexec
      refine ⟨_, hexec, ?_⟩
      rw [setAux_self]
      exact ⟨rfl, rfl, rfl, rfl, rfl, rfl⟩
    case rampEnd => exact motorEvent_mode hm hrun hmode _
    case retry =>
      intro w hat
      exact next_of_eq (motorEvent_mode hm hrun hmode _) (by simp only [hat])
    case noRetry =>
      intro hnone
      exact next_of_eq (motorEvent_mode hm hrun hmode _) (by simp only [hnone])
    case cut => exact next_of_eq (within_awake hm hrun t _) ((if_neg (by simp [hmode])).trans (if_pos (by simp)))
    case peak =>
      intro hst hnone
      refine next_of_eq (within_awake hm hrun t _) ((if_neg (by simp [hmode])).trans ((if_neg (by simp [hst])).trans ?_))
      simp only [hnone, Bool.false_eq_true, if_false]
    case noLoop => exact fun h => next_of_eq (within_live hm hrun t _) (if_pos (.inr h))
    case loop =>
      intro hclaimed hfenced hst hinput
      refine next_of_eq (within_live hm hrun t _) ((if_neg (by simp [hmode, hclaimed, hfenced])).trans ?_)
      simp [hst, hinput]
    case hold =>
      rintro x hst hover rfl
      exact next_of_eq (motorEvent_mode hm hrun hmode _) (if_pos ⟨hst, hover⟩)
    case noHold => exact fun h => next_of_eq (motorEvent_mode hm hrun hmode _) (if_neg h)
  case stepper =>
    rintro s u t m hrun rfl hm hmode
    refine ⟨?noStep, ?early, ?step, ?standstill, ?chop, ?edge⟩
    case noStep =>
      intro e hnone
      exact next_of_eq (motorEvent_mode hm hrun hmode _) (by simp only [hnone])
    case early =>
      intro e d iv w hstep hst htimer hearly
      refine next_of_eq (motorEvent_mode hm hrun hmode _) ?_
      simp only [hstep]
      simp [hst, htimer, hearly]
    case step =>
      intro e d iv hstep hst hdue hcoil
      have hexec : exec (.stepTimer t m e) s = .next _ := motorEvent_mode hm hrun hmode _
      have hany : ((s.at t).auxOf m).timer.any (fun w => decide ((s.at t).now < ((s.at t).auxOf m).stepAt + w)) = false := by
        cases htimer : ((s.at t).auxOf m).timer with
        | none => rfl
        | some w => exact decide_eq_false (Nat.not_lt.mpr (hdue w htimer))
      simp only [hstep, hst, hcoil, hany, Nat.reduceEqDiff, false_and, and_false, if_false, ne_eq, not_true_eq_false,
        Bool.false_eq_true] at hexec
      refine ⟨_, hexec, ?_⟩
      rw [setAux_self]
      exact ⟨rfl, rfl, rfl, rfl⟩
    case standstill => exact motorEvent_mode hm hrun hmode _
    case chop => exact fun coilB => motorEvent_mode hm hrun hmode _
    case edge =>
      exact fun sw dirHigh hsw hsrc hinput hst halone => stepInputEdge_one hrun hm hmode hsw hsrc hinput hst halone
  case others =>
    rintro s u t m hrun rfl hm
    refine ⟨fun hmode => ⟨motorEvent_other hm hrun hmode _, motorEvent_other hm hrun hmode _, motorEvent_other hm hrun hmode _,
      next_of_eq (within_live hm hrun t _) (if_pos (.inl hmode))⟩, fun hmode => motorEvent_other hm hrun hmode _⟩

/-! ### Switch channels in time -/

theorem switchEvent_awake {s : State} {t : Time} {n : Nat} (hn : n < 32) (hrun : s.power = .running) (f : State → Nat → State) :
    switchEvent t n s f = .next (f (s.at t) (0x20 + n)) := within_awake hn hrun t _

/-- What going over channels each of which only turns its own state leaves: the sag groups and the time. -/
theorem foldl_aux_frame {f : State → Nat → State} (hf : ∀ x b, (f x b).sag = x.sag ∧ (f x b).now = x.now) (l : List Nat) (s : State) :
    (l.foldl f s).sag = s.sag ∧ (l.foldl f s).now = s.now := by
  induction l generalizing s with
  | nil => exact ⟨rfl, rfl⟩
  | cons b l ih => exact ⟨(ih (f s b)).1.trans (hf s b).1, (ih (f s b)).2.trans (hf s b).2⟩

theorem foldl_auxOf_other {f : State → Nat → State} (hf : ∀ x b c, c ≠ b → (f x b).auxOf c = x.auxOf c) {l : List Nat} {c : Nat}
    (hc : c ∉ l) (s : State) : (l.foldl f s).auxOf c = s.auxOf c := by
  induction l generalizing s with
  | nil => rfl
  | cons b l ih =>
    exact (ih (List.not_mem_of_not_mem_cons hc) (f s b)).trans (hf s b c (List.ne_of_not_mem_cons hc))

/-- Going over different channels, each of which only turns its own state by `g`, turns each by `g` once. -/
theorem foldl_auxOf {f : State → Nat → State} {g : Time → Aux → Aux} (hnow : ∀ x b, (f x b).now = x.now)
    (hself : ∀ x b, (f x b).auxOf b = g x.now (x.auxOf b)) (hother : ∀ x b c, c ≠ b → (f x b).auxOf c = x.auxOf c) {l : List Nat}
    (hl : l.Nodup) {c : Nat} (hc : c ∈ l) (s : State) : (l.foldl f s).auxOf c = g s.now (s.auxOf c) := by
  induction l generalizing s with
  | nil => exact absurd hc List.not_mem_nil
  | cons b l ih =>
    obtain ⟨hbl, hl⟩ := List.nodup_cons.mp hl
    rw [List.foldl_cons]
    by_cases hcb : c = b
    · rw [hcb, foldl_auxOf_other hother hbl, hself]
    · rw [ih hl ((List.mem_cons.mp hc).resolve_left hcb), hnow, hother s b c hcb]

theorem sagMembers_nodup (s : State) (k : Nat) : (s.sagMembers k).Nodup := List.Nodup.filter _ (by decide : auxCodes.Nodup)

theorem sagMembers_setSag (s : State) (v k : Nat) : State.sagMembers { s with sag := v } k = s.sagMembers k := rfl

/-- What the sag of its supply counts and remembers of a channel (R293). -/
def Aux.sagged (now : Time) (x : Aux) : Aux :=
  { x with sags := holdAt 0xFFFF (x.sags + 1), pauseAt := if x.st = 2 then some now else none }

/-- The inrush time of a channel goes on when its supply has returned (R293). -/
def Aux.resumed (now : Time) (x : Aux) : Aux := match x.pauseAt with
  | some u => { x with paused := x.paused + (now - u), pauseAt := none }
  | none => x

theorem resumed_pauseAt (now : Time) (x : Aux) : (x.resumed now).pauseAt = none := by
  unfold Aux.resumed
  split
  · rfl
  · assumption

/-- A channel's part in the sag of its group (R293). -/
def State.sagStart (s : State) (c : Nat) : State := s.setAux c ((s.auxOf c).sagged s.now)

/-- A channel's part in the return of its group's supply (R293). -/
def State.sagEnd (s : State) (c : Nat) : State := match (s.auxOf c).pauseAt with
  | some u => s.setAux c { s.auxOf c with paused := (s.auxOf c).paused + (s.now - u), pauseAt := none }
  | none => s

theorem sagEnd_self (s : State) (c : Nat) : (s.sagEnd c).auxOf c = (s.auxOf c).resumed s.now := by
  unfold State.sagEnd Aux.resumed
  split
  · exact setAux_self s c _
  · rfl

theorem sagEnd_other (s : State) (b c : Nat) (h : c ≠ b) : (s.sagEnd b).auxOf c = s.auxOf c := by
  unfold State.sagEnd
  split
  · exact setAux_other s b c _ h
  · rfl

theorem sagEnd_frame (s : State) (c : Nat) : (s.sagEnd c).sag = s.sag ∧ (s.sagEnd c).now = s.now := by
  unfold State.sagEnd
  split
  · exact ⟨rfl, rfl⟩
  · exact ⟨rfl, rfl⟩

theorem sag_of_drive {a b : State} (h : a.drive = b.drive) : a.sag = b.sag := (congrArg (fun x : State => x.sag) h :)

/-- Settles O50: each event by the branch that its hypotheses leave; a sag goes once over the channels of its group. -/
theorem switchEvents : Obligations.SwitchEvents := by
  unfold Obligations.SwitchEvents
  rintro s u t hrun rfl
  have hindex : ∀ {r g : Nat}, r < 8 → g < 4 → (if g < 4 then 4 * r + g else 32) < 32 := by
    intro r g hr hg
    rw [if_pos hg]
    omega
  refine ⟨?comparator, ?inrush, ?pull, ?sag, ?sagIdle, ?back, ?backIdle, ?diag⟩
  case comparator =>
    rintro n acc c x late hn rfl rfl rfl
    rw [exec_switchComparatorAssert, execSwitchComparatorAssert, switchEvent_awake hn hrun]
  case inrush =>
    rintro n c hn rfl
    rw [exec_switchInrushEnd, execSwitchInrushEnd, switchEvent_awake hn hrun]
    simp only [Bool.not_eq_true]
  case pull =>
    rintro n c hn rfl
    rw [exec_switchPullEnd, execSwitchPullEnd, switchEvent_awake hn hrun]
  case sag =>
    intro r g hr hg hquiet hinput
    have hfree : ¬ ((s.at t).sag.testBit (4 * r + g) = true ∨ (s.at t).sagInput (4 * r + g) = 0xFF) := by simp [hquiet, hinput]
    have hexec := (exec_sagGroupActive t r g s).trans ((within_awake (hindex hr hg) hrun t _).trans (congrArg _ (if_neg hfree)))
    refine ⟨_, hexec, ?_, ?_⟩
    · refine (sag_of_drive (emitTo_drive _ _ _ _ _ _)).trans ?_
      exact (foldl_aux_frame (f := State.sagStart) (fun x b => ⟨rfl, rfl⟩) _ _).1
    · intro c hc
      have haux := foldl_auxOf (f := State.sagStart) (g := Aux.sagged) (fun x b => rfl) (fun x b => setAux_self x b _)
        (fun x b c h => setAux_other x b c _ h) (sagMembers_nodup (s.at t) (4 * r + g)) hc
        { s.at t with sag := setBit (s.at t).sag (4 * r + g) true }
      rw [auxOf_of_drive (emitTo_drive _ _ _ _ _ _) c]
      exact ⟨congrArg Aux.sags haux, congrArg Aux.pauseAt haux⟩
  case sagIdle =>
    intro r g hr hg hidle
    exact next_of_eq (within_awake (hindex hr hg) hrun t _) (if_pos hidle)
  case back =>
    intro r g hr hg hsag
    have hexec := (exec_sagGroupInactive t r g s).trans
      ((within_awake (hindex hr hg) hrun t _).trans (congrArg _ (if_neg (not_not_intro hsag))))
    refine ⟨_, hexec, (foldl_aux_frame (f := State.sagEnd) sagEnd_frame _ _).1, fun c hc => ?_⟩
    have haux := foldl_auxOf (f := State.sagEnd) (g := Aux.resumed) (fun x b => (sagEnd_frame x b).2) sagEnd_self sagEnd_other
      (sagMembers_nodup (s.at t) (4 * r + g)) hc { s.at t with sag := setBit (s.at t).sag (4 * r + g) false }
    exact (congrArg Aux.pauseAt haux).trans (resumed_pauseAt _ _)
  case backIdle =>
    intro r g hr hg hidle
    exact next_of_eq (within_awake (hindex hr hg) hrun t _) (if_pos (by rw [hidle]; exact Bool.false_ne_true))
  case diag =>
    intro chan volts hchan
    rw [exec_auxDiagStep, execAuxDiagStep, if_neg (not_not_intro hchan), live_running hrun]

/-! ### Ports, records and time of the fabric -/

/-- A wait has lasted for `d`, where it began (R396, R397). -/
theorem lasted_iff {x : Option Time} {d now : Time} :
    (match x with
      | some w => decide (w + d ≤ now)
      | none => false) = true ↔ ∃ w, x = some w ∧ w + d ≤ now := by
  cases x with
  | none => simp
  | some w => simp

/-- Settles O51: each event by the branch that its hypotheses leave. -/
theorem fabricEvents : Obligations.FabricEvents := by
  unfold Obligations.FabricEvents
  rintro s u t hrun rfl
  refine ⟨?portUp, ?portDown, ?frame, ?retransmit, ?resend, ?resendNone, ?flood, ?received, ?failed, ?notFailed, ?timeDown, ?timeSide,
    ?timeUp, ?holdover, ?noHoldover, ?pps, ?send, ?sendNone, ?mirrorOther, ?mirror, ?late, ?notLate, ?announced, ?ordered, ?notStandby,
    ?lost, ?deposed⟩
  case portUp =>
    rintro port node peerPort epoch v hport rfl
    exact next_of_eq (within_live hport hrun t _) rfl
  case portDown => exact fun port hport => within_live hport hrun t _
  case frame =>
    rintro port bytes n v hport rfl
    refine next_of_eq (within_live hport hrun t _) ((if_congr ?_ rfl rfl).trans (ite_not _ _ _))
    rw [not_and_or]
  case retransmit =>
    rintro port n v hport rfl
    exact next_of_eq (within_live hport hrun t _) (if_congr (by rw [Bool.not_eq_true]) rfl rfl)
  case resend =>
    intro dst seq m hm
    refine next_of_eq (next_live hrun t _) ?_
    simp only [hm]
  case resendNone =>
    intro dst seq hm
    refine next_of_eq (next_live hrun t _) ?_
    simp only [hm]
  case flood => exact next_live hrun t _
  case received => exact fun r => next_live hrun t _
  case failed =>
    intro node announced hnode hother hknown hlost
    refine next_of_eq (within_live hnode hrun t _) (if_neg (not_or.mpr ⟨hother, not_or.mpr ⟨?_, not_not_intro ?_⟩⟩))
    · rw [hknown]
      exact Bool.false_ne_true
    · exact hlost.imp_right lasted_iff.mpr
  case notFailed =>
    intro node announced hnode hidle
    refine next_of_eq (within_live hnode hrun t _) (if_pos ?_)
    refine hidle.imp_right (Or.imp_right fun h => ?_)
    rintro (hann | hlost)
    · exact Bool.false_ne_true (h.1.symm.trans hann)
    · obtain ⟨w, hw, hdue⟩ := lasted_iff.mp hlost
      exact absurd hdue (Nat.not_le.mpr (h.2 w hw))
  case timeDown =>
    intro port t1 t2 t3 t4 hport hdown
    exact next_of_eq (within_live hport hrun t _) (if_pos (by rw [hdown]; exact Bool.false_ne_true))
  case timeSide =>
    rintro port t1 t2 t3 t4 v delay hport hup rfl rfl hside
    exact next_of_eq (within_live hport hrun t _) ((if_neg (not_not_intro hup)).trans (if_pos hside))
  case timeUp =>
    rintro port t1 t2 t3 t4 v delay off hport hup rfl rfl hside rfl hjoined
    refine next_of_eq (within_live hport hrun t _) ((if_neg (not_not_intro hup)).trans ((if_neg (not_not_intro hside)).trans
      ((if_pos hjoined).trans ?_)))
    simp only [decide_eq_true_eq]
  case holdover =>
    intro w hw
    refine next_of_eq (next_live hrun t _) ((if_congr ?_ rfl rfl).trans (ite_not _ _ _))
    rw [hw, not_and_or, decide_eq_true_eq, Bool.not_eq_false]
  case noHoldover =>
    intro hnone
    refine next_of_eq (next_live hrun t _) (if_pos (.inl ?_))
    rw [hnone]
    exact Bool.false_ne_true
  case pps =>
    rintro l v rfl rfl
    exact next_of_eq (next_live hrun t _) rfl
  case send =>
    intro page series seq x hx
    refine next_of_eq (next_live hrun t _) ?_
    simp only [hx]
  case sendNone =>
    intro page series seq hx
    refine next_of_eq (next_live hrun t _) ?_
    simp only [hx]
  case mirrorOther =>
    intro m hidle
    exact next_of_eq (next_live hrun t _) (if_pos (hidle.imp_right (by simp)))
  case mirror =>
    intro m hrole hpart hdigest
    have hnot : ¬ ((s.at t).fab.role ≠ 2 ∨ ¬ (s.at t).sbParts.testBit m.part = true) :=
      not_or.mpr ⟨not_not_intro hrole, not_not_intro hpart⟩
    have hsame : (decide (m.digest ≠ (s.at t).confDigest m.part) && !((s.at t).mirOf m.part).differs) = false := by
      simp [hdigest]
    have hexec := (exec_mirrorRecordReceived t m s).trans ((next_live hrun t _).trans (congrArg _ (if_neg hnot)))
    simp only [hsame, Bool.false_eq_true, if_false] at hexec
    refine ⟨_, hexec, ?_⟩
    have hmir := Tab.get_set_self (s.at t).fab.mirrors {} m.part { (s.at t).mirOf m.part with
      rec_ := some (m.merged ((s.at t).mirOf m.part).rec_), got := true, age := 0
      differs := decide (m.digest ≠ (s.at t).confDigest m.part), at_ := some (s.at t).now }
    exact ⟨congrArg Mir.rec_ hmir, congrArg Mir.got hmir, congrArg Mir.age hmir,
      (congrArg Mir.differs hmir).trans (decide_eq_false (not_not_intro hdigest)), congrArg Mir.at_ hmir, rfl⟩
  case late =>
    intro p hrole hp hnever hhops hlost
    refine next_of_eq (next_live hrun t _) (if_pos ⟨hrole, List.any_eq_true.mpr ⟨p, hp, ?_⟩, hhops, by rw [hlost]; exact Bool.false_ne_true⟩)
    rw [hnever]
  case notLate =>
    intro hidle
    refine next_of_eq (next_live hrun t _) (if_neg fun h => ?_)
    obtain ⟨hrole, -, hhops, hlost⟩ := h
    rcases hidle with h | h | h
    · exact h hrole
    · rw [h] at hhops
      exact Bool.false_ne_true hhops
    · exact hlost h
  case announced =>
    intro states hrole hnone
    refine next_of_eq (next_live hrun t _) ((if_neg (not_or.mpr ⟨not_not_intro hrole, not_not_intro (.inl rfl)⟩)).trans ?_)
    simp only [hnone, if_true]
  case ordered =>
    intro n series seq states hrole hdesc
    refine next_of_eq (next_live hrun t _) ((if_neg (not_or.mpr ⟨not_not_intro hrole, not_not_intro (.inl rfl)⟩)).trans ?_)
    simp only [hdesc, if_true]
  case notStandby => exact fun announced states hrole => next_of_eq (next_live hrun t _) (if_pos (.inl hrole))
  case lost =>
    intro w states hrole hnone hw hdue
    rw [exec_standbyTakeover, execStandbyTakeover, live_running hrun]
    simp only [hrole, hnone, hw, decide_eq_true hdue, ne_eq, not_true_eq_false, Bool.false_eq_true, false_or, or_self, if_false]
  case deposed => exact fun p hp => within_live hp hrun t _

/-! ### The CAN ports in time -/

/-- An attempt that lost arbitration leaves a frame that still may be sent in its buffer (R417). -/
theorem canTxAttemptEnd_lost {s x : State} {t : Time} {c k sof : Nat} {f : CanTx} (hc : c < 4) (hrun : s.power = .running)
    (hsends : (s.at t).canSends c = true) (hk : (s.at t).canChoice c sof = some k) (hf : Tab.get ((s.at t).can c).tx none k = some f)
    (hlive : f.dead = false) (hk2 : k ≠ 2)
    (hx : x = ((s.at t).setCan c { (s.at t).can c with
      tx := Tab.set ((s.at t).can c).tx none k (some { f with tries := f.tries + 1, cause := 6 })
      tec := ((s.at t).can c).tec, errors := ((s.at t).can c).errors }).canJudge c (some k))
    (hagain : x.canN c 19 = 0) : exec (.canTxAttemptEnd t c sof 6) s = .next x := by
  rw [exec_canTxAttemptEnd, execCanTxAttemptEnd, within_live hc hrun t _]
  simp only [hsends, if_true, hk, hf]
  subst hx
  refine congrArg _ ((if_neg (by decide)).trans (ite_eq_left_iff.mpr fun _ => ?_))
  exact (if_neg (by rw [hlive]; exact Bool.false_ne_true)).trans ((if_neg fun h => hk2 h.1).trans (if_neg fun h => h.1 hagain))

/-- Settles O52: each event by the branch that its hypotheses leave. -/
theorem canEvents : Obligations.CanEvents := by
  unfold Obligations.CanEvents
  rintro s u t c hrun rfl hc
  refine ⟨?frame, ?frameIdle, ?flush, ?flushNone, ?silent, ?sent, ?lost, ?on, ?onIdle, ?third, ?holdoff, ?noHoldoff, ?dwell, ?noSearch,
    ?errorOff, ?error⟩
  case frame => exact fun frame hmode herr => next_of_eq (within_live hc hrun t _) (if_neg (not_or.mpr ⟨hmode, herr⟩))
  case frameIdle => exact fun frame hidle => next_of_eq (within_live hc hrun t _) (if_pos hidle)
  case flush =>
    intro b rest hrx
    refine next_of_eq (within_live hc hrun t _) ?_
    simp only [hrx]
  case flushNone =>
    intro hrx
    refine next_of_eq (within_live hc hrun t _) ?_
    simp only [hrx]
  case silent =>
    intro sof cause hsends
    refine next_of_eq (within_live hc hrun t _) ?_
    simp only [hsends, Bool.false_eq_true, if_false]
  case sent =>
    intro sof k f hsends hk hf
    refine next_of_eq (within_live hc hrun t _) ?_
    simp only [hsends, hk, hf, if_true]
  case lost => exact fun sof k f x hsends hk hf hlive hk2 _ hx hagain => canTxAttemptEnd_lost hc hrun hsends hk hf hlive hk2 hx hagain
  case on =>
    intro herr hfew
    refine next_of_eq (within_live hc hrun t _) ((if_neg (not_not_intro herr)).trans ?_)
    simp only [decide_eq_false (Nat.not_le.mpr hfew), Bool.false_eq_true, if_false]
  case onIdle => exact fun herr => next_of_eq (within_live hc hrun t _) (if_pos herr)
  case third =>
    intro herr hmany
    refine next_of_eq (within_live hc hrun t _) ((if_neg (not_not_intro herr)).trans ?_)
    simp only [decide_eq_true hmany, if_true]
  case holdoff =>
    intro w hw
    refine next_of_eq (within_live hc hrun t _) ?_
    simp only [hw]
  case noHoldoff =>
    intro hnone
    refine next_of_eq (within_live hc hrun t _) ?_
    simp only [hnone]
  case dwell =>
    intro q hq
    refine next_of_eq (within_live hc hrun t _) ?_
    simp only [hq]
  case noSearch =>
    intro hnone
    refine next_of_eq (within_live hc hrun t _) ?_
    simp only [hnone]
  case errorOff => exact fun add hmode => next_of_eq (within_live hc hrun t _) (if_pos hmode)
  case error => exact fun add hmode => next_of_eq (within_live hc hrun t _) (if_neg hmode)

/-! ### Storage in time -/

theorem storing_running {s : State} (hrun : s.power = .running) : s.storing = true := by
  unfold State.storing
  rw [hrun]
  rfl

theorem at_stor (s : State) (t : Time) : (s.at t).stor = s.stor := by
  unfold State.at
  split
  · rfl
  · rfl

/-- Settles O53: each event by the branch that its hypotheses leave. -/
theorem storageEvents : Obligations.StorageEvents := by
  unfold Obligations.StorageEvents
  rintro s u t hrun rfl
  have hstoring : ¬ ¬ s.storing = true := not_not_intro (storing_running hrun)
  refine ⟨?commit, ?commitNone, ?audit, ?checkpoint, ?scrub, ?noWindow, ?window, ?flush, ?opNone, ?opDone, ?opFailed⟩
  case commit =>
    intro upTo spare hkeeps
    rw [at_stor] at hkeeps ⊢
    exact congrArg Host.Outcome.next (if_neg (not_or.mpr ⟨hstoring, not_not_intro hkeeps⟩))
  case commitNone =>
    intro upTo spare hkeeps
    rw [at_stor] at hkeeps
    exact congrArg Host.Outcome.next (if_pos (.inr (Bool.eq_false_iff.mp hkeeps)))
  case audit => exact congrArg Host.Outcome.next (if_neg hstoring)
  case checkpoint => exact next_live hrun t _
  case scrub =>
    intro tAvg most spares moved
    refine next_of_eq (next_live hrun t _) ((if_congr ?_ rfl rfl).trans (ite_not _ _ _))
    rw [not_and_or, Bool.not_eq_false]
  case noWindow =>
    rintro p hp (hnone | ⟨b, hb, hnone⟩)
    · refine next_of_eq (within_live hp hrun t _) ?_
      simp only [hnone]
    · refine next_of_eq (within_live hp hrun t _) ?_
      simp only [hb, hnone]
  case window =>
    intro p b cause code t0 c v fresh hp hb htrig hdue hpages hc hv hfresh
    rw [exec_morainePostWindowEnd, execMorainePostWindowEnd, within_live hp hrun t _]
    simp only [hb, htrig]
    rw [if_neg (not_or.mpr ⟨Nat.not_lt.mpr hdue, hpages⟩), hfresh, hv, hc]
  case flush =>
    intro record
    refine next_of_eq (next_live hrun t _) ((if_congr ?_ rfl rfl).trans (ite_not _ _ _))
    rw [not_and_or, not_and_or, Nat.not_le, Bool.not_eq_false]
  case opNone =>
    intro page series seq ok hnone
    refine congrArg Host.Outcome.next ((if_neg hstoring).trans ?_)
    simp only [hnone]
  case opDone =>
    intro page series seq o ho hfree
    refine congrArg Host.Outcome.next ((if_neg hstoring).trans ?_)
    simp only [ho, hfree, Bool.false_eq_true, if_false, if_true]
  case opFailed =>
    intro page series seq o ho hfree
    refine congrArg Host.Outcome.next ((if_neg hstoring).trans ?_)
    simp only [ho, hfree, Bool.false_eq_true, if_false]

/-! ### Power failure, reset and boot -/

/-- A chip in its failure state, its failure recorded at time 0, with the restart after a failure enabled. -/
def failedChip : State :=
  { State.reset with
    power := .failed
    regs := [(0x0410 * 1024, 1)]
    sys := { State.reset.sys with failRecordAt := some 0 } }

/-- The power state of a next state. -/
def powerOf : Res → Option Power
  | .next t => some t.power
  | _ => none

/-- Refutes O54: device time counts modulo 2^64, which the statement's time of the restart does not: an event given the time 2^64 on a
chip at time 0 finds no second gone by since the failure, and restarts nothing. -/
theorem not_powerEvents : ¬ Obligations.PowerEvents := by
  unfold Obligations.PowerEvents
  intro h
  obtain ⟨-, -, -, -, -, -, -, -, -, -, -, -, -, -, -, hrestart⟩ := h failedChip (2 ^ 64)
  obtain ⟨x, hnext, hwarm, -⟩ := hrestart 0 rfl (by decide) rfl (by decide) rfl rfl rfl
  have hpower : powerOf (exec (.failRestart (2 ^ 64)) failedChip) = some .warm := (congrArg powerOf hnext).trans (congrArg some hwarm)
  exact absurd hpower (by decide)

end Sys2Proof.Machine

namespace Sys2Proof.Machine
open Sys2Proof


/-! ### Freeze, its read-out and Thaw -/

theorem freezeEntered_drive (s : State) : s.freezeEntered.drive = s.drive := by
  unfold State.freezeEntered
  exact (foldl_drive _ (fun s n => deliver_drive s n 6 srcChip 0x0B02 _) _ _).trans (logEvent_drive s 6 srcChip 0x0B02 _)

theorem frz_certified_of_drive {a b : State} (h : a.drive = b.drive) : a.frz = b.frz ∧ a.sec.certified = b.sec.certified :=
  ⟨(congrArg (fun x : State => x.frz) h :), (congrArg (fun x : State => x.sec.certified) h :)⟩

/-- A partition's brake drives no output (R451). -/
def State.unbrake (s : State) (p : Nat) : State := s.setBrk p { s.brkOf p with high := false, string := false }

theorem foldl_unbrake_frame (l : List Nat) (s : State) :
    (l.foldl State.unbrake s).frz = s.frz ∧ (l.foldl State.unbrake s).sec = s.sec := by
  induction l generalizing s with
  | nil => exact ⟨rfl, rfl⟩
  | cons p l ih => exact ih (s.unbrake p)

/-- Going over the partitions leaves each brake that is low low, and each that was passed. -/
theorem foldl_unbrake_low {l : List Nat} {s : State} {p : Nat}
    (hp : p ∈ l ∨ ((s.brkOf p).high = false ∧ (s.brkOf p).string = false)) :
    ((l.foldl State.unbrake s).brkOf p).high = false ∧ ((l.foldl State.unbrake s).brkOf p).string = false := by
  induction l generalizing s with
  | nil => exact hp.resolve_left List.not_mem_nil
  | cons q l ih =>
    refine ih ?_
    by_cases hpq : p = q
    · subst hpq
      right
      rw [State.unbrake, setBrk_self]
      exact ⟨rfl, rfl⟩
    · rw [State.unbrake, setBrk_other _ _ _ _ hpq]
      exact hp.imp_left fun h => (List.mem_cons.mp h).resolve_left hpq

theorem at_sec (s : State) (t : Time) : (s.at t).sec = s.sec := by
  unfold State.at
  split
  · rfl
  · rfl

theorem at_frozen {s : State} (h : s.power = .frozen) (t : Time) : s.at t = s := by
  unfold State.at
  exact if_pos (.inl h)

/-- The machine as the freeze leaves it where every lane has confirmed: the event sent, the brakes low (R451). -/
def State.freezeDone (s : State) : State :=
  (List.range 8).foldl State.unbrake (State.freezeEntered { s with frz := { s.frz with unconfirmed := 0 } })

theorem freezeDone_frz_certified (s : State) :
    s.freezeDone.frz = { s.frz with unconfirmed := 0 } ∧ s.freezeDone.sec.certified = s.sec.certified := by
  obtain ⟨hfrz, hsec⟩ := foldl_unbrake_frame (List.range 8) (State.freezeEntered { s with frz := { s.frz with unconfirmed := 0 } })
  obtain ⟨hfrz', hcert⟩ := frz_certified_of_drive (freezeEntered_drive { s with frz := { s.frz with unconfirmed := 0 } })
  exact ⟨hfrz.trans hfrz', (congrArg Sec.certified hsec).trans hcert⟩

/-- The machine in frozen state: its nonce drawn, the image of its registers kept (R453, R454). -/
def State.frozenNow (s : State) : State :=
  { s.drawn with
    power := .frozen
    sec := { s.sec with freezeNonce := if s.sec.certified then fitTo 48 (Config.random s.draws) else zeros 48 }
    frz := { s.frz with
      state := 2, redacted := s.sec.certified && s.tenants.any fun e => e.2.active && !e.2.consented, regs := s.bar0Image } }

theorem frozenNow_state (s : State) : s.frozenNow.power = .frozen ∧ s.frozenNow.frz.state = 2 := ⟨rfl, rfl⟩

theorem frozenNow_unconfirmed (s : State) : s.frozenNow.frz.unconfirmed = s.frz.unconfirmed := rfl

theorem frozenNow_nonce {s : State} (h : s.sec.certified = false) : s.frozenNow.sec.freezeNonce = zeros 48 :=
  if_neg (by rw [h]; exact Bool.false_ne_true)

theorem frozenNow_brkOf (s : State) (p : Nat) : s.frozenNow.brkOf p = s.brkOf p := rfl

/-- The end of the second step with every lane confirmed (R451 to R454). -/
theorem freezeStep2End_confirmed {s : State} (t : Time) (hentering : s.power = .entering) (hnone : (s.at t).unconfirmedLanes = []) :
    exec (.freezeStep2End t) s = .next (s.at t).freezeDone.frozenNow := by
  rw [exec_freezeStep2End, execFreezeStep2End, if_neg (not_not_intro hentering)]
  simp only [hnone, ne_eq, not_true_eq_false, false_and, if_false, List.foldl_nil, List.length_nil]
  rfl

/-- Settles O55: each event by the branch that its hypotheses leave. -/
theorem freezeEvents : Obligations.FreezeEvents := by
  unfold Obligations.FreezeEvents
  intro s t
  refine ⟨?pin, ?pinIdle, ?notEntering, ?waits, ?ends, ?readout, ?noReadout, ?tap, ?thaw, ?noThaw⟩
  case pin => exact fun hpin hpower => congrArg Host.Outcome.next ((if_neg (not_not_intro hpin)).trans (if_pos hpower))
  case pinIdle =>
    rintro (hpin | ⟨hrun, hfailed, hentering⟩)
    · exact congrArg Host.Outcome.next (if_pos (by rw [hpin]; exact Bool.false_ne_true))
    · refine congrArg Host.Outcome.next (ite_eq_left_iff.mpr fun _ => ?_)
      exact (if_neg (not_or.mpr ⟨hrun, hfailed⟩)).trans (if_neg fun h => hentering h.1)
  case notEntering => exact fun h => congrArg Host.Outcome.next (if_pos h)
  case waits =>
    exact fun hentering hleft hearly => congrArg Host.Outcome.next ((if_neg (not_not_intro hentering)).trans (if_pos ⟨hleft, hearly⟩))
  case ends =>
    intro hentering hnone hopen
    obtain ⟨hfrz, hcert⟩ := freezeDone_frz_certified (s.at t)
    refine ⟨_, freezeStep2End_confirmed t hentering hnone, (frozenNow_state _).1, (frozenNow_state _).2, ?_, ?_, fun p hp => ?_⟩
    · rw [frozenNow_unconfirmed, hfrz]
    · exact frozenNow_nonce (hcert.trans ((congrArg Sec.certified (at_sec s t)).trans hopen))
    · rw [frozenNow_brkOf]
      exact foldl_unbrake_low (.inl (List.mem_range.mpr hp))
  case readout =>
    intro off len hfrozen
    rw [exec_freezeReadout, execFreezeReadout, at_frozen hfrozen]
    simp only [hfrozen, true_or, if_true]
  case noReadout =>
    intro off len hpower htable
    have hidle : ¬ ((s.at t).power = .frozen ∨ msixTable off = true) :=
      not_or.mpr ⟨by rw [at_power]; exact hpower, by rw [htable]; exact Bool.false_ne_true⟩
    rw [exec_freezeReadout, execFreezeReadout]
    simp only [if_neg hidle]
  case tap =>
    intro sel addr hfrozen
    rw [exec_tapFrzData, execTapFrzData, at_frozen hfrozen]
    simp only [hfrozen, if_true]
  case thaw => exact fun hfrozen => congrArg Host.Outcome.next (if_pos ⟨hfrozen, rfl, rfl⟩)
  case noThaw => exact fun key pinHigh h => congrArg Host.Outcome.next (if_neg h)

/-! ### Voltage, clocks and registers -/

theorem avsRuns_running {s : State} (hrun : s.power = .running) : s.avsRuns = true := by
  unfold State.avsRuns
  rw [hrun]
  rfl

theorem at_writes (s : State) (t : Time) (off : Nat) : (s.at t).writes off = s.writes off := by
  unfold State.writes
  rw [at_power, at_sec]

theorem regWrite_served {s : State} {off : Nat} (h : s.writes off = true) (t : Time) (f : State → State) :
    s.regWrite t off f = .next (f (s.at t)) := congrArg Host.Outcome.next (if_pos h)

/-- A voltage that is written at once goes to its goal and forgets the failures counted (R432). -/
theorem avsVoltageWrite_good {s : State} {t : Time} (hrun : s.power = .running) (hfault : (s.at t).avs.fault = false) :
    exec (.avsVoltageWrite t 0) s = .next (if (s.at t).nextVoltage / 10 = (s.at t).avs.vCmd / 10
      then { s.at t with avs := { (s.at t).avs with probe := false, vCmd := (s.at t).nextVoltage } }
      else { s.at t with avs := { (s.at t).avs with probe := false, vCmd := (s.at t).nextVoltage, fails := 0 } }) := by
  rw [exec_avsVoltageWrite, execAvsVoltageWrite, if_neg (not_not_intro (avsRuns_running hrun))]
  simp only [hfault, Bool.false_eq_true, if_false, ne_eq, not_true_eq_false, and_false, if_true]
  rfl

/-- A voltage write that fails twice or more is counted as failed (R432). -/
theorem avsVoltageWrite_failed {s : State} {t : Time} {n : Nat} (hrun : s.power = .running) (hfault : (s.at t).avs.fault = false)
    (hprobe : (s.at t).avs.probe = false) (hmoves : (s.at t).nextVoltage / 10 ≠ (s.at t).avs.vCmd / 10) (hn : 2 ≤ n) :
    exec (.avsVoltageWrite t n) s = .next ((s.at t).avsFailed n) := by
  have hsame : { s.at t with avs := { (s.at t).avs with probe := false } } = s.at t := by rw [← hprobe]
  have h0 : n ≠ 0 := by omega
  have h1 : n ≠ 1 := by omega
  have hidle : ¬ ((s.at t).avs.probe = true ∧ n ≠ 0) := fun h => Bool.false_ne_true (hprobe.symm.trans h.1)
  have hgood : ¬ (s.at t).avs.fault = true := by rw [hfault]; exact Bool.false_ne_true
  rw [exec_avsVoltageWrite, execAvsVoltageWrite, if_neg (not_not_intro (avsRuns_running hrun))]
  exact congrArg Host.Outcome.next ((if_neg hgood).trans ((if_neg hidle).trans ((if_neg hmoves).trans ((if_neg h0).trans
    ((if_neg fun h => h1 h.1).trans (congrArg (fun x : State => x.avsFailed n) hsame))))))

/-- Settles O56: each event by the branch that its hypotheses leave. -/
theorem clockEvents : Obligations.ClockEvents := by
  unfold Obligations.ClockEvents
  rintro s u t hrun rfl
  have hruns : ¬ ¬ s.avsRuns = true := not_not_intro (avsRuns_running hrun)
  refine ⟨?goal, ?good, ?fault, ?failed, ?divider, ?relock, ?config, ?stuck⟩
  case goal => exact congrArg Host.Outcome.next (if_neg hruns)
  case good => exact avsVoltageWrite_good hrun
  case fault => exact fun n hfault => congrArg Host.Outcome.next ((if_neg hruns).trans (if_pos hfault))
  case failed => exact fun n => avsVoltageWrite_failed hrun
  case divider =>
    intro k v hk hserved
    rw [exec_mclkDivWrite, execMclkDivWrite, within_next _ _ hk, if_pos hserved]
  case relock => exact fun k hk => within_awake hk hrun t _
  case config =>
    intro v hserved hlock
    have hblock : blockOf 0xD004 = 0xD000 := by decide
    rw [exec_sdCfgWrite, execSdCfgWrite, regWrite_served hserved, State.unlocked, hblock, hlock, if_neg Bool.false_ne_true]
  case stuck => exact fun k hk => within_awake hk hrun t _

/-- A word outside the MSI-X table is a word of BAR0 (R477). -/
theorem msixTable_low {off : Nat} (h : off < 65536) : msixTable off = false := by
  unfold msixTable
  rw [decide_eq_false (by omega : ¬ 0x3FF0000 ≤ off)]
  rfl

theorem lockBlock_open {s : State} {base v : Nat} (hlock : s.blockLocked base = false) (hv : v.testBit 0 = true) :
    s.lockBlock base v = if base = 0x1000 then State.auditAct { s with sys := { s.sys with tripLock := true } } 10 [] []
      else { s with sys := { s.sys with locks := base :: s.sys.locks } } := by
  unfold State.lockBlock
  rw [if_neg (by rw [hlock]; exact Bool.false_ne_true), if_neg (not_not_intro hv)]

theorem tripLock_of_drive {a b : State} (h : a.drive = b.drive) : a.sys.tripLock = b.sys.tripLock :=
  (congrArg (fun x : State => x.sys.tripLock) h :)

theorem writeBytes_word {s : State} {off : Nat} {bs : List Byte} (halign : off % 4 = 0) (hlen : bs.length = 4) (h : s.writes off = true) :
    s.writeBytes off bs = s.writeWord off (leNat bs 0 4) := (if_pos ⟨halign, hlen⟩).trans (if_pos h)

/-- Settles O57: each write by the branch that its hypotheses leave. -/
theorem registerWrites : Obligations.RegisterWrites := by
  unfold Obligations.RegisterWrites
  rintro s u t v rfl
  refine ⟨rfl, rfl, ?hold, ?trip, ?lock, ?errors, ?tap, rfl, rfl, fun ok svn raises => rfl, ?time, ?unserved, ?word⟩
  case hold =>
    intro hserved hv
    rw [exec_regHoldClear, execRegHoldClear, regWrite_served hserved]
    exact congrArg Host.Outcome.next (if_pos hv)
  case trip =>
    intro hserved hlock hv
    rw [exec_tripLock, execTripLock, regWrite_served hserved, lockBlock_open hlock hv, if_pos rfl]
    refine ⟨_, rfl, ?_⟩
    exact tripLock_of_drive (audit_drive _ _ _ _ _ _)
  case lock =>
    intro off hword hblock hserved hlock hv
    rw [exec_blockLock, execBlockLock, if_pos hword, regWrite_served hserved, lockBlock_open hlock hv, if_neg hblock]
  case errors =>
    intro hserved hv
    rw [exec_pcieErrClear, execPcieErrClear, regWrite_served hserved]
    exact congrArg Host.Outcome.next (if_pos hv)
  case tap =>
    intro hserved hopen hlock
    rw [exec_dbgTapFull, execDbgTapFull, regWrite_served hserved]
    refine congrArg Host.Outcome.next (if_neg fun h => ?_)
    rw [hopen, hlock] at h
    exact h.2.elim Bool.false_ne_true Bool.false_ne_true
  case time => exact congrArg Host.Outcome.next (ite_not _ _ _)
  case unserved =>
    intro off bs hoff hserved htable
    rw [exec_registerWrite, execRegisterWrite, if_neg (by rw [htable]; exact Bool.false_ne_true), within_next _ _ hoff,
      if_neg (by rw [hserved]; exact Bool.false_ne_true)]
  case word =>
    intro off bs hoff halign hlen hserved hserved'
    rw [exec_registerWrite, execRegisterWrite, if_neg (by rw [msixTable_low hoff]; exact Bool.false_ne_true), within_next _ _ hoff,
      if_pos hserved, writeBytes_word halign hlen hserved']

end Sys2Proof.Machine
